-- ==== Sys2Proof/Word.lean ====
section
/-! DEFINITION. The word types of the register space (R7): 32-bit little-endian registers, bytes, and the 64-bit device time. -/

namespace Sys2Proof

/-- A register value: an aligned 32-bit register (R7). -/
abbrev Word := BitVec 32

/-- A byte of the register space, the Bog, the flash or a record. -/
abbrev Byte := BitVec 8

/-- A register word from a number, modulo 2^32. -/
abbrev Word.ofNat (n : Nat) : Word := BitVec.ofNat 32 n

end Sys2Proof
end

