-- ==== Sys2Proof/CmdArgs.lean ====
section
/-! DEFINITION. The operand types of the commands (Syntax.lean): names of directions, synthesisers and converters, and the
records that say what a happening found outside the digital block: the flash's content, a tick's measurements, a lock's
duration (log entry 1). -/

namespace Sys2Proof

/-- A direction (R15): downlink or uplink. -/
inductive Dir where
  | dl | ul
  deriving DecidableEq, Repr

/-- Bit position of a direction in SCOPE and in every per-direction field. -/
def Dir.num : Dir → Nat
  | .dl => 0
  | .ul => 1

/-- DIR of LAST_TRANSITION (R55). -/
def Dir.bit (d : Dir) : Nat := d.num + 1

def Dir.other : Dir → Dir
  | .dl => .ul
  | .ul => .dl

/-- The three synthesisers (R105–R107), in the order of SYN.STATUS. -/
inductive Syn where
  | c | d | u
  deriving DecidableEq, Repr

/-- The two housekeeping converters (R312). -/
inductive HkConv where
  | a | b
  deriving DecidableEq, Repr

/-- The two timing pins (R264). -/
inductive TPin where
  | tdd | pps
  deriving DecidableEq, Repr

/-- Which host interface reads (R388: each keeps its own shadows). -/
inductive Iface where
  | twoWire | pcie
  deriving DecidableEq, Repr

/-- Who writes SERVICE_EN (R46, R100). -/
inductive Origin where
  | host | image
  deriving DecidableEq, Repr

/-- The three slot registers and the branch register of R152. -/
inductive SlotReg where
  | cfg | nco | trim | branch
  deriving DecidableEq, Repr

/-- The governor registers of R198, in the order of WRITE_STATUS.WHICH. -/
inductive GovReg where
  | target | ctrl | profileVA | profileJ | l2Limit | l3Cfg | rxChain | muteCfg | fastCfg
  deriving DecidableEq, Repr

/-- How a lock attempt went: locked after so many µs, or not. -/
abbrev LockUs := Option Nat

/-- What the flash answers (R79, R81): what its two parameter tables declare, what its status register reads, and the bytes of its
two image slots. -/
structure Flash where
  /-- The basic flash parameter table is there and well formed. -/
  basicOk : Bool := true
  /-- Revision of JESD216: 0 the first, 1 to 6 its revisions A to F. -/
  revision : Nat := 2
  densityLog2 : Nat := 24
  mode144 : Bool := true
  mode114 : Bool := true
  clk50 : Bool := true
  /-- A quad-enable bit is declared, and reads set in the register that the table names. -/
  qeDeclared : Bool := false
  qeSet : Bool := true
  /-- The 4-byte address instruction table is there. -/
  table4 : Bool := true
  /-- The basic table declares an enter-4-byte-address method, which needs a write enable or not. -/
  enter4 : Option Bool := none
  slotA : List Byte := []
  slotB : List Byte := []
  deriving DecidableEq, Repr

/-- What a start from OFF finds (R57). -/
structure Boot where
  flash : Option Flash := none
  /-- TWA2–TWA0 as sampled (R383). -/
  straps : Fin 8 := 0
  /-- Levels read on the released front-end pins, bit j as R227 numbers them (R442). -/
  released : BitVec 26 := 0
  holdupOk : Bool := true
  lockC : LockUs := some 240
  lockD : LockUs := some 240
  lockU : LockUs := some 240
  /-- REFCLK present, and at the selected frequency. -/
  refPresent : Bool := true
  refFreqOk : Bool := true
  /-- Foreground calibration failed: receive lanes in bits 0–3, transmit lanes in bits 4–7. -/
  calFail : BitVec 8 := 0
  /-- Bog channels that did not train. -/
  bogUntrained : BitVec 8 := 0
  /-- Lock-page codewords (0–127) that read back uncorrectable. -/
  lockUe : List Nat := []
  /-- The SHA-256 engine passed its self-test. -/
  shaOk : Bool := true
  /-- µs from VIN valid to STANDBY, and how many of them step 7 took, in which device time already runs. -/
  tStandby : Nat := 36600
  step7Us : Nat := 10000
  deriving DecidableEq, Repr

/-- What a wake finds (R65). -/
structure WakeInfo where
  released : BitVec 26 := 0
  lockC : LockUs := some 25
  lockD : LockUs := some 25
  lockU : LockUs := some 25
  calFail : BitVec 8 := 0
  /-- PERST_N was asserted during SLEEP (R408). -/
  perstSeen : Bool := false
  tStandby : Nat := 1100
  deriving DecidableEq, Repr

/-- Outcome of a band calibration (R120): the band, capacitor code and trim found. -/
structure BandCal where
  band : Nat
  cap : Nat
  trim : Nat
  deriving DecidableEq, Repr

/-- A branch's power in one tick (R149): the means of |x|² over its eight blocks of 12.5 µs, at the multiplier input and at the gate
output, as linear powers in units of 2^-128 of 0 dBFS; none reads as silence. -/
structure BranchIn where
  inBlocks : List Nat := []
  outBlocks : List Nat := []
  deriving DecidableEq, Repr

/-- What the meters of slot s′ (R174) gave in the tick just ended. -/
structure SlotIn where
  slot : Fin 34
  br0 : BranchIn := {}
  br1 : BranchIn := {}
  /-- Multiplier-saturated samples (R154 sources 0–16). -/
  sat : Nat := 0
  /-- Subtraction or probe-addition saturations (R175 source 21). -/
  echoSat : Nat := 0
  deriving DecidableEq, Repr

/-- What a lane's converter gave in the tick just ended. -/
structure LaneIn where
  /-- Receive: largest magnitude, samples with OVR, and samples that the range clipped (R114). -/
  rxPeak : Nat := 0
  rxOvr : Nat := 0
  rxClip : Nat := 0
  /-- Transmit: samples with the clip flag (R127); the sum of squares of the 14-bit output codes and their number, in transmit windows
only for a TDD lane (R220, R221). -/
  txClip : Nat := 0
  txSquares : Nat := 0
  txCount : Nat := 0
  deriving DecidableEq, Repr

/-- Everything the tick reads from outside the digital block (R206). -/
structure TickIn where
  slots : List SlotIn := []
  lane0 : LaneIn := {}
  lane1 : LaneIn := {}
  lane2 : LaneIn := {}
  lane3 : LaneIn := {}
  /-- Least device margin of the tick just ended (R218). -/
  mTick : Nat := 64
  /-- Finish of step 6 in 10 ns units (R225). -/
  finish : Nat := 7350
  /-- FIFO occupancies RX0–RX3, TX0–TX3 at the boundary. -/
  occ : List Nat := [0, 0, 0, 0, 64, 64, 64, 64]
  /-- Lane-summation saturations, downlink branches 0 and 1, uplink branches 0 and 1. -/
  sumClip : List Nat := []
  /-- Region powers Q_j in mW (R339). -/
  power : List Nat := []
  /-- VIN in mV, VIN power in mW, VD_CORE in mV. -/
  pIn : Nat := 0
  vcore : Nat := 575
  /-- Slots s′ for which no governor value arrived at the boundary (R147). -/
  noGain : List (Fin 34) := []
  deriving DecidableEq, Repr

/-- One path's part of a correlation block (R162): the residual estimate Ĥ as (re, im) pairs in units of 2^-64, the mean |e_r|² and the mean
probe power over the included samples, both as linear powers in units of 2^-128. -/
structure PathBlock where
  path : Fin 4
  h : List (Int × Int)
  pe : Nat
  pp : Nat
  deriving DecidableEq, Repr

/-- A correlation block (R163): its number K of included samples, and its paths. -/
structure BlockIn where
  k : Nat
  paths : List PathBlock
  deriving DecidableEq, Repr

/-- One window of the fast criterion (R170). -/
structure FastIn where
  included : Nat
  paths : List PathBlock
  deriving DecidableEq, Repr

/-- A sync hit (R253). P and RHO in 0.01 dB. -/
structure HitIn where
  lane : Fin 4
  slot : Fin 34
  ref : Fin 16
  t : Nat
  p : Int
  rho : Int
  /-- P of a hit of the direction's other lane within TRACK_WIN of this one; none where that lane has none (R260). -/
  other : Option Int := none
  /-- The correlation window held a flagged sample, a realignment or an LNA bypass. -/
  excluded : Bool := false
  deriving DecidableEq, Repr

/-- A burst's end (R263): first sample, length in slot samples, blocks above threshold, largest block mean. -/
structure BurstIn where
  slot : Fin 34
  branch : Fin 2
  t : Nat
  len : Nat
  blocks : Nat
  peak : Int
  flagSeen : Bool := false
  deriving DecidableEq, Repr

/-- How an attention attempt ended on the bus (R392–R394). -/
inductive AttnOutcome where
  | acked | nacked | arbLost | arbLostToSelf | sclTimeout
  deriving DecidableEq, Repr

/-- One detection (R352, R363, R364): by which check it came. -/
inductive EventKind where
  /-- A real event. -/
  | real
  /-- A check of an armed checker whose outcome is what the inverted bits alone produce. -/
  | check
  /-- A check of an armed checker that also met a real fault (R364). -/
  | checkDiffers
  deriving DecidableEq, Repr

/-- Whose quiet period ended (R359): a fenced unit's, or a severe source's that names no unit. -/
inductive QuietOf where
  | unit (u : Fin 256)
  | source (s : Fin 32)
  deriving DecidableEq, Repr

/-- One detection of FAULT_DETECTED: its event ID, the unit it names and its kind. -/
structure Detect where
  event : Nat
  unit : Option Nat := none
  kind : EventKind := .real
  deriving DecidableEq, Repr

/-- What a Bog scrub pass found (R284): correctable codewords (in 32-byte units), each with the second of the pass in which it was read,
uncorrectable ones, and the pass's length in seconds. -/
structure ScrubIn where
  corr : List (Nat × Nat) := []
  ue : List Nat := []
  seconds : Nat := 0
  deriving DecidableEq, Repr

/-- What a lock-page read found (R244): codewords correctable, codewords uncorrectable, mirror words that differ. -/
structure LockScrubIn where
  corr : List Nat := []
  ue : List Nat := []
  mirror : List Nat := []
  deriving DecidableEq, Repr

/-- A PA-overdrive comparator's crossing (R319): the lane and the level of its pin in µV. -/
structure OvdIn where
  lane : Fin 4
  v : Nat
  deriving DecidableEq, Repr

/-- One HK conversion (R313, R321): the voltage at the converter's input and its reference, both in µV. Which converter, channel and entry it
is, the sequences say. -/
structure ConvIn where
  v : Int
  vref : Nat := 1200000
  /-- The test DAC's CODE or TARGET changed within 5 µs (R324). -/
  dacMoving : Bool := false
  /-- The conversion started within 10 µs of the end of the converter's last over-range conversion (R323). -/
  soonAfterOvr : Bool := false
  deriving DecidableEq, Repr

/-- What the audit found (R377): slots whose CRC failed, slots with a correctable codeword, and slots with codewords that cannot be
corrected, as a mask of the eight (R378). -/
structure AuditIn where
  failed : List Nat := []
  corr : List Nat := []
  ue : List (Nat × Nat) := []
  deriving DecidableEq, Repr

/-- A request on the endpoint's configuration space (R408, R400). -/
inductive ConfigOp where
  | read (offset : Nat)
  | setBar0 (base : Nat)
  | setBar2 (base : Nat)
  | command (memEnable busMaster : Bool)
  | power (d3hot : Bool)
  | msixControl (enable mask : Bool)
  | flr
  deriving DecidableEq, Repr

/-- How a PCIe read or write of BAR 0 came (R402). -/
structure BogAccess where
  addr : Nat
  len : Nat := 0
  data : List Byte := []
  poisoned : Bool := false
  /-- 32-byte units of the request that read back correctable or uncorrectable. -/
  corr : List Nat := []
  ue : List Nat := []
  deriving DecidableEq, Repr

end Sys2Proof
end

