-- ==== Sys2Proof/Syntax.lean ====
section
/-! DEFINITION. The commands of the block: one constructor per row of the opcode table. A command is a happening from outside
(a write, a transfer, a pin, a detection, the end of a timed action) that the block takes from its queue (log entry 1). -/

namespace Sys2Proof

/-- The command table (spec/opcode_table.json), in its order. -/
inductive Instr where
  /-- VIN_VALID (R57). -/
  | vinValid (b : Boot)
  /-- FLASH_DISCOVERY_RETRY (R59). -/
  | flashDiscoveryRetry (answer : Option Flash)
  /-- PATTERN_PRELOAD (R98). -/
  | patternPreload
  /-- COMPOSITE_DIGEST (R75). -/
  | compositeDigest
  /-- SYN_C_START_RETRY (R121). -/
  | synCStartRetry (lockC lockD lockU : LockUs) (calFail : BitVec 8)
  /-- RESET_N_LOW (R78). -/
  | resetNLow (ns : Nat) (recognised : Bool)
  /-- VIN_WARNING (R336). -/
  | vinWarning (lowestMv : Nat)
  /-- VIN_LOW (R335). -/
  | vinLow
  /-- VIN_HIGH (R422). -/
  | vinHigh (absMax : Bool)
  /-- MRAM_WRITE_COMPLETE (R36). -/
  | mramWriteComplete
  /-- SERVICE_EN_SET (R46). -/
  | serviceEnSet (o : Origin)
  /-- CHECK_COMPLETE (R100). -/
  | checkComplete (us : Nat)
  /-- CHECK_TIMEOUT (R101). -/
  | checkTimeout (found : List Nat)
  /-- SERVICE_EN_CLEAR (R361). -/
  | serviceEnClear
  /-- REQUEST_STANDBY (R45). -/
  | requestStandby (scope : Fin 4) (tag : Fin 256)
  /-- REQUEST_LISTEN (R45). -/
  | requestListen (scope : Fin 4) (tag : Fin 256)
  /-- REQUEST_SERVICE (R45). -/
  | requestService (full : Bool) (scope : Fin 4) (tag : Fin 256)
  /-- REQUEST_PLAYBACK (R45). -/
  | requestPlayback (scope : Fin 4) (pattern : Fin 16) (tag : Fin 256)
  /-- REQUEST_SLEEP (R45). -/
  | requestSleep (scope : Fin 4) (tag : Fin 256)
  /-- REQUEST_UNREQUESTABLE (R45). -/
  | requestUnrequestable (target : Fin 16) (scope : Fin 4) (tag : Fin 256)
  /-- LOCK_WAIT_EXPIRED (R45). -/
  | lockWaitExpired
  /-- TRANSITION_END (R50). -/
  | transitionEnd (d : Dir)
  /-- PROMOTION_TO_FULL (R70). -/
  | promotionToFull (d : Dir)
  /-- WAKE_SESSION_LINGER_EXPIRED (R47). -/
  | wakeSessionLingerExpired
  /-- RX_FIFO_SLIP (R29). -/
  | rxFifoSlip (lane : Fin 4)
  /-- TX_FIFO_UNDERFLOW (R29). -/
  | txFifoUnderflow (lane : Fin 4)
  /-- REALIGNMENT_COMPLETE (R29). -/
  | realignmentComplete (d : Dir)
  /-- MARGIN_LOW_TIMEOUT (R30). -/
  | marginLowTimeout
  /-- STAGE_STALL (R30). -/
  | stageStall (d : Dir)
  /-- VCORE_UPDATE_TIMEOUT (R30). -/
  | vcoreUpdateTimeout
  /-- MARGIN_CLR (R29). -/
  | marginClr (v : Word)
  /-- REF_SEL_WRITE (R110). -/
  | refSelWrite (v : Word)
  /-- LO_FREQ_WRITE (R110). -/
  | loFreqWrite (d : Dir) (v : Word)
  /-- LO_CTRL_WRITE (R110). -/
  | loCtrlWrite (d : Dir) (v : Word)
  /-- CACHE_CLR (R123). -/
  | cacheClr (v : Word)
  /-- BAND_CALIBRATION_DONE (R120). -/
  | bandCalibrationDone (y : Syn) (found : Option BandCal)
  /-- SYNTH_LOCKED (R120). -/
  | synthLocked (y : Syn) (us : Nat)
  /-- WARM_LOCK_TIMEOUT (R67). -/
  | warmLockTimeout (y : Syn)
  /-- LOSS_OF_LOCK (R121). -/
  | lossOfLock (y : Syn)
  /-- REFCLK_ABSENT (R121). -/
  | refclkAbsent
  /-- REFCLK_FREQUENCY_WRONG (R121). -/
  | refclkFrequencyWrong
  /-- REFCLK_RETURN (R121). -/
  | refclkReturn
  /-- OVER_RANGE_EPISODE (R114). -/
  | overRangeEpisode (lane : Fin 4)
  /-- OVER_RANGE_EPISODE_END (R114). -/
  | overRangeEpisodeEnd (lane : Fin 4)
  /-- PEAK_CLR (R125). -/
  | peakClr (v : Word)
  /-- SLOT_REGISTER_WRITE (R152). -/
  | slotRegisterWrite (d : Dir) (which : SlotReg) (slot : Fin 17) (v : Word)
  /-- LOOP_TICK (R206). -/
  | loopTick (i : TickIn)
  /-- PLAUSIBILITY_RUN_COMPLETE (R221). -/
  | plausibilityRunComplete (lane : Fin 4) (high : Bool)
  /-- LOOP_DEADLINE (R208). -/
  | loopDeadline (late : List (Fin 192))
  /-- LOOP_ALL_LATE_10 (R35). -/
  | loopAllLate10
  /-- LAW_WRITE (R212). -/
  | lawWrite
  /-- LAW_READ (R210). -/
  | lawRead
  /-- LAW_OPEN (R213). -/
  | lawOpen
  /-- LAW_CLOSE (R214). -/
  | lawClose
  /-- LAW_DISCARD_QUEUE (R212). -/
  | lawDiscardQueue
  /-- TIMING_CLR (R225). -/
  | timingClr (v : Word)
  /-- VCORE_EMERGENCY_STEP (R219). -/
  | vcoreEmergencyStep
  /-- VCORE_EMERGENCY_REPEAT (R219). -/
  | vcoreEmergencyRepeat
  /-- VCORE_SLEW_TIMEOUT (R332). -/
  | vcoreSlewTimeout
  /-- TRACE_ARM (R223). -/
  | traceArm (u : Fin 4) (v : Word)
  /-- TRACE_POST_COMPLETE (R223). -/
  | tracePostComplete (u : Fin 4)
  /-- TRACE_FORCE (R225). -/
  | traceForce (u : Fin 4)
  /-- TRACE_REARM (R225). -/
  | traceRearm (u : Fin 4)
  /-- TRACE_DUMP (R224). -/
  | traceDump (u : Fin 4)
  /-- FAST_CUT (R188). -/
  | fastCut (d : Dir) (slot : Fin 17) (i0 : Nat) (pin0 pin1 : Int) (flagged : BitVec 2)
  /-- GOV_WRITE (R198). -/
  | govWrite (d : Dir) (which : GovReg) (g : Fin 16) (v : Word)
  /-- DONOR_LOST (R190). -/
  | donorLost (slot : Fin 17)
  /-- DONOR_PRESENT (R190). -/
  | donorPresent (slot : Fin 17)
  /-- NOISE_RISE_MUTE (R192). -/
  | noiseRiseMute (slot : Fin 17)
  /-- LANE_OUTPUT_MUTE (R192). -/
  | laneOutputMute (d : Dir)
  /-- MUTE_RETRY_EXPIRED (R194). -/
  | muteRetryExpired (d : Dir) (slot : Option (Fin 17))
  /-- CORRELATOR_BLOCK_END (R163). -/
  | correlatorBlockEnd (slot : Fin 34) (b : BlockIn)
  /-- OSC_FAST_EVAL (R170). -/
  | oscFastEval (slot : Fin 34) (b : FastIn)
  /-- EST_CLR (R174). -/
  | estClr (v : Word)
  /-- LOCK_COMMIT (R241). -/
  | lockCommit (v : Word)
  /-- LOCK_COMMIT_COMPLETE (R242). -/
  | lockCommitComplete
  /-- LOCK_PAGE_SCRUB (R244). -/
  | lockPageScrub (f : LockScrubIn)
  /-- FRONT_WRITE (R247). -/
  | frontWrite (off : Fin 2048) (v : Word)
  /-- TRANSMIT_WINDOW_EDGE (R259). -/
  | transmitWindowEdge (d : Dir) (slot : Fin 17) (t : Nat)
  /-- DUTY_WINDOW_END (R234). -/
  | dutyWindowEnd (dl ul : Nat)
  /-- LNA_BYPASS_RELEASE (R236). -/
  | lnaBypassRelease (lane : Fin 4)
  /-- SYNC_HIT (R253). -/
  | syncHit (h : HitIn)
  /-- SYNC_OCCURRENCE (R257). -/
  | syncOccurrence (ref : Fin 16)
  /-- TIMING_SWITCH (R258). -/
  | timingSwitch (ref : Fin 16)
  /-- TIMING_PIN_EDGE (R264). -/
  | timingPinEdge (p : TPin) (t : Nat)
  /-- TIMING_PIN_STUCK (R264). -/
  | timingPinStuck (p : TPin)
  /-- TIMING_PIN_MISSING (R264). -/
  | timingPinMissing (p : TPin)
  /-- NOISE_FLOOR_UPDATE (R262). -/
  | noiseFloorUpdate (slot : Fin 34) (branch : Fin 2) (p : Int) (k : Nat)
  /-- NOISE_FLOOR_STALE (R262). -/
  | noiseFloorStale (slot : Fin 34)
  /-- BURST_START (R263). -/
  | burstStart (slot : Fin 34) (branch : Fin 2) (t : Nat)
  /-- BURST_END (R263). -/
  | burstEnd (b : BurstIn)
  /-- BURST_CONTINUES (R263). -/
  | burstContinues (b : BurstIn)
  /-- SYNC_WRITE (R265). -/
  | syncWrite (off : Fin 2048) (v : Word)
  /-- LICHEN_LOOK (R270). -/
  | lichenLook (rx : Fin 4) (freq : Fin 8) (active : Bool)
  /-- LICHEN_HOLDOFF_EXPIRED (R271). -/
  | lichenHoldoffExpired
  /-- POLICY_SLEEP_TIMER (R272). -/
  | policySleepTimer (donor : Bool)
  /-- TWO_WIRE_WAKE (R384). -/
  | twoWireWake
  /-- WAKE_COMPLETE (R65). -/
  | wakeComplete (w : WakeInfo)
  /-- FALSE_WAKE_CHECK (R275). -/
  | falseWakeCheck
  /-- BOG_ARM (R294). -/
  | bogArm (r : Fin 8)
  /-- BOG_TRIGGER (R294). -/
  | bogTrigger (r : Fin 8)
  /-- BOG_STOP (R294). -/
  | bogStop (r : Fin 8)
  /-- BOG_CLEAR (R294). -/
  | bogClear (r : Fin 8)
  /-- STOP_PLAYBACK (R299). -/
  | stopPlayback (d : Dir)
  /-- SEGMENT_END (R291). -/
  | segmentEnd (r : Fin 8)
  /-- REGION_END (R291). -/
  | regionEnd (r : Fin 8)
  /-- SCRUB_PASS (R284). -/
  | scrubPass (f : ScrubIn)
  /-- PAT_LEN_WRITE (R296). -/
  | patLenWrite (p : Fin 16) (v : Word)
  /-- PAT_PLACEMENT_WRITE (R296). -/
  | patPlacementWrite (p : Fin 16) (size : Bool) (v : Word)
  /-- PATTERN_END (R299). -/
  | patternEnd (d : Dir)
  /-- BOG_REGISTER_WRITE (R294). -/
  | bogRegisterWrite (off : Fin 2048) (v : Word)
  /-- BIX_QUEUE_DRAIN (R306). -/
  | bixQueueDrain
  /-- BIX_CLEAR (R310). -/
  | bixClear
  /-- BIX_DUMP (R307). -/
  | bixDump (r : Fin 8)
  /-- BIX_DUMP_COMPLETE (R307). -/
  | bixDumpComplete
  /-- HK_PASS_START (R314). -/
  | hkPassStart (c : HkConv)
  /-- HK_CONVERSION_END (R321). -/
  | hkConversionEnd (c : HkConv) (x : ConvIn)
  /-- HK_TRIG_EDGE (R318). -/
  | hkTrigEdge (t : Nat)
  /-- HK_TRIG_STUCK (R318). -/
  | hkTrigStuck
  /-- OVERDRIVE_TRIP (R319). -/
  | overdriveTrip (lane : OvdIn)
  /-- HK_INJECTED_RUN (R317). -/
  | hkInjectedRun (c : HkConv)
  /-- HK_REFERENCE_SETTLED (R320). -/
  | hkReferenceSettled (c : HkConv) (settled : Bool)
  /-- HK_CROSS_CHECK (R325). -/
  | hkCrossCheck (a b : ConvIn) (ended : Bool)
  /-- HK_WRITE (R328). -/
  | hkWrite (off : Fin 2048) (v : Word)
  /-- SLOT_DROP (R344). -/
  | slotDrop
  /-- THROTTLE_UNDO (R345). -/
  | throttleUndo
  /-- SENSOR_FENCE (R341). -/
  | sensorFence (k : Fin 6) (noReading : Bool)
  /-- THERMAL_SHUTDOWN (R346). -/
  | thermalShutdown (sensed : Bool)
  /-- SHUTDOWN_RESUME (R44). -/
  | shutdownResume (lockC lockD lockU : LockUs)
  /-- VIN_CLR (R348). -/
  | vinClr (v : Word)
  /-- P_CLR (R348). -/
  | pClr (v : Word)
  /-- THERM_PEAK_CLR (R350). -/
  | thermPeakClr (v : Word)
  /-- FAULT_DETECTED (R357). -/
  | faultDetected (es : List Detect)
  /-- CLASS_WINDOW_EXPIRED (R355). -/
  | classWindowExpired (event : Fin 1024)
  /-- QUIET_PERIOD_EXPIRED (R359). -/
  | quietPeriodExpired (blk : Fin 24) (q : QuietOf)
  /-- SRC_INJECT (R363). -/
  | srcInject (blk : Fin 24) (v : Word)
  /-- PEAT_TIMER (R373). -/
  | peatTimer
  /-- PEAT_FLUSH (R368). -/
  | peatFlush
  /-- PEAT_COMMIT_COMPLETE (R375). -/
  | peatCommitComplete
  /-- PEAT_AUDIT (R377). -/
  | peatAudit (f : AuditIn)
  /-- PEAT_FREEZE (R379). -/
  | peatFreeze
  /-- PEAT_THAW (R379). -/
  | peatThaw
  /-- PEAT_CLOSE (R379). -/
  | peatClose
  /-- FREEZE_TIMEOUT (R379). -/
  | freezeTimeout
  /-- TWO_WIRE_WRITE (R385). -/
  | twoWireWrite (bytes : List Byte)
  /-- SET_POINTER_READ (R385). -/
  | setPointerRead (hi lo : Byte) (n : Nat) (ready : Bool)
  /-- CURRENT_POINTER_READ (R385). -/
  | currentPointerRead (n : Nat) (ready : Bool)
  /-- SNAPSHOT_READ (R388). -/
  | snapshotRead (f : Iface) (addr : Fin 65536)
  /-- REGISTER_WRITE (R387). -/
  | registerWrite (addr : Fin 65536) (v : Word)
  /-- WAKE_STRETCH_TIMEOUT (R389). -/
  | wakeStretchTimeout
  /-- TARGET_TIMEOUT (R395). -/
  | targetTimeout
  /-- ATTENTION_ATTEMPT (R392). -/
  | attentionAttempt (o : AttnOutcome)
  /-- ATTENTION_RETRY_WAIT_END (R392). -/
  | attentionRetryWaitEnd
  /-- ARBITRATION_BACKOFF_END (R393). -/
  | arbitrationBackoffEnd
  /-- STUCK_BUS_DETECTED (R394). -/
  | stuckBusDetected (freedAfter : Option (Fin 10))
  /-- CONTROLLER_SCL_TIMEOUT (R394). -/
  | controllerSclTimeout
  /-- ATTN_FLUSH (R391). -/
  | attnFlush
  /-- BUS_CLEAR (R394). -/
  | busClear (freedAfter : Option (Fin 10))
  /-- BAR0_READ (R402). -/
  | bar0Read (a : BogAccess)
  /-- BAR0_WRITE (R402). -/
  | bar0Write (a : BogAccess)
  /-- MIRROR_WRITE (R404). -/
  | mirrorWrite (addr : Fin 65536) (v : Word)
  /-- CAPTURE_DOORBELL_ARM (R406). -/
  | captureDoorbellArm (r : Fin 8) (tag : Fin 256)
  /-- CAPTURE_DOORBELL_TRIGGER (R406). -/
  | captureDoorbellTrigger (r : Fin 8) (tag : Fin 256)
  /-- CAPTURE_DOORBELL_STOP (R406). -/
  | captureDoorbellStop (r : Fin 8) (tag : Fin 256)
  /-- CAPTURE_DOORBELL_CLEAR (R406). -/
  | captureDoorbellClear (r : Fin 8) (tag : Fin 256)
  /-- PLAYBACK_DOORBELL_START (R406). -/
  | playbackDoorbellStart (p : Fin 16) (tag : Fin 256)
  /-- PLAYBACK_DOORBELL_STOP (R406). -/
  | playbackDoorbellStop (p : Fin 16) (tag : Fin 256)
  /-- DOORBELL_MALFORMED (R406). -/
  | doorbellMalformed (off : Fin 65536) (v : Word)
  /-- MSIX_UNMASK (R407). -/
  | msixUnmask (vector : Option (Fin 16))
  /-- PERST (R408). -/
  | perst (flr : Bool)
  /-- CONFIG_REQUEST (R408). -/
  | configRequest (op : ConfigOp)
  /-- NEAR_OVER_RANGE (R236). -/
  | nearOverRange (lane : Fin 4)
  /-- RESET_N_RELEASE (R57). -/
  | resetNRelease (b : Boot)
  /-- LANE_RESTORE_COMPLETE (R117). -/
  | laneRestoreComplete (tx : Bool) (lane : Fin 4)
  /-- BACKGROUND_CAL_RECORD_REWRITE (R118). -/
  | backgroundCalRecordRewrite (tx : Bool) (lane : Fin 4)
  /-- TIMING_PIN_INACTIVE_LEVEL (R264). -/
  | timingPinInactiveLevel (p : TPin)
  /-- HK_TRIG_INACTIVE_LEVEL (R318). -/
  | hkTrigInactiveLevel
  /-- OVERDRIVE_REARM (R319). -/
  | overdriveRearm (lane : OvdIn)
  /-- BUS_START_DURING_BACKOFF (R393). -/
  | busStartDuringBackoff
  /-- PERST_N_DEASSERTION (R408). -/
  | perstNDeassertion
  /-- PCIE_LINK_UP (R408). -/
  | pcieLinkUp (gen width : Nat)
  /-- PCIE_LINK_DOWN (R410). -/
  | pcieLinkDown
  /-- SELF_REFRESH_IDLE_TIMEOUT (R402). -/
  | selfRefreshIdleTimeout (channel : Fin 8)
  deriving DecidableEq, Repr

end Sys2Proof
end

