-- ==== Sys2Proof/Decode.lean ====
section
/-! DEFINITION. The command a word spells by the bits of spec/opcode_table.json. The table gives no row any bits: a command is a
happening at a pin, a bus or a clock, not a word (log entry 1). So no word spells one. -/

namespace Sys2Proof

/-- No row of the table has bits, so no word of any length spells a command. -/
def decodeTableWord (nbits w : Nat) : Option Instr :=
  match nbits, w with
  | _, _ => none

end Sys2Proof
end

