-- ==== Sys2Proof/Config.lean ====
section
/-! DEFINITION. What one implementation fixes and the manual leaves open: every constant here has no body, so no proof
can see its value (log entries 2, 3, 8, 9). -/

namespace Sys2Proof.Config

/-- Fresh open values, numbered by the model's own counter `State.free` (log entry 2). -/
opaque freeWord : Nat → Word

/-- Bytes that a sample stream wrote to the store: address and stamp of the write (log entry 8). -/
opaque streamByte : Nat → Nat → Byte

/-- The random back-off of R393 before it is brought into 50–200 µs; the counter of `State.free` numbers the draws. -/
opaque backoffDraw : Nat → Nat

/-- A byte of a Peat record whose codeword cannot be corrected, as stored (R378): SEQ of the record and offset. -/
opaque damagedByte : Nat → Nat → Byte

/-- A byte of a Bog codeword that cannot be corrected, as stored (R283): address, and the counter of `State.free`. -/
opaque damagedStore : Nat → Nat → Byte

/-- A word of the endpoint's configuration space that the manual leaves to the PCIe standard (R400). -/
opaque configSpace : Nat → Word

/-- Levels of TWSCL and TWSDA as BUS_STAT shows them during the very transfer that reads it (R398). -/
opaque lineLevels : Nat → Nat

/-- Whether a scrub pass is under way (R308 STAT): passes start and end at instants the model does not follow. -/
opaque scrubRunning : Nat → Bool

/-- SHA-256 digest of the Frond ROM (R75 entry 0): the ROM is delivered beside the manual, not in it. -/
opaque frondRomDigest : Nat

/-- SHA-256 digest of the loop-engine ROM (R75 entry 1). -/
opaque loopRomDigest : Nat

/-- Length in bytes of the two ROMs as MEAS.LEN_0 and MEAS.LEN_1 show it. -/
opaque romLength : Nat → Nat

/-- ID.SILICON, "per part" (R416). -/
opaque idSilicon : Word

/-- ID.DIE, "per part" (R416): low word, high word. -/
opaque idDie : Nat → Word

/-- E_f of a response in units of 2^-32 (R158): the Frond file gives it; the manual gives it for response 104 only. -/
opaque frondEnergy : Nat → Nat

/-- Pole coefficient a of R339, pole i, in units of 2^-32 (held in the loop-engine ROM). -/
opaque thermA : Nat → Nat

/-- Pole coefficient r of R339, region j and pole i, in 0.01 °C per mW, units of 2^-16. -/
opaque thermR : Nat → Nat → Nat

/-- Coupling share of R339: the part of region j's power that its neighbour n receives, in units of 2^-16. -/
opaque thermCoupling : Nat → Nat → Nat

/-- Temperature in 0.01 °C that sensor s gives for an HK result VALUE (R340: the sensor's factory trim). -/
opaque sensorTemp : Nat → Nat → Int

/-- Hold-up time available at the present load in 0.1 µs (R348 HOLDUP): a measured figure the manual gives no law for. -/
opaque holdupTime : Nat → Nat

/-- How the NCO's table rounds a value that 18 bits do not hold exactly (R132 gives no rounding): true where it lies above; the entry's
number is twice the phase of 20 bits, plus one for the sine. -/
opaque ncoUp : Nat → Bool

/-- Coefficient i of the first half of a fixed filter of the chain in units of 2^-17 (R135), and of a Frond response in units of 2^-19
(R140, R144): the manual gives their number, their width and their symmetry, not their values. -/
opaque chainTap : Nat → Nat → Int
opaque frondTap : Nat → Nat → Int

/-- Coefficient i of the transmit converter's inverse-sinc correction in units of 2^-17, and how many there are (R116 gives neither). -/
opaque sincTap : Nat → Int
opaque sincTaps : Nat

/-- What register r of a slot's CIC chains holds after the samples of the tick with this number (R136): the samples are not commands
(log entry 15). -/
opaque cicLeft : Nat → Nat → BitVec 42

end Sys2Proof.Config
end

