-- ==== Sys2Proof/Machine/Codes.lean ====
section
/-! DEFINITION. The integrity codes of the manual: CRC-32C (R83), SHA-256 (FIPS 180-4, R75), RS(36,32) (R281), and the byte order
of multi-byte fields (R82). -/

namespace Sys2Proof.Machine

/-! ### Little-endian fields -/

/-- The n low bytes of w, least significant first. -/
def leBytes : Nat → Nat → List Byte
  | 0, _ => []
  | n + 1, w => BitVec.ofNat 8 w :: leBytes n (w / 256)

/-- The number a little-endian byte list spells. -/
def ofLe : List Byte → Nat
  | [] => 0
  | b :: bs => b.toNat + 256 * ofLe bs

/-- n bytes of a list from an offset; a byte beyond its end reads 0xFF, as erased flash does. -/
def sliceFF (bs : List Byte) (off : Nat) : Nat → List Byte
  | 0 => []
  | n + 1 => (bs.drop off).headD 0xFF :: sliceFF bs (off + 1) n

/-- The little-endian field of n bytes at an offset. -/
def fieldLe (bs : List Byte) (off n : Nat) : Nat := ofLe (sliceFF bs off n)

/-! ### CRC-32C -/

/-- Eight shifts of the reflected polynomial 0x82F63B78. -/
def crcShift : Nat → Nat → Nat
  | 0, c => c
  | k + 1, c => crcShift k (if c % 2 = 1 then (c / 2) ^^^ 0x82F63B78 else c / 2)

/-- CRC register over a byte list. -/
def crcAux : List Byte → Nat → Nat
  | [], c => c
  | b :: bs, c => crcAux bs (crcShift 8 (c ^^^ b.toNat))

/-- CRC-32C (R83). -/
def crc32c (bs : List Byte) : Nat := (crcAux bs 0xFFFFFFFF) ^^^ 0xFFFFFFFF

/-! ### SHA-256

The manual names the function (R75: SHA-256 of FIPS 180-4) and gives no table of it. Its constants are the first 32 bits behind the
binary point of square and cube roots of primes; they are computed from that here. -/

/-- The number spelled by digits of base `m`, most significant first. -/
def ofDigits (m : Nat) (ds : List Nat) : Nat := ds.foldl (fun n d => n * m + d) 0

/-- Pieces of `n` elements; the fuel counts pieces. -/
def pieces {α : Type} (n : Nat) : Nat → List α → List (List α)
  | 0, _ => []
  | k + 1, xs => xs.take n :: pieces n k (xs.drop n)

/-- The r-th root of p with 32 bits behind the point: the largest x with x^r ≤ p · 2^(32 r), found bit by bit from 2^k down. -/
def rootOf (r p : Nat) : Nat → Nat → Nat
  | 0, x => x
  | k + 1, x => rootOf r p k (if (x + 2 ^ k) ^ r ≤ p * 2 ^ (32 * r) then x + 2 ^ k else x)

/-- The primes below 312, of which there are 64. -/
def shaPrimes : List Nat :=
  (List.range 312).filter (fun n => decide (2 ≤ n) && (List.range 18).all (fun d => decide (d < 2 ∨ n ≤ d) || n % d != 0))

/-- The bits behind the point of the r-th roots. -/
def rootConsts (r : Nat) (ps : List Nat) : List Nat := ps.map (fun p => rootOf r p 36 0 % 2 ^ 32)

/-- Exclusive or of a word turned right by each of the amounts. -/
def shaTurn (ns : List Nat) (x : Nat) : Nat :=
  ns.foldl (fun acc n => acc ^^^ (x * (2 ^ 32 + 1) / 2 ^ n % 2 ^ 32)) 0

/-- The message schedule, newest word first, extended by `n` words. -/
def shaSchedule : Nat → List Nat → List Nat
  | 0, ws => ws
  | n + 1, ws =>
    let lag := fun i => ws.getD (i - 1) 0
    shaSchedule n
      (((shaTurn [17, 19] (lag 2) ^^^ (lag 2 / 2 ^ 10)) + lag 7 + (shaTurn [7, 18] (lag 15) ^^^ (lag 15 / 2 ^ 3)) + lag 16) % 2 ^ 32 :: ws)

/-- One round on the two histories of working variables, newest first: `up` is a, b, c, d and `low` is e, f, g, h. -/
def shaTurnRound (st : List Nat × List Nat) (kw : Nat × Nat) : List Nat × List Nat :=
  match st with
  | ([p0, p1, p2, p3], [q0, q1, q2, q3]) =>
    let t := q3 + shaTurn [6, 11, 25] q0 + (q2 ^^^ (q0 &&& (q1 ^^^ q2))) + kw.1 + kw.2
    let u := shaTurn [2, 13, 22] p0 + ((p0 &&& p1) ||| (p2 &&& (p0 ||| p1)))
    ([(t + u) % 2 ^ 32, p0, p1, p2], [(p3 + t) % 2 ^ 32, q0, q1, q2])
  | other => other

/-- The hash value after one block of sixteen words. -/
def shaAbsorb (ks hv block : List Nat) : List Nat :=
  let out := (ks.zip (shaSchedule 48 block.reverse).reverse).foldl shaTurnRound (hv.take 4, hv.drop 4)
  List.zipWith (fun x y => (x + y) % 2 ^ 32) hv (out.1 ++ out.2)

/-- The message with its padding: the byte 0x80, zeros to 56 modulo 64, and the bit length in eight bytes, high byte first. -/
def shaPadded (bs : List Byte) : List Nat :=
  bs.map (·.toNat) ++ 128 :: List.replicate ((119 - bs.length % 64) % 64) 0 ++ (leBytes 8 (8 * bs.length)).reverse.map (·.toNat)

/-- SHA-256 of a byte list, as one number whose most significant byte is digest byte 0. -/
def sha256 (bs : List Byte) : Nat :=
  let ws := (pieces 4 (16 * (bs.length / 64 + (if bs.length % 64 < 56 then 1 else 2))) (shaPadded bs)).map (ofDigits 256)
  ofDigits (2 ^ 32) ((pieces 16 (ws.length / 16) ws).foldl (shaAbsorb (rootConsts 3 shaPrimes)) (rootConsts 2 (shaPrimes.take 8)))

/-- The 32 digest bytes in output order. -/
def digestBytes (d : Nat) : List Byte := (leBytes 32 d).reverse

/-- Register w (0–7) of a digest shown from byte address DIGEST0 (R76): digest bytes 4w to 4w+3, little-endian. -/
def digestWord (d w : Nat) : Nat := ofLe ((digestBytes d).drop (4 * w) |>.take 4)

/-! ### RS(36,32) over GF(2^8) -/

/-- Multiplication by α = 0x02 modulo x^8 + x^4 + x^3 + x^2 + 1. -/
def gfDouble (a : Nat) : Nat := if a < 128 then 2 * a else (2 * a) ^^^ 0x11D

/-- Product in GF(2^8), bit by bit of the second factor. -/
def gfMul : Nat → Nat → Nat → Nat
  | 0, _, _ => 0
  | k + 1, a, b => (if b % 2 = 1 then a else 0) ^^^ gfMul k (gfDouble a) (b / 2)

/-- Generator (x − 1)(x − α)(x − α^2)(x − α^3), coefficients of x^3 to x^0. -/
def rsGen : List Nat := [15, 54, 120, 64]

/-- One step of the systematic encoder's register. -/
def rsStep (r : List Nat) (b : Nat) : List Nat :=
  let f := b ^^^ r.headD 0
  List.zipWith (fun x g => x ^^^ gfMul 8 f g) (r.drop 1 ++ [0]) rsGen

/-- The four check bytes of 32 data bytes (R281). -/
def rsCheck (bs : List Byte) : List Nat := bs.foldl (fun r b => rsStep r b.toNat) [0, 0, 0, 0]

/-- Syndrome i of a codeword: its value at α^i by Horner's rule. -/
def rsSyndrome (i : Nat) (code : List Nat) : Nat := code.foldl (fun acc c => (List.range i).foldl (fun x _ => gfDouble x) acc ^^^ c) 0

end Sys2Proof.Machine
end

