-- ==== Sys2Proof/Machine/RegNames.lean ====
section
/-! DEFINITION. The addresses of the registers, by the manual's names (R413). An indexed register takes its index, a register
of a mirrored block its direction. -/

namespace Sys2Proof.Machine.Reg

/-- Channelizer window of a direction (R16). -/
def chanBase (d : Dir) : Nat := match d with | .dl => 0x6000 | .ul => 0x6800

/-- Governor window of a direction (R16). -/
def govBase (d : Dir) : Nat := match d with | .dl => 0x7800 | .ul => 0x8000

/-- Slot s′ of R174 to SYNC group offset (R414). -/
def syncSlot (s : Nat) : Nat := if s < 32 then 0x5E00 + 0x10 * s else 0x5DC0 + 0x10 * (s - 32)

def CORE_MARGIN_NOW : Nat := 0xB840
def CORE_MARGIN_MIN : Nat := 0xB844
def CORE_MARGIN_CLR : Nat := 0xB848
def CORE_FIFO_OCC_RX (i : Nat) : Nat := 0xB84C + 0x4 * i
def CORE_FIFO_OCC_TX (i : Nat) : Nat := 0xB85C + 0x4 * i
def CORE_ALIGN_COUNT : Nat := 0xB86C
def SYS_STATE : Nat := 0x40
def SYS_REQUEST : Nat := 0x44
def SYS_REQ_STATUS : Nat := 0x48
def SYS_SERVICE_EN : Nat := 0x4C
def SYS_REFUSE_CODE : Nat := 0x50
def SYS_SLOT_MUTED : Nat := 0x54
def SYS_RESTRICT : Nat := 0x58
def SYS_WAKE_CTRL : Nat := 0x5C
def SYS_LAST_TRANSITION : Nat := 0x60
def SYS_TRANSITION_COUNT : Nat := 0x64
def SYS_DEVTIME_LO : Nat := 0x68
def SYS_DEVTIME_HI : Nat := 0x6C
def CFG_FLASH_INFO : Nat := 0x1840
def CFG_SLOTB_BASE : Nat := 0x1844
def CFG_CONFIG_LEN : Nat := 0x1848
def CFG_IMAGE_LEN : Nat := 0x184C
def CFG_RELEASE : Nat := 0x1850
def CFG_FAIL_OFFSET : Nat := 0x1854
def CFG_SKIPPED : Nat := 0x1858
def CFG_PRELOAD : Nat := 0x185C
def CFG_CHECK_STATUS : Nat := 0x1860
def CFG_CHECK_TIME : Nat := 0x1864
def CFG_CHECK_DIGEST (i : Nat) : Nat := 0x1868 + 0x4 * i
def SYN_REF_SEL : Nat := 0x3040
def SYN_STATUS : Nat := 0x3044
def SYN_LOD_FREQ : Nat := 0x3048
def SYN_LOD_CTRL : Nat := 0x304C
def SYN_LOU_FREQ : Nat := 0x3050
def SYN_LOU_CTRL : Nat := 0x3054
def SYN_WRITE_STATUS : Nat := 0x3058
def SYN_PLAN_D : Nat := 0x305C
def SYN_PLAN_U : Nat := 0x3060
def SYN_LOCK_TIME : Nat := 0x3064
def SYN_CACHE_STAT : Nat := 0x3068
def SYN_CACHE_CLR : Nat := 0x306C
def RXC_STATUS : Nat := 0x3840
def RXC_NEAR_THRESH : Nat := 0x3844
def RXC_OVR_EPISODES (i : Nat) : Nat := 0x3848 + 0x4 * i
def RXC_OVR_SAMPLES (i : Nat) : Nat := 0x3858 + 0x4 * i
def RXC_PEAK (i : Nat) : Nat := 0x3868 + 0x4 * i
def RXC_PEAK_CLR : Nat := 0x3878
def RXC_LATENCY : Nat := 0x387C
def TXC_STATUS : Nat := 0x4040
def TXC_CLIP_COUNT (i : Nat) : Nat := 0x4044 + 0x4 * i
def TXC_CLIP_THRESH : Nat := 0x4054
def TXC_LATENCY : Nat := 0x4058
def CHAN_DIR_STAT (d : Dir) : Nat := chanBase d + 0x40
def CHAN_WRITE_STATUS (d : Dir) : Nat := chanBase d + 0x44
def CHAN_GATE_COUNT (d : Dir) : Nat := chanBase d + 0x48
def CHAN_SAT_THRESH (d : Dir) : Nat := chanBase d + 0x4C
def CHAN_SUM_CLIP_0 (d : Dir) : Nat := chanBase d + 0x50
def CHAN_SUM_CLIP_1 (d : Dir) : Nat := chanBase d + 0x54
def CHAN_GAIN_CLAMP_COUNT (d : Dir) : Nat := chanBase d + 0x58
def CHAN_OVR_BLANK (d : Dir) : Nat := chanBase d + 0x5C
def CHAN_BRANCH_CFG (d : Dir) : Nat := chanBase d + 0x60
def CHAN_SLOT_CFG (d : Dir) (i : Nat) : Nat := chanBase d + 0x100 + 0x20 * i
def CHAN_SLOT_NCO (d : Dir) (i : Nat) : Nat := chanBase d + 0x104 + 0x20 * i
def CHAN_SLOT_TRIM (d : Dir) (i : Nat) : Nat := chanBase d + 0x108 + 0x20 * i
def CHAN_SLOT_STAT (d : Dir) (i : Nat) : Nat := chanBase d + 0x10C + 0x20 * i
def CHAN_SLOT_PIN (d : Dir) (i : Nat) : Nat := chanBase d + 0x110 + 0x20 * i
def CHAN_SLOT_POUT (d : Dir) (i : Nat) : Nat := chanBase d + 0x114 + 0x20 * i
def CHAN_SLOT_GAIN (d : Dir) (i : Nat) : Nat := chanBase d + 0x118 + 0x20 * i
def CHAN_SLOT_INFO (d : Dir) (i : Nat) : Nat := chanBase d + 0x11C + 0x20 * i
def ECHO_PROBE_ROT : Nat := 0x7040
def ECHO_EST_CTRL : Nat := 0x7044
def ECHO_OSC_WIN : Nat := 0x7048
def ECHO_NF_DEFAULT : Nat := 0x704C
def ECHO_DIR_ISO : Nat := 0x7050
def ECHO_OSC_STAT : Nat := 0x7054
def ECHO_OSC_COUNT : Nat := 0x7058
def ECHO_CONV_DL : Nat := 0x705C
def ECHO_CONV_UL : Nat := 0x7060
def ECHO_EST_CLR : Nat := 0x7064
def ECHO_TAP_SEL : Nat := 0x7068
def ECHO_TAP_EXP : Nat := 0x706C
def ECHO_PROBE_CFG (i : Nat) : Nat := 0x7100 + 0x20 * i
def ECHO_PROBE_STAT (i : Nat) : Nat := 0x7104 + 0x20 * i
def ECHO_EST_STAT (i : Nat) : Nat := 0x7108 + 0x20 * i
def ECHO_ISO (i : Nat) : Nat := 0x710C + 0x20 * i
def ECHO_CANCEL (i : Nat) : Nat := 0x7110 + 0x20 * i
def ECHO_LOOP (i : Nat) : Nat := 0x7114 + 0x20 * i
def ECHO_TAPS (i : Nat) : Nat := 0x7118 + 0x20 * i
def ECHO_NF (i : Nat) : Nat := 0x711C + 0x20 * i
def ECHO_TAP (i : Nat) : Nat := 0x7600 + 0x4 * i
def GOV_RX_CHAIN (d : Dir) : Nat := govBase d + 0x40
def GOV_MUTE_CFG (d : Dir) : Nat := govBase d + 0x44
def GOV_WRITE_STATUS (d : Dir) : Nat := govBase d + 0x48
def GOV_DIR_MUTE (d : Dir) : Nat := govBase d + 0x4C
def GOV_THERM_CEIL (d : Dir) : Nat := govBase d + 0x50
def GOV_LANE_RED (d : Dir) : Nat := govBase d + 0x54
def GOV_FAST_CFG (d : Dir) : Nat := govBase d + 0x58
def GOV_SLOT_TARGET (d : Dir) (i : Nat) : Nat := govBase d + 0x100 + 0x40 * i
def GOV_CTRL (d : Dir) (i : Nat) : Nat := govBase d + 0x104 + 0x40 * i
def GOV_PROFILE_VA (d : Dir) (i : Nat) : Nat := govBase d + 0x108 + 0x40 * i
def GOV_PROFILE_J (d : Dir) (i : Nat) : Nat := govBase d + 0x10C + 0x40 * i
def GOV_L2_LIMIT (d : Dir) (i : Nat) : Nat := govBase d + 0x110 + 0x40 * i
def GOV_L3_CFG (d : Dir) (i : Nat) : Nat := govBase d + 0x114 + 0x40 * i
def GOV_SEL (d : Dir) (i : Nat) : Nat := govBase d + 0x118 + 0x40 * i
def GOV_OUT01 (d : Dir) (i : Nat) : Nat := govBase d + 0x11C + 0x40 * i
def GOV_OUT23 (d : Dir) (i : Nat) : Nat := govBase d + 0x120 + 0x40 * i
def GOV_OUT4 (d : Dir) (i : Nat) : Nat := govBase d + 0x124 + 0x40 * i
def GOV_PROFILE (d : Dir) (i : Nat) : Nat := govBase d + 0x128 + 0x40 * i
def GOV_L3_MEAS (d : Dir) (i : Nat) : Nat := govBase d + 0x12C + 0x40 * i
def LOOP_ENG_STAT : Nat := 0x8840
def LOOP_TIMING : Nat := 0x8844
def LOOP_TIMING_CLR : Nat := 0x8848
def LOOP_LATE_COUNT : Nat := 0x884C
def LOOP_LAW_ADDR : Nat := 0x8850
def LOOP_LAW_DATA : Nat := 0x8854
def LOOP_LAW_CMD : Nat := 0x8858
def LOOP_LAW_STATUS : Nat := 0x885C
def LOOP_OPEN (i : Nat) : Nat := 0x8860 + 0x4 * i
def LOOP_VCORE_CFG : Nat := 0x8878
def LOOP_VCORE_STAT : Nat := 0x887C
def LOOP_PLAUS_CFG : Nat := 0x8880
def LOOP_PLAUS (i : Nat) : Nat := 0x8884 + 0x4 * i
def LOOP_PLAUS_STAT : Nat := 0x8894
def LOOP_TR_CTRL (i : Nat) : Nat := 0x8900 + 0x40 * i
def LOOP_TR_NODE01 (i : Nat) : Nat := 0x8904 + 0x40 * i
def LOOP_TR_NODE23 (i : Nat) : Nat := 0x8908 + 0x40 * i
def LOOP_TR_NODE45 (i : Nat) : Nat := 0x890C + 0x40 * i
def LOOP_TR_NODE67 (i : Nat) : Nat := 0x8910 + 0x40 * i
def LOOP_TR_TRIG (i : Nat) : Nat := 0x8914 + 0x40 * i
def LOOP_TR_TRIG_VAL (i : Nat) : Nat := 0x8918 + 0x40 * i
def LOOP_TR_POST (i : Nat) : Nat := 0x891C + 0x40 * i
def LOOP_TR_STAT (i : Nat) : Nat := 0x8920 + 0x40 * i
def LOOP_TR_TIME_LO (i : Nat) : Nat := 0x8924 + 0x40 * i
def LOOP_TR_TIME_HI (i : Nat) : Nat := 0x8928 + 0x40 * i
def LOOP_TR_DROPPED (i : Nat) : Nat := 0x892C + 0x40 * i
def LOOP_TR_CMD (i : Nat) : Nat := 0x8930 + 0x40 * i
def LOOP_TR_RD_SEL (i : Nat) : Nat := 0x8934 + 0x40 * i
def LOOP_TR_RD_DATA (i : Nat) : Nat := 0x8938 + 0x40 * i
def FRONT_FE_STAT : Nat := 0x4840
def FRONT_PA_SEQ_ON : Nat := 0x4844
def FRONT_PA_SEQ_OFF : Nat := 0x4848
def FRONT_LANE_CFG (i : Nat) : Nat := 0x484C + 0x4 * i
def FRONT_LNA_CFG (i : Nat) : Nat := 0x485C + 0x4 * i
def FRONT_TR_TIMING : Nat := 0x486C
def FRONT_PIN_POL : Nat := 0x4870
def FRONT_PIN_DRV : Nat := 0x4874
def FRONT_MUTE_PIN_CFG : Nat := 0x4878
def FRONT_DUTY : Nat := 0x487C
def FRONT_GTX (i : Nat) : Nat := 0x4880 + 0x4 * i
def FRONT_BYP_COUNT : Nat := 0x4890
def FRONT_WRITE_STATUS : Nat := 0x4894
def FRONT_PA_TBL_SEL : Nat := 0x4898
def FRONT_PA_TBL_DATA : Nat := 0x489C
def LOCK_STATUS : Nat := 0xB040
def LOCK_WR_ITEM : Nat := 0xB044
def LOCK_WR_A : Nat := 0xB048
def LOCK_WR_B : Nat := 0xB04C
def LOCK_WR_CMD : Nat := 0xB050
def LOCK_WR_STATUS : Nat := 0xB054
def LOCK_LOG_SEL : Nat := 0xB058
def LOCK_LOG_DATA (i : Nat) : Nat := 0xB05C + 0x4 * i
def LOCK_REFUSED : Nat := 0xB07C
def SYNC_STAT : Nat := 0x5840
def SYNC_DET_CFG : Nat := 0x5844
def SYNC_TRACK_CFG : Nat := 0x5848
def SYNC_CAND_CFG : Nat := 0x584C
def SYNC_DIV_CFG : Nat := 0x5850
def SYNC_BD_CFG : Nat := 0x5854
def SYNC_NF_CFG : Nat := 0x5858
def SYNC_TDD_IN_CFG : Nat := 0x585C
def SYNC_TDD_IN_HOLD : Nat := 0x5860
def SYNC_PPS_CFG : Nat := 0x5864
def SYNC_PPS_HOLD : Nat := 0x5868
def SYNC_PIN_STAT : Nat := 0x586C
def SYNC_PIN_IGNORED : Nat := 0x5870
def SYNC_TDD_EDGE_LO : Nat := 0x5874
def SYNC_TDD_EDGE_HI : Nat := 0x5878
def SYNC_PPS_EDGE_LO : Nat := 0x587C
def SYNC_PPS_EDGE_HI : Nat := 0x5880
def SYNC_HIT_COUNT : Nat := 0x5884
def SYNC_BURST_COUNT : Nat := 0x5888
def SYNC_REF_ADDR : Nat := 0x588C
def SYNC_REF_DATA : Nat := 0x5890
def SYNC_SLOT_REF_DL (i : Nat) : Nat := 0x58A0 + 0x4 * i
def SYNC_SLOT_REF_UL (i : Nat) : Nat := 0x58C0 + 0x4 * i
def SYNC_SCHED (i : Nat) : Nat := 0x5900 + 0x40 * i
def SYNC_PAT1 (i : Nat) : Nat := 0x5904 + 0x40 * i
def SYNC_PAT2 (i : Nat) : Nat := 0x5908 + 0x40 * i
def SYNC_REF (i : Nat) : Nat := 0x590C + 0x40 * i
def SYNC_UL_ADV (i : Nat) : Nat := 0x5910 + 0x40 * i
def SYNC_FOFF (i : Nat) : Nat := 0x5914 + 0x40 * i
def SYNC_TRK (i : Nat) : Nat := 0x5918 + 0x40 * i
def SYNC_FRAME_LO (i : Nat) : Nat := 0x591C + 0x40 * i
def SYNC_FRAME_HI (i : Nat) : Nat := 0x5920 + 0x40 * i
def SYNC_NF (i : Nat) : Nat := syncSlot i + 0
def SYNC_NF_AGE (i : Nat) : Nat := syncSlot i + 4
def SYNC_BURST (i : Nat) : Nat := syncSlot i + 8
def LICHEN_STAT : Nat := 0x5040
def LICHEN_POLICY : Nat := 0x5044
def LICHEN_DELAYS : Nat := 0x5048
def LICHEN_TIMING : Nat := 0x504C
def LICHEN_CYCLE : Nat := 0x5050
def LICHEN_RX_CFG (i : Nat) : Nat := 0x5054 + 0x4 * i
def LICHEN_FREQ (i : Nat) : Nat := 0x5064 + 0x4 * i
def LICHEN_WAKE_STAT : Nat := 0x5084
def LICHEN_LOOK_STAT : Nat := 0x5088
def LICHEN_WAKE_COUNT : Nat := 0x508C
def LICHEN_SLEEP_COUNT : Nat := 0x5090
def LICHEN_SLEEP_TIME : Nat := 0x5094
def LICHEN_IGNORED : Nat := 0x5098
def BOG_STAT : Nat := 0x9840
def BOG_SCRUB_CFG : Nat := 0x9844
def BOG_SCRUB_STAT : Nat := 0x9848
def BOG_CORR_TOTAL : Nat := 0x984C
def BOG_UNCORR_TOTAL : Nat := 0x9850
def BOG_LAST_UE : Nat := 0x9854
def BOG_CORR_THRESH : Nat := 0x9858
def BOG_CMD : Nat := 0x985C
def BOG_CMD_STATUS : Nat := 0x9860
def BOG_PB_STAT : Nat := 0x9864
def BOG_PB_T0_DL_LO : Nat := 0x9868
def BOG_PB_T0_DL_HI : Nat := 0x986C
def BOG_PB_T0_UL_LO : Nat := 0x9870
def BOG_PB_T0_UL_HI : Nat := 0x9874
def BOG_REG_BASE (i : Nat) : Nat := 0x9900 + 0x40 * i
def BOG_REG_SIZE (i : Nat) : Nat := 0x9904 + 0x40 * i
def BOG_REG_SRC (i : Nat) : Nat := 0x9908 + 0x40 * i
def BOG_REG_GOVS (i : Nat) : Nat := 0x990C + 0x40 * i
def BOG_REG_TRIG (i : Nat) : Nat := 0x9910 + 0x40 * i
def BOG_REG_TRIG_VAL (i : Nat) : Nat := 0x9914 + 0x40 * i
def BOG_REG_RULE (i : Nat) : Nat := 0x9918 + 0x40 * i
def BOG_REG_PRE (i : Nat) : Nat := 0x991C + 0x40 * i
def BOG_REG_POST (i : Nat) : Nat := 0x9920 + 0x40 * i
def BOG_REG_STAT (i : Nat) : Nat := 0x9924 + 0x40 * i
def BOG_REG_WR (i : Nat) : Nat := 0x9928 + 0x40 * i
def BOG_REG_PASS (i : Nat) : Nat := 0x992C + 0x40 * i
def BOG_REG_ERR (i : Nat) : Nat := 0x9930 + 0x40 * i
def BOG_PAT_BASE (i : Nat) : Nat := 0x9B00 + 0x20 * i
def BOG_PAT_SIZE (i : Nat) : Nat := 0x9B04 + 0x20 * i
def BOG_PAT_LEN (i : Nat) : Nat := 0x9B08 + 0x20 * i
def BOG_PAT_CFG (i : Nat) : Nat := 0x9B0C + 0x20 * i
def BOG_PAT_LEVEL (i : Nat) : Nat := 0x9B10 + 0x20 * i
def BOG_PAT_STAT (i : Nat) : Nat := 0x9B14 + 0x20 * i
def BOG_PAT_ERR (i : Nat) : Nat := 0x9B18 + 0x20 * i
def BIX_IDX_CFG : Nat := 0xA040
def BIX_WR_IDX : Nat := 0xA044
def BIX_COUNT : Nat := 0xA048
def BIX_WRAP : Nat := 0xA04C
def BIX_DROPPED : Nat := 0xA050
def BIX_RD_IDX : Nat := 0xA054
def BIX_ENTRY (i : Nat) : Nat := 0xA058 + 0x4 * i
def BIX_CMD : Nat := 0xA078
def BIX_DUMP_STAT : Nat := 0xA07C
def HK_STAT : Nat := 0x9040
def HK_CTRL_A : Nat := 0x9044
def HK_CTRL_B : Nat := 0x9048
def HK_HK_TRIG_CFG : Nat := 0x904C
def HK_HK_TRIG_HOLD : Nat := 0x9050
def HK_CROSS_CFG : Nat := 0x9054
def HK_CROSS_STAT : Nat := 0x9058
def HK_TDAC : Nat := 0x905C
def HK_OVD_CFG : Nat := 0x9060
def HK_OVD_THR (i : Nat) : Nat := 0x9064 + 0x4 * i
def HK_VREF_NOM : Nat := 0x9074
def HK_OVR_COUNT : Nat := 0x9078
def HK_REPEAT_COUNT : Nat := 0x907C
def HK_PASS_TIME : Nat := 0x9080
def HK_TRIG_COUNT : Nat := 0x9084
def HK_SEQ_A (i : Nat) : Nat := 0x9100 + 0x4 * i
def HK_SEQ_B (i : Nat) : Nat := 0x9180 + 0x4 * i
def HK_INJ_A (i : Nat) : Nat := 0x9200 + 0x4 * i
def HK_INJ_B (i : Nat) : Nat := 0x9210 + 0x4 * i
def HK_RES (i : Nat) : Nat := 0x9300 + 0x4 * i
def SUPPLY_STAT : Nat := 0x840
def SUPPLY_VIN : Nat := 0x844
def SUPPLY_VIN_CLR : Nat := 0x848
def SUPPLY_VCORE_MEAS : Nat := 0x84C
def SUPPLY_VCORE_TGT : Nat := 0x850
def SUPPLY_P_IN : Nat := 0x854
def SUPPLY_P_CLR : Nat := 0x858
def SUPPLY_E_START : Nat := 0x85C
def SUPPLY_HOLDUP : Nat := 0x860
def THERM_STAT : Nat := 0x1040
def THERM_TMAX : Nat := 0x1044
def THERM_THR_CFG : Nat := 0x1048
def THERM_THR_CFG2 : Nat := 0x104C
def THERM_REGION_T (i : Nat) : Nat := 0x1050 + 0x4 * i
def THERM_SENSOR (i : Nat) : Nat := 0x1080 + 0x4 * i
def THERM_SHUT_STAT : Nat := 0x1098
def THERM_THR_COUNT : Nat := 0x109C
def THERM_PEAK : Nat := 0x10A0
def THERM_PEAK_CLR : Nat := 0x10A4
def SYS_SRC_SEL : Nat := 0x70
def SYS_SRC_DATA0 : Nat := 0x74
def SYS_SRC_DATA1 : Nat := 0x78
def SYS_UNIT_SEL : Nat := 0x7C
def SYS_UNIT_DATA : Nat := 0x80
def SYS_UNIT_CAUSE : Nat := 0x84
def SYS_UNIT_Q : Nat := 0x88
def PEAT_STAT : Nat := 0xA840
def PEAT_CFG : Nat := 0xA844
def PEAT_INTERVAL : Nat := 0xA848
def PEAT_CMD : Nat := 0xA84C
def PEAT_WINDOW_BASE : Nat := 0xA850
def PEAT_WIN_STAT : Nat := 0xA854
def PEAT_NEXT_SEQ : Nat := 0xA858
def PEAT_WR_SLOT : Nat := 0xA85C
def PEAT_OPSEC : Nat := 0xA860
def PEAT_PCC : Nat := 0xA864
def PEAT_FILL : Nat := 0xA868
def PEAT_HOLD : Nat := 0xA86C
def PEAT_AUDIT : Nat := 0xA870
def PEAT_LOST : Nat := 0xA874
def PEAT_OPEN_TIME : Nat := 0xA878
def TWB_ADDR_CFG : Nat := 0x2040
def TWB_ADDR_NOW : Nat := 0x2044
def TWB_CTRL_CFG : Nat := 0x2048
def TWB_ATTN_STAT : Nat := 0x204C
def TWB_ATTN_SENT : Nat := 0x2050
def TWB_ATTN_DROPS : Nat := 0x2054
def TWB_ARB_LOST : Nat := 0x2058
def TWB_BUS_STAT : Nat := 0x205C
def TWB_CMD : Nat := 0x2060
def TWB_LAST_MSG_LO : Nat := 0x2064
def TWB_LAST_MSG_HI : Nat := 0x2068
def TWB_TARGET_STAT : Nat := 0x206C
def PCIE_LINK_CFG : Nat := 0x2840
def PCIE_LINK_STAT : Nat := 0x2844
def PCIE_IDS : Nat := 0x2848
def PCIE_SUBSYS : Nat := 0x284C
def PCIE_VEC_STAT : Nat := 0x2850
def PCIE_MSG_COUNT : Nat := 0x2854
def PCIE_RD_MIB : Nat := 0x2858
def PCIE_WR_MIB : Nat := 0x285C
def PCIE_AER_COUNT : Nat := 0x2860

end Sys2Proof.Machine.Reg
end

