-- ==== Sys2Proof/Machine/Sources.lean ====
section
/-! DEFINITION. The sources of the 24 blocks and the units they fence, as the source tables of the chapters give them (R30, R56, R104,
R124, R126, R128, R154, R175, R199, R226, R248, R250, R267, R279, R309, R311, R329, R349, R351, R353, R354, R382, R399, R410),
and the sources that injection reaches (R450). -/

namespace Sys2Proof.Machine

/-- Sources of block b (R353). -/
def sourceCount (b : Nat) : Nat :=
  [16, 20, 24, 12, 14, 16, 18, 24, 24, 24, 12, 20, 32, 32, 24, 32, 32, 24, 24, 24, 8, 16, 14, 26].getD b 0

/-- Units of block b (R354). -/
def unitCount (b : Nat) : Nat :=
  [0, 2, 7, 0, 1, 1, 3, 4, 4, 8, 4, 2, 18, 18, 36, 17, 17, 197, 3, 32, 1, 1, 0, 12].getD b 0

/-- Is event ID e one of the 512 that the device raises (R353)? -/
def knownEvent (e : Nat) : Bool := decide (e / 32 < 24) && decide (e % 32 < sourceCount (e / 32))

/-- The units that an event of source `s` of block `b` can name: inclusive ranges, [] where the source names none. -/
def sourceUnits (b s : Nat) : List (Nat × Nat) :=
  match b with
  | 1 => if s = 11 then [(0, 0)] else if s = 12 then [(1, 1)] else []
  | 2 => if s < 12 then [(s % 6, s % 6)] else if s = 22 then [(6, 6)] else []
  | 4 => if s = 5 ∨ s = 13 then [(0, 0)] else []
  | 5 => if s = 4 ∨ s = 13 ∨ s = 14 then [(0, 0)] else []
  | 6 => if s < 6 then [(s % 3, s % 3)] else if s = 9 ∨ s = 10 then [(0, 0)] else if s = 14 then [(1, 1)]
         else if s = 15 then [(2, 2)] else []
  | 7 => if 8 ≤ s then [(s % 4, s % 4)] else []
  | 8 => if 4 ≤ s then [(s % 4, s % 4)] else []
  | 9 => if 4 ≤ s ∧ s < 16 then [(s % 4, s % 4)] else if s = 16 then [(4, 7)] else if s = 22 then [(0, 3)] else []
  | 10 => if s < 4 then [(s, s)] else []
  | 11 => if s = 18 ∨ s = 19 then [(s - 18, s - 18)] else []
  | 12 | 13 => if s = 22 ∨ s = 23 ∨ s = 29 ∨ s = 30 ∨ s = 31 then [(0, 16)] else if s = 28 then [(17, 17)] else []
  | 14 => if s = 14 ∨ s = 16 then [(0, 16)] else if s = 15 ∨ s = 17 then [(17, 33)]
          else if s = 18 ∨ s = 19 then [(s + 16, s + 16)] else []
  | 15 | 16 => if s < 16 then [(s, s)] else if s ≤ 20 then [(16, 16)] else if s = 22 ∨ s = 23 then [(0, 15)] else []
  | 17 => if s = 16 then [(0, 191)] else if s = 17 ∨ s = 18 then [(192, 192)]
          else if 19 ≤ s ∧ s ≤ 22 then [(s + 174, s + 174)] else []
  | 18 => if 8 ≤ s ∧ s ≤ 11 then [(s % 2, s % 2)] else if s = 13 then [(0, 0)] else if s = 14 then [(1, 1)]
          else if s = 21 then [(0, 1)] else if s = 22 then [(2, 2)] else []
  | 19 => if s < 16 then [(s % 8, s % 8)] else if s = 23 then [(8, 31)] else []
  | 20 => if s = 7 then [(0, 0)] else []
  | 21 => if s = 0 ∨ s = 14 then [(0, 0)] else []
  | 23 => if s < 8 then [(s, s)] else if 10 ≤ s ∧ s ≤ 13 then [(8, 8)] else if 14 ≤ s ∧ s ≤ 17 then [(9, 9)]
          else if s = 18 ∨ s = 19 then [(s - 8, s - 8)] else if s = 20 then [(8, 9)] else if s = 21 then [(8, 8)]
          else if s = 22 then [(9, 9)] else if s = 24 then [(0, 7)] else []
  | _ => []

/-- The unit that an event of source s of block b names: fixed by the source, or the operand where the table gives several;
an operand outside the table's units is taken as the first of them. -/
def namedUnit (b s : Nat) (u : Option Nat) : Option Nat :=
  match sourceUnits b s with
  | [] => none
  | (lo, hi) :: t =>
    match u with
    | some n => if ((lo, hi) :: t).any (fun r => decide (r.1 ≤ n) && decide (n ≤ r.2)) then some n else some lo
    | none => some lo

/-- Does injection reach source s of block b (R450)? -/
def injCap (b s : Nat) : Bool :=
  match b with
  | 0 => s = 14
  | 1 => s = 18 ∨ s = 19
  | 2 => s = 22 ∨ s = 23
  | 4 => s = 13
  | 5 => s = 13 ∨ s = 14
  | 6 => s = 16
  | 7 => 16 ≤ s ∧ s ≤ 19
  | 8 => 12 ≤ s ∧ s ≤ 15
  | 9 => s = 22
  | 10 => s = 11
  | 11 => s = 18 ∨ s = 19
  | 12 | 13 => s = 23 ∨ s = 28
  | 14 => (14 ≤ s ∧ s ≤ 17) ∨ s = 20
  | 15 | 16 => s = 22
  | 17 => s = 16 ∨ s = 17 ∨ (19 ≤ s ∧ s ≤ 22)
  | 18 => s = 10 ∨ s = 11 ∨ s = 21
  | 19 => s < 8 ∨ s = 23
  | 20 => s = 3 ∨ s = 7
  | 21 => s = 1 ∨ s = 14
  | 22 => s = 7 ∨ s = 8
  | 23 => (10 ≤ s ∧ s ≤ 19) ∨ (21 ≤ s ∧ s ≤ 24)
  | _ => false

/-- The injectable sources whose next check is the next tick boundary (R450). -/
def tickChecked (b s : Nat) : Bool :=
  match b with
  | 0 => s = 14
  | 1 => s = 18 ∨ s = 19
  | 2 => s = 22 ∨ s = 23
  | 17 => s = 17
  | 19 => s = 23
  | 21 => s = 14
  | _ => false

end Sys2Proof.Machine
end

