-- ==== Sys2Proof/Machine/NMap.lean ====
section
/-! DEFINITION. A store keyed by natural numbers: a list of (key, value) pairs in ONE canonical form, keys strictly rising
and no entry equal to what an unlisted key reads as (the store's default function). Registers, memories and tables are such
stores, so equal contents are equal data. -/

namespace Sys2Proof.Machine

abbrev NMap (α : Type) := List (Nat × α)

namespace NMap

variable {α : Type}

/-- What key k reads as; `d` gives the value of an unlisted key. -/
def get (d : Nat → α) (m : NMap α) (k : Nat) : α :=
  match m with
  | [] => d k
  | (j, v) :: t => if j = k then v else get d t k

/-- Remove key k, wherever it stands. -/
def del (m : NMap α) (k : Nat) : NMap α :=
  match m with
  | [] => []
  | (j, v) :: t => if j = k then del t k else (j, v) :: del t k

/-- Put v at key k, in order of keys. -/
def ins (m : NMap α) (k : Nat) (v : α) : NMap α :=
  match m with
  | [] => [(k, v)]
  | (j, w) :: t => if k < j then (k, v) :: (j, w) :: t else if j = k then (k, v) :: t else (j, w) :: ins t k v

/-- Write v at key k, keeping the canonical form: the value an unlisted key reads as is not listed. -/
def put [DecidableEq α] (d : Nat → α) (m : NMap α) (k : Nat) (v : α) : NMap α :=
  if v = d k then del m k else ins m k v

/-- Every listed value changed by f; a value that becomes the default is unlisted. -/
def mapVal [DecidableEq α] (d : Nat → α) (m : NMap α) (f : Nat → α → α) : NMap α :=
  match m with
  | [] => []
  | (j, w) :: t => if f j w = d j then del (mapVal d t f) j else (j, f j w) :: mapVal d t f

/-- Keys strictly rising, all above `lo` where it is given. -/
def rising : Option Nat → NMap α → Bool
  | _, [] => true
  | none, (k, _) :: t => rising (some k) t
  | some lo, (k, _) :: t => decide (lo < k) && rising (some k) t

/-- The canonical form. -/
def wf [DecidableEq α] (d : Nat → α) (m : NMap α) : Bool := rising none m && m.all (fun p => decide (p.2 ≠ d p.1))

end NMap

end Sys2Proof.Machine
end

