-- ==== Sys2Proof/Machine/Numeric.lean ====
section
/-! DEFINITION. The number formats of the manual: round half to even (R130, R202), saturation, Q16.16, decibels over the reals
(log entry 4) and IEEE 754 binary64 for the profile generator (R183). -/

namespace Sys2Proof.Machine

/-- Round half to even of `n / d`, d > 0 (round_he of R130 and R202). -/
def rneDiv (n : Int) (d : Nat) : Int :=
  let q := n / (d : Int)
  let r := n % (d : Int)
  if 2 * r < d then q else if 2 * r > d then q + 1 else if q % 2 = 0 then q else q + 1

/-- x brought into lo..hi. -/
def clampI (lo hi x : Int) : Int := if x < lo then lo else if hi < x then hi else x

/-- x brought into lo..hi, natural numbers ("other values act as the nearer limit"). -/
def clampN (lo hi x : Nat) : Nat := if x < lo then lo else if hi < x then hi else x

/-- Saturation to the signed 32-bit range (R202). -/
def sat32 (x : Int) : Int := clampI (-2147483648) 2147483647 x

/-- Saturation to the signed 16-bit range. -/
def sat16 (x : Int) : Int := clampI (-32768) 32767 x

/-- Saturating count: n is never carried past `top`. -/
def satAdd (top n k : Nat) : Nat := if n + k < top then n + k else top

/-- Two's-complement value of the low w bits of n. -/
def signedOf (w n : Nat) : Int :=
  let m := n % 2 ^ w
  if m < 2 ^ (w - 1) then (m : Int) else (m : Int) - (2 ^ w : Nat)

/-- The low w bits of an integer in two's complement. -/
def bitsOf (w : Nat) (x : Int) : Nat := (x % ((2 ^ w : Nat) : Int)).toNat

/-- Number of ones of the low w bits. -/
def popcount : Nat → Nat → Nat
  | 0, _ => 0
  | w + 1, n => (n % 2) + popcount w (n / 2)

/-- Integer square root by bits: the greatest r of at most `k` bits with r * r ≤ n. -/
def isqrtAux : Nat → Nat → Nat → Nat
  | 0, _, r => r
  | k + 1, n, r => let r' := r + 2 ^ k; isqrtAux k n (if r' * r' ≤ n then r' else r)

/-- Integer square root. -/
def isqrt (n : Nat) : Nat := isqrtAux (n.log2 / 2 + 1) n 0

/-! ### Logarithm and exponential in fixed point

The manual gives its decibel formulas over the reals. The model evaluates them with 48 fraction bits and rounds the result to
the format of the place that uses it (log entry 4). -/

/-- Bits of log2 of m (m in units of 2^-64, 1 ≤ m < 2), k of them, by repeated squaring. -/
def log2Bits : Nat → Nat → Nat → Nat
  | 0, _, acc => acc
  | k + 1, m, acc =>
    let m2 := m * m / 2 ^ 64
    if m2 < 2 ^ 65 then log2Bits k m2 (2 * acc) else log2Bits k (m2 / 2) (2 * acc + 1)

/-- log2 (n / d) in units of 2^-48, for n, d > 0. -/
def log2Fix (n d : Nat) : Int :=
  let e : Int := (n.log2 : Int) - (d.log2 : Int) - 1
  -- n / d = x * 2^e with 1 ≤ x < 4
  let x : Nat := if e < 0 then n * 2 ^ ((-e).toNat) * 2 ^ 64 / d else n * 2 ^ 64 / (d * 2 ^ e.toNat)
  let e' : Int := if x < 2 ^ 65 then e else e + 1
  let m := if x < 2 ^ 65 then x else x / 2
  e' * (2 ^ 48 : Nat) + (log2Bits 48 m 0 : Nat)

/-- 2^(2^-i) for i = 1, 2, … in units of 2^-64: successive square roots of 2. -/
def expRoots : Nat → Nat → List Nat
  | 0, _ => []
  | k + 1, c => let r := isqrt (c * 2 ^ 64); r :: expRoots k r

/-- Product of the roots selected by the fraction bits of f (48 of them, most significant first). -/
def exp2Mant : List Nat → Nat → Nat → Nat → Nat
  | [], _, _, acc => acc
  | r :: rs, k, f, acc =>
    exp2Mant rs (k - 1) f (if (f / 2 ^ (k - 1)) % 2 = 1 then acc * r / 2 ^ 64 else acc)

/-- 2^y for y in units of 2^-48, as a natural number in units of 2^-128 (0 when below that unit). -/
def exp2Fix (y : Int) : Nat :=
  let f := (y % ((2 ^ 48 : Nat) : Int)).toNat
  let e := y / ((2 ^ 48 : Nat) : Int)
  let m := exp2Mant (expRoots 48 (2 ^ 65)) 48 f (2 ^ 64)   -- units of 2^-64
  let s : Int := e + 64
  if s < 0 then m / 2 ^ (-s).toNat else m * 2 ^ s.toNat

/-- One in the linear unit of 2^-128. -/
def linOne : Nat := 2 ^ 128

/-- 10·log10 (n / d) in Q16.16 dB, for n, d > 0. -/
def dbOfRatio (n d : Nat) : Int :=
  rneDiv (log2Fix n d * 3010299956639811952137) (2 ^ 32 * 10 ^ 21)

/-- 10·log10 of a linear power in units of 2^-128, in Q16.16 dB; the floor of −200 dB of R149 stands for zero power. -/
def dbOfLin (p : Nat) : Int := if p = 0 then -13107200 else dbOfRatio p linOne

/-- 10^(x/10) for x in Q16.16 dB, in units of 2^-128. -/
def linOfDb (x : Int) : Nat := exp2Fix (rneDiv (x * 2 ^ 32 * 332192809488736234787) (10 ^ 21))

/-- A value in 0.01 dB as Q16.16 dB. -/
def qOfCenti (c : Int) : Int := rneDiv (c * 65536) 100

/-- A value in Q16.16 dB rounded half to even to 0.01 dB. -/
def centiOfQ (q : Int) : Int := rneDiv (q * 100) 65536

/-! ### IEEE 754 binary64 (R183)

A value is m · 2^e with |m| below 2^53; the exponent is not bounded, since the profile's values stay far inside the format's
range (log entry 5). -/

structure F64 where
  m : Int
  e : Int
  deriving DecidableEq, Repr

namespace F64

/-- Round m · 2^e to 53 significant bits, half to even. -/
def norm (m e : Int) : F64 :=
  if m = 0 then ⟨0, 0⟩ else
    let l := m.natAbs.log2
    if l < 53 then
      let k := 52 - l
      ⟨m * (2 ^ k : Nat), e - k⟩
    else
      let k := l - 52
      let q := rneDiv m (2 ^ k)
      if q.natAbs < 2 ^ 53 then ⟨q, e + k⟩ else ⟨q / 2, e + k + 1⟩

/-- The nearest binary64 to n / d, d > 0 (correctly rounded: 80 quotient bits with a sticky bit). -/
def ofRatio (n : Int) (d : Nat) : F64 :=
  if n = 0 then ⟨0, 0⟩ else
    let s : Nat := 120 + d.log2
    let num := n.natAbs * 2 ^ s
    let q := num / d
    let sticky := if num % d = 0 then 0 else 1
    let mag : Int := ((2 * q + sticky : Nat) : Int)
    norm (if n < 0 then -mag else mag) (-(s : Int) - 1)

def zero : F64 := ⟨0, 0⟩

/-- Both operands brought to the smaller exponent. -/
def align (x y : F64) : Int × Int × Int :=
  if x.e ≤ y.e then (x.m, y.m * (2 ^ (y.e - x.e).toNat : Nat), x.e)
  else (x.m * (2 ^ (x.e - y.e).toNat : Nat), y.m, y.e)

def add (x y : F64) : F64 := let (a, b, e) := align x y; norm (a + b) e
def neg (x : F64) : F64 := ⟨-x.m, x.e⟩
def sub (x y : F64) : F64 := add x (neg y)
def mul (x y : F64) : F64 := norm (x.m * y.m) (x.e + y.e)
def abs (x : F64) : F64 := ⟨x.m.natAbs, x.e⟩
def le (x y : F64) : Bool := let (a, b, _) := align x y; decide (a ≤ b)
def lt (x y : F64) : Bool := let (a, b, _) := align x y; decide (a < b)
def sign (x : F64) : Int := if x.m < 0 then -1 else if x.m = 0 then 0 else 1

/-- x / y, y ≠ 0, correctly rounded. -/
def div (x y : F64) : F64 :=
  let q := ofRatio (if y.m < 0 then -x.m else x.m) y.m.natAbs
  if q.m = 0 then zero else ⟨q.m, q.e + x.e - y.e⟩

def clamp (lo hi x : F64) : F64 := if lt x lo then lo else if lt hi x then hi else x
def min (x y : F64) : F64 := if le x y then x else y

/-- x · 2^16 rounded half to even: the Q16.16 value that f_in and f_acc take (R183). -/
def toQ16 (x : F64) : Int :=
  let e := x.e + 16
  if 0 ≤ e then x.m * (2 ^ e.toNat : Nat) else rneDiv x.m (2 ^ (-e).toNat)

/-- A Q16.16 value as binary64, exactly. -/
def ofQ16 (q : Int) : F64 := norm q (-16)

/-- A value in 0.01 units as binary64. -/
def ofCenti (c : Int) : F64 := ofRatio c 100

end F64

end Sys2Proof.Machine
end

