-- ==== Sys2Proof/Machine/RegTable.lean ====
section
/-! DEFINITION. The register tables of the manual (R55, R103, R123, R125, R127, R153, R174, R197, R225, R247, R249, R266, R278,
R308, R310, R328, R348, R350, R367, R381, R398, R409, R29) as one list per block: window offset, count and stride of an
indexed register, access type, reset value, the bits that are not reserved (R10), and whether the Reset column reads "image"
(R99). The common block header is in Header rows of its own (R366). -/

namespace Sys2Proof.Machine

/-- Access types (R9). -/
inductive Access where
  | rw | ro | w1c | wo
  deriving DecidableEq, Repr

/-- One row of a register table. -/
structure RegRow where
  off : Nat
  count : Nat
  stride : Nat
  acc : Access
  reset : Nat
  mask : Nat
  image : Bool
  deriving DecidableEq, Repr

/-- The common block header (R366), the same in every window. -/
def headerRows : List RegRow := [
  ⟨0x00, 1, 0, .ro, 0, 0xFFFFFFFF, false⟩,
  ⟨0x04, 1, 0, .ro, 0, 0xFFFFFFFF, false⟩,
  ⟨0x08, 1, 0, .w1c, 0, 0xFFFFFFFF, false⟩,
  ⟨0x0C, 1, 0, .w1c, 0, 0xFFFFFFFF, false⟩,
  ⟨0x10, 1, 0, .rw, 0x00000000, 0xFFFFFFFF, true⟩,
  ⟨0x14, 1, 0, .wo, 0, 0xFFFFFFFF, false⟩,
  ⟨0x18, 1, 0, .rw, 0x03E80003, 0xFFFF00FF, true⟩,
  ⟨0x1C, 1, 0, .rw, 0x00002710, 0xFFFFFFFF, true⟩,
  ⟨0x20, 4, 4, .ro, 0, 0xFFFFFFFF, false⟩,
  ⟨0x30, 1, 0, .rw, 0x00000003, 0x0000000F, true⟩,
  ⟨0x34, 1, 0, .ro, 0, 0xFFFFFFFF, false⟩]

/-- SYS (R55). -/
def sysRows : List RegRow := [
  ⟨0x040, 1, 0x0, .ro, 0x00000222, 0xFFFFFFFF, false⟩, -- STATE
  ⟨0x044, 1, 0x0, .wo, 0x00000000, 0xFFFFFFFF, false⟩, -- REQUEST
  ⟨0x048, 1, 0x0, .ro, 0x00000000, 0xFFFFFFFF, false⟩, -- REQ_STATUS
  ⟨0x04C, 1, 0x0, .rw, 0x00000000, 0x00000001, true⟩, -- SERVICE_EN
  ⟨0x050, 1, 0x0, .ro, 0x00000000, 0xFFFFFFFF, false⟩, -- REFUSE_CODE
  ⟨0x054, 1, 0x0, .ro, 0x00000000, 0xFFFFFFFF, false⟩, -- SLOT_MUTED
  ⟨0x058, 1, 0x0, .ro, 0x00000000, 0xFFFFFFFF, false⟩, -- RESTRICT
  ⟨0x05C, 1, 0x0, .rw, 0x00640002, 0xFFFF000F, true⟩, -- WAKE_CTRL
  ⟨0x060, 1, 0x0, .ro, 0x00000000, 0xFFFFFFFF, false⟩, -- LAST_TRANSITION
  ⟨0x064, 1, 0x0, .ro, 0x00000000, 0xFFFFFFFF, false⟩, -- TRANSITION_COUNT
  ⟨0x068, 1, 0x0, .ro, 0x00000000, 0xFFFFFFFF, false⟩, -- DEVTIME_LO
  ⟨0x06C, 1, 0x0, .ro, 0x00000000, 0xFFFFFFFF, false⟩, -- DEVTIME_HI
  ⟨0x070, 1, 0x0, .rw, 0x00000000, 0x000003FF, false⟩, -- SRC_SEL
  ⟨0x074, 1, 0x0, .ro, 0x00000000, 0xFFFFFFFF, false⟩, -- SRC_DATA0
  ⟨0x078, 1, 0x0, .ro, 0x00000000, 0xFFFFFFFF, false⟩, -- SRC_DATA1
  ⟨0x07C, 1, 0x0, .rw, 0x00000000, 0x0000FF1F, false⟩, -- UNIT_SEL
  ⟨0x080, 1, 0x0, .ro, 0x00000000, 0xFFFFFFFF, false⟩, -- UNIT_DATA
  ⟨0x084, 1, 0x0, .ro, 0x00000000, 0xFFFFFFFF, false⟩, -- UNIT_CAUSE
  ⟨0x088, 1, 0x0, .ro, 0x00000000, 0xFFFFFFFF, false⟩] -- UNIT_Q

/-- SUPPLY (R348). -/
def supplyRows : List RegRow := [
  ⟨0x040, 1, 0x0, .ro, 0x00000000, 0xFFFFFFFF, false⟩, -- STAT
  ⟨0x044, 1, 0x0, .ro, 0x00000000, 0xFFFFFFFF, false⟩, -- VIN
  ⟨0x048, 1, 0x0, .wo, 0x00000000, 0xFFFFFFFF, false⟩, -- VIN_CLR
  ⟨0x04C, 1, 0x0, .ro, 0x00000000, 0xFFFFFFFF, false⟩, -- VCORE_MEAS
  ⟨0x050, 1, 0x0, .rw, 0x00000018, 0x0000007F, true⟩, -- VCORE_TGT
  ⟨0x054, 1, 0x0, .ro, 0x00000000, 0xFFFFFFFF, false⟩, -- P_IN
  ⟨0x058, 1, 0x0, .wo, 0x00000000, 0xFFFFFFFF, false⟩, -- P_CLR
  ⟨0x05C, 1, 0x0, .ro, 0x00000000, 0xFFFFFFFF, false⟩, -- E_START
  ⟨0x060, 1, 0x0, .ro, 0x00000000, 0xFFFFFFFF, false⟩] -- HOLDUP

/-- THERM (R350). -/
def thermRows : List RegRow := [
  ⟨0x040, 1, 0x0, .ro, 0x00000000, 0xFFFFFFFF, false⟩, -- STAT
  ⟨0x044, 1, 0x0, .ro, 0x00000000, 0xFFFFFFFF, false⟩, -- TMAX
  ⟨0x048, 1, 0x0, .rw, 0x01020376, 0xFFFF0FFF, true⟩, -- THR_CFG
  ⟨0x04C, 1, 0x0, .rw, 0x050A07D0, 0xFFFFFFFF, true⟩, -- THR_CFG2
  ⟨0x050, 12, 0x4, .ro, 0x00000000, 0xFFFFFFFF, false⟩, -- REGION_T_0–11
  ⟨0x080, 6, 0x4, .ro, 0x00000000, 0xFFFFFFFF, false⟩, -- SENSOR_0–5
  ⟨0x098, 1, 0x0, .ro, 0x00000000, 0xFFFFFFFF, false⟩, -- SHUT_STAT
  ⟨0x09C, 1, 0x0, .ro, 0x00000000, 0xFFFFFFFF, false⟩, -- THR_COUNT
  ⟨0x0A0, 1, 0x0, .ro, 0x00000000, 0xFFFFFFFF, false⟩, -- PEAK
  ⟨0x0A4, 1, 0x0, .wo, 0x00000000, 0xFFFFFFFF, false⟩] -- PEAK_CLR

/-- CFG (R103). -/
def cfgRows : List RegRow := [
  ⟨0x040, 1, 0x0, .ro, 0x00000000, 0xFFFFFFFF, false⟩, -- FLASH_INFO
  ⟨0x044, 1, 0x0, .ro, 0x00000000, 0xFFFFFFFF, false⟩, -- SLOTB_BASE
  ⟨0x048, 1, 0x0, .ro, 0x00000000, 0xFFFFFFFF, false⟩, -- CONFIG_LEN
  ⟨0x04C, 1, 0x0, .ro, 0x00000000, 0xFFFFFFFF, false⟩, -- IMAGE_LEN
  ⟨0x050, 1, 0x0, .ro, 0x00000000, 0xFFFFFFFF, false⟩, -- RELEASE
  ⟨0x054, 1, 0x0, .ro, 0x00000000, 0xFFFFFFFF, false⟩, -- FAIL_OFFSET
  ⟨0x058, 1, 0x0, .ro, 0x00000000, 0xFFFFFFFF, false⟩, -- SKIPPED
  ⟨0x05C, 1, 0x0, .ro, 0x00000000, 0xFFFFFFFF, false⟩, -- PRELOAD
  ⟨0x060, 1, 0x0, .ro, 0x00000000, 0xFFFFFFFF, false⟩, -- CHECK_STATUS
  ⟨0x064, 1, 0x0, .ro, 0x00000000, 0xFFFFFFFF, false⟩, -- CHECK_TIME
  ⟨0x068, 8, 0x4, .ro, 0x00000000, 0xFFFFFFFF, false⟩] -- CHECK_DIGEST0–7

/-- TWB (R398). -/
def twbRows : List RegRow := [
  ⟨0x040, 1, 0x0, .rw, 0x00000048, 0x00007F78, true⟩, -- ADDR_CFG
  ⟨0x044, 1, 0x0, .ro, 0x00000000, 0xFFFFFFFF, false⟩, -- ADDR_NOW
  ⟨0x048, 1, 0x0, .rw, 0x00000001, 0x00000003, true⟩, -- CTRL_CFG
  ⟨0x04C, 1, 0x0, .ro, 0x00000000, 0xFFFFFFFF, false⟩, -- ATTN_STAT
  ⟨0x050, 1, 0x0, .ro, 0x00000000, 0xFFFFFFFF, false⟩, -- ATTN_SENT
  ⟨0x054, 1, 0x0, .ro, 0x00000000, 0xFFFFFFFF, false⟩, -- ATTN_DROPS
  ⟨0x058, 1, 0x0, .ro, 0x00000000, 0xFFFFFFFF, false⟩, -- ARB_LOST
  ⟨0x05C, 1, 0x0, .ro, 0x00000000, 0xFFFFFFFF, false⟩, -- BUS_STAT
  ⟨0x060, 1, 0x0, .wo, 0x00000000, 0xFFFFFFFF, false⟩, -- CMD
  ⟨0x064, 1, 0x0, .ro, 0x00000000, 0xFFFFFFFF, false⟩, -- LAST_MSG_LO
  ⟨0x068, 1, 0x0, .ro, 0x00000000, 0xFFFFFFFF, false⟩, -- LAST_MSG_HI
  ⟨0x06C, 1, 0x0, .ro, 0x00000000, 0xFFFFFFFF, false⟩] -- TARGET_STAT

/-- PCIE (R409). -/
def pcieRows : List RegRow := [
  ⟨0x040, 1, 0x0, .rw, 0x00000014, 0x0000011F, true⟩, -- LINK_CFG
  ⟨0x044, 1, 0x0, .ro, 0x00000000, 0xFFFFFFFF, false⟩, -- LINK_STAT
  ⟨0x048, 1, 0x0, .ro, 0x46801F5C, 0xFFFFFFFF, false⟩, -- IDS
  ⟨0x04C, 1, 0x0, .rw, 0x46801F5C, 0xFFFFFFFF, true⟩, -- SUBSYS
  ⟨0x050, 1, 0x0, .ro, 0x00000000, 0xFFFFFFFF, false⟩, -- VEC_STAT
  ⟨0x054, 1, 0x0, .ro, 0x00000000, 0xFFFFFFFF, false⟩, -- MSG_COUNT
  ⟨0x058, 1, 0x0, .ro, 0x00000000, 0xFFFFFFFF, false⟩, -- RD_MIB
  ⟨0x05C, 1, 0x0, .ro, 0x00000000, 0xFFFFFFFF, false⟩, -- WR_MIB
  ⟨0x060, 1, 0x0, .ro, 0x00000000, 0xFFFFFFFF, false⟩] -- AER_COUNT

/-- SYN (R123). -/
def synRows : List RegRow := [
  ⟨0x040, 1, 0x0, .rw, 0x00000001, 0x00000003, true⟩, -- REF_SEL
  ⟨0x044, 1, 0x0, .ro, 0x00000000, 0xFFFFFFFF, false⟩, -- STATUS
  ⟨0x048, 1, 0x0, .rw, 0x00000000, 0x007FFFFF, true⟩, -- LOD_FREQ
  ⟨0x04C, 1, 0x0, .rw, 0x00000000, 0x0000000F, true⟩, -- LOD_CTRL
  ⟨0x050, 1, 0x0, .rw, 0x00000000, 0x007FFFFF, true⟩, -- LOU_FREQ
  ⟨0x054, 1, 0x0, .rw, 0x00000000, 0x0000000F, true⟩, -- LOU_CTRL
  ⟨0x058, 1, 0x0, .ro, 0x00000000, 0xFFFFFFFF, false⟩, -- WRITE_STATUS
  ⟨0x05C, 1, 0x0, .ro, 0x00000000, 0xFFFFFFFF, false⟩, -- PLAN_D
  ⟨0x060, 1, 0x0, .ro, 0x00000000, 0xFFFFFFFF, false⟩, -- PLAN_U
  ⟨0x064, 1, 0x0, .ro, 0x00000000, 0xFFFFFFFF, false⟩, -- LOCK_TIME
  ⟨0x068, 1, 0x0, .ro, 0x00000000, 0xFFFFFFFF, false⟩, -- CACHE_STAT
  ⟨0x06C, 1, 0x0, .wo, 0x00000000, 0xFFFFFFFF, false⟩] -- CACHE_CLR

/-- RXC (R125). -/
def rxcRows : List RegRow := [
  ⟨0x040, 1, 0x0, .ro, 0x00000000, 0xFFFFFFFF, false⟩, -- STATUS
  ⟨0x044, 1, 0x0, .rw, 0x00001C00, 0x00003FFF, true⟩, -- NEAR_THRESH
  ⟨0x048, 4, 0x4, .ro, 0x00000000, 0xFFFFFFFF, false⟩, -- OVR_EPISODES_0–3
  ⟨0x058, 4, 0x4, .ro, 0x00000000, 0xFFFFFFFF, false⟩, -- OVR_SAMPLES_0–3
  ⟨0x068, 4, 0x4, .ro, 0x00000000, 0xFFFFFFFF, false⟩, -- PEAK_0–3
  ⟨0x078, 1, 0x0, .wo, 0x00000000, 0xFFFFFFFF, false⟩, -- PEAK_CLR
  ⟨0x07C, 1, 0x0, .ro, 0x00000018, 0xFFFFFFFF, false⟩] -- LATENCY

/-- TXC (R127). -/
def txcRows : List RegRow := [
  ⟨0x040, 1, 0x0, .ro, 0x00000000, 0xFFFFFFFF, false⟩, -- STATUS
  ⟨0x044, 4, 0x4, .ro, 0x00000000, 0xFFFFFFFF, false⟩, -- CLIP_COUNT_0–3
  ⟨0x054, 1, 0x0, .rw, 0x00000064, 0x0000FFFF, true⟩, -- CLIP_THRESH
  ⟨0x058, 1, 0x0, .ro, 0x00000012, 0xFFFFFFFF, false⟩] -- LATENCY

/-- FRONT (R247). -/
def frontRows : List RegRow := [
  ⟨0x040, 1, 0x0, .ro, 0x00000000, 0xFFFFFFFF, false⟩, -- FE_STAT
  ⟨0x044, 1, 0x0, .rw, 0x06405032, 0x3FFFFFFF, true⟩, -- PA_SEQ_ON
  ⟨0x048, 1, 0x0, .rw, 0x00002814, 0x000FFFFF, true⟩, -- PA_SEQ_OFF
  ⟨0x04C, 4, 0x4, .rw, 0x00000001, 0x00000007, true⟩, -- LANE_CFG_0–3
  ⟨0x05C, 4, 0x4, .rw, 0x640107D0, 0xFF01FFFF, true⟩, -- LNA_CFG_0–3
  ⟨0x06C, 1, 0x0, .rw, 0x00000A0A, 0x0000FFFF, true⟩, -- TR_TIMING
  ⟨0x070, 1, 0x0, .rw, 0x00000000, 0x03FFFFFF, true⟩, -- PIN_POL
  ⟨0x074, 1, 0x0, .rw, 0x00000000, 0x03FFFFFF, true⟩, -- PIN_DRV
  ⟨0x078, 1, 0x0, .rw, 0x00000000, 0x00000001, true⟩, -- MUTE_PIN_CFG
  ⟨0x07C, 1, 0x0, .ro, 0x00000000, 0xFFFFFFFF, false⟩, -- DUTY
  ⟨0x080, 4, 0x4, .ro, 0x00000000, 0xFFFFFFFF, false⟩, -- GTX_0–3
  ⟨0x090, 1, 0x0, .ro, 0x00000000, 0xFFFFFFFF, false⟩, -- BYP_COUNT
  ⟨0x094, 1, 0x0, .ro, 0x00000000, 0xFFFFFFFF, false⟩, -- WRITE_STATUS
  ⟨0x098, 1, 0x0, .rw, 0x00000000, 0x0000007F, false⟩, -- PA_TBL_SEL
  ⟨0x09C, 1, 0x0, .rw, 0x00000000, 0xFFFFFFFF, false⟩] -- PA_TBL_DATA

/-- LICHEN (R278). -/
def lichenRows : List RegRow := [
  ⟨0x040, 1, 0x0, .ro, 0x00000000, 0xFFFFFFFF, false⟩, -- STAT
  ⟨0x044, 1, 0x0, .rw, 0x00000A00, 0x0000FF07, true⟩, -- POLICY
  ⟨0x048, 1, 0x0, .rw, 0x0258003C, 0xFFFFFFFF, true⟩, -- DELAYS
  ⟨0x04C, 1, 0x0, .rw, 0x003C0064, 0xFFFFFFFF, true⟩, -- TIMING
  ⟨0x050, 1, 0x0, .rw, 0x008603E8, 0x00FFFFFF, true⟩, -- CYCLE
  ⟨0x054, 4, 0x4, .rw, 0x00000000, 0x00FFFF07, true⟩, -- RX_CFG_0–3
  ⟨0x064, 8, 0x4, .rw, 0x00000000, 0x007FFFFF, true⟩, -- FREQ_0–7
  ⟨0x084, 1, 0x0, .ro, 0x00000000, 0xFFFFFFFF, false⟩, -- WAKE_STAT
  ⟨0x088, 1, 0x0, .ro, 0x00000000, 0xFFFFFFFF, false⟩, -- LOOK_STAT
  ⟨0x08C, 1, 0x0, .ro, 0x00000000, 0xFFFFFFFF, false⟩, -- WAKE_COUNT
  ⟨0x090, 1, 0x0, .ro, 0x00000000, 0xFFFFFFFF, false⟩, -- SLEEP_COUNT
  ⟨0x094, 1, 0x0, .ro, 0x00000000, 0xFFFFFFFF, false⟩, -- SLEEP_TIME
  ⟨0x098, 1, 0x0, .ro, 0x00000000, 0xFFFFFFFF, false⟩] -- IGNORED

/-- SYNC (R266). -/
def syncRows : List RegRow := [
  ⟨0x040, 1, 0x0, .ro, 0x00000000, 0xFFFFFFFF, false⟩, -- STAT
  ⟨0x044, 1, 0x0, .rw, 0x00101999, 0x00FFFFFF, true⟩, -- DET_CFG
  ⟨0x048, 1, 0x0, .rw, 0x10430020, 0xFFFF00FF, true⟩, -- TRACK_CFG
  ⟨0x04C, 1, 0x0, .rw, 0x00080258, 0x00FFFFFF, true⟩, -- CAND_CFG
  ⟨0x050, 1, 0x0, .rw, 0x00641F1F, 0xFFFF1F1F, true⟩, -- DIV_CFG
  ⟨0x054, 1, 0x0, .rw, 0x00240A10, 0x00FFFFFF, true⟩, -- BD_CFG
  ⟨0x058, 1, 0x0, .rw, 0x01000064, 0xFFFFFFFF, true⟩, -- NF_CFG
  ⟨0x05C, 1, 0x0, .rw, 0x00DC0000, 0xFFFF0003, true⟩, -- TDD_IN_CFG
  ⟨0x060, 1, 0x0, .rw, 0x00640004, 0xFFFFFFFF, true⟩, -- TDD_IN_HOLD
  ⟨0x064, 1, 0x0, .rw, 0x2AF80000, 0xFFFF0003, true⟩, -- PPS_CFG
  ⟨0x068, 1, 0x0, .rw, 0x13882328, 0xFFFFFFFF, true⟩, -- PPS_HOLD
  ⟨0x06C, 1, 0x0, .ro, 0x00000000, 0xFFFFFFFF, false⟩, -- PIN_STAT
  ⟨0x070, 1, 0x0, .ro, 0x00000000, 0xFFFFFFFF, false⟩, -- PIN_IGNORED
  ⟨0x074, 1, 0x0, .ro, 0x00000000, 0xFFFFFFFF, false⟩, -- TDD_EDGE_LO
  ⟨0x078, 1, 0x0, .ro, 0x00000000, 0xFFFFFFFF, false⟩, -- TDD_EDGE_HI
  ⟨0x07C, 1, 0x0, .ro, 0x00000000, 0xFFFFFFFF, false⟩, -- PPS_EDGE_LO
  ⟨0x080, 1, 0x0, .ro, 0x00000000, 0xFFFFFFFF, false⟩, -- PPS_EDGE_HI
  ⟨0x084, 1, 0x0, .ro, 0x00000000, 0xFFFFFFFF, false⟩, -- HIT_COUNT
  ⟨0x088, 1, 0x0, .ro, 0x00000000, 0xFFFFFFFF, false⟩, -- BURST_COUNT
  ⟨0x08C, 1, 0x0, .rw, 0x00000000, 0x00007FFF, false⟩, -- REF_ADDR
  ⟨0x090, 1, 0x0, .rw, 0x00000000, 0xFFFFFFFF, false⟩, -- REF_DATA
  ⟨0x0A0, 4, 0x4, .rw, 0xFFFFFFFF, 0xFFFFFFFF, true⟩, -- SLOT_REF_DL_0–4
  ⟨0x0B0, 1, 0x0, .rw, 0x000000FF, 0x000000FF, true⟩, -- SLOT_REF_DL_0–4_4
  ⟨0x0C0, 4, 0x4, .rw, 0xFFFFFFFF, 0xFFFFFFFF, true⟩, -- SLOT_REF_UL_0–4
  ⟨0x0D0, 1, 0x0, .rw, 0x000000FF, 0x000000FF, true⟩, -- SLOT_REF_UL_0–4_4
  ⟨0x100, 16, 0x40, .rw, 0x007C0000, 0x03FFFF7F, true⟩, -- SCHED_r
  ⟨0x104, 16, 0x40, .rw, 0x00000000, 0x00FFFFFF, true⟩, -- PAT1_r
  ⟨0x108, 16, 0x40, .rw, 0x00000000, 0x00FFFFFF, true⟩, -- PAT2_r
  ⟨0x10C, 16, 0x40, .rw, 0x00000000, 0xFFFFFFFF, true⟩, -- REF_r
  ⟨0x110, 16, 0x40, .rw, 0x00000000, 0x0000FFFF, true⟩, -- UL_ADV_r
  ⟨0x114, 16, 0x40, .rw, 0x00000000, 0xFFFFFFFF, true⟩, -- FOFF_r
  ⟨0x118, 16, 0x40, .ro, 0x00000000, 0xFFFFFFFF, false⟩, -- TRK_r
  ⟨0x11C, 16, 0x40, .ro, 0x00000000, 0xFFFFFFFF, false⟩, -- FRAME_LO_r
  ⟨0x120, 16, 0x40, .ro, 0x00000000, 0xFFFFFFFF, false⟩, -- FRAME_HI_r
  ⟨0x600, 32, 0x10, .ro, 0x80008000, 0xFFFFFFFF, false⟩, -- NF_s′
  ⟨0x5C0, 2, 0x10, .ro, 0x80008000, 0xFFFFFFFF, false⟩, -- NF_s′ 32,33
  ⟨0x604, 32, 0x10, .ro, 0xFFFFFFFF, 0xFFFFFFFF, false⟩, -- NF_AGE_s′
  ⟨0x5C4, 2, 0x10, .ro, 0xFFFFFFFF, 0xFFFFFFFF, false⟩, -- NF_AGE_s′ 32,33
  ⟨0x608, 32, 0x10, .ro, 0x00000000, 0xFFFFFFFF, false⟩, -- BURST_s′
  ⟨0x5C8, 2, 0x10, .ro, 0x00000000, 0xFFFFFFFF, false⟩] -- BURST_s′ 32,33

/-- CHAN (R153). -/
def chanRows : List RegRow := [
  ⟨0x040, 1, 0x0, .ro, 0x00000008, 0xFFFFFFFF, false⟩, -- DIR_STAT
  ⟨0x044, 1, 0x0, .ro, 0x00000000, 0xFFFFFFFF, false⟩, -- WRITE_STATUS
  ⟨0x048, 1, 0x0, .ro, 0x00000000, 0xFFFFFFFF, false⟩, -- GATE_COUNT
  ⟨0x04C, 1, 0x0, .rw, 0x00000010, 0x0000FFFF, true⟩, -- SAT_THRESH
  ⟨0x050, 1, 0x0, .ro, 0x00000000, 0xFFFFFFFF, false⟩, -- SUM_CLIP_0
  ⟨0x054, 1, 0x0, .ro, 0x00000000, 0xFFFFFFFF, false⟩, -- SUM_CLIP_1
  ⟨0x058, 1, 0x0, .ro, 0x00000000, 0xFFFFFFFF, false⟩, -- GAIN_CLAMP_COUNT
  ⟨0x05C, 1, 0x0, .rw, 0x00000000, 0x0001FFFF, true⟩, -- OVR_BLANK
  ⟨0x060, 1, 0x0, .rw, 0x00000000, 0x00000003, true⟩, -- BRANCH_CFG
  ⟨0x100, 17, 0x20, .rw, 0x00000000, 0x0000FFF7, true⟩, -- SLOT_CFG_s
  ⟨0x104, 17, 0x20, .rw, 0x00000000, 0xFFFFFFFF, true⟩, -- SLOT_NCO_s
  ⟨0x108, 17, 0x20, .rw, 0x00000000, 0xFFFFFFFF, true⟩, -- SLOT_TRIM_s
  ⟨0x10C, 17, 0x20, .ro, 0x00000004, 0xFFFFFFFF, false⟩, -- SLOT_STAT_s
  ⟨0x110, 17, 0x20, .ro, 0xB1E0B1E0, 0xFFFFFFFF, false⟩, -- SLOT_PIN_s
  ⟨0x114, 17, 0x20, .ro, 0xB1E0B1E0, 0xFFFFFFFF, false⟩, -- SLOT_POUT_s
  ⟨0x118, 17, 0x20, .ro, 0x00000000, 0xFFFFFFFF, false⟩, -- SLOT_GAIN_s
  ⟨0x11C, 16, 0x20, .ro, 0x009281DE, 0xFFFFFFFF, false⟩, -- SLOT_INFO_s
  ⟨0x31C, 1, 0x0, .ro, 0x0000019C, 0xFFFFFFFF, false⟩] -- SLOT_INFO_s

/-- ECHO (R174). -/
def echoRows : List RegRow := [
  ⟨0x040, 1, 0x0, .rw, 0x00000000, 0x007FFFFF, true⟩, -- PROBE_ROT
  ⟨0x044, 1, 0x0, .rw, 0x001E0A04, 0x00FFFF0F, true⟩, -- EST_CTRL
  ⟨0x048, 1, 0x0, .rw, 0x00000200, 0x00001FFF, true⟩, -- OSC_WIN
  ⟨0x04C, 1, 0x0, .rw, 0xDCD8DCD8, 0xFFFFFFFF, true⟩, -- NF_DEFAULT
  ⟨0x050, 1, 0x0, .ro, 0x00000000, 0xFFFFFFFF, false⟩, -- DIR_ISO
  ⟨0x054, 1, 0x0, .ro, 0x00000000, 0xFFFFFFFF, false⟩, -- OSC_STAT
  ⟨0x058, 1, 0x0, .ro, 0x00000000, 0xFFFFFFFF, false⟩, -- OSC_COUNT
  ⟨0x05C, 1, 0x0, .ro, 0x00000000, 0xFFFFFFFF, false⟩, -- CONV_DL
  ⟨0x060, 1, 0x0, .ro, 0x00000000, 0xFFFFFFFF, false⟩, -- CONV_UL
  ⟨0x064, 1, 0x0, .wo, 0x00000000, 0xFFFFFFFF, false⟩, -- EST_CLR
  ⟨0x068, 1, 0x0, .rw, 0x00000000, 0x000000FF, false⟩, -- TAP_SEL
  ⟨0x06C, 1, 0x0, .ro, 0x00000000, 0xFFFFFFFF, false⟩, -- TAP_EXP
  ⟨0x100, 34, 0x20, .rw, 0x00000000, 0x0000FF03, true⟩, -- PROBE_CFG_s′
  ⟨0x104, 34, 0x20, .ro, 0x00008000, 0xFFFFFFFF, false⟩, -- PROBE_STAT_s′
  ⟨0x108, 34, 0x20, .ro, 0x00000000, 0xFFFFFFFF, false⟩, -- EST_STAT_s′
  ⟨0x10C, 34, 0x20, .ro, 0x00000000, 0xFFFFFFFF, false⟩, -- ISO_s′
  ⟨0x110, 34, 0x20, .ro, 0x00000000, 0xFFFFFFFF, false⟩, -- CANCEL_s′
  ⟨0x114, 34, 0x20, .ro, 0x80008000, 0xFFFFFFFF, false⟩, -- LOOP_s′
  ⟨0x118, 34, 0x20, .ro, 0x00000000, 0xFFFFFFFF, false⟩, -- TAPS_s′
  ⟨0x11C, 34, 0x20, .ro, 0x00000000, 0xFFFFFFFF, false⟩, -- NF_s′
  ⟨0x600, 128, 0x4, .ro, 0x00000000, 0xFFFFFFFF, false⟩] -- TAP_d

/-- GOV (R197). -/
def govDlRows : List RegRow := [
  ⟨0x040, 1, 0x0, .rw, 0x00000000, 0x0000FFFF, true⟩, -- RX_CHAIN
  ⟨0x044, 1, 0x0, .rw, 0x03E803E8, 0xFFFFFFFF, true⟩, -- MUTE_CFG
  ⟨0x048, 1, 0x0, .ro, 0x00000000, 0xFFFFFFFF, false⟩, -- WRITE_STATUS
  ⟨0x04C, 1, 0x0, .ro, 0x00000000, 0xFFFFFFFF, false⟩, -- DIR_MUTE
  ⟨0x050, 1, 0x0, .ro, 0x00000000, 0xFFFFFFFF, false⟩, -- THERM_CEIL
  ⟨0x054, 1, 0x0, .ro, 0x00000000, 0xFFFFFFFF, false⟩, -- LANE_RED
  ⟨0x058, 1, 0x0, .rw, 0x00010064, 0x0001FFFF, true⟩, -- FAST_CFG
  ⟨0x100, 16, 0x40, .rw, 0x00000000, 0x0000FFFF, true⟩, -- SLOT_TARGET_g
  ⟨0x104, 16, 0x40, .rw, 0x07081F1F, 0xFFFF1F1F, true⟩, -- CTRL_g
  ⟨0x108, 16, 0x40, .rw, 0x138803E8, 0xFFFFFFFF, true⟩, -- PROFILE_VA_g
  ⟨0x10C, 16, 0x40, .rw, 0x00001388, 0x0000FFFF, true⟩, -- PROFILE_J_g
  ⟨0x110, 16, 0x40, .rw, 0x000007D0, 0x0000FFFF, true⟩, -- L2_LIMIT_g
  ⟨0x114, 16, 0x40, .rw, 0x07D0E0C0, 0xFFFFFFFF, true⟩, -- L3_CFG_g
  ⟨0x118, 16, 0x40, .ro, 0x00000007, 0xFFFFFFFF, false⟩, -- SEL_g
  ⟨0x11C, 16, 0x40, .ro, 0x80008000, 0xFFFFFFFF, false⟩, -- OUT01_g
  ⟨0x120, 16, 0x40, .ro, 0x80008000, 0xFFFFFFFF, false⟩, -- OUT23_g
  ⟨0x124, 16, 0x40, .ro, 0x00008000, 0xFFFFFFFF, false⟩, -- OUT4_g
  ⟨0x128, 16, 0x40, .ro, 0x00000000, 0xFFFFFFFF, false⟩, -- PROFILE_g
  ⟨0x12C, 16, 0x40, .ro, 0x00000000, 0xFFFFFFFF, false⟩] -- L3_MEAS_g

/-- GOV (R197). -/
def govUlRows : List RegRow := [
  ⟨0x040, 1, 0x0, .rw, 0x00000000, 0x0000FFFF, true⟩, -- RX_CHAIN
  ⟨0x044, 1, 0x0, .rw, 0x03E803E8, 0xFFFFFFFF, true⟩, -- MUTE_CFG
  ⟨0x048, 1, 0x0, .ro, 0x00000000, 0xFFFFFFFF, false⟩, -- WRITE_STATUS
  ⟨0x04C, 1, 0x0, .ro, 0x00000000, 0xFFFFFFFF, false⟩, -- DIR_MUTE
  ⟨0x050, 1, 0x0, .ro, 0x00000000, 0xFFFFFFFF, false⟩, -- THERM_CEIL
  ⟨0x054, 1, 0x0, .ro, 0x00000000, 0xFFFFFFFF, false⟩, -- LANE_RED
  ⟨0x058, 1, 0x0, .rw, 0x00010064, 0x0001FFFF, true⟩, -- FAST_CFG
  ⟨0x100, 16, 0x40, .rw, 0x00000000, 0x0000FFFF, true⟩, -- SLOT_TARGET_g
  ⟨0x104, 16, 0x40, .rw, 0x07081F1F, 0xFFFF1F1F, true⟩, -- CTRL_g
  ⟨0x108, 16, 0x40, .rw, 0x138803E8, 0xFFFFFFFF, true⟩, -- PROFILE_VA_g
  ⟨0x10C, 16, 0x40, .rw, 0x00001388, 0x0000FFFF, true⟩, -- PROFILE_J_g
  ⟨0x110, 16, 0x40, .rw, 0x000007D0, 0x0000FFFF, true⟩, -- L2_LIMIT_g
  ⟨0x114, 16, 0x40, .rw, 0xD5080064, 0xFFFFFFFF, true⟩, -- L3_CFG_g
  ⟨0x118, 16, 0x40, .ro, 0x00000007, 0xFFFFFFFF, false⟩, -- SEL_g
  ⟨0x11C, 16, 0x40, .ro, 0x80008000, 0xFFFFFFFF, false⟩, -- OUT01_g
  ⟨0x120, 16, 0x40, .ro, 0x80008000, 0xFFFFFFFF, false⟩, -- OUT23_g
  ⟨0x124, 16, 0x40, .ro, 0x00008000, 0xFFFFFFFF, false⟩, -- OUT4_g
  ⟨0x128, 16, 0x40, .ro, 0x00000000, 0xFFFFFFFF, false⟩, -- PROFILE_g
  ⟨0x12C, 16, 0x40, .ro, 0x00000000, 0xFFFFFFFF, false⟩] -- L3_MEAS_g

/-- LOOP (R225). -/
def loopRows : List RegRow := [
  ⟨0x040, 1, 0x0, .ro, 0x00C00001, 0xFFFFFFFF, false⟩, -- ENG_STAT
  ⟨0x044, 1, 0x0, .ro, 0x00000000, 0xFFFFFFFF, false⟩, -- TIMING
  ⟨0x048, 1, 0x0, .wo, 0x00000000, 0xFFFFFFFF, false⟩, -- TIMING_CLR
  ⟨0x04C, 1, 0x0, .ro, 0x00000000, 0xFFFFFFFF, false⟩, -- LATE_COUNT
  ⟨0x050, 1, 0x0, .rw, 0x00000000, 0x00000FFF, false⟩, -- LAW_ADDR
  ⟨0x054, 1, 0x0, .rw, 0x00000000, 0xFFFFFFFF, false⟩, -- LAW_DATA
  ⟨0x058, 1, 0x0, .wo, 0x00000000, 0xFFFFFFFF, false⟩, -- LAW_CMD
  ⟨0x05C, 1, 0x0, .ro, 0x00000000, 0xFFFFFFFF, false⟩, -- LAW_STATUS
  ⟨0x060, 6, 0x4, .ro, 0xFFFFFFFF, 0xFFFFFFFF, false⟩, -- OPEN_0–5
  ⟨0x078, 1, 0x0, .rw, 0x1B583208, 0xFFFFFF7F, true⟩, -- VCORE_CFG
  ⟨0x07C, 1, 0x0, .ro, 0x00400000, 0xFFFFFFFF, false⟩, -- VCORE_STAT
  ⟨0x080, 1, 0x0, .rw, 0x03E80F14, 0xFFFF0FFF, true⟩, -- PLAUS_CFG
  ⟨0x084, 4, 0x4, .ro, 0x80008000, 0xFFFFFFFF, false⟩, -- PLAUS_0–3
  ⟨0x094, 1, 0x0, .ro, 0x00000000, 0xFFFFFFFF, false⟩, -- PLAUS_STAT
  ⟨0x100, 4, 0x40, .rw, 0x00010000, 0xFFFF0077, true⟩, -- TR_CTRL_u
  ⟨0x104, 4, 0x40, .rw, 0x0F000F00, 0x0FFF0FFF, true⟩, -- TR_NODE01_u
  ⟨0x108, 4, 0x40, .rw, 0x0F000F00, 0x0FFF0FFF, true⟩, -- TR_NODE23_u
  ⟨0x10C, 4, 0x40, .rw, 0x0F000F00, 0x0FFF0FFF, true⟩, -- TR_NODE45_u
  ⟨0x110, 4, 0x40, .rw, 0x0F000F00, 0x0FFF0FFF, true⟩, -- TR_NODE67_u
  ⟨0x114, 4, 0x40, .rw, 0x00000000, 0x0003FF7F, true⟩, -- TR_TRIG_u
  ⟨0x118, 4, 0x40, .rw, 0x00000000, 0xFFFFFFFF, true⟩, -- TR_TRIG_VAL_u
  ⟨0x11C, 4, 0x40, .rw, 0x00000800, 0x00000FFF, true⟩, -- TR_POST_u
  ⟨0x120, 4, 0x40, .ro, 0x00000000, 0xFFFFFFFF, false⟩, -- TR_STAT_u
  ⟨0x124, 4, 0x40, .ro, 0x00000000, 0xFFFFFFFF, false⟩, -- TR_TIME_LO_u
  ⟨0x128, 4, 0x40, .ro, 0x00000000, 0xFFFFFFFF, false⟩, -- TR_TIME_HI_u
  ⟨0x12C, 4, 0x40, .ro, 0x00000000, 0xFFFFFFFF, false⟩, -- TR_DROPPED_u
  ⟨0x130, 4, 0x40, .wo, 0x00000000, 0xFFFFFFFF, false⟩, -- TR_CMD_u
  ⟨0x134, 4, 0x40, .rw, 0x00000000, 0x00007FFF, false⟩, -- TR_RD_SEL_u
  ⟨0x138, 4, 0x40, .ro, 0x00000000, 0xFFFFFFFF, false⟩] -- TR_RD_DATA_u

/-- HK (R328). -/
def hkRows : List RegRow := [
  ⟨0x040, 1, 0x0, .ro, 0x00000000, 0xFFFFFFFF, false⟩, -- STAT
  ⟨0x044, 1, 0x0, .rw, 0x00000072, 0xFF7F7FFF, true⟩, -- CTRL_A
  ⟨0x048, 1, 0x0, .rw, 0x00000082, 0xFF7F7FFF, true⟩, -- CTRL_B
  ⟨0x04C, 1, 0x0, .rw, 0x00000000, 0x00000003, true⟩, -- HK_TRIG_CFG
  ⟨0x050, 1, 0x0, .rw, 0x000A000A, 0xFFFFFFFF, true⟩, -- HK_TRIG_HOLD
  ⟨0x054, 1, 0x0, .rw, 0x130A0C1E, 0x1FFFFF3F, true⟩, -- CROSS_CFG
  ⟨0x058, 1, 0x0, .ro, 0x00000000, 0xFFFFFFFF, false⟩, -- CROSS_STAT
  ⟨0x05C, 1, 0x0, .rw, 0x0000FC00, 0x0001FFFF, false⟩, -- TDAC
  ⟨0x060, 1, 0x0, .rw, 0x00000000, 0x0000000F, true⟩, -- OVD_CFG
  ⟨0x064, 4, 0x4, .rw, 0x00000FFF, 0x00000FFF, true⟩, -- OVD_THR_0–3
  ⟨0x074, 1, 0x0, .rw, 0x000004B0, 0x00000FFF, true⟩, -- VREF_NOM
  ⟨0x078, 1, 0x0, .ro, 0x00000000, 0xFFFFFFFF, false⟩, -- OVR_COUNT
  ⟨0x07C, 1, 0x0, .ro, 0x00000000, 0xFFFFFFFF, false⟩, -- REPEAT_COUNT
  ⟨0x080, 1, 0x0, .ro, 0x00000000, 0xFFFFFFFF, false⟩, -- PASS_TIME
  ⟨0x084, 1, 0x0, .ro, 0x00000000, 0xFFFFFFFF, false⟩, -- TRIG_COUNT
  ⟨0x100, 1, 0x0, .rw, 0x00000018, 0x0003FFFF, true⟩, -- SEQ_A_0–310
  ⟨0x104, 1, 0x0, .rw, 0x00000019, 0x0003FFFF, true⟩, -- SEQ_A_0–311
  ⟨0x108, 1, 0x0, .rw, 0x0000001A, 0x0003FFFF, true⟩, -- SEQ_A_0–312
  ⟨0x10C, 1, 0x0, .rw, 0x0000001B, 0x0003FFFF, true⟩, -- SEQ_A_0–313
  ⟨0x110, 1, 0x0, .rw, 0x0000001C, 0x0003FFFF, true⟩, -- SEQ_A_0–314
  ⟨0x114, 1, 0x0, .rw, 0x0000001D, 0x0003FFFF, true⟩, -- SEQ_A_0–315
  ⟨0x118, 1, 0x0, .rw, 0x0000001E, 0x0003FFFF, true⟩, -- SEQ_A_0–316
  ⟨0x11C, 25, 0x4, .rw, 0x00000000, 0x0003FFFF, true⟩, -- SEQ_A_0–31
  ⟨0x180, 1, 0x0, .rw, 0x0000001F, 0x0003FFFF, true⟩, -- SEQ_B_0–310
  ⟨0x184, 1, 0x0, .rw, 0x00000020, 0x0003FFFF, true⟩, -- SEQ_B_0–311
  ⟨0x188, 1, 0x0, .rw, 0x00000021, 0x0003FFFF, true⟩, -- SEQ_B_0–312
  ⟨0x18C, 1, 0x0, .rw, 0x00000022, 0x0003FFFF, true⟩, -- SEQ_B_0–313
  ⟨0x190, 1, 0x0, .rw, 0x00000023, 0x0003FFFF, true⟩, -- SEQ_B_0–314
  ⟨0x194, 1, 0x0, .rw, 0x00000024, 0x0003FFFF, true⟩, -- SEQ_B_0–315
  ⟨0x198, 1, 0x0, .rw, 0x00000025, 0x0003FFFF, true⟩, -- SEQ_B_0–316
  ⟨0x19C, 1, 0x0, .rw, 0x00000027, 0x0003FFFF, true⟩, -- SEQ_B_0–317
  ⟨0x1A0, 24, 0x4, .rw, 0x00000000, 0x0003FFFF, true⟩, -- SEQ_B_0–31
  ⟨0x200, 4, 0x4, .rw, 0x00000000, 0x0000003F, true⟩, -- INJ_A_0–3
  ⟨0x210, 4, 0x4, .rw, 0x00000000, 0x0000003F, true⟩, -- INJ_B_0–3
  ⟨0x300, 40, 0x4, .ro, 0x00000000, 0xFFFFFFFF, false⟩] -- RES_c

/-- BOG (R308). -/
def bogRows : List RegRow := [
  ⟨0x040, 1, 0x0, .ro, 0x00000000, 0xFFFFFFFF, false⟩, -- STAT
  ⟨0x044, 1, 0x0, .rw, 0x0001003C, 0x0001FFFF, true⟩, -- SCRUB_CFG
  ⟨0x048, 1, 0x0, .ro, 0x00000000, 0xFFFFFFFF, false⟩, -- SCRUB_STAT
  ⟨0x04C, 1, 0x0, .ro, 0x00000000, 0xFFFFFFFF, false⟩, -- CORR_TOTAL
  ⟨0x050, 1, 0x0, .ro, 0x00000000, 0xFFFFFFFF, false⟩, -- UNCORR_TOTAL
  ⟨0x054, 1, 0x0, .ro, 0x00000000, 0xFFFFFFFF, false⟩, -- LAST_UE
  ⟨0x058, 1, 0x0, .rw, 0x00000400, 0xFFFFFFFF, true⟩, -- CORR_THRESH
  ⟨0x05C, 1, 0x0, .wo, 0x00000000, 0xFFFFFFFF, false⟩, -- CMD
  ⟨0x060, 1, 0x0, .ro, 0x00000000, 0xFFFFFFFF, false⟩, -- CMD_STATUS
  ⟨0x064, 1, 0x0, .ro, 0x00000000, 0xFFFFFFFF, false⟩, -- PB_STAT
  ⟨0x068, 1, 0x0, .ro, 0x00000000, 0xFFFFFFFF, false⟩, -- PB_T0_DL_LO
  ⟨0x06C, 1, 0x0, .ro, 0x00000000, 0xFFFFFFFF, false⟩, -- PB_T0_DL_HI
  ⟨0x070, 1, 0x0, .ro, 0x00000000, 0xFFFFFFFF, false⟩, -- PB_T0_UL_LO
  ⟨0x074, 1, 0x0, .ro, 0x00000000, 0xFFFFFFFF, false⟩, -- PB_T0_UL_HI
  ⟨0x100, 8, 0x40, .rw, 0x00000000, 0x003FFFFF, true⟩, -- REG_BASE_n
  ⟨0x104, 8, 0x40, .rw, 0x00000000, 0x007FFFFF, true⟩, -- REG_SIZE_n
  ⟨0x108, 8, 0x40, .rw, 0x00000000, 0x0007FFFF, true⟩, -- REG_SRC_n
  ⟨0x10C, 8, 0x40, .rw, 0x00000000, 0xFFFFFFFF, true⟩, -- REG_GOVS_n
  ⟨0x110, 8, 0x40, .rw, 0x00000000, 0x07FFFFFF, true⟩, -- REG_TRIG_n
  ⟨0x114, 8, 0x40, .rw, 0x00008000, 0x0000FFFF, true⟩, -- REG_TRIG_VAL_n
  ⟨0x118, 8, 0x40, .rw, 0x00010000, 0x07FF001F, true⟩, -- REG_RULE_n
  ⟨0x11C, 8, 0x40, .rw, 0x00000000, 0x007FFFFF, true⟩, -- REG_PRE_n
  ⟨0x120, 8, 0x40, .rw, 0x00000000, 0x007FFFFF, true⟩, -- REG_POST_n
  ⟨0x124, 8, 0x40, .ro, 0x00000000, 0xFFFFFFFF, false⟩, -- REG_STAT_n
  ⟨0x128, 8, 0x40, .ro, 0x00000000, 0xFFFFFFFF, false⟩, -- REG_WR_n
  ⟨0x12C, 8, 0x40, .ro, 0x00000000, 0xFFFFFFFF, false⟩, -- REG_PASS_n
  ⟨0x130, 8, 0x40, .ro, 0x00000000, 0xFFFFFFFF, false⟩, -- REG_ERR_n
  ⟨0x300, 16, 0x20, .rw, 0x00000000, 0x003FFFFF, true⟩, -- PAT_BASE_p
  ⟨0x304, 16, 0x20, .rw, 0x00000000, 0x007FFFFF, true⟩, -- PAT_SIZE_p
  ⟨0x308, 16, 0x20, .rw, 0x00000000, 0xFFFFFFFF, true⟩, -- PAT_LEN_p
  ⟨0x30C, 16, 0x20, .rw, 0x00010000, 0xFFFF7FFF, true⟩, -- PAT_CFG_p
  ⟨0x310, 16, 0x20, .rw, 0x00000000, 0x0000FFFF, true⟩, -- PAT_LEVEL_p
  ⟨0x314, 16, 0x20, .ro, 0x00000000, 0xFFFFFFFF, false⟩, -- PAT_STAT_p
  ⟨0x318, 16, 0x20, .ro, 0x00000000, 0xFFFFFFFF, false⟩] -- PAT_ERR_p

/-- BIX (R310). -/
def bixRows : List RegRow := [
  ⟨0x040, 1, 0x0, .rw, 0x8000000E, 0xFFFF000F, true⟩, -- IDX_CFG
  ⟨0x044, 1, 0x0, .ro, 0x00000000, 0xFFFFFFFF, false⟩, -- WR_IDX
  ⟨0x048, 1, 0x0, .ro, 0x00000000, 0xFFFFFFFF, false⟩, -- COUNT
  ⟨0x04C, 1, 0x0, .ro, 0x00000000, 0xFFFFFFFF, false⟩, -- WRAP
  ⟨0x050, 1, 0x0, .ro, 0x00000000, 0xFFFFFFFF, false⟩, -- DROPPED
  ⟨0x054, 1, 0x0, .rw, 0x00000000, 0x0000FFFF, false⟩, -- RD_IDX
  ⟨0x058, 8, 0x4, .ro, 0x00000000, 0xFFFFFFFF, false⟩, -- ENTRY0–7
  ⟨0x078, 1, 0x0, .wo, 0x00000000, 0xFFFFFFFF, false⟩, -- CMD
  ⟨0x07C, 1, 0x0, .ro, 0x00000000, 0xFFFFFFFF, false⟩] -- DUMP_STAT

/-- PEAT (R381). -/
def peatRows : List RegRow := [
  ⟨0x040, 1, 0x0, .ro, 0x00000000, 0xFFFFFFFF, false⟩, -- STAT
  ⟨0x044, 1, 0x0, .rw, 0x00003C00, 0x0000FF01, true⟩, -- CFG
  ⟨0x048, 1, 0x0, .rw, 0x00000384, 0x0000FFFF, true⟩, -- INTERVAL
  ⟨0x04C, 1, 0x0, .wo, 0x00000000, 0xFFFFFFFF, false⟩, -- CMD
  ⟨0x050, 1, 0x0, .rw, 0x00000000, 0x00007FFF, false⟩, -- WINDOW_BASE
  ⟨0x054, 1, 0x0, .ro, 0x00000000, 0xFFFFFFFF, false⟩, -- WIN_STAT
  ⟨0x058, 1, 0x0, .ro, 0x00000000, 0xFFFFFFFF, false⟩, -- NEXT_SEQ
  ⟨0x05C, 1, 0x0, .ro, 0x00000000, 0xFFFFFFFF, false⟩, -- WR_SLOT
  ⟨0x060, 1, 0x0, .ro, 0x00000000, 0xFFFFFFFF, false⟩, -- OPSEC
  ⟨0x064, 1, 0x0, .ro, 0x00000000, 0xFFFFFFFF, false⟩, -- PCC
  ⟨0x068, 1, 0x0, .ro, 0x00000000, 0xFFFFFFFF, false⟩, -- FILL
  ⟨0x06C, 1, 0x0, .ro, 0x00000000, 0xFFFFFFFF, false⟩, -- HOLD
  ⟨0x070, 1, 0x0, .ro, 0x00000000, 0xFFFFFFFF, false⟩, -- AUDIT
  ⟨0x074, 1, 0x0, .ro, 0x00000000, 0xFFFFFFFF, false⟩, -- LOST
  ⟨0x078, 1, 0x0, .ro, 0x00000000, 0xFFFFFFFF, false⟩] -- OPEN_TIME

/-- LOCK (R249). -/
def lockRows : List RegRow := [
  ⟨0x040, 1, 0x0, .ro, 0x00000000, 0xFFFFFFFF, false⟩, -- STATUS
  ⟨0x044, 1, 0x0, .rw, 0x00000000, 0xFFFFFFFF, false⟩, -- WR_ITEM
  ⟨0x048, 1, 0x0, .rw, 0x00000000, 0xFFFFFFFF, false⟩, -- WR_A
  ⟨0x04C, 1, 0x0, .rw, 0x00000000, 0xFFFFFFFF, false⟩, -- WR_B
  ⟨0x050, 1, 0x0, .wo, 0x00000000, 0xFFFFFFFF, false⟩, -- WR_CMD
  ⟨0x054, 1, 0x0, .ro, 0x00000000, 0xFFFFFFFF, false⟩, -- WR_STATUS
  ⟨0x058, 1, 0x0, .rw, 0x00000000, 0x0000003F, false⟩, -- LOG_SEL
  ⟨0x05C, 8, 0x4, .ro, 0x00000000, 0xFFFFFFFF, false⟩, -- LOG_DATA0–7
  ⟨0x07C, 1, 0x0, .ro, 0x00000000, 0xFFFFFFFF, false⟩] -- REFUSED

/-- CORE (R29). -/
def coreRows : List RegRow := [
  ⟨0x040, 1, 0x0, .ro, 0x0000FF40, 0xFFFFFFFF, false⟩, -- MARGIN_NOW
  ⟨0x044, 1, 0x0, .ro, 0x00000040, 0xFFFFFFFF, false⟩, -- MARGIN_MIN
  ⟨0x048, 1, 0x0, .wo, 0x00000000, 0xFFFFFFFF, false⟩, -- MARGIN_CLR
  ⟨0x04C, 4, 0x4, .ro, 0x00000000, 0xFFFFFFFF, false⟩, -- FIFO_OCC_RX0–RX3
  ⟨0x05C, 4, 0x4, .ro, 0x00000000, 0xFFFFFFFF, false⟩, -- FIFO_OCC_TX0–TX3
  ⟨0x06C, 1, 0x0, .ro, 0x00000000, 0xFFFFFFFF, false⟩] -- ALIGN_COUNT

/-- The register rows of block b (R413). -/
def blockRows (b : Nat) : List RegRow :=
  match b with
  | 0 => sysRows
  | 1 => supplyRows
  | 2 => thermRows
  | 3 => cfgRows
  | 4 => twbRows
  | 5 => pcieRows
  | 6 => synRows
  | 7 => rxcRows
  | 8 => txcRows
  | 9 => frontRows
  | 10 => lichenRows
  | 11 => syncRows
  | 12 => chanRows
  | 13 => chanRows
  | 14 => echoRows
  | 15 => govDlRows
  | 16 => govUlRows
  | 17 => loopRows
  | 18 => hkRows
  | 19 => bogRows
  | 20 => bixRows
  | 21 => peatRows
  | 22 => lockRows
  | 23 => coreRows
  | _ => []

/-- Does window offset `off` name a register of the row? -/
def RegRow.covers (r : RegRow) (off : Nat) : Bool :=
  if r.count = 1 then decide (off = r.off)
  else decide (r.off ≤ off) && decide ((off - r.off) % r.stride = 0) && decide ((off - r.off) / r.stride < r.count)

/-- The row of a window offset, if the offset is not reserved. -/
def findRow : List RegRow → Nat → Option RegRow
  | [], _ => none
  | r :: rs, off => if r.covers off then some r else findRow rs off

/-- The row of an absolute register address below 0xC000. -/
def rowAt (addr : Nat) : Option RegRow :=
  let off := addr % 0x800
  if off < 0x40 then findRow headerRows off else findRow (blockRows (addr / 0x800)) off

/-- The Reset column (R11). -/
def resetWord (addr : Nat) : Word :=
  match rowAt addr with
  | some r => Word.ofNat r.reset
  | none => 0

end Sys2Proof.Machine
end

