-- ==== Sys2Proof/Machine/State.lean ====
section
/-! DEFINITION. The state of the block as plain data, its stops, and the state right after reset (R11, R38): powered off, every
register at the value of its Reset column, the lock page as delivered (R240), no command waiting. -/

namespace Sys2Proof.Machine

/-- Why the machine stops with a fault. No meaning of this model raises one (NOTES.md, Stops); the one constructor stands for
a command whose operand names a register space address outside 64 KiB, which the operand types already exclude: safe. -/
inductive Fault where
  /-- Raised by nobody: the register space is 64 KiB and the operand types keep inside it (safe). -/
  | outsideRegisterSpace
  deriving DecidableEq, Repr

/-- Why a command is refused. -/
inductive Refusal where
  /-- Raised by an arm of exec whose command has no meaning yet (safe: the machine stops). -/
  | notModelled (mnemonic : String)
  deriving DecidableEq, Repr

/-! ### Registers -/

/-- A register file: what an unlisted address reads as is its Reset column. -/
abbrev RegFile := NMap Word

/-! ### Faults, fencing and recovery (R352–R367) -/

/-- A source's record (R355, R367). -/
structure Src where
  total : Nat := 0
  win : Nat := 0
  windowOpen : Bool := false
  /-- N and W in ms as they stood when the window opened (R365). -/
  winN : Nat := 0
  winMs : Nat := 0
  /-- Device time at which the open window ends, and at which Q has passed since the latest event (R355, R359). -/
  winEnd : Nat := 0
  qEnd : Nat := 0
  severe : Bool := false
  armed : Bool := false
  injTotal : Nat := 0
  detail : Nat := 0
  deriving DecidableEq, Repr

/-- The four states of a unit (R357). -/
inductive UState where
  | inService | transient | fenced | retired
  deriving DecidableEq, Repr

/-- A unit's record (R354, R357–R360, R367). Only units that left the default are listed. -/
structure UnitRec where
  st : UState := .inService
  first : Nat := 0
  cause : Nat := 0
  /-- Device time at which the quiet period ends, and its length in ms (R359). -/
  qEnd : Nat := 0
  qMs : Nat := 0
  /-- Operating seconds of the latest 15 restores, newest first. -/
  restores : List Nat := []
  deriving DecidableEq, Repr

structure Flt where
  /-- The header words of R366 that the device writes, by address. -/
  hdr : NMap Word := []
  src : NMap Src := []
  units : NMap UnitRec := []
  /-- Events counted since the latest trace sample (R223). -/
  recent : List Nat := []
  deriving DecidableEq, Repr

/-! ### Device and direction states (R38–R55) -/

/-- The service states of a direction, and SHUTDOWN, which holds both (R38). -/
inductive DirState where
  | standby | cautious | full | muted | listen | playback | shutdown
  deriving DecidableEq, Repr

/-- The device-wide states. `up` covers STANDBY and service; `discovery` is a start waiting for the flash (R59). -/
inductive Power where
  | off | discovery (reads : Nat) | sleep | waking | up | shutdown
  deriving DecidableEq, Repr

/-- A running transition of a direction (R43). -/
structure Trans where
  target : DirState
  cause : Nat
  /-- Serial number of the request that it carries out; 0 for none. -/
  no : Nat := 0
  tag : Nat := 0
  /-- The pattern that starts at its end, for target PLAYBACK (R299, R301). -/
  pattern : Option Nat := none
  /-- The playback doorbell whose DB_STAT follows (R406). -/
  doorbell : Option Nat := none
  /-- Device time at which it began: a start has aligned the direction once step 2 of R63 is over (log entry 65). -/
  start : Nat := 0
  deriving DecidableEq, Repr

structure DirRec where
  st : DirState := .standby
  trans : Option Trans := none
  /-- State held when a shutdown began (R44). -/
  resume : DirState := .standby
  /-- State before the first pattern of a playback (R299, R301). -/
  before : DirState := .standby
  /-- STANDBY follows when the running transition ends, with this CAUSE (R50). -/
  after : Option Nat := none
  /-- A realignment is running (R29), or follows once the synthesisers have locked (R121). -/
  realign : Bool := false
  realignDue : Bool := false
  /-- The direction is aligned and running (R28); its FIFOs' occupancies have been measured since (log entry 65). -/
  running : Bool := false
  measured : Bool := false
  /-- The pattern that the direction's PLAYBACK ended with: its return state is what a shutdown resolves PLAYBACK to (R44). -/
  leftPat : Option Nat := none
  /-- The start was cold, so the next entry to CAUTIOUS is cold (R62, R68). -/
  cold : Bool := true
  deriving DecidableEq, Repr

/-- What a request asks for (R45). -/
inductive Target where
  | standby | listen | cautious | full | playback (pattern : Nat) | sleep | bad
  deriving DecidableEq, Repr

/-- A request: from the host or the image, an automatic return (tag 0xFD) or the device's own (tag 0xFE). -/
structure Req where
  target : Target
  /-- Bit 0 downlink, bit 1 uplink (R55). -/
  scope : Nat
  tag : Nat
  /-- LAST_TRANSITION.CAUSE of what it starts (R449). -/
  cause : Nat
  /-- The resume from SHUTDOWN (R44), to which the SHUTDOWN rows do not apply. -/
  isResume : Bool := false
  /-- The playback doorbell whose DB_STAT follows the outcome (R406). -/
  doorbell : Option Nat := none
  /-- Serial number of the request: REQ_STATUS shows the latest one. -/
  no : Nat := 0
  deriving DecidableEq, Repr

/-- What a pending request waits for (R45, R50). -/
inductive Wait where
  | locks (deadline : Nat)
  | check
  | transition
  | shutdown
  | wake
  deriving DecidableEq, Repr

/-- The check set (R99), as the stores that hold it. -/
structure CheckSet where
  regs : NMap Word := []
  laws : List (Nat × List Int) := []
  tables : NMap Word := []
  page : NMap Byte := []
  retired : NMap Word := []
  deriving DecidableEq, Repr

/-- A consistency check in progress (R100): its snapshot and the codes that fail on it. -/
structure Check where
  origin : Origin
  short : Bool
  snap : CheckSet
  codes : List Nat
  /-- CAUSE and tag of the service that follows a pass (R449, R55). -/
  cause : Nat := 0
  tag : Nat := 0
  /-- A register of the check set or the lock page has been written (R101). -/
  touched : Bool := false
  /-- A full check that a short form's mismatch started (R100). -/
  second : Bool := false
  /-- The held write of SERVICE_EN that it carries out, in REQ_STATUS's numbering; 0 for none (R65). -/
  no : Nat := 0
  deriving DecidableEq, Repr

structure Sys where
  dl : DirRec := {}
  ul : DirRec := {}
  wakeSession : Bool := false
  reqStatus : Nat := 0
  reqTag : Nat := 0
  supTag : Nat := 0
  pendingReq : Option (Req × Wait) := none
  serviceEn : Bool := false
  check : Option Check := none
  /-- Serial number of the latest request made, of the one that REQ_STATUS shows, and of the pending one whose outcome follows a
  refusal shown over it (R448). -/
  serial : Nat := 0
  shown : Nat := 0
  shadow : Option Nat := none
  /-- A request other than SLEEP arrived in the wake session (R47). -/
  lingerOff : Bool := false
  /-- Host writes of SERVICE_EN held during a wake, oldest first, and the number under which REQ_STATUS shows them (R65). -/
  wakeHeldEn : List Bool := []
  wakeHeldNo : Nat := 0
  /-- The image's SERVICE_EN and REQUEST writes, in image order, held until STANDBY (R89). -/
  imageHeld : List (Bool × Word) := []
  /-- SLEEP is entered once both directions are in STANDBY: LAST_TRANSITION.CAUSE, the request's number and its tag (R45, R272). -/
  sleepNext : Option (Nat × Nat × Nat) := none
  /-- The entry to SLEEP is in its preserve step (R273): CAUSE, the request's number and its tag. -/
  entering : Option (Nat × Nat × Nat) := none
  /-- A request held behind the check waits until the service start has ended (R448). -/
  behind : Option Req := none
  /-- Restricted resolutions of R53 in force at the latest evaluation: what SYS source 12 counts the rise of. -/
  restrict : Nat := 0
  /-- RESET_N went low for less than 1 ms in SLEEP: its release is a wake (R276). -/
  shortLow : Bool := false
  deriving DecidableEq, Repr

/-! ### Synthesisers and converters (R105–R128) -/

structure SynRec where
  locked : Bool := false
  /-- Calibrating or locking (BUSY). -/
  busy : Bool := false
  /-- Band calibration is running (step 2 of R120); otherwise a warm lock (step 3). -/
  calibrating : Bool := false
  /-- The band in use; it came from step 2 of this lock sequence, so step 3 writes its cache entry (R120). -/
  band : Option BandCal := none
  found : Bool := false
  deriving DecidableEq, Repr

/-- A calibration-cache entry (R119). -/
structure CacheEntry where
  key : Nat
  cal : BandCal
  temp : Int
  deriving DecidableEq, Repr

structure SynState where
  c : SynRec := {}
  d : SynRec := {}
  u : SynRec := {}
  /-- Entries of each synthesiser, most recently used first, at most 16. -/
  cacheC : List CacheEntry := []
  cacheD : List CacheEntry := []
  cacheU : List CacheEntry := []
  /-- The same as MRAM holds them (R36). -/
  savedC : List CacheEntry := []
  savedD : List CacheEntry := []
  savedU : List CacheEntry := []
  refPresent : Bool := false
  refOk : Bool := false
  /-- Step 6 of R57 ended unlocked: device time held at zero (R121). -/
  startPending : Bool := false
  /-- Device time has started. -/
  timeRuns : Bool := false
  deriving DecidableEq, Repr

structure ConvState where
  /-- Lanes calibrated, lanes inside an over-range episode, lanes being restored (R117), records held (R118). -/
  rxCal : BitVec 4 := 0
  txCal : BitVec 4 := 0
  ovrNow : BitVec 4 := 0
  rxRestoring : BitVec 4 := 0
  txRestoring : BitVec 4 := 0
  rxRecords : BitVec 4 := 0
  txRecords : BitVec 4 := 0
  /-- The records that MRAM holds (R36). -/
  rxSaved : BitVec 4 := 0
  txSaved : BitVec 4 := 0
  deriving DecidableEq, Repr

/-! ### Channelizer slots (R129–R154) -/

/-- A gain ramp (R146, R188): the gain at slot sample `start` in 2^-24 of 0.01 dB, and the gain in 0.01 dB that it reaches at sample
`stop` of the tick that it was last delivered or replaced in; a ramp from a boundary starts at sample −1. -/
structure Ramp where
  base : Int := 0
  start : Int := -1
  goal : Int := 0
  stop : Int := 0
  deriving DecidableEq, Repr

structure SlotRec where
  /-- D_k as delivered at the latest boundary, and D_(k+1) to deliver at the next, 0.01 dB (R146, R178). -/
  gain : Int := 0
  nextGain : Int := 0
  /-- D_(k−1). -/
  prevGain : Int := 0
  /-- A fast cut's d_cut that bounds the next delivery (R188). -/
  cut : Option Int := none
  /-- The ramp in force, and the trims of the two branches that it starts from and reaches (R146, R147). -/
  ramp : Ramp := {}
  trimPrev : Int × Int := (0, 0)
  trimNow : Int × Int := (0, 0)
  /-- Bits of GATE_CAUSE that hold the gate closed until the next tick boundary: after a restore (R147, R194), or source 31 (R154). -/
  wait : Nat := 0
  /-- The PRIORITY in force until the next tick boundary, where a write has changed it (R152). -/
  prioHeld : Option Nat := none
  /-- Device time at which each branch is clean of the over-range flag, once the episode has ended (R150). -/
  cleanAt : Nat × Nat := (0, 0)
  /-- What the CIC registers of the slot's chains hold (R136): all zero, or what the samples of a tick left, by number (log entry 15). -/
  chain : Option Nat := none
  tddOpen : Bool := false
  dropped : Bool := false
  recovering : BitVec 2 := 0
  clamped : Bool := false
  /-- The gate has opened since service started (R69, R184). -/
  opened : Bool := false
  deriving DecidableEq, Repr

/-! ### Moss probe and feedback cancellation (R155–R175) -/

/-- One path's running estimate: taps in units of 2^-64, var in units of 2^-128 (R164). -/
structure PathRec where
  w : List (Int × Int) := []
  var : Nat := 0
  deriving DecidableEq, Repr

/-- A cached estimate (R172). -/
structure EstEntry where
  paths : NMap PathRec
  iAir : Int
  key : List Nat
  deriving DecidableEq, Repr

structure EchoRec where
  /-- The present run started warm; blocks counted; at least one result. -/
  warm : Bool := false
  blocks : Nat := 0
  result : Bool := false
  converged : Bool := false
  held : Bool := false
  paths : NMap PathRec := []
  okPaths : BitVec 4 := 0
  identified : BitVec 4 := 0
  /-- I_air, I_eff, C and the largest s_tr, in 0.01 dB. -/
  iAir : Int := 0
  iEff : Int := 0
  credit : Int := 0
  sMax : Int := 0
  /-- A block that has ended; its result takes effect at the next tick boundary (R163). -/
  due : Option BlockIn := none
  /-- Restored path estimates have not converged since: the cap stands (R35). -/
  capped : Bool := false
  /-- The cap in FULL has been reported (sources 12, 13). -/
  capSeen : Bool := false
  /-- Amplitudes a_0 and a_1 of the probe in 2^-24, formed at the latest boundary (R158). -/
  amp : Nat × Nat := (0, 0)
  /-- NF_DEFAULT is in use for a TDD or uplink slot: since when, and whether source 22 has counted it. -/
  defSince : Option Nat := none
  defTold : Bool := false
  rhoEst : Option Int := none
  rhoFast : Option Int := none
  /-- Adaptive level in 0.01 dB, results at the upper bound in a row (R161, source 23). -/
  level : Int := -1200
  atBound : Nat := 0
  onAir : Bool := false
  /-- I_air that a warm run is judged against (R68). -/
  refAir : Int := 0
  /-- The LNA of a receive branch is bypassed, so its taps stand scaled (R236). -/
  scaled : BitVec 2 := 0
  /-- Key of the running estimate: LO frequency, MIX, SLOT_NCO, RESPONSE, branching (R172). -/
  key : List Nat := []
  cached : Option EstEntry := none
  cachedAt : Nat := 0
  deriving DecidableEq, Repr

/-! ### Governors (R176–R199) -/

/-- Why a slot or direction is muted (MUTE_CAUSE of R197; `locked` carries its LIMIT bit). -/
inductive MuteCause where
  | oscillation | donorLost | pairedDonorLost | noiseRise | lockedOutput | lockedDuty | lockedSynth | loopEngine
  deriving DecidableEq, Repr

structure GovRec where
  p : F64 := F64.zero
  v : F64 := F64.zero
  a : F64 := F64.zero
  sel : Nat := 7
  /-- The selection of the tick before, which a tie keeps (R181). -/
  prev : Nat := 7
  capped : Bool := false
  lockClamped : Bool := false
  /-- CHAN clamped the gain in the previous tick (R182). -/
  chanClamped : Bool := false
  fastCut : Bool := false
  late : BitVec 5 := 0
  /-- Law outputs of the latest tick in Q16.16 dB: none when not evaluated or disabled (R197). -/
  outs : List (Option Int) := []
  gApp : Int := 0
  mute : Option MuteCause := none
  /-- The slot's donor is present (R190). -/
  donorOk : Bool := true
  /-- Rise in 0.01 dB (uplink) or the 1 ms mean PIN (downlink). -/
  meas : Int := 0
  /-- Linear PIN of the two branches summed over the ticks of the present millisecond. -/
  acc : Nat := 0
  acc1 : Nat := 0
  /-- Device time at which a 1 ms mean of a running branch was last at or above DONOR_MIN, or a TDD slot's reference hit (R190). -/
  donorHigh : Option Nat := none
  /-- Device time at which the donor was lost (R272). -/
  lostAt : Nat := 0
  /-- The latest 1 ms means since the loss, newest first, at most 1,000, each with whether its reference was tracked (R190). -/
  means : List (Nat × Bool) := []
  /-- The rise is at its limit with L3 at its lower limit, and since when (R192). -/
  floorLimit : Bool := false
  floorAt : Nat := 0
  /-- Device time of the latest tick of the mute that found its cause present (R194). -/
  causeAt : Option Nat := none
  /-- Where its latest record was written. -/
  spilled : List Nat := []
  deriving DecidableEq, Repr

/-- Governor state of a direction. -/
structure GovDir where
  mute : Option MuteCause := none
  count : Nat := 0
  /-- G_fix in 0.01 dB, and its values of the latest second, each from its device time on, newest first (R196). -/
  gFix : Int := 0
  gFixAt : List (Nat × Int) := []
  /-- LANE_RED of the branches in 0.01 dB. -/
  red0 : Int := 0
  red1 : Int := 0
  /-- Predicted lane output of the branches in 0.01 dBm, none without output (R187). -/
  pred0 : Option Int := none
  pred1 : Option Int := none
  /-- Ticks in a row with the prediction more than 1.00 dB above the locked maximum (R192). -/
  over0 : Nat := 0
  over1 : Nat := 0
  /-- As `GovRec.causeAt`, for the direction's mute. -/
  causeAt : Option Nat := none
  /-- Device time of the latest detection by the estimate criterion (R171). -/
  estOscAt : Option Nat := none
  deriving DecidableEq, Repr

/-! ### The loop engine (R200–R226) -/

/-- A law instance: its thirteen written fields and its state words (R209). Default: closed-form defaults are in Loop.lean. -/
structure Law where
  /-- Fields 0–12 as 32-bit integers; none reads as the default of R205 and R218. -/
  fields : NMap Int := []
  i : Int := 0
  df : Int := 0
  ePrev : Int := 0
  out : Int := 0
  isOpen : Bool := true
  /-- The first computation after a close re-seats (R214). -/
  reseat : Bool := false
  /-- Left open at a transition for inverted limits: the slot's g_cap bounds its output (R214). -/
  capHeld : Bool := false
  queue : List (Nat × Int) := []
  pendOpen : Bool := false
  pendClose : Bool := false
  late : Bool := false
  /-- Terms of the latest computation for the trace: e, x_in, x_acc, proportional, derivative, ff (R222). -/
  terms : List Int := []
  deriving DecidableEq, Repr

structure TraceUnit where
  /-- 0 idle, 1 armed, 2 triggered, 3 frozen. -/
  st : Nat := 0
  /-- Samples, newest first, each its device time, LATE, record number and eight node values; samples since the trigger sample. -/
  samples : List (List Int) := []
  trigIdx : Nat := 0
  trigTime : Nat := 0
  postLeft : Nat := 0
  seq : Nat := 0
  /-- FORCE was written since the latest sample, or the trigger's event happened; the selection of that sample. -/
  evt : Bool := false
  force : Bool := false
  lastSel : Nat := 7
  /-- Where the latest sample was spilled to. -/
  spilled : List Nat := []
  deriving DecidableEq, Repr

structure LoopState where
  laws : NMap Law := []
  /-- The store as it stood at the latch of the present tick: what a late instance keeps (R208). -/
  lawsAtLatch : NMap Law := []
  lateTicks : Nat := 0
  goodTicks : Nat := 0
  /-- Emergency steps in 2^-16 mV not yet added to the integrator (R219). -/
  emergency : Nat := 0
  units : NMap TraceUnit := []
  /-- The units as they stood before the sample of the present tick (R208, R222). -/
  unitsBefore : NMap TraceUnit := []
  /-- Plausibility run per lane: signed count (R221). -/
  plaus : NMap Int := []
  /-- p_pred and p_meas of each lane in Q16.16 dBm of the latest tick (R220). -/
  pred : NMap Int := []
  meas : NMap Int := []
  /-- VD_CORE held at 0.85 V (R30, R35, R213, R217). -/
  hold085 : Bool := false
  /-- The hold and the command of the tick before, which a late core-voltage instance keeps (R219). -/
  prevHold : Bool := false
  prevCmd : Nat := 0
  /-- Fraction of the command in 2^-16 mV: VCORE_STAT shows the whole millivolts (R218). -/
  cmdFrac : Nat := 0
  /-- VD_CORE stands at 0.85 V with the device margin below its target (CORE source 9). -/
  atTop : Bool := false
  deriving DecidableEq, Repr

/-! ### Front end and lock (R227–R250) -/

structure FrontState where
  /-- PA step of each transmit lane (R230), and the device time at which the present step ends. -/
  step : NMap Nat := []
  stepEnd : NMap Nat := []
  bypass : BitVec 4 := 0
  /-- T/R window of each direction open (R233). -/
  winDl : Bool := false
  winUl : Bool := false
  tables : NMap Word := []
  /-- g_tx last formed inside the table, 0.01 dB, and out of table (R239). -/
  gtx : NMap Int := []
  outOfTable : BitVec 4 := 0
  deriving DecidableEq, Repr

/-- A lock commit waiting for the MRAM port (R241, R242). -/
structure LockJob where
  item : Nat
  index : Nat
  a : Word
  b : Word
  image : Bool
  deriving DecidableEq, Repr

structure LockState where
  /-- The mirror and the page in MRAM: what an unlisted byte reads as is its value as delivered (R240). -/
  page : NMap Byte := []
  mram : NMap Byte := []
  /-- Codewords that cannot be corrected. -/
  ue : List Nat := []
  commit : Option LockJob := none
  /-- Items with a committed change that consumers may begin to act on (R243): item + 256 × index. -/
  actors : List Nat := []
  /-- The consumers that have begun to: the item's key + 65536 × consumer. -/
  acted : List Nat := []
  deriving DecidableEq, Repr

/-! ### Sync detection (R251–R267) -/

structure TrkRec where
  /-- 0 searching, 1 acquiring, 2 tracking, 3 holdover. -/
  st : Nat := 0
  /-- Start of the frame of the latest occurrence evaluated, in device time. -/
  t0 : Int := 0
  /-- The frame start from which the timing has transmit windows (R257, R258). -/
  opens : Int := 0
  /-- The marker seen inside the window of the next occurrence: time and power. -/
  marker : Option (Int × Int) := none
  /-- Consecutive occurrences with a marker (state 1), and without one. -/
  run : Nat := 0
  missed : Nat := 0
  /-- The held candidate: time and power of its latest hit; it hit since the latest evaluation; its counts (R258). -/
  cand : Option (Int × Int) := none
  candHit : Bool := false
  candCount : Nat := 0
  candMissed : Nat := 0
  /-- The candidate's count reached M: the switch follows at the frame boundary. -/
  switching : Bool := false
  deriving DecidableEq, Repr

structure NfRec where
  n0 : Option Nat := none
  n1 : Option Nat := none
  at0 : Nat := 0
  at1 : Nat := 0
  deriving DecidableEq, Repr

structure PinRec where
  lastEdge : Option Nat := none
  level : Bool := false
  stuck : Bool := false
  missing : Bool := false
  deriving DecidableEq, Repr

structure SyncState where
  trk : NMap TrkRec := []
  refs : NMap Word := []
  nf : NMap NfRec := []
  burst : NMap Nat := []
  tdd : PinRec := {}
  pps : PinRec := {}
  /-- Diversity branch of each direction (R260). -/
  branchDl : Bool := false
  branchUl : Bool := false
  deriving DecidableEq, Repr

/-! ### Lichen (R268–R279) -/

structure LichenRx where
  /-- Latest looks per frequency, newest first; key is the frequency index. -/
  looks : NMap (List Bool) := []
  lastActive : Bool := false
  qualified : Bool := false
  timedOut : Bool := false
  /-- Consecutive active looks. -/
  activeRun : Nat := 0
  deriving DecidableEq, Repr

structure LichenState where
  rx : NMap LichenRx := []
  holdoff : Bool := false
  disabled : Bool := false
  deferred : Bool := false
  abandoned : Bool := false
  /-- An uplink burst since CAUTIOUS was reached after the wake (R275). -/
  burstSeen : Bool := false
  /-- The receiver that raised the wake in force. -/
  wakeRx : Option Nat := none
  /-- Device time of the latest uplink burst report, or of the wake (R272). -/
  ulBurstAt : Nat := 0
  /-- Frequencies left out of a receiver's looks until the next entry, bit 8 × receiver + frequency (R269). -/
  untuned : BitVec 32 := 0
  deriving DecidableEq, Repr

/-! ### Bog and burst index (R280–R311) -/

structure RegionRec where
  /-- 0 idle, 1 armed, 2 triggered, 3 stopped. -/
  st : Nat := 0
  seg : Nat := 0
  /-- Write position in the data area, bytes written since the segment began, and wraps. -/
  wr : Nat := 0
  held : Nat := 0
  pass : Nat := 0
  trigTime : Nat := 0
  trigAddr : Nat := 0
  triggered : Bool := false
  ignored : Nat := 0
  breaks : Nat := 0
  lastBreak : Nat := 0
  flags : Nat := 0
  /-- Device time up to which `wr` and `held` stand, bytes written since the trigger point (R290), and the bytes kept before it. -/
  upTo : Nat := 0
  since : Int := 0
  preHeld : Nat := 0
  /-- The source's direction is not running (R293, R295); samples were lost since arming. -/
  paused : Bool := false
  lostSamples : Bool := false
  corr : Nat := 0
  uncorr : Nat := 0
  deriving DecidableEq, Repr

structure PatRec where
  loaded : Bool := false
  preload : Bool := false
  asReplace : Bool := false
  corr : Nat := 0
  uncorr : Nat := 0
  deriving DecidableEq, Repr

/-- The pattern playing in a direction (R299). -/
structure Playing where
  pattern : Nat
  asReplace : Bool
  deriving DecidableEq, Repr

structure BogState where
  /-- The store's bytes; an unlisted byte reads 0 (log entry 8). -/
  mem : NMap Byte := []
  regions : NMap RegionRec := []
  pats : NMap PatRec := []
  pbDl : Option Playing := none
  pbUl : Option Playing := none
  trained : BitVec 8 := 0
  awake : BitVec 8 := 0
  halving : Bool := false
  ready : Bool := false
  /-- Ranges of the store last written by a sample stream, whose bytes are open: first address, end, stamp (log entry 8). -/
  streams : List (Nat × Nat × Nat) := []
  /-- Corrected codewords of each channel by reads in the second of device time that `corrSec` numbers (R283; log entry 84). -/
  corrSec : Nat := 0
  corrIn : List Nat := []
  deriving DecidableEq, Repr

/-- A report to BIX (R303). -/
structure BixEntry where
  t : Nat := 0
  kind : Nat := 0
  flag : Nat := 0
  continues : Bool := false
  captured : Bool := false
  flagSeen : Bool := false
  lane : Nat := 0
  slot : Nat := 0
  ref : Nat := 0
  len : Nat := 0
  p : Int := 0
  rho : Int := 0
  region : Nat := 0
  pass : Nat := 0
  addr : Nat := 0
  deriving DecidableEq, Repr

structure BixState where
  table : NMap BixEntry := []
  queue : List BixEntry := []
  wr : Nat := 0
  count : Nat := 0
  stopped : Bool := false
  dumping : Option Nat := none
  deriving DecidableEq, Repr

/-! ### Housekeeping converters (R312–R329) -/

/-- A regular entry's decimating filter (R315): inputs since its start (kept within N·D and the D after it), and the latest N·D
inputs, newest first, with their OVR flags. -/
structure HkFilt where
  n : Nat := 0
  xs : List (Nat × Bool) := []
  deriving DecidableEq, Repr

structure HkRec where
  refOk : Bool := true
  /-- The latest conversion was over-range (R323), and the present pass has had one (R322). -/
  ovrLast : Bool := false
  ovrPass : Bool := false
  /-- An injected run waits for its delay, or is in progress (R317, R327). -/
  injPending : Bool := false
  injRun : Bool := false
  /-- A regular pass runs; the entries it took at its start; its conversions so far; its successor is due (R314). -/
  passOpen : Bool := false
  seq : List Nat := []
  used : Nat := 0
  due : Bool := false
  /-- Entries of the pass and of the injected run that are over, and a neighbour-suspect entry that is being repeated (R314, R317, R323). -/
  next : Nat := 0
  injNext : Nat := 0
  again : Bool := false
  /-- Filters of the regular entries. -/
  filt : NMap HkFilt := []
  deriving DecidableEq, Repr

structure HkState where
  a : HkRec := {}
  b : HkRec := {}
  trigLast : Option Nat := none
  trigStuck : Bool := false
  ovd : BitVec 4 := 0
  crossRun : Nat := 0
  arbitrate : Bool := false
  /-- Tick of the latest insertion of the cross-check (R325). -/
  crossAt : Nat := 0
  /-- One converter runs the other's sequences (R326). -/
  takeover : Bool := false
  /-- The latest result of each channel that was delivered to the consumers, laid out as RES_c (R321). -/
  delivered : NMap Nat := []
  /-- HK_VREF is outside its range while selected (R320). -/
  vrefOut : Bool := false
  /-- TRSW of each direction's lowest-numbered TDD transmit lane stands at transmit (R316). -/
  trswDl : Bool := false
  trswUl : Bool := false
  /-- The latest result of each transmit lane's detector came from a conversion inside a transmit window (R221). -/
  inWin : BitVec 4 := 0
  deriving DecidableEq, Repr

/-! ### Supply and thermal model (R330–R351) -/

structure ThermState where
  /-- Pole states in 2^-16 of 0.01 °C, key 3·j + i, and region powers in mW. -/
  x : NMap Int := []
  q : NMap Nat := []
  /-- Boundary temperature in 2^-16 of 0.01 °C. -/
  tb : Int := 0
  tbSet : Bool := false
  /-- R_th in 0.001 dB. -/
  rth : Nat := 0
  dropped : List Nat := []
  /-- An undo of R_th is due (R343). -/
  falling : Bool := false
  /-- Sensors with a reading since the latest tick. -/
  fresh : BitVec 6 := 0
  throttling : Bool := false
  /-- Device time at which the quiet period of the fenced hottest sensor ends (R345). -/
  hotQuiet : Nat := 0
  /-- A resume from SHUTDOWN is on its way (R44). -/
  resuming : Bool := false
  /-- Ticks of a shutdown with every region below 115 °C, without a break (R346). -/
  quiet : Nat := 0
  margin : Nat := 0
  sensors : NMap Int := []
  /-- By sensor: ticks in which its residual lay beyond ±8 °C, ticks without a valid reading, both without a break (R341), and consecutive
  valid readings of 145 °C or more (R346). -/
  beyond : NMap Nat := []
  silent : NMap Nat := []
  hotReads : NMap Nat := []
  /-- Ticks in which the condition of the next step (R344), and that of the next undo (R345), have held since the latest of them. -/
  stepN : Nat := 0
  undoN : Nat := 0
  deriving DecidableEq, Repr

/-! ### Peat (R368–R382) -/

structure PeatRec where
  kind : Nat := 0
  format : Nat := 0
  cause : Nat := 0
  cflags : Nat := 0
  seq : Nat := 0
  opsecClose : Nat := 0
  pcc : Nat := 0
  opsecLast : Nat := 0
  rep : Nat := 0
  duration : Nat := 0
  detail : Nat := 0
  /-- Bytes 32–255. -/
  body : List Byte := []
  /-- The service states at the close (R374), and codewords that cannot be corrected, as a mask. -/
  states : Nat := 0
  ue : Nat := 0
  deriving DecidableEq, Repr

/-- The open interval's accumulators (R371). -/
structure Interval where
  openedAt : Nat := 0
  /-- INTERVAL in seconds, as it stood at the opening (R381). -/
  limit : Nat := 900
  /-- Device time at which a close other than by TIMER opened it (R380). -/
  born : Option Nat := none
  /-- Tick counts by bin, key 16·histogram + bin. -/
  bins : NMap Nat := []
  /-- Extremes: value and seconds since the opening. -/
  ext : NMap (Int × Nat) := []
  mutes : Nat := 0
  severe : Nat := 0
  cover : Nat := 0
  attnDrops : Nat := 0
  folded : Option (Nat × Nat) := none
  deriving DecidableEq, Repr

structure PeatState where
  opsec : Nat := 0
  pcc : Nat := 0
  slots : NMap PeatRec := []
  newest : Option Nat := none
  nextSeq : Nat := 0
  firstFull : Bool := false
  /-- FILL.WRAPS, LOST.DISCARDED, AUDIT.TORN and AUDIT.FAILED (R381). -/
  wraps : Nat := 0
  discarded : Nat := 0
  torn : Nat := 0
  failed : Nat := 0
  /-- A commit cut off by a power loss left this slot torn (R377). -/
  tornSlot : Option Nat := none
  /-- Layout in force (R376): false native, true forerunner. -/
  layout : Bool := false
  /-- The emergency slot, and a codeword on its way to it (R372). -/
  emergency : Option PeatRec := none
  emergencyNext : Option PeatRec := none
  openI : Interval := {}
  /-- The latest valid flush: interval, OPSEC and PCC (R368, R369), and which buffer it went to. -/
  flush : Option (Interval × Nat × Nat) := none
  flushA : Bool := false
  /-- A flush on its way to the other buffer (R36). -/
  flushNext : Option (Interval × Nat × Nat) := none
  /-- Records closed and waiting, oldest first (R375). -/
  hold : List PeatRec := []
  /-- The write to the record area in progress: a commit of a record, or a rewrite of the newest header; the codewords of it that do
  not stand yet, the one in flight among them. -/
  writing : Option (Option PeatRec) := none
  left : Nat := 0
  /-- Pending repeats by SEQ: count and the OPSEC of the latest (R374). -/
  pend : NMap (Nat × Nat) := []
  /-- The latest repeat: device time, SEQ, cause, detail, and OPSEC_LAST before it (R380). -/
  lastRepeat : Option (List Nat) := none
  frozen : Bool := false
  /-- Ticks since FROZEN was set, or since FREEZE restarted the 10 s (R379). -/
  frozenN : Nat := 0
  freezePending : Bool := false
  auditRunning : Bool := false
  lost : Nat := 0
  /-- The recorder is out of service: nothing is committed (R380). -/
  out : Bool := false
  deriving DecidableEq, Repr

/-! ### Two-wire bus and PCIe (R383–R410) -/

/-- An attention message (R390). -/
structure Msg where
  blk : Nat
  cls : Nat
  inj : Bool
  source : Nat
  total : Nat
  seq : Nat
  deriving DecidableEq, Repr

structure TwbState where
  ptr : Nat := 0
  addr : Nat := 0
  acking : Bool := false
  strap : Nat := 0
  queue : List Msg := []
  sending : Bool := false
  waiting : Bool := false
  /-- Device time at which the retry wait is over (R392). -/
  waitEnd : Nat := 0
  attempt : Nat := 0
  nextSeq : Nat := 0
  stretching : Bool := false
  sdaLow : Bool := false
  /-- Bytes of the latest transfer returned to the host, and the latest register shadow (R388). -/
  lastRead : List Byte := []
  backoff : Option Nat := none
  /-- ATTN_DROPS, and whether the 9-pulse sequence is running. -/
  drops : Nat := 0
  clearing : Bool := false
  /-- Wide-value shadows of the two-wire bus, by address. -/
  shadow : NMap Word := []
  deriving DecidableEq, Repr

structure PcieState where
  up : Bool := false
  gen : Nat := 0
  width : Nat := 0
  d3 : Bool := false
  perst : Bool := true
  bar0 : Nat := 0
  bar2 : Nat := 0
  memEnable : Bool := false
  busMaster : Bool := false
  msixEnable : Bool := false
  funcMask : Bool := false
  vecMask : BitVec 16 := 0xFFFF
  pending : BitVec 16 := 0
  /-- Address and data words of the MSI-X table, key 4·vector + word; the vector's mask bit stands in `vecMask`. -/
  msix : NMap Word := []
  subsys : Word := 0x46801F5C
  /-- Doorbell status and DONE_COUNT, by BAR 2 offset of the doorbell. -/
  dbStat : NMap Word := []
  done : NMap Nat := []
  lastRead : List Byte := []
  lastStatus : Nat := 0
  rdBytes : Nat := 0
  wrBytes : Nat := 0
  shadow : NMap Word := []
  deriving DecidableEq, Repr

/-! ### MRAM port and measurement log (R36, R75) -/

/-- What a write of precedence 5 carries (R36): a synthesiser's new entry, the clearing of all of them, a converter's record (transmit
lanes from 4 on), or a path estimate. -/
inductive CacheJob where
  | entry (y : Syn) (e : CacheEntry) | clear | record (lane : Nat) | estimate
  deriving DecidableEq, Repr

/-- What an MRAM write carries (R36); a write of a Peat record is one for each of its codewords (R337). -/
inductive MramJob where
  | emergency | lock | peat | flush | cache (c : CacheJob) | runState
  deriving DecidableEq, Repr

structure MramState where
  inFlight : Option MramJob := none
  queue : List MramJob := []
  deriving DecidableEq, Repr

structure BootState where
  /-- The flash as discovered, kept for the preload (R98), and the slot applied: 0 none, 1 A, 2 B. -/
  flash : Option Flash := none
  slot : Nat := 0
  preloadDone : Bool := false
  preloading : Bool := false
  cold : Bool := false
  aFail : Nat := 0
  bFail : Nat := 0
  /-- Measurement entries 0–6 and the composite (8): state, length, digest. -/
  entries : NMap (Nat × Nat × Nat) := []
  /-- Digest of the configuration at the latest pass (R100). -/
  digest : Nat := 0
  passed : Bool := false
  pending : Option Boot := none
  /-- Device time at STANDBY: with T_STANDBY the origin of T_CAUTIOUS and T_FULL (R77); µs since then for which device time stood
  still, SYN_C not having locked (R121). -/
  standbyAt : Nat := 0
  waitUs : Nat := 0
  /-- The configuration registers as the image left them: what CORE source 23 rewrites a register from (R30). -/
  imageCfg : RegFile := []
  /-- Energy taken from VIN since the start, in 0.1 µJ (R334). -/
  energy : Nat := 0
  deriving DecidableEq, Repr

/-- What has held at some instant since the latest tick boundary: slots whose mute gate has been open (R182), and transmit lanes that have
not transmitted throughout (R221). -/
structure Watch where
  opened : NMap Bool := []
  broke : BitVec 4 := 0
  deriving DecidableEq, Repr

/-- The levels that decide whether a start may begin (R57, R335): VIN is valid; RESET_N is low. -/
structure Levels where
  vinValid : Bool := false
  resetLow : Bool := false
  deriving DecidableEq, Repr

/-- The state of the IDH4680. -/
structure State where
  power : Power := .off
  lev : Levels := {}
  /-- Device time in units of 1/983.04 MHz (R26). -/
  now : Nat := 0
  /-- The model's own counter of free values (log entry 2). -/
  free : Nat := 0
  cfg : RegFile := []
  sts : RegFile := []
  flt : Flt := {}
  sys : Sys := {}
  boot : BootState := {}
  mram : MramState := {}
  syn : SynState := {}
  conv : ConvState := {}
  slots : NMap SlotRec := []
  echo : NMap EchoRec := []
  gov : NMap GovRec := []
  govDl : GovDir := {}
  govUl : GovDir := {}
  watch : Watch := {}
  loop : LoopState := {}
  front : FrontState := {}
  lock : LockState := {}
  sync : SyncState := {}
  lichen : LichenState := {}
  bog : BogState := {}
  bix : BixState := {}
  hk : HkState := {}
  therm : ThermState := {}
  peat : PeatState := {}
  twb : TwbState := {}
  pcie : PcieState := {}
  pending : List Instr := []
  deriving DecidableEq, Repr

/-- The machine right after reset: every register at its Reset column (R11), the device OFF (R38). -/
def State.reset : State := {}

end Sys2Proof.Machine
end

