-- ==== Sys2Proof/Machine/Operands.lean ====
section
/-! DEFINITION. The operand forms: registers and fields read and written by address, the lock page's fields (R240, R245), and the
configuration of a slot, a branch, a lane and a governor as the manual's rules decode it from the registers. -/

namespace Sys2Proof.Machine

/-! ### Fields -/

/-- len bits of n from bit lo. -/
def bitsAt (n lo len : Nat) : Nat := n / 2 ^ lo % 2 ^ len

/-- Bit i of n. -/
def bitAt (n i : Nat) : Bool := n / 2 ^ i % 2 = 1

/-- n with len bits from bit lo replaced by v. -/
def putBits (n lo len v : Nat) : Nat := n - bitsAt n lo len * 2 ^ lo + v % 2 ^ len * 2 ^ lo

/-- A flag as a number. -/
def ofBool (b : Bool) : Nat := if b then 1 else 0

/-- The number whose bit i is f i, for i below n. -/
def packBits : Nat → (Nat → Bool) → Nat
  | 0, _ => 0
  | n + 1, f => packBits n f + ofBool (f n) * 2 ^ n

/-- The larger and the smaller of two values, as options when a list is folded. -/
def maxI (a b : Int) : Int := if a < b then b else a
def minI (a b : Int) : Int := if b < a then b else a

/-! ### Registers -/

/-- A configuration register. -/
def State.rd (s : State) (addr : Nat) : Nat := (NMap.get resetWord s.cfg addr).toNat

/-- A field of a configuration register. -/
def State.fld (s : State) (addr lo len : Nat) : Nat := bitsAt (s.rd addr) lo len

/-- A signed field of a configuration register. -/
def State.fldS (s : State) (addr lo len : Nat) : Int := signedOf len (s.fld addr lo len)

/-- A status register that the device writes. -/
def State.st (s : State) (addr : Nat) : Nat := (NMap.get resetWord s.sts addr).toNat

/-- A field of a status register. -/
def State.stF (s : State) (addr lo len : Nat) : Nat := bitsAt (s.st addr) lo len

/-- Write a configuration register (its reserved bits stay zero, R10). -/
def State.wr (s : State) (addr n : Nat) : State :=
  let m := match rowAt addr with
    | some r => r.mask
    | none => 0
  { s with cfg := NMap.put resetWord s.cfg addr (Word.ofNat (n % 2 ^ 32 &&& m)) }

/-- A register that a write reaches: below 0xC000, decoded, and not read-only. -/
def writable (a : Nat) : Bool := decide (a < 0xC000) && (match rowAt a with | some r => r.acc != .ro | none => false)

/-- The check set is written: a running check refuses (R101). -/
def State.touch (s : State) : State :=
  match s.sys.check with
  | some c => { s with sys := { s.sys with check := some { c with touched := true } } }
  | none => s

/-- A register of the check set (R99): its Reset column reads image. -/
def inCheckSet (addr : Nat) : Bool :=
  addr != Reg.SYS_SERVICE_EN && (match rowAt addr with | some r => r.image | none => false)

/-- An accepted write of a configuration register from outside. -/
def State.wrc (s : State) (addr n : Nat) : State :=
  let s := s.wr addr n
  if inCheckSet addr then s.touch else s

/-- Write a status register. -/
def State.setSt (s : State) (addr n : Nat) : State := { s with sts := NMap.put resetWord s.sts addr (Word.ofNat n) }

/-- Write a field of a status register. -/
def State.setStF (s : State) (addr lo len v : Nat) : State := s.setSt addr (putBits (s.st addr) lo len v)

/-- Advance a saturating count of w bits at bit lo of a status register. -/
def State.bumpF (s : State) (addr lo w k : Nat) : State :=
  s.setStF addr lo w (satAdd (2 ^ w - 1) (s.stF addr lo w) k)

/-- Advance a saturating 32-bit count. -/
def State.bump (s : State) (addr k : Nat) : State := s.bumpF addr 0 32 k

/-- Two signed 16-bit values in one register, the low half first. -/
def pack16 (a b : Int) : Nat := bitsOf 16 a + bitsOf 16 b * 65536

/-- A 64-bit value in two registers, low word first. -/
def State.setWide (s : State) (addr n : Nat) : State := (s.setSt addr (n % 2 ^ 32)).setSt (addr + 4) (n / 2 ^ 32 % 2 ^ 32)

/-! ### Units -/

/-- The record of unit u of block b. -/
def Flt.unit (f : Flt) (b u : Nat) : UnitRec := NMap.get (fun _ => {}) f.units (256 * b + u)

def Flt.setUnit (f : Flt) (b u : Nat) (r : UnitRec) : Flt :=
  { f with units := NMap.put (fun _ => {}) f.units (256 * b + u) r }

/-- The record of source `src` of block b. -/
def Flt.source (f : Flt) (b src : Nat) : Src := NMap.get (fun _ => {}) f.src (32 * b + src)

def Flt.setSource (f : Flt) (b src : Nat) (r : Src) : Flt :=
  { f with src := NMap.put (fun _ => {}) f.src (32 * b + src) r }

/-- A unit's state in its own block's record. -/
def State.unitSt (s : State) (b u : Nat) : UState := (s.flt.unit b u).st

def State.isFenced (s : State) (b u : Nat) : Bool := s.unitSt b u = .fenced
def State.isRetired (s : State) (b u : Nat) : Bool := s.unitSt b u = .retired

/-- Fenced or retired. -/
def State.isOut (s : State) (b u : Nat) : Bool := s.isFenced b u || s.isRetired b u

/-- A unit reads as fenced while the SUPPLY domain that feeds it is fenced, and a converter lane while CORE fences it (R354,
R30); a front end that FRONT fences acts as a fenced lane (R238). -/
def State.readsFenced (s : State) (b u : Nat) : Bool :=
  s.isFenced b u || (b = 19 && decide (u < 8) && s.isFenced 1 0) || (b = 5 && s.isFenced 1 1) ||
    (b = 7 && s.isFenced 23 u) || (b = 8 && s.isFenced 23 (u + 4))

/-! ### Directions, branches and lanes (R42) -/

def dirOf (n : Nat) : Dir := if n % 2 = 0 then .dl else .ul

def State.dirRec (s : State) (d : Dir) : DirRec := match d with | .dl => s.sys.dl | .ul => s.sys.ul

def State.setDir (s : State) (d : Dir) (r : DirRec) : State :=
  match d with
  | .dl => { s with sys := { s.sys with dl := r } }
  | .ul => { s with sys := { s.sys with ul := r } }

def State.dirSt (s : State) (d : Dir) : DirState := (s.dirRec d).st

/-- State codes (R38). -/
def DirState.code : DirState → Nat
  | .standby => 2
  | .cautious => 3
  | .full => 4
  | .muted => 5
  | .listen => 6
  | .playback => 7
  | .shutdown => 8

/-- Lane of branch b of direction d, on the receive or transmit side (R125, R127): the same numbering on both sides. -/
def laneOf (d : Dir) (b : Nat) : Nat := 2 * d.num + b

def laneDir (l : Nat) : Dir := if l < 2 then .dl else .ul

/-- Slots of a direction, 16 standing for the bypass slot. -/
def slotNums : List Nat := [0, 1, 2, 3, 4, 5, 6, 7, 8, 9, 10, 11, 12, 13, 14, 15, 16]

/-- The synthesiser that a number names. -/
def synOf (u : Nat) : Syn := if u = 0 then .c else if u = 1 then .d else .u

/-- Governors of a direction (R176). -/
def govNums : List Nat := [0, 1, 2, 3, 4, 5, 6, 7, 8, 9, 10, 11, 12, 13, 14, 15]

def laneNums : List Nat := [0, 1, 2, 3]

/-- Slot index s′ of R174. -/
def slotKey (d : Dir) (n : Nat) : Nat := 17 * d.num + n

def keyDir (k : Nat) : Dir := if k < 17 then .dl else .ul
def keySlot (k : Nat) : Nat := k % 17

/-- Governor of a slot (R176). -/
def govOf (n : Nat) : Nat := if n = 16 then 0 else n

def govKey (d : Dir) (g : Nat) : Nat := 16 * d.num + g

/-! ### Slot configuration (R153, R174, R266) -/

def State.slotCfg (s : State) (d : Dir) (n : Nat) : Nat := s.rd (Reg.CHAN_SLOT_CFG d n)
def State.slotEn (s : State) (d : Dir) (n : Nat) : Bool := bitAt (s.slotCfg d n) 0
def State.slotTdd (s : State) (d : Dir) (n : Nat) : Bool := bitAt (s.slotCfg d n) 1
def State.slotElig (s : State) (d : Dir) (n : Nat) : Bool := bitAt (s.slotCfg d n) 2
def State.slotResp (s : State) (d : Dir) (n : Nat) : Nat := bitsAt (s.slotCfg d n) 8 8

/-- Enabled slots of a direction. -/
def State.enabled (s : State) (d : Dir) : List Nat := slotNums.filter (fun n => s.slotEn d n)

/-- The unit of CHAN that is a slot is retired, or the governor of the enabled slot is, or its direction (R194, R360). -/
def State.slotRetired (s : State) (d : Dir) (n : Nat) : Bool :=
  s.isRetired (12 + d.num) n || (s.slotEn d n && (s.isRetired (15 + d.num) (govOf n) || s.isRetired (15 + d.num) 16))

/-- Trim of a branch in 0.01 dB. -/
def State.trim (s : State) (d : Dir) (n b : Nat) : Int := s.fldS (Reg.CHAN_SLOT_TRIM d n) (16 * b) 16

/-- max(trim0, trim1, 0) of R181. -/
def State.trimMax (s : State) (d : Dir) (n : Nat) : Int := maxI (maxI (s.trim d n 0) (s.trim d n 1)) 0

/-- Bandwidths in kHz by bandwidth index (R142). -/
def bwTable : List Nat :=
  [200, 600, 1250, 1875, 2500, 3125, 3750, 5000, 6250, 7500, 10000, 12500, 15000, 20000, 25000, 30000, 40000, 50000, 60000,
   80000, 100000, 120000, 160000, 200000]

/-- Rate exponents k by bandwidth index (R142). -/
def kTable : List Nat := [9, 9, 9, 8, 8, 8, 7, 7, 7, 6, 6, 6, 5, 5, 5, 4, 4, 4, 3, 3, 3, 2, 2, 2]

/-- Taps by class A to H, for the five groups of bandwidth indices (R140). -/
def tapTable (b : Nat) : List Nat :=
  if b = 0 then [263, 351, 117, 437, 105, 161, 437, 203]
  else if b = 1 then [89, 117, 39, 147, 35, 55, 147, 69]
  else if b % 3 = 0 then [57, 75, 25, 95, 23, 35, 95, 43]
  else if b = 2 ∨ b % 3 = 1 then [43, 57, 19, 71, 17, 27, 71, 33]
  else [35, 45, 15, 57, 15, 21, 57, 27]

/-- Chain delay P in conversion clocks (R134). -/
def chainDelay (k : Nat) : Nat := [0, 0, 137, 257, 493, 960, 1894, 3762, 7498, 14970].getD k 0

/-- Group delay and latency of a response in conversion clocks (R141). -/
def respGD (r : Nat) : Nat :=
  let k := kTable.getD (r / 8) 2
  chainDelay k + ((tapTable (r / 8)).getD (r % 8) 1 - 1) / 2 * 2 ^ (k + 1)

def respLat (r : Nat) : Nat :=
  let k := kTable.getD (r / 8) 2
  234 + 2 * chainDelay k + ((tapTable (r / 8)).getD (r % 8) 1 - 1) / 2 * 2 ^ (k + 1)

/-- Rate exponent of a slot: the bypass slot works at the lane rate (R21). -/
def State.slotK (s : State) (d : Dir) (n : Nat) : Nat :=
  if n = 16 then 0 else kTable.getD (s.slotResp d n / 8) 2

/-- Bandwidth of a slot in kHz (R133). -/
def State.slotBw (s : State) (d : Dir) (n : Nat) : Nat :=
  if n = 16 then 600000 else bwTable.getD (s.slotResp d n / 8) 200000

/-- Group delay of a slot's receive chain in conversion clocks (R141, R143). -/
def State.slotGD (s : State) (d : Dir) (n : Nat) : Nat := if n = 16 then 147 else respGD (s.slotResp d n)

/-- SLOT_INFO (R153). -/
def State.slotInfo (s : State) (d : Dir) (n : Nat) : Nat :=
  if n = 16 then 0x19C else
    let r := s.slotResp d n
    if 191 < r then 0 else respLat r + kTable.getD (r / 8) 2 * 2 ^ 20

/-- One kHz in the unit of 2^-33 kHz in which bands are compared: an NCO word is exact in it (R132). -/
def khz : Int := 8589934592

/-- IF centre of a slot. -/
def State.ifCentre (s : State) (d : Dir) (n : Nat) : Int :=
  if n = 16 then 491520 * khz
  else 491520 * khz + signedOf 32 (s.rd (Reg.CHAN_SLOT_NCO d n)) * 983040 * 2

/-- Nominal band of a slot at IF (R133). -/
def State.ifBand (s : State) (d : Dir) (n : Nat) : Int × Int :=
  let c := s.ifCentre d n
  let h := (s.slotBw d n : Int) * (khz / 2)
  (c - h, c + h)

/-- LO frequency and mixing sense of a direction (R109). -/
def loFreqReg (d : Dir) : Nat := match d with | .dl => Reg.SYN_LOD_FREQ | .ul => Reg.SYN_LOU_FREQ
def loCtrlReg (d : Dir) : Nat := match d with | .dl => Reg.SYN_LOD_CTRL | .ul => Reg.SYN_LOU_CTRL

/-- A band taken to RF (R109). -/
def rfBand (lo : Nat) (high : Bool) (b : Int × Int) : Int × Int :=
  if high then ((lo : Int) * khz - b.2, (lo : Int) * khz - b.1) else ((lo : Int) * khz + b.1, (lo : Int) * khz + b.2)

/-- PROBE_CFG.MODE: 0 on, 1 off (3 acts as off), 2 forced (R174). -/
def State.probeMode (s : State) (d : Dir) (n : Nat) : Nat :=
  let m := s.fld (Reg.ECHO_PROBE_CFG (slotKey d n)) 0 2
  if m = 3 then 1 else m

def State.probeOff (s : State) (d : Dir) (n : Nat) : Bool := s.probeMode d n = 1

/-- The forced probe level in dB. -/
def State.probeForced (s : State) (d : Dir) (n : Nat) : Int := s.fldS (Reg.ECHO_PROBE_CFG (slotKey d n)) 8 8

/-- The sync reference that a slot names (R266): only 0–15 name one. -/
def State.slotRef (s : State) (d : Dir) (n : Nat) : Option Nat :=
  let a := match d with | .dl => Reg.SYNC_SLOT_REF_DL (n / 4) | .ul => Reg.SYNC_SLOT_REF_UL (n / 4)
  let v := s.fld a (8 * (n % 4)) 8
  if v < 16 then some v else none

/-- DIV_CFG's field of a direction: none is automatic (R266). -/
def State.divField (s : State) (d : Dir) : Option Nat :=
  let v := s.fld Reg.SYNC_DIV_CFG (8 * d.num) 5
  if v < 16 then some v else none

/-- The diversity reference of a direction (R260). -/
def State.divRef (s : State) (d : Dir) : Option Nat :=
  match s.divField d with
  | some r => some r
  | none => (s.enabled d).findSome? (fun n => s.slotRef d n)

/-- BRANCHING as written: 0 2×2 MIMO, 1 SISO diversity, 2 SISO single; 3 acts as 0 (R153). -/
def State.branching (s : State) (d : Dir) : Nat :=
  let b := s.fld (Reg.CHAN_BRANCH_CFG d) 0 2
  if b = 3 then 0 else b

/-- Branching in force: diversity without a sync reference runs as SISO single (R53). -/
def State.branchMode (s : State) (d : Dir) : Nat :=
  if s.branching d = 1 ∧ (s.divRef d).isNone then 2 else s.branching d

/-- Receive branches that a direction runs, and transmit branches that carry output (R42). -/
def rxBranches (mode : Nat) : List Nat := if mode = 2 then [0] else [0, 1]
def txBranches (mode : Nat) : List Nat := if mode = 0 then [0, 1] else [0]

def State.rxBr (s : State) (d : Dir) : List Nat := rxBranches (s.branchMode d)
def State.txBr (s : State) (d : Dir) : List Nat := txBranches (s.branchMode d)

/-- A lane out of service: RXC, TXC, CORE or FRONT has it out (R30, R117, R238), or it is restored and its calibration is not
back yet (R117). -/
def State.rxOut (s : State) (l : Nat) : Bool := s.isOut 7 l || s.isOut 23 l || s.isOut 9 (l + 4) || s.conv.rxRestoring.getLsbD l
def State.txOut (s : State) (l : Nat) : Bool := s.isOut 8 l || s.isOut 23 (l + 4) || s.isOut 9 l || s.conv.txRestoring.getLsbD l

/-- Branches of a direction whose receive and transmit lanes are both in service (R117); in SISO modes either receive lane in
service keeps transmit branch 0 up. -/
def State.branchesUp (s : State) (d : Dir) : List Nat :=
  if s.branchMode d = 0 then
    [0, 1].filter (fun b => !s.rxOut (laneOf d b) && !s.txOut (laneOf d b))
  else if (s.rxBr d).any (fun b => !s.rxOut (laneOf d b)) && !s.txOut (laneOf d 0) then [0] else []

/-! ### Governor configuration (R197) -/

def State.target (s : State) (d : Dir) (g : Nat) : Int := s.fldS (Reg.GOV_SLOT_TARGET d g) 0 16
def State.lawEn (s : State) (d : Dir) (g i : Nat) : Bool := bitAt (s.rd (Reg.GOV_CTRL d g)) i
def State.pairField (s : State) (d : Dir) (g : Nat) : Nat := s.fld (Reg.GOV_CTRL d g) 8 5
def State.l1Margin (s : State) (d : Dir) (g : Nat) : Int := s.fld (Reg.GOV_CTRL d g) 16 16
def State.l2Limit (s : State) (d : Dir) (g : Nat) : Int := s.fldS (Reg.GOV_L2_LIMIT d g) 0 16

/-- The cautious gain cap in 0.01 dB (R39, R184). -/
def gCap (target : Int) : Int := maxI 0 (minI (target - 2000) 4500)

/-- The slot that governor g serves now: the bypass slot when it is enabled and g is 0 (R176). -/
def State.govSlot (s : State) (d : Dir) (g : Nat) : Nat := if g = 0 ∧ s.slotEn d 16 then 16 else g

/-- A governor is in use while its slot is enabled. -/
def State.govEn (s : State) (d : Dir) (g : Nat) : Bool := s.slotEn d (s.govSlot d g)

/-! ### The lock page (R240, R245) -/

/-- Value of a byte of the page as delivered. -/
def lockDelivered (k : Nat) : Byte :=
  let w : Nat :=
    if k / 4 = 1 then 1 else if k / 4 = 2 then 1 else if k / 4 = 3 then 2 ^ 32 - 1200
    else if k / 4 = 4 ∨ k / 4 = 5 then 9500 else if k / 4 = 6 ∨ k / 4 = 7 then 10000
    else if 8 ≤ k / 4 ∧ k / 4 < 12 then 6000 else 0
  BitVec.ofNat 8 (w / 256 ^ (k % 4))

/-- A byte of the mirror. -/
def LockState.byte (l : LockState) (k : Nat) : Byte := NMap.get lockDelivered l.page k

/-- n bytes of the mirror. -/
def LockState.bytes (l : LockState) (off : Nat) : Nat → List Byte
  | 0 => []
  | n + 1 => l.byte off :: l.bytes (off + 1) n

/-- A 32-bit word of the mirror as stored. -/
def LockState.raw (l : LockState) (off : Nat) : Nat := ofLe (l.bytes off 4)

/-- An uncorrectable codeword in the limits (R245). -/
def LockState.damaged (l : LockState) : Bool := l.ue.any (fun c => decide (c < 64))

/-- The codeword that holds byte `off` cannot be corrected. -/
def LockState.bad (l : LockState) (off : Nat) : Bool := l.ue.contains (off / 32)

/-- A signed field of the limits, at its strictest in a damaged codeword. -/
def LockState.signed (l : LockState) (off : Nat) : Int := if l.bad off then -2147483648 else signedOf 32 (l.raw off)

def LockState.locked (l : LockState) : Bool := l.damaged || bitAt (l.raw 0) 0
def LockState.playAir (l : LockState) : Bool := !l.bad 8 && decide (l.raw 8 = 1)
def LockState.mossMax (l : LockState) : Int := l.signed 0x0C
def LockState.gainMax (l : LockState) (d : Dir) : Int := l.signed (0x10 + 4 * d.num)
def LockState.dutyMax (l : LockState) (d : Dir) : Nat := if l.bad 0x18 then 0 else l.raw (0x18 + 4 * d.num)
def LockState.outMax (l : LockState) (lane : Nat) : Int := l.signed (0x20 + 4 * lane)

/-- Edges of range i in kHz; empty where both are 0 or the codeword is damaged. -/
def LockState.range (l : LockState) (i : Nat) : Nat × Nat :=
  if l.bad (0x40 + 8 * i) then (0, 0) else (l.raw (0x40 + 8 * i), l.raw (0x44 + 8 * i))

def rangeNums : List Nat := List.range 32

/-- Does an RF band lie wholly inside a non-empty range? -/
def inRange (r : Nat × Nat) (b : Int × Int) : Bool :=
  !(r.1 = 0 && r.2 = 0) && decide ((r.1 : Int) * khz ≤ b.1) && decide (b.2 ≤ (r.2 : Int) * khz)

/-- Does an RF band lie wholly inside some allowed range (R102, 0x0701)? -/
def LockState.allows (l : LockState) (b : Int × Int) : Bool := rangeNums.any (fun i => inRange (l.range i) b)

/-- Would every enabled slot of a direction stay inside the allowed ranges with this LO (R110)? -/
def State.loAllowed (s : State) (d : Dir) (lo : Nat) (high : Bool) : Bool :=
  (s.enabled d).all (fun n => s.lock.allows (rfBand lo high (s.ifBand d n)))

/-! ### Service -/

def State.loEn (s : State) (d : Dir) : Bool := bitAt (s.rd (loCtrlReg d)) 0

def synNum : Syn → Nat
  | .c => 0
  | .d => 1
  | .u => 2

def State.synRec (s : State) (y : Syn) : SynRec := match y with | .c => s.syn.c | .d => s.syn.d | .u => s.syn.u

def dirSyn : Dir → Syn
  | .dl => .d
  | .ul => .u

/-- The point of a playing pattern is a transmit point (R41); R297 codes points 0 and 1 as transmit points. -/
def State.patTransmit (s : State) (p : Nat) : Bool :=
  let pt := s.fld (Reg.BOG_PAT_CFG p) 1 2
  pt = 0 || pt = 1

def State.playing (s : State) (d : Dir) : Option Playing := match d with | .dl => s.bog.pbDl | .ul => s.bog.pbUl

/-- "Transmits" in the sense of R110: CAUTIOUS, FULL, MUTED, or PLAYBACK to a transmit point. -/
def State.transmits (s : State) (d : Dir) : Bool :=
  match s.dirSt d with
  | .cautious | .full | .muted => true
  | .playback => match s.playing d with
    | some pb => s.patTransmit pb.pattern
    | none => false
  | _ => false

/-- During a check, writes are judged as with SERVICE_EN 0 (R101). -/
def State.judgeEn (s : State) : Bool := s.sys.serviceEn && s.sys.check.isNone

end Sys2Proof.Machine
end

