-- ==== Sys2Proof/Machine/Recorder.lean ====
section
/-! DEFINITION. The MRAM write port (R36) and the Peat recorder's closes, repeats, hold queue and commits (R370–R376): the shared
operations that every notable cause uses. -/

namespace Sys2Proof.Machine

/-! ### The MRAM write port (R36) -/

/-- Precedence of a write, 1 highest. -/
def MramJob.prec : MramJob → Nat
  | .emergency => 1
  | .lock => 2
  | .peat => 3
  | .flush => 4
  | .cache _ => 5
  | .runState => 6

/-- Insert behind every write of equal or higher precedence. -/
def MramJob.insert (j : MramJob) : List MramJob → List MramJob
  | [] => [j]
  | x :: t => if j.prec < x.prec then j :: x :: t else x :: MramJob.insert j t

/-- Ask for a write: it starts at once when the port is idle. -/
def MramState.submit (m : MramState) (j : MramJob) : MramState :=
  match m.inFlight with
  | none => { m with inFlight := some j }
  | some _ => { m with queue := j.insert m.queue }

/-- The write in flight ends and the next is taken in order of precedence. -/
def MramState.next (m : MramState) : MramState := { inFlight := m.queue.head?, queue := m.queue.drop 1 }

/-- The write j ends: the port goes on when it was in flight, else it leaves the queue. -/
def MramState.finish (m : MramState) (j : MramJob) : MramState :=
  if m.inFlight = some j then m.next else { m with queue := m.queue.erase j }

/-- The write in flight ends, and j, which goes on with it, takes its place in the queue before the next is chosen (R36). -/
def MramState.goOn (m : MramState) (j : MramJob) : MramState := { m with queue := j.insert m.queue }.next

/-- A write of kind j is waiting and has not started. -/
def MramState.waits (m : MramState) (j : MramJob) : Bool := m.queue.contains j && m.inFlight != some j

/-! ### Records (R370, R371) -/

/-- Severity of a closing cause (R373). -/
def causeSeverity (c : Nat) : Nat :=
  match c with
  | 3 | 9 | 10 => 2
  | 4 | 5 | 6 => 3
  | 7 | 8 | 11 => 1
  | _ => 0

/-- An extreme's four bytes: value and seconds since the opening; 0x8000 when not observed. -/
def extBytes (i : Interval) (x : Nat) : List Byte :=
  match i.ext.find? (fun e => e.1 = x) with
  | some (_, v, t) => leBytes 2 (bitsOf 16 v) ++ leBytes 2 (if t < 65535 then t else 65535)
  | none => leBytes 2 0x8000 ++ leBytes 2 0

/-- A bin as stored: round_he(full × n / COVER). -/
def binShare (full n cover : Nat) : Nat := if cover = 0 then 0 else (rneDiv ((full * n : Nat) : Int) cover).toNat

/-- Count of bin b of histogram h. -/
def Interval.bin (i : Interval) (h b : Nat) : Nat := NMap.get (fun _ => 0) i.bins (16 * h + b)

/-- Four nibbles of a slot's or governor's histogram. -/
def nibbles (i : Interval) (h : Nat) : List Byte :=
  let n (b : Nat) := binShare 15 (i.bin h b) i.cover
  leBytes 2 (n 0 + n 1 * 16 + n 2 * 256 + n 3 * 4096)

/-- w byte bins of a histogram. -/
def byteBins (i : Interval) (h : Nat) (w : Nat) : List Byte :=
  (List.range w).map (fun b => BitVec.ofNat 8 (binShare 255 (i.bin h b) i.cover))

/-- Bytes 32–255 of a record (R371); `en h` says whether slot h of 0–31 is enabled. -/
def bodyBytes (i : Interval) (en : Nat → Bool) (vcoreMin : List Byte) (lost : Nat) : List Byte :=
  ((List.range 7).map (fun x => extBytes i x)).flatten
  ++ leBytes 2 i.mutes ++ leBytes 2 i.severe
  ++ ((List.range 32).map (fun h => if en h then nibbles i h else leBytes 2 0)).flatten
  ++ ((List.range 32).map (fun h => if en h then nibbles i (32 + h) else leBytes 2 0)).flatten
  ++ byteBins i 64 8 ++ byteBins i 65 8 ++ byteBins i 66 8 ++ byteBins i 67 8
  ++ byteBins i 68 16 ++ vcoreMin
  ++ leBytes 4 i.cover ++ leBytes 2 (if lost < 65535 then lost else 65535)
  ++ leBytes 2 (if i.attnDrops < 65535 then i.attnDrops else 65535)

/-- Header codeword with its CRC field given (R370). -/
def PeatRec.header (r : PeatRec) (crc : Nat) : List Byte :=
  leBytes 1 r.kind ++ leBytes 1 r.format ++ leBytes 1 r.cause ++ leBytes 1 r.cflags ++ leBytes 4 r.seq
  ++ leBytes 4 r.opsecClose ++ leBytes 4 r.pcc ++ leBytes 4 r.opsecLast ++ leBytes 2 r.rep ++ leBytes 2 r.duration
  ++ leBytes 4 r.detail ++ leBytes 4 crc

/-- The 256 bytes of a record; an empty slot reads zero. -/
def PeatRec.bytes (r : PeatRec) : List Byte :=
  if r.kind = 0 then List.replicate 256 0
  else
    let body := r.body ++ List.replicate (224 - r.body.length) 0
    r.header (crc32c (r.header 0 ++ body)) ++ body

/-- Is slot h of R371 (0–15 downlink, 16–31 uplink) enabled? The bypass slot counts as slot 0 of its direction. -/
def State.histEn (s : State) (h : Nat) : Bool :=
  s.slotEn (dirOf (h / 16)) (h % 16) || (h % 16 = 0 && s.slotEn (dirOf (h / 16)) 16)

/-- Service states of both directions, as R374 compares them. -/
def State.dirCodes (s : State) : Nat := (s.dirSt .dl).code + 16 * (s.dirSt .ul).code

/-! ### Closes, repeats and commits -/

/-- The recorder's own part of the state, and what a step of it reports: PEAT sources that count. -/
structure Rec where
  p : PeatState
  m : MramState
  counts : List Nat := []
  deriving DecidableEq, Repr

/-- The record slot i; an unlisted slot is empty. -/
def PeatState.slot (p : PeatState) (i : Nat) : PeatRec := NMap.get (fun _ => {}) p.slots i

/-- The newest record, held, being committed or committed (R375). -/
def PeatState.newestRec (p : PeatState) : Option PeatRec :=
  match p.hold.getLast? with
  | some r => some r
  | none => match p.writing with
    | some (some r) => some r
    | _ => p.newest.map p.slot

/-- Pending repeats of a record. -/
def PeatState.pending (p : PeatState) (seq : Nat) : Nat × Nat := NMap.get (fun _ => (0, 0)) p.pend seq

/-- REPEAT_WIN in seconds (R381). -/
def State.repeatWin (s : State) : Nat := let w := s.fld Reg.PEAT_CFG 8 8; if w = 0 then 1 else w

/-- Does a close with this cause and detail repeat the newest record (R374)? -/
def repeats (s : State) (p : PeatState) (cause detail : Nat) : Option PeatRec :=
  match p.newestRec with
  | none => none
  | some r =>
    let last := maxI r.opsecLast (p.pending r.seq).2
    if r.cause = cause ∧ r.detail = detail ∧ (r.kind = 1 ∨ r.kind = 3) ∧ cause ≠ 1 ∧ cause ≠ 4 ∧ cause ≠ 5 ∧
        (p.opsec : Int) < last + s.repeatWin ∧ r.states = s.dirCodes then some r else none

/-- Codewords of a record (R370). -/
def recWords : Nat := 8

/-- Start the next write to the record area that is due: a held record first, then pending repeats (R374, R375). -/
def Rec.drain (c : Rec) : Rec :=
  if c.p.writing.isSome ∨ c.p.frozen ∨ c.p.freezePending ∨ c.p.out then c
  else match c.p.hold with
    | r :: t => { c with p := { c.p with hold := t, writing := some (some r), left := recWords }, m := c.m.submit .peat }
    | [] =>
      match c.p.pend with
      | [] => c
      | (seq, n, last) :: rest =>
        match c.p.slots.find? (fun e => e.2.seq = seq && e.2.kind != 0) with
        | none => { c with p := { c.p with pend := rest } }
        | some (i, r) =>
          let room := 65535 - r.rep
          let take := if n < room then n else room
          { c with
            p := { c.p with
              slots := NMap.put (fun _ => {}) c.p.slots i { r with rep := r.rep + take, opsecLast := last }
              pend := rest
              writing := some none
              left := 1 }
            m := c.m.submit .peat }

/-- The record that the open interval would become (R370–R372). -/
def openRecord (s : State) (p : PeatState) (kind cause detail : Nat) : PeatRec :=
  let i := p.openI
  let dur := p.opsec - i.openedAt
  let (cause', detail') := match i.folded with
    | some (fc, fd) => if causeSeverity cause ≤ causeSeverity fc then (fc, fd) else (cause, detail)
    | none => (cause, detail)
  { kind := kind
    format := 1 + causeSeverity cause' * 16
    cause := cause'
    cflags := if i.folded.isSome then 2 else 0
    seq := p.nextSeq
    opsecClose := p.opsec
    pcc := p.pcc
    opsecLast := p.opsec
    rep := 0
    duration := if dur < 65535 then dur else 65535
    detail := detail'
    body := bodyBytes i s.histEn (byteBins i 69 8) p.lost
    states := s.dirCodes
    ue := 0 }

/-- INTERVAL in seconds; lower values act as 60 (R381). -/
def State.interval (s : State) : Nat := max 60 (s.fld Reg.PEAT_INTERVAL 0 16)

/-- A new interval of `limit` seconds opens when the previous one closes (R372). -/
def PeatState.reopen (p : PeatState) (limit : Nat) (born : Option Nat) : PeatState :=
  { p with openI := { openedAt := p.opsec, limit := limit, born := born } }

/-- What `born` of the next interval is, after a close with this cause. -/
def bornAfter (s : State) (cause : Nat) : Option Nat := if cause = 1 then none else some s.now

/-- Close the open interval as a record of this kind. -/
def Rec.push (s : State) (c : Rec) (kind cause detail : Nat) : Rec :=
  let r := openRecord s c.p kind cause detail
  { c with p := { c.p with hold := c.p.hold ++ [r], nextSeq := c.p.nextSeq + 1 }.reopen s.interval (bornAfter s cause) }.drain

/-- Keep the folded cause of highest severity, the earliest on a tie (R375). -/
def foldCause (old : Option (Nat × Nat)) (cause detail : Nat) : Option (Nat × Nat) :=
  match old with
  | some (c, d) => if causeSeverity c < causeSeverity cause then some (cause, detail) else some (c, d)
  | none => some (cause, detail)

/-- A close of the open interval (R372–R375, R380): LOST while the recorder is out of service, else a repeat of the newest
record, else a record committed, held or folded. -/
def Rec.close (s : State) (out : Bool) (c : Rec) (cause detail : Nat) : Rec :=
  if out then { c with p := { c.p with lost := satAdd 65535 c.p.lost 1 }.reopen s.interval (bornAfter s cause) }
  else
    let full := decide (4 ≤ c.p.hold.length)
    let fold : Rec :=
      { c with p := { c.p with openI := { c.p.openI with folded := foldCause c.p.openI.folded cause detail } },
               counts := c.counts ++ [9] }
    match repeats s c.p cause detail with
    | some r =>
      let (n, _) := c.p.pending r.seq
      if 65535 ≤ r.rep + n then
        if full then fold else { c with counts := c.counts ++ [6] }.push s 3 cause detail
      else
        { c with p := { c.p with
            pend := NMap.put (fun _ => (0, 0)) c.p.pend r.seq (n + 1, c.p.opsec)
            lastRepeat := some [s.now, r.seq, cause, detail, max r.opsecLast (c.p.pending r.seq).2] } }.drain
    | none => if full then fold else c.push s 1 cause detail

/-- The least number from n on that is not a key of a rising store: the lowest empty slot. -/
def lowestFree {α : Type} : NMap α → Nat → Nat
  | [], n => n
  | (k, _) :: t, n => if k < n then lowestFree t n else if k = n then lowestFree t (n + 1) else n

/-- The newest ring record (highest SEQ) among slots 1,024 and above. -/
def newestRing : NMap PeatRec → Option (Nat × Nat)
  | [] => none
  | (k, r) :: t =>
    match newestRing t with
    | some (k', q) => if k < 1024 ∨ r.seq < q then some (k', q) else some (k, r.seq)
    | none => if k < 1024 then none else some (k, r.seq)

/-- The oldest record whose severity is at or below `sev` (forerunner layout). -/
def oldestBelow (sev : Nat) : NMap PeatRec → Option (Nat × Nat)
  | [] => none
  | (k, r) :: t =>
    match oldestBelow sev t with
    | some (k', q) => if bitsAt r.format 4 2 ≤ sev ∧ r.seq < q then some (k, r.seq) else some (k', q)
    | none => if bitsAt r.format 4 2 ≤ sev then some (k, r.seq) else none

/-- Slot for a new record, and the PEAT sources that its choice counts (R376): none where it is discarded. -/
def PeatState.place (p : PeatState) (r : PeatRec) : Option Nat :=
  match p.tornSlot with
  | some i => some i
  | none =>
    if p.layout then
      let i := lowestFree p.slots 0
      if i < 21504 then some i else (oldestBelow (bitsAt r.format 4 2) p.slots).map Prod.fst
    else if !p.firstFull ∧ lowestFree p.slots 0 < 1024 then some (lowestFree p.slots 0)
    else match newestRing p.slots with
      | none => some 1024
      | some (k, _) => if k = 21503 then some 1024 else some (k + 1)

/-- The commit of record r ends: it stands in its slot (R376). -/
def Rec.store (c : Rec) (r : PeatRec) : Rec :=
  match c.p.place r with
  | none => { c with p := { c.p with discarded := satAdd 65535 c.p.discarded 1 }, counts := c.counts ++ [12] }
  | some i =>
    let wrapped := !c.p.layout && c.p.firstFull && c.p.tornSlot.isNone && i = 1024 && (newestRing c.p.slots).isSome
    let slots := NMap.put (fun _ => {}) c.p.slots i r
    let filled := !c.p.layout && !c.p.firstFull && decide (1023 < lowestFree slots 0)
    { c with
      p := { c.p with
        slots := slots
        newest := some i
        tornSlot := none
        firstFull := c.p.firstFull || filled
        wraps := if wrapped then satAdd 65535 c.p.wraps 1 else c.p.wraps
        emergency := if r.cause = 4 then none else c.p.emergency }
      counts := c.counts ++ (if filled then [10] else []) ++ (if wrapped then [11] else []) }

/-- A write to the record area ends (R375): its record stands, a freeze that waited begins, and the next write starts. -/
def Rec.complete (c : Rec) : Rec :=
  match c.p.writing with
  | none => c
  | some w =>
    let c1 := match w with
      | some r => c.store r
      | none => c
    let p := c1.p
    { c1 with
      p := { p with writing := none, left := 0, frozen := p.frozen || p.freezePending, freezePending := false, frozenN := 0 }
      m := c1.m.finish .peat }.drain

/-- The codeword in flight of a write to the record area ends: the write's next codeword waits its turn, so what takes precedence goes
between them (R36, R337, R380); the last one ends the write. -/
def Rec.codeword (c : Rec) : Rec :=
  if 1 < c.p.left then { c with p := { c.p with left := c.p.left - 1 }, m := c.m.goOn .peat } else c.complete

/-- The emergency codeword (R372): kind 2 with its cause, written at precedence 1. -/
def Rec.emergency (c : Rec) (cause detail : Nat) : Rec :=
  let r : PeatRec :=
    { kind := 2, format := 1 + causeSeverity cause * 16, cause := cause, opsecClose := c.p.opsec, pcc := c.p.pcc,
      opsecLast := c.p.opsec, detail := detail, seq := c.p.nextSeq }
  { c with p := { c.p with emergencyNext := some r }, m := c.m.submit .emergency }

end Sys2Proof.Machine
end

