-- ==== Sys2Proof/Machine/Ops.lean ====
section
/-! DEFINITION. The named operations that every family uses: counting an event with its handling, fence, retirement, attention
message and capture trigger (R352–R364, R290, R391), closing a Peat interval, and asking for an MRAM write. -/

namespace Sys2Proof.Machine

/-! ### Header registers (R366) -/

/-- Address of a header register of block b. -/
def hdr (b off : Nat) : Nat := 0x800 * b + off

/-- One millisecond of device time. -/
def msTime : Nat := 983040

/-- One tick of device time (R26). -/
def tickTime : Nat := 98304

/-- N and W of a block; 0 acts as 1. -/
def State.classN (s : State) (b : Nat) : Nat × Nat :=
  let v := s.rd (hdr b 0x18)
  let n := bitsAt v 0 8
  let w := bitsAt v 16 16
  (if n = 0 then 1 else n, if w = 0 then 1 else w)

/-- Q of a block in ms; 0 acts as 1. -/
def State.quietMs (s : State) (b : Nat) : Nat := let q := s.rd (hdr b 0x1C); if q = 0 then 1 else q

/-- K of a block; 0 acts as 1. -/
def State.retireK (s : State) (b : Nat) : Nat := let k := s.fld (hdr b 0x30) 0 4; if k = 0 then 1 else k

/-- A header word that the device writes. -/
def Flt.word (f : Flt) (a : Nat) : Nat := (NMap.get (fun _ => (0 : Word)) f.hdr a).toNat

def Flt.setWord (f : Flt) (a n : Nat) : Flt := { f with hdr := NMap.put (fun _ => (0 : Word)) f.hdr a (Word.ofNat n) }

/-- Advance a saturating count of w bits of a header word. -/
def Flt.bump (f : Flt) (a w : Nat) : Flt := f.setWord a (putBits (f.word a) 0 w (satAdd (2 ^ w - 1) (bitsAt (f.word a) 0 w) 1))

/-! ### Capture triggers (R290, R291) -/

def BogState.region (b : BogState) (n : Nat) : RegionRec := NMap.get (fun _ => {}) b.regions n

def BogState.setRegion (b : BogState) (n : Nat) (r : RegionRec) : BogState :=
  { b with regions := NMap.put (fun _ => {}) b.regions n r }

/-- STOP rule of region n. -/
def State.regStop (s : State) (n : Nat) : Nat := s.fld (Reg.BOG_REG_RULE n) 0 2

/-- Bytes of a region's segment: floor(SIZE / SEGMENTS) units of 4 KiB, SEGMENTS being 1 unless segmented (R288). -/
def State.segBytes (s : State) (n : Nat) : Nat :=
  let sg := clampN 1 1024 (s.fld (Reg.BOG_REG_RULE n) 16 11)
  s.fld (Reg.BOG_REG_SIZE n) 0 23 / (if s.regStop n = 3 then sg else 1) * 4096

/-- Segments of a region. -/
def State.regSegs (s : State) (n : Nat) : Nat :=
  if s.regStop n = 3 then clampN 1 1024 (s.fld (Reg.BOG_REG_RULE n) 16 11) else 1

/-- Data area of a segment: what its header page leaves. -/
def State.dataBytes (s : State) (n : Nat) : Nat := s.segBytes n - 4096

/-- PRE and POST in bytes as they act (R291). -/
def State.preBytes (s : State) (n : Nat) : Nat :=
  let p := s.fld (Reg.BOG_REG_PRE n) 0 23 * 4096
  let d := s.dataBytes n
  if d - 4096 < p then d - 4096 else p

def State.postBytes (s : State) (n : Nat) : Nat :=
  let p := s.fld (Reg.BOG_REG_POST n) 0 23 * 4096
  let room := s.dataBytes n - s.preBytes n
  if p = 0 ∨ room < p then room else p

/-- First byte of the present data area of a region. -/
def State.dataStart (s : State) (n seg : Nat) : Nat := s.fld (Reg.BOG_REG_BASE n) 0 22 * 4096 + seg * s.segBytes n + 4096

/-- Bytes that a continuously running source of region n writes in dt units of device time (R286, the table of R295): two
bytes a real lane sample, four a slot sample and branch; none for record sources. Halving stores every second sample. -/
def State.regBytes (s : State) (n : Nat) (dt : Int) : Int :=
  let src := s.rd (Reg.BOG_REG_SRC n)
  let half : Int := if s.bog.halving then 2 else 1
  match bitsAt src 0 3 with
  | 1 | 2 => 4 * (-((-dt) / half))
  | 3 =>
    let x := bitsAt src 5 6
    let d := if x < 17 then Dir.dl else Dir.ul
    let k := s.slotK d (x % 17)
    let nb : Int := if 2 ≤ bitsAt src 13 2 then 2 else 1
    4 * nb * (-((-dt) / ((2 ^ k : Nat) * half)))
  | _ => 0

/-- The rule keeps PRE and POST around its trigger: single and segmented (R291). -/
def State.regOnce (s : State) (n : Nat) : Bool := s.regStop n = 0 || s.regStop n = 3

/-- A trigger of time t reaches region n (R290, R291, R295): accepted, or ignored and counted. -/
def fireRegion (s : State) (b : BogState) (n t : Nat) : BogState :=
  let r := b.region n
  let once := s.regOnce n
  if r.st = 1 ∨ (r.st = 2 ∧ !once) then
    let ahead : Int := if r.paused then 0 else s.regBytes n ((t : Int) - r.upTo)
    let heldAt : Int := r.held + ahead
    let short := decide (heldAt < s.preBytes n) && once
    if bitAt (s.rd (Reg.BOG_REG_RULE n)) 2 ∧ short then
      b.setRegion n { r with ignored := satAdd 65535 r.ignored 1 }
    else
      let since : Int := if heldAt < 0 then r.held else -ahead
      let size : Int := s.dataBytes n
      let pos := if size = 0 then 0 else ((r.wr : Int) - since) % size
      b.setRegion n { r with
        st := 2, trigTime := t, triggered := true, trigAddr := s.dataStart n r.seg + pos.toNat, since := since
        preHeld := (clampI 0 (s.preBytes n) heldAt).toNat
        flags := r.flags ||| (1 + (if short then 2 else 0)) }
  else if r.st = 2 then b.setRegion n { r with ignored := satAdd 65535 r.ignored 1 }
  else b

/-- Regions of the block. -/
def regionNums : List Nat := [0, 1, 2, 3, 4, 5, 6, 7]

/-- Fire every region whose trigger matches (R290, R295: each acts on its own). -/
def fireWhere (s : State) (b : BogState) (t : Nat) (p : Nat → Bool) : BogState :=
  regionNums.foldl (fun b n => if p n then fireRegion s b n t else b) b

/-- TRIG.KIND of region n. -/
def State.trigKind (s : State) (n : Nat) : Nat := s.fld (Reg.BOG_REG_TRIG n) 0 3

/-- Does region n trigger on event e (kind 3)? -/
def State.trigsOn (s : State) (e : Nat) (inj : Bool) (n : Nat) : Bool :=
  s.trigKind n = 3 && s.fld (Reg.BOG_REG_TRIG n) 16 10 = e && (!inj || bitAt (s.rd (Reg.BOG_REG_TRIG n)) 26)

/-! ### Attention (R362, R390, R391) -/

/-- HOST disables attention (R390). -/
def hostDisables (h : Nat) : Bool := decide (h < 8) || decide (0x78 ≤ h)

/-- The queue without its oldest transient message that is not being sent; `skip`: the head is on the bus. -/
def dropTransient (skip : Bool) : List Msg → Option (List Msg)
  | [] => none
  | m :: t =>
    if skip then (dropTransient false t).map (m :: ·)
    else if m.cls = 0 then some t
    else (dropTransient false t).map (m :: ·)

/-! ### Counting an event (R352–R364) -/

/-- An event on its way to be counted. -/
structure Ev where
  blk : Nat
  src : Nat
  unit : Option Nat := none
  /-- An armed check that met a real fault (R364): counted as real, and the injection is used up. -/
  usesArm : Bool := false
  /-- DETAIL of the source, where the chapter attaches one (R367). -/
  detail : Nat := 0
  deriving DecidableEq, Repr

/-- The parts of the state that counting an event touches. -/
structure Fx where
  flt : Flt
  twb : TwbState
  peat : PeatState
  mram : MramState
  bog : BogState
  deriving DecidableEq, Repr

/-- The block counts no source for a unit that reads as fenced because of another block (R354), and RXC and TXC none at all for a
lane that CORE fenced (R30): source n of either is lane n % 4's (R126, R128). -/
def suppressed (f : Flt) (b src : Nat) (u : Option Nat) : Bool :=
  (b = 7 && (f.unit 23 (src % 4)).st = .fenced) || (b = 8 && (f.unit 23 (src % 4 + 4)).st = .fenced) ||
  match u with
  | none => false
  | some n => (b = 19 && decide (n < 8) && (f.unit 1 0).st = .fenced) || (b = 5 && (f.unit 1 1).st = .fenced)

/-- Queue an attention message (R391); the answer lists the TWB sources that count. -/
def enqueue (s : State) (x : Fx) (b src cls total : Nat) (inj : Bool) : Fx × List Ev :=
  if !bitAt (s.rd (hdr b 0x10)) src || hostDisables (s.fld Reg.TWB_ADDR_CFG 8 7) then (x, [])
  else
    let m : Msg := { blk := b, cls := cls, inj := inj, source := src, total := total, seq := x.twb.nextSeq }
    let wrap : List Ev := if x.twb.nextSeq = 255 then [{ blk := 4, src := 12 }] else []
    let dropped : List Ev := [{ blk := 4, src := 2 }]
    let drop (x : Fx) : Fx :=
      { x with
        twb := { x.twb with drops := putBits x.twb.drops 16 16 (satAdd 65535 (bitsAt x.twb.drops 16 16) 1) }
        peat := { x.peat with openI := { x.peat.openI with attnDrops := satAdd 65535 x.peat.openI.attnDrops 1 } } }
    let nextSeq := (x.twb.nextSeq + 1) % 256
    if x.twb.queue.length < 16 then
      ({ x with twb := { x.twb with queue := x.twb.queue ++ [m], nextSeq := nextSeq } }, wrap)
    else match dropTransient x.twb.sending x.twb.queue with
      | some q =>
        let tw := if q.head? = x.twb.queue.head? then x.twb else { x.twb with waiting := false, backoff := none, attempt := 0 }
        (drop { x with twb := { tw with queue := q ++ [m], nextSeq := nextSeq } }, dropped ++ wrap)
      | none => (drop x, dropped)

/-- Restores of a unit within the preceding 86,400 operating seconds. -/
def recentRestores (opsec : Nat) (r : UnitRec) : Nat := (r.restores.filter (fun t => decide (opsec ≤ t + 86400))).length

/-- Close the open Peat interval within Fx: the events that the close counts come back. -/
def Fx.peatClose (s : State) (x : Fx) (cause detail : Nat) : Fx × List Ev :=
  let st := (x.flt.unit 21 0).st
  let c := Rec.close s (st = .fenced || st = .retired) { p := x.peat, m := x.mram } cause detail
  ({ x with peat := c.p, mram := c.m }, c.counts.map (fun n => { blk := 21, src := n }))

/-- Fence or retire unit u for an event of source src (R357, R360). -/
def fenceUnit (s : State) (f : Flt) (opsec b u src : Nat) : Flt × Bool :=
  let r := f.unit b u
  if s.retireK b ≤ recentRestores opsec r then
    let w := f.word (hdr b 0x2C)
    let f := f.setUnit b u { r with st := .retired, cause := r.cause ||| 2 ^ src, qEnd := 0, qMs := 0 }
    (f.setWord (hdr b 0x2C) (satAdd 255 (bitsAt w 0 8) 1 + u % 256 * 256), true)
  else
    let q := s.quietMs b
    (f.setUnit b u { r with st := .fenced, cause := r.cause ||| 2 ^ src, qMs := q, qEnd := s.now + q * msTime }, false)

/-- A source's record after one event at device time t (R355, R359, R365): its total, its window, its quiet period of q ms and its class. -/
def Src.count (r : Src) (nw : Nat × Nat) (t q : Nat) (usesArm : Bool) (detail : Nat) : Src :=
  let winN := if r.windowOpen then r.winN else nw.1
  let winMs := if r.windowOpen then r.winMs else nw.2
  let win := if r.windowOpen then satAdd 255 r.win 1 else 1
  { r with total := satAdd 65535 r.total 1, win := win, windowOpen := true, winN := winN, winMs := winMs
           winEnd := if r.windowOpen then r.winEnd else t + winMs * msTime, qEnd := t + q * msTime
           severe := r.severe || decide (win = winN) || decide (winN = 1), armed := r.armed && !usesArm, detail := detail }

/-- What an event of source src does to the unit that it names (R357, R358, R360); the answer says whether it merged into a running
handling, and whether the unit is now retired. -/
def countUnit (s : State) (f : Flt) (opsec b src : Nat) (severe : Bool) (unit : Option Nat) : Flt × Bool × Bool :=
  match unit with
  | none => (f, false, false)
  | some u =>
    let ur := f.unit b u
    match ur.st with
    | .inService =>
      let ur := { ur with first := src, cause := 2 ^ src }
      if severe then
        let (f', ret) := fenceUnit s (f.setUnit b u ur) opsec b u src
        (f', false, ret)
      else (f.setUnit b u { ur with st := .transient }, false, false)
    | .transient =>
      let f := f.bump (hdr b 0x24) 32
      let f := f.setUnit b u { ur with cause := ur.cause ||| 2 ^ src }
      if severe then
        let (f', ret) := fenceUnit s f opsec b u src
        (f', true, ret)
      else (f, true, false)
    | .fenced =>
      let f := f.bump (hdr b 0x24) 32
      (f.setUnit b u { ur with cause := ur.cause ||| 2 ^ src, qEnd := s.now + ur.qMs * msTime }, true, false)
    | .retired => (f, false, false)

/-- The header words that an event sets: its source seen, and its source severe (R366). -/
def markHdr (f : Flt) (b src : Nat) (makes : Bool) : Flt :=
  let f := f.setWord (hdr b 0x08) (f.word (hdr b 0x08) ||| 2 ^ src)
  if makes then f.setWord (hdr b 0x0C) (f.word (hdr b 0x0C) ||| 2 ^ src) else f

/-- One event counted (R355, R357, R358, R362, R364). The list holds the events that this count gives rise to. -/
def countOne (s : State) (x : Fx) (e : Ev) : Fx × List Ev :=
  let b := e.blk
  let unit := namedUnit b e.src e.unit
  if suppressed x.flt b e.src unit then (x, [])
  else
    let r := x.flt.source b e.src
    let r' := r.count (s.classN b) s.now (s.quietMs b) e.usesArm e.detail
    let makes := r'.severe && !r.severe
    let inj := r.armed
    let f := markHdr (x.flt.setSource b e.src r') b e.src makes
    let (f, merged, retired) := countUnit s f x.peat.opsec b e.src r'.severe unit
    let cls := if retired then 3 else if r'.severe then 1 else 0
    let f := f.setWord (hdr b 0x28)
      (32 * b + e.src + cls * 1024 + ofBool inj * 8192 + ofBool merged * 16384 + r'.total * 65536)
    let f := { f with recent := f.recent ++ [32 * b + e.src] }
    let peat := if makes then
        { x.peat with openI := { x.peat.openI with severe := satAdd 65535 x.peat.openI.severe 1 } } else x.peat
    let x := { x with flt := f, peat := peat,
                      bog := fireWhere s x.bog s.now (s.trigsOn (32 * b + e.src) false) }
    -- attention
    let (x, ev1) :=
      if retired then enqueue s x b e.src 3 r'.total inj
      else if makes then enqueue s x b e.src 1 r'.total inj
      else if !r.windowOpen && !r'.severe && !merged then enqueue s x b e.src 0 r'.total inj
      else (x, [])
    -- a retirement is a notable cause
    let (x, ev2) := if retired then x.peatClose s 6 (32 * b + e.src + unit.getD 0 % 256 * 65536) else (x, [])
    (x, ev1 ++ ev2)

/-- Count events in order, each count's own events after it; the fuel bounds the chain. -/
def countAll (s : State) : Nat → Fx → List Ev → Fx
  | 0, x, _ => x
  | _ + 1, x, [] => x
  | n + 1, x, e :: es =>
    let (x', more) := countOne s x e
    countAll s n x' (es ++ more)

/-- The parts of a state that counting touches. -/
def State.fx (s : State) : Fx := { flt := s.flt, twb := s.twb, peat := s.peat, mram := s.mram, bog := s.bog }

def State.withFx (s : State) (x : Fx) : State :=
  { s with flt := x.flt, twb := x.twb, peat := x.peat, mram := x.mram, bog := x.bog }

/-- Count events in the order given. -/
def State.raiseEvs (s : State) (es : List Ev) : State := s.withFx (countAll s (es.length + 12) s.fx es)

/-- Count one event of source src of block b that names unit u, or none. -/
def State.raise (s : State) (b src : Nat) (u : Option Nat := none) : State := s.raiseEvs [{ blk := b, src := src, unit := u }]

/-- Count one event where a condition holds. -/
def State.raiseIf (s : State) (c : Bool) (b src : Nat) (u : Option Nat := none) : State := if c then s.raise b src u else s

/-- An injected event (R363): its counts, LAST_EVENT with INJ, the source disarmed, and a Bog trigger where INJ_OK allows. -/
def State.inject (s : State) (b src : Nat) : State :=
  let r := s.flt.source b src
  let f := s.flt.setSource b src { r with armed := false, injTotal := satAdd 65535 r.injTotal 1 }
  let f := f.bump (hdr b 0x34) 16
  let f := f.setWord (hdr b 0x28) (32 * b + src + 4096 + r.total * 65536)
  { s with flt := f, bog := fireWhere s s.bog s.now (s.trigsOn (32 * b + src) true) }

/-- Unit u of block b is fenced now for source src (R320, R325, R341, R442), where it is in service: retirement takes the fence's place as
R360 gives. -/
def State.fenceNow (s : State) (b u src : Nat) : State :=
  if s.isOut b u then s else { s with flt := (fenceUnit s s.flt s.peat.opsec b u src).1 }

/-- Close the open Peat interval with a cause and its detail (R372). -/
def State.peatClose (s : State) (cause detail : Nat) : State :=
  let (x, evs) := s.fx.peatClose s cause detail
  (s.withFx x).raiseEvs evs

/-- Run an operation on the recorder and count what it reports. -/
def State.recorder (s : State) (f : Rec → Rec) : State :=
  let c := f { p := s.peat, m := s.mram }
  { s with peat := c.p, mram := c.m }.raiseEvs (c.counts.map (fun n => { blk := 21, src := n }))

/-- Ask for an MRAM write (R36). -/
def State.mramWrite (s : State) (j : MramJob) : State := { s with mram := s.mram.submit j }

/-- A fresh free value (log entry 2), and the state that has used it. -/
def State.fresh (s : State) : Word × State := (Config.freeWord s.free, { s with free := s.free + 1 })

/-! ### Consumers of the lock page (R243) -/

/-- The key of an item of the lock page; every range is one item to its consumers. -/
def lockKey (item index : Nat) : Nat := if item = 1 then 1 else item + 256 * index

/-- Consumer `who` begins to act on a committed change of an item: LOCK source 13, once for the change. -/
def State.lockActs (s : State) (item index who : Nat) : State :=
  let k := lockKey item index
  if s.lock.actors.contains k && !s.lock.acted.contains (k + 65536 * who) then
    { s with lock := { s.lock with acted := (k + 65536 * who) :: s.lock.acted } }.raise 22 13
  else s

end Sys2Proof.Machine
end

