-- ==== Sys2Proof/Machine/Flags.lean ====
section
/-! DEFINITION. The flags that follow from the rest of the state: mute gates and their causes (R23, R148, R153), lanes that run and
PAs that are wanted (R42, R117, R229), restricted resolutions (R53), converged slots (R38, R69), and the pins that follow them
(R42, R237). -/

namespace Sys2Proof.Machine

/-- The device is out of OFF and SLEEP with its register domain up (R384). -/
def State.isUp (s : State) : Bool := s.power = .up || s.power = .shutdown

/-! ### Direction gates -/

/-- The direction's state repeats to the air: CAUTIOUS, FULL or PLAYBACK to a transmit point. -/
def State.onAir (s : State) (d : Dir) : Bool :=
  match s.dirSt d with
  | .cautious | .full => true
  | .playback => match s.playing d with
    | some pb => s.patTransmit pb.pattern
    | none => false
  | _ => false

/-- The pattern of a running transition to PLAYBACK goes to the air. -/
def Trans.toAir (s : State) (t : Trans) : Bool :=
  match t.target with
  | .cautious | .full => true
  | .playback => match t.pattern with
    | some p => s.patTransmit p
    | none => false
  | _ => false

/-- A transition that ends transmission is running. -/
def State.leaving (s : State) (d : Dir) : Bool :=
  match (s.dirRec d).trans with
  | some t => !t.toAir s
  | none => false

/-- Governor state of a direction. -/
def State.govDir (s : State) (d : Dir) : GovDir := match d with | .dl => s.govDl | .ul => s.govUl

def State.setGovDir (s : State) (d : Dir) (g : GovDir) : State :=
  match d with | .dl => { s with govDl := g } | .ul => { s with govUl := g }

def State.govRec (s : State) (d : Dir) (g : Nat) : GovRec := NMap.get (fun _ => {}) s.gov (govKey d g)

def State.setGov (s : State) (d : Dir) (g : Nat) (r : GovRec) : State :=
  { s with gov := NMap.put (fun _ => {}) s.gov (govKey d g) r }

def State.slotRec (s : State) (d : Dir) (n : Nat) : SlotRec := NMap.get (fun _ => {}) s.slots (slotKey d n)

def State.setSlot (s : State) (d : Dir) (n : Nat) (r : SlotRec) : State :=
  { s with slots := NMap.put (fun _ => {}) s.slots (slotKey d n) r }

/-- The direction is muted by network protection. -/
def State.dirMuted (s : State) (d : Dir) : Bool := (s.govDir d).mute.isSome

/-- Fenced or retired units that close the whole direction: CORE and CHAN units of the direction, its ECHO unit does not. -/
def State.dirOut (s : State) (d : Dir) : Bool := s.isOut 23 (8 + d.num) || s.isOut (12 + d.num) 17

/-- No branch has both its lanes in service (R117). -/
def State.lanesClosed (s : State) (d : Dir) : Bool := s.transmits d && (s.branchesUp d).isEmpty

/-- The direction mute gate is open. -/
def State.gateOpen (s : State) (d : Dir) : Bool :=
  s.power = .up && s.onAir d && !s.leaving d && !s.dirMuted d && !(s.dirRec d).realign && !s.dirOut d &&
    !(s.branchesUp d).isEmpty

/-- Branch b of a slot carries the over-range flag: until 2 × GD after the episode's last OVR sample (R150). -/
def State.slotFlagged (s : State) (d : Dir) (n b : Nat) : Bool :=
  let r := s.slotRec d n
  r.recovering.getLsbD b && (s.conv.ovrNow.getLsbD (laneOf d b) || decide (s.now < if b = 0 then r.cleanAt.1 else r.cleanAt.2))

/-- DIR_STAT (R153); NETPROT also while every slot of the direction is muted (R40). -/
def State.dirStat (s : State) (d : Dir) : Nat :=
  let m := (s.govDir d).mute
  let recov (b : Nat) := slotNums.any (fun n => s.slotFlagged d n b)
  ofBool (s.gateOpen d) + 2 * ofBool (m = some .oscillation) + 4 * ofBool ((m.isSome && m != some .oscillation) || (m.isNone && s.dirSt d = .muted))
    + 8 * ofBool (!s.transmits d) + 16 * ofBool (s.dirRec d).realign + 32 * ofBool (s.slotEn d 16 && (s.dirRec d).running)
    + 64 * ofBool (recov 0) + 128 * ofBool (recov 1) + 256 * ofBool (s.lanesClosed d)

/-- A direction is running. -/
def State.anyRunning (s : State) : Bool := s.sys.dl.running || s.sys.ul.running

/-- MARGIN_NOW (R28): 64 samples while no direction is running. -/
def State.deviceMargin (s : State) : Nat := if s.anyRunning then s.st Reg.CORE_MARGIN_NOW else 0xFF40

/-! ### Slot gates -/

/-- The slot is muted by network protection (R40). -/
def State.slotMuted (s : State) (d : Dir) (n : Nat) : Bool := (s.govRec d (govOf n)).mute.isSome && s.slotEn d n

/-- The slot's own units that can be out of service: its CHAN slot, its GOV slot, and the bypass chain of CORE. -/
def State.slotFenced (s : State) (d : Dir) (n : Nat) : Bool :=
  s.isFenced (12 + d.num) n || s.isFenced (15 + d.num) (govOf n) || (n = 16 && s.isFenced 23 (10 + d.num))

/-- PRIORITY in force: one written in service acts from the next tick boundary (R152). -/
def State.slotPrio (s : State) (d : Dir) (n : Nat) : Nat := (s.slotRec d n).prioHeld.getD (bitsAt (s.slotCfg d n) 4 4)

/-- GATE_CAUSE (R153), bit 0 being bit 2 of SLOT_STAT; a restored slot keeps its cause until the next tick boundary (R147, R194; log entry 78). -/
def State.gateCause (s : State) (d : Dir) (n : Nat) : Nat :=
  let held := (s.slotRec d n).wait
  ofBool (!s.slotEn d n || !s.transmits d)
    + 2 * ofBool (s.dirSt d = .cautious && !s.slotElig d n)
    + 4 * ofBool (s.slotMuted d n || bitAt held 2)
    + 8 * ofBool (s.slotTdd d n && !(s.slotRec d n).tddOpen)
    + 16 * ofBool (s.slotRec d n).dropped
    + 32 * ofBool (s.slotFenced d n || bitAt held 5)
    + 64 * ofBool (s.slotRetired d n || (n = 16 && s.isRetired 23 (10 + d.num)))

/-- The slot's gate is held closed until the next tick boundary, as cause bit c of GATE_CAUSE. -/
def State.gateWait (s : State) (d : Dir) (n c : Nat) : State :=
  let r := s.slotRec d n
  s.setSlot d n { r with wait := putBits r.wait c 1 1 }

/-- The slot mute gate is open (R148). -/
def State.slotOpen (s : State) (d : Dir) (n : Nat) : Bool := s.gateCause d n = 0

/-- The chain of the slot is processing samples. -/
def State.slotRuns (s : State) (d : Dir) (n : Nat) : Bool :=
  s.slotEn d n && (s.dirRec d).running && !s.slotFenced d n && !s.slotRetired d n

/-- SLOT_STAT (R153). -/
def State.slotStat (s : State) (d : Dir) (n : Nat) : Nat :=
  let r := s.slotRec d n
  ofBool (s.slotRuns d n) + 2 * ofBool (s.slotOpen d n) + 4 * s.gateCause d n + 1024 * packBits 2 (s.slotFlagged d n)
    + 4096 * ofBool r.clamped

/-- Both gates of the slot are open: its output reaches the air. -/
def State.slotOnAir (s : State) (d : Dir) (n : Nat) : Bool := s.slotOpen d n && s.gateOpen d

/-- Enabled slots that are not retired. -/
def State.liveSlots (s : State) (d : Dir) : List Nat := (s.enabled d).filter (fun n => !s.slotRetired d n)

/-- SYS.SLOT_MUTED (R55): 16 slots a direction; the bypass slot shows as slot 0 of its direction, its governor's number. -/
def State.slotMutedReg (s : State) : Nat :=
  packBits 32 (fun i => (s.govRec (dirOf (i / 16)) (i % 16)).mute.isSome && s.govEn (dirOf (i / 16)) (i % 16))

/-! ### Lanes -/

/-- Receive lane l runs: its direction runs it (R42), and it is in service. -/
def State.rxRuns (s : State) (l : Nat) : Bool :=
  (s.dirRec (laneDir l)).running && (s.rxBr (laneDir l)).contains (l % 2) && !s.rxOut l

/-- The transmit lanes of a direction in this state run; MUTED and LISTEN run the receive side only (R51). -/
def DirState.sends (x : DirState) : Bool :=
  match x with
  | .cautious | .full | .playback => true
  | .standby | .muted | .listen | .shutdown => false

/-- Transmit lane l carries output (R42), is in service, and its direction runs it. -/
def State.txRuns (s : State) (l : Nat) : Bool :=
  (s.dirRec (laneDir l)).running && (s.dirRec (laneDir l)).st.sends && (s.txBr (laneDir l)).contains (l % 2) && !s.txOut l

/-- The direction transmits now or is on its way to it. -/
def State.toAir (s : State) (d : Dir) : Bool :=
  match (s.dirRec d).trans with
  | some t => t.toAir s
  | none => s.onAir d

/-- The PA of transmit lane l is to be on (R229, R230). -/
def State.paWanted (s : State) (l : Nat) : Bool :=
  let d := laneDir l
  s.power = .up && s.toAir d && !s.dirMuted d && (s.txBr d).contains (l % 2) && (s.branchesUp d).contains (l % 2) &&
    !s.txOut l && !s.dirOut d

/-! ### Synthesisers -/

def synUnit (y : Syn) : Nat := synNum y

/-- The synthesisers that a direction's transmission needs: SYN_C, and the direction's own while its LO_EN is 1 (R45, R108). -/
def State.needsSyn (s : State) (d : Dir) : List Syn := if s.loEn d then [.c, dirSyn d] else [.c]

/-- Those of them that are not locked, as bits of PENDING_ON. -/
def State.awaited (s : State) (scope : Nat) : Nat :=
  let need (y : Syn) : Bool :=
    (bitAt scope 0 && (s.needsSyn .dl).contains y) || (bitAt scope 1 && (s.needsSyn .ul).contains y)
  packBits 3 (fun i => match i with
    | 0 => need .c && !s.syn.c.locked
    | 1 => need .d && !s.syn.d.locked
    | _ => need .u && !s.syn.u.locked)

/-! ### Restricted resolutions (R53) -/

/-- The direction serves: out of STANDBY and LISTEN. -/
def State.serves (s : State) (d : Dir) : Bool :=
  match s.dirSt d with
  | .cautious | .full | .muted | .playback => true
  | _ => false

/-- The bits of SYS.RESTRICT of one direction. -/
def State.restrictDir (s : State) (d : Dir) : Nat :=
  let i := d.num
  2 ^ i * ofBool (s.slotEn d 16 && s.slotTdd d 16)
    + 2 ^ (2 + i) * ofBool (s.branching d = 1 && (s.divRef d).isNone)
    + 2 ^ (4 + i) * ofBool (s.serves d && (s.enabled d).any (fun n => s.probeOff d n))
    + 2 ^ (6 + i) * ofBool (s.dirSt d = .cautious && (s.enabled d).any (fun n => s.probeMode d n = 2))

/-- SYS.RESTRICT (R55). -/
def State.restrictNow (s : State) : Nat :=
  let over_ (d : Dir) : Bool := (s.enabled d).any (fun n => s.probeMode d n = 2 && decide (s.lock.mossMax < s.probeForced d n * 100))
  s.restrictDir .dl + s.restrictDir .ul + 256 * ofBool (!s.lock.playAir) + 512 * ofBool (over_ .dl || over_ .ul)

/-! ### Convergence (R38, R69) -/

def State.echoRec (s : State) (d : Dir) (n : Nat) : EchoRec := NMap.get (fun _ => {}) s.echo (slotKey d n)

def State.setEcho (s : State) (d : Dir) (n : Nat) (r : EchoRec) : State :=
  { s with echo := NMap.put (fun _ => {}) s.echo (slotKey d n) r }

/-- Distance of two slot centres. -/
def State.centreGap (s : State) (d : Dir) (a b : Nat) : Nat := (s.ifCentre d a - s.ifCentre d b).natAbs

/-- Of a list of slots, the one whose centre lies nearest to n, the lowest-numbered on a tie. -/
def State.nearest (s : State) (d : Dir) (n : Nat) : List Nat → Option Nat
  | [] => none
  | a :: t => match s.nearest d n t with
    | some b => if s.centreGap d n a ≤ s.centreGap d n b then some a else some b
    | none => some a

/-- The cautious-eligible enabled slot nearest to slot n (R69). -/
def State.coverSlot (s : State) (d : Dir) (n : Nat) : Option Nat :=
  s.nearest d n ((s.enabled d).filter (fun m => s.slotElig d m && m != n))

/-- Slot n counts as converged for the FULL condition (R38, R69). -/
def State.countsConverged (s : State) (d : Dir) (n : Nat) : Bool :=
  (s.echoRec d n).converged ||
    (!s.slotElig d n && (match s.coverSlot d n with | some m => (s.echoRec d m).converged | none => false))

/-- The FULL condition of R38, with the probe-off slots left out (R53). -/
def State.fullCondition (s : State) (d : Dir) : Bool :=
  (s.enabled d).any (fun n => s.slotElig d n && !s.probeOff d n) &&
    (s.enabled d).all (fun n => s.probeOff d n || s.countsConverged d n)

/-! ### Pins (R42, R237) -/

/-- The receive branch in use in SISO diversity (R42, R117: the remaining lane while one is out of service). -/
def State.divBranch (s : State) (d : Dir) : Nat :=
  let b := ofBool (match d with | .dl => s.sync.branchDl | .ul => s.sync.branchUl)
  if s.rxOut (laneOf d b) then 1 - b else b

/-- ANT_SEL of a direction's receive side: asserted for branch 1 in SISO diversity, else low (R42). -/
def State.antSel (s : State) (d : Dir) : Bool := s.branchMode d = 1 && s.divBranch d = 1

/-- Every control output is released (R228): what the device drives, it drives in every other state. -/
def State.pinsReleased (s : State) : Bool :=
  match s.power with
  | .up | .shutdown => false
  | _ => true

/-- The direction mute gate is closed for network protection: OSC or NETPROT of DIR_STAT (R153), the latter also while every slot is muted. -/
def State.netProtect (s : State) (d : Dir) : Bool := s.dirMuted d || s.dirSt d = .muted

/-- MUTE_N is pulled low (R237). -/
def State.muteN (s : State) : Bool :=
  !s.pinsReleased && (s.netProtect .dl || s.netProtect .ul || s.power = .shutdown ||
    (bitAt (s.rd Reg.FRONT_MUTE_PIN_CFG) 0 && s.slotMutedReg != 0))

def FrontState.laneStep (f : FrontState) (l : Nat) : Nat := NMap.get (fun _ => 0) f.step l

/-- Lane follows the transmit windows of its direction (R233). -/
def State.laneTdd (s : State) (l : Nat) : Bool := bitAt (s.rd (Reg.FRONT_LANE_CFG l)) 1

/-- The transmit window of a direction is open. -/
def State.winOpen (s : State) (d : Dir) : Bool := match d with | .dl => s.front.winDl | .ul => s.front.winUl

/-- TRSW of lane l is at transmit (R230, R233). -/
def State.trsw (s : State) (l : Nat) : Bool :=
  let st := s.front.laneStep l
  decide (2 ≤ st ∧ st ≤ 5) && (!s.laneTdd l || s.winOpen (laneDir l))

/-- The receive lane's paired transmit lane (R235): TXS n with RXS n, TXD n with RXD n. -/
def pairedTx (rx : Nat) : Nat := (rx + 2) % 4

/-- Control output j of R227 is asserted. -/
def State.pin (s : State) (j : Nat) : Bool :=
  let l := j % 4
  let st := s.front.laneStep l
  if s.pinsReleased then false
  else if j < 4 then decide (1 ≤ st)
  else if j < 8 then
    decide (2 ≤ st ∧ st ≤ 5) && (!bitAt (s.rd (Reg.FRONT_LANE_CFG l)) 2 || s.trsw l)
  else if j < 12 then bitAt (s.rd (Reg.FRONT_LANE_CFG l)) 0
  else if j < 16 then s.trsw l
  else if j < 20 then s.rxRuns l && !(s.laneTdd (pairedTx l) && s.trsw (pairedTx l))
  else if j < 24 then s.front.bypass.getLsbD l
  else if j = 24 then s.antSel .dl
  else if j = 25 then s.antSel .ul
  else false

/-- How an output stands electrically (R227, R228). -/
inductive PinLevel where
  | low
  | high
  | released
  deriving DecidableEq, Repr

/-- The level of control output j: active low by PIN_POL, and released for a high level where PIN_DRV makes it open-drain (R227). -/
def State.pinLevel (s : State) (j : Nat) : PinLevel :=
  if s.pinsReleased then .released
  else if s.pin j != bitAt (s.rd Reg.FRONT_PIN_POL) j then (if bitAt (s.rd Reg.FRONT_PIN_DRV) j then .high else .released)
  else .low

/-- FE_STAT (R247). -/
def State.feStat (s : State) : Nat :=
  s.front.laneStep 0 + 8 * s.front.laneStep 1 + 64 * s.front.laneStep 2 + 512 * s.front.laneStep 3
    + 4096 * s.front.bypass.toNat + packBits 4 (fun l => s.trsw l && !s.pinsReleased) * 65536

end Sys2Proof.Machine
end

