-- ==== Sys2Proof/Machine/HkOps.lean ====
section
/-! DEFINITION. What the housekeeping converters share (R312–R317, R324, R326): a converter's record and controls, who converts for
whom, urgent triggers, and the decimating filter. -/

namespace Sys2Proof.Machine

def State.hkRec (s : State) (c : Nat) : HkRec := if c = 0 then s.hk.a else s.hk.b

def State.setHk (s : State) (c : Nat) (r : HkRec) : State :=
  if c = 0 then { s with hk := { s.hk with a := r } } else { s with hk := { s.hk with b := r } }

/-- CTRL_A or CTRL_B, and a converter's sequence registers. -/
def hkCtrlReg (c : Nat) : Nat := if c = 0 then Reg.HK_CTRL_A else Reg.HK_CTRL_B
def hkSeqReg (c e : Nat) : Nat := if c = 0 then Reg.HK_SEQ_A e else Reg.HK_SEQ_B e

/-- LEN of a regular sequence, 0 while it is off (R314, R328). -/
def seqLen (ctrl : Nat) : Nat := if bitsAt ctrl 0 2 = 1 ∨ bitsAt ctrl 0 2 = 2 then min 32 (bitsAt ctrl 4 6) else 0

def State.injLen (s : State) (c : Nat) : Nat := min 4 (s.fld (hkCtrlReg c) 12 3)

/-- REF of a converter; 3 acts as 0 (R328). -/
def State.hkRefSel (s : State) (c : Nat) : Nat := let r := s.fld (hkCtrlReg c) 10 2; if r = 3 then 0 else r

/-- Nominal Vref in mV (R320). -/
def State.hkVref (s : State) (c : Nat) : Nat :=
  match s.hkRefSel c with
  | 1 => clampN 900 1900 (s.fld Reg.HK_VREF_NOM 0 12)
  | 2 => 1800
  | _ => 1200

/-- The converter that converts the sequences of converter c: the other one while c is out of service (R326). -/
def State.hkBy (s : State) (c : Nat) : Nat := if s.isOut 18 c then 1 - c else c

/-- VD_HK is powered, and a converter is left (R31, R326). -/
def State.hkOn (s : State) : Bool := s.isUp && !(s.isOut 18 0 && s.isOut 18 1)

/-- An urgent trigger (R316, R317, R327): each converter that selects it accepts it, or ignores it while its injected run is
pending or in progress. -/
def State.hkTrigger (s : State) (bit : Nat) : State :=
  [0, 1].foldl (fun s c =>
    let r := s.hkRec c
    if !s.hkOn || !bitAt (s.rd (hkCtrlReg c)) bit then s
    else if r.injPending || r.injRun then s.raise 18 (4 + c)
    else (s.setHk c { r with injPending := true }).bumpF Reg.HK_TRIG_COUNT (16 * c) 16 1) s

/-! ### The decimating filter (R315) -/

/-- ORDER and DEC of a regular entry as they act. -/
def seqOrder (w : Nat) : Nat := min 4 (bitsAt w 6 3)
def seqDec (w : Nat) : Nat := clampN 2 256 (bitsAt w 9 9)

/-- Sums of every d neighbours of a list. -/
def boxSums (d : Nat) : List Nat → List Nat
  | [] => []
  | x :: t => if t.length + 1 < d then [] else ((x :: t).take d).foldl (· + ·) 0 :: boxSums d t

/-- The n-fold cascade of d-sample sums, newest first. -/
def cascade (d : Nat) : Nat → List Nat → List Nat
  | 0, xs => xs
  | n + 1, xs => cascade d n (boxSums d xs)

/-- One input: the new filter state, and the output value with its OVR when one is delivered. -/
def HkFilt.feed (f : HkFilt) (order dec : Nat) (x : Nat × Bool) : HkFilt × Option (Nat × Bool) :=
  let span := order * dec
  let xs := (x :: f.xs).take span
  let n := f.n + 1
  if span ≤ n ∧ (n - span) % dec = 0 then
    ({ n := span, xs := xs },
      some ((rneDiv (((16 * (cascade dec order (xs.map Prod.fst)).headD 0 : Nat)) : Int) (dec ^ order)).toNat, xs.any Prod.snd))
  else ({ n := n, xs := xs }, none)

end Sys2Proof.Machine
end

