-- ==== Sys2Proof/Machine/LawForm.lean ====
section
/-! DEFINITION. The law instances of the loop engine: their fields and defaults (R180, R205, R209, R218), the law form (R202, R203),
opening, closing and re-seating (R211–R214), and what each instance's enable is (R200). -/

namespace Sys2Proof.Machine

/-! ### Fields -/

/-- Default of field f of instance j as an unsigned word (R205, R218). -/
def lawDefaultWord (j f : Nat) : Nat :=
  if j = 160 then
    [0xFFFC0000, 0xFFF33333, 0, 0, 0x00010000, 0, 0x00000100, 0, 0x012C0000, 0x02260000, 0x03520000, 3, 0].getD f 0
  else if 160 < j then 0
  else
    let law := j % 5
    match f with
    | 1 => if law = 2 then 0x0020C49C else 0
    | 4 => 0x00010000
    | 5 => if law = 0 then 0x000ABCC7 else 0
    | 6 => if law = 0 then 0x3E000000 else if law = 2 then 0x000001E0 else 0
    | 7 => [0xFFFD0000, 0xFFFD0000, 0xFFFA0000, 0xFFF60000, 0xFFFD0000].getD law 0
    | 8 => if law = 0 then 0x00030000 else 0
    | 10 => 0x005F0000
    | 11 => 1
    | _ => 0

/-- Default of a field as a 32-bit two's-complement integer. -/
def lawDefault (j f : Nat) : Int := signedOf 32 (lawDefaultWord j f)

def LoopState.law (l : LoopState) (j : Nat) : Law := NMap.get (fun _ => {}) l.laws j

def LoopState.setLaw (l : LoopState) (j : Nat) (x : Law) : LoopState :=
  { l with laws := NMap.put (fun _ => {}) l.laws j x }

/-- Field f of instance j. -/
def Law.fieldOf (x : Law) (j f : Nat) : Int := NMap.get (lawDefault j) x.fields f

def Law.setField (x : Law) (j f : Nat) (v : Int) : Law := { x with fields := NMap.put (lawDefault j) x.fields f v }

/-- The field as an unsigned word. -/
def Law.fieldWord (x : Law) (j f : Nat) : Nat := bitsOf 32 (x.fieldOf j f)

/-- Shift of coefficient c (R209): five bits each in SHIFTS. -/
def Law.shift (x : Law) (j c : Nat) : Nat := bitsAt (x.fieldWord j 6) (5 * c) 5

/-- PMODE; 3 acts as 0. -/
def Law.pmode (x : Law) (j : Nat) : Nat := let m := bitsAt (x.fieldWord j 11) 1 2; if m = 3 then 0 else m

/-- Inverted limits (R210, R214). -/
def Law.inverted (x : Law) (j : Nat) : Bool :=
  decide (x.fieldOf j 8 < x.fieldOf j 7) || decide (x.fieldOf j 10 < x.fieldOf j 9)

/-- Instance number of law i of governor g (R200). -/
def lawIndex (d : Dir) (g i : Nat) : Nat := 5 * (16 * d.num + g) + i

/-- Direction and governor of a governor instance. -/
def lawDir (j : Nat) : Dir := dirOf (j / 80)
def lawGov (j : Nat) : Nat := j / 5 % 16

/-- Instance j is enabled (R200). -/
def State.lawEnabled (s : State) (j : Nat) : Bool :=
  if j < 160 then s.govEn (lawDir j) (lawGov j) && s.lawEn (lawDir j) (lawGov j) (j % 5)
  else if j = 160 then true
  else decide (j < 192) && bitAt ((s.loop.law j).fieldWord j 11) 0

/-- All instances. -/
def lawNums : List Nat := List.range 192

/-- Unit of LOOP that is instance j is out of service. -/
def State.lawOut (s : State) (j : Nat) : Bool := s.isOut 17 j

/-- Instance j is computed in a tick: enabled, closed and in service. -/
def State.lawComputes (s : State) (j : Nat) : Bool := s.lawEnabled j && !(s.loop.law j).isOpen && !s.lawOut j

/-! ### The law form (R202, R203) -/

/-- How an instance's integrator may move in a tick (R204). -/
inductive IMode where
  | free | noRise | hold
  deriving DecidableEq, Repr

/-- A value brought to 32 bits, and whether that saturated it. -/
structure Sat where
  v : Int
  sat : Bool
  deriving DecidableEq, Repr

def satOf (x : Int) : Sat := ⟨sat32 x, decide (sat32 x ≠ x)⟩

/-- mul of R202. -/
def lawMul (c : Int) (sh : Nat) (x : Int) : Sat := satOf (rneDiv (c * x) (2 ^ (16 + sh)))

/-- The error that the proportional term takes. -/
def propErr (pmode : Nat) (e : Int) : Int := if pmode = 1 then minI e 0 else if pmode = 2 then maxI e 0 else e

/-- One computation of an instance (R203), the re-seat of R214 in place of the integrator update where it is due. The second
value says whether anything saturated. -/
def Law.compute (x : Law) (j : Nat) (m : IMode) (e xin xacc : Int) : Law × Bool :=
  let pe := propErr (x.pmode j) e
  let fi := lawMul (x.fieldOf j 4) (x.shift j 4) xin
  let fa := lawMul (x.fieldOf j 5) (x.shift j 5) xacc
  let ff := satOf (fi.v + fa.v)
  let kp := lawMul (x.fieldOf j 0) (x.shift j 0) pe
  let lo := x.fieldOf j 7
  let hi := x.fieldOf j 8
  if x.reseat then
    let i := clampI lo hi (x.out - (kp.v + ff.v))
    let u := satOf (kp.v + i + ff.v)
    ({ x with i := i, df := 0, ePrev := e, out := clampI (x.fieldOf j 9) (x.fieldOf j 10) u.v, reseat := false, late := false,
              terms := [e, xin, xacc, kp.v, 0, ff.v] },
     fi.sat || fa.sat || ff.sat || kp.sat || u.sat)
  else
    let ki := lawMul (x.fieldOf j 1) (x.shift j 1) e
    let is := satOf (x.i + ki.v)
    let ic := clampI lo hi is.v
    let i := match m with
      | .free => ic
      | .noRise => minI x.i ic
      | .hold => x.i
    let de := satOf (e - x.ePrev)
    let kd' := lawMul (x.fieldOf j 3) (x.shift j 3) (de.v - x.df)
    let df := satOf (x.df + kd'.v)
    let kd := lawMul (x.fieldOf j 2) (x.shift j 2) df.v
    let u := satOf (kp.v + i + kd.v + ff.v)
    ({ x with i := i, df := df.v, ePrev := e, out := clampI (x.fieldOf j 9) (x.fieldOf j 10) u.v, late := false,
              terms := [e, xin, xacc, kp.v, kd.v, ff.v] },
     fi.sat || fa.sat || ff.sat || kp.sat || ki.sat || is.sat || de.sat || kd'.sat || df.sat || kd.sat || u.sat)

/-! ### Opening and closing (R211–R214) -/

/-- Apply one queued write. -/
def Law.applyOne (x : Law) (j : Nat) : Law :=
  match x.queue with
  | [] => x
  | (f, v) :: t => { x.setField j f v with queue := t }

/-- Apply the whole queue in order. -/
def Law.applyAll (x : Law) (j : Nat) : Law :=
  { x.queue.foldl (fun y fv => y.setField j fv.1 fv.2) x with queue := [] }

/-- The instance opens: what is queued is applied, and the output is held (R213). -/
def Law.openNow (x : Law) (j : Nat) : Law := { x.applyAll j with isOpen := true, pendOpen := false, pendClose := false }

/-- The instance closes and re-seats at its first computation (R214); inverted limits keep it open. -/
def Law.closeNow (x : Law) (j : Nat) : Law :=
  if x.inverted j then { x with pendClose := false }
  else { x with isOpen := false, pendClose := false, reseat := true, capHeld := false }

/-- LAW_STATUS (R225). -/
def State.lawStatus (s : State) (code j f : Nat) : State :=
  s.setSt Reg.LOOP_LAW_STATUS (code + j % 256 * 16 + f % 16 * 4096 + (s.loop.law j).queue.length * 65536)

/-- LAW_STATUS leaves PENDING when the addressed instance's open or close is effected. -/
def State.pendingDone (s : State) (j code : Nat) : State :=
  let v := s.st Reg.LOOP_LAW_STATUS
  if bitsAt v 0 4 = 8 ∧ bitsAt v 4 8 = j then s.setSt Reg.LOOP_LAW_STATUS (putBits v 0 4 code) else s

/-- The slot's cautious cap of a governor in Q16.16 dB. -/
def State.gCapQ (s : State) (d : Dir) (g : Nat) : Int := qOfCenti (gCap (s.target d g))

/-- Output of instance j as the rest of the device takes it: a governor law that is fenced (R217), or left open at a transition for inverted limits
(R214), holds the lesser of its last output and the slot's g_cap. -/
def State.lawOutput (s : State) (j : Nat) : Int :=
  let x := s.loop.law j
  if j < 160 && (s.lawOut j || (x.isOpen && x.capHeld)) then minI x.out (s.gCapQ (lawDir j) (lawGov j)) else x.out

/-- A direction starts a transition to a transmitting state: its governor instances close (R214). -/
def State.lawsStart (s : State) (d : Dir) : State :=
  (List.range 80).foldl (fun s k =>
    let j := 80 * d.num + k
    let x := s.loop.law j
    let s := if x.pendOpen then
        ({ s with loop := s.loop.setLaw j { x with pendOpen := false } }.lawStatus 6 j 0).raise 17 15
      else s
    let x := s.loop.law j
    if x.isOpen then
      if x.inverted j then
        ({ s with loop := s.loop.setLaw j { x with capHeld := true, pendClose := false } }.pendingDone j 7).raise 17 15
      else { s with loop := s.loop.setLaw j (x.closeNow j) }.pendingDone j 0
    else s) s

/-- The check passed: every open instance closes at the next tick boundary (R211). -/
def State.lawsPassed (s : State) : State :=
  { s with loop := lawNums.foldl (fun l j =>
      let x := l.law j
      if x.isOpen then l.setLaw j { x with pendClose := true, pendOpen := false } else l) s.loop }

/-- The instances of the check set: fields 0–12 of every instance (R215). -/
def LoopState.fieldSet (l : LoopState) : List (Nat × List Int) :=
  (l.laws.map (fun e => (e.1, (List.range 13).map (fun f => e.2.fieldOf e.1 f)))).filter
    (fun e => e.2 != (List.range 13).map (fun f => lawDefault e.1 f))

/-- SUPPLY holds VD_CORE at 0.85 V (R213, R217, R30, R35). -/
def State.vcoreHeld (s : State) : Bool :=
  s.loop.hold085 || s.lawOut 160 || ((s.loop.law 160).isOpen && (s.sys.dl.running || s.sys.ul.running))

end Sys2Proof.Machine
end

