-- ==== Sys2Proof/Machine/PcieOps.lean ====
section
/-! DEFINITION. The endpoint's completions and doorbell outcomes (R405–R407). -/

namespace Sys2Proof.Machine

/-- BAR 2 offset of a capture doorbell and of a playback doorbell (R404). -/
def captDb (n : Nat) : Nat := 0xF000 + 0x10 * n
def playDb (p : Nat) : Nat := 0xF100 + 0x10 * p

/-- DONE_COUNT of a doorbell advances whatever started the capture or playback (R407). -/
def PcieState.bumpDone (p : PcieState) (db : Nat) : PcieState :=
  { p with done := NMap.put (fun _ => 0) p.done db (satAdd 65535 (NMap.get (fun _ => 0) p.done db) 1) }

def PcieState.vecMasked (p : PcieState) (v : Nat) : Bool := p.funcMask || p.vecMask.getLsbD v || !p.busMaster

def PcieState.setPend (p : PcieState) (v : Nat) (b : Bool) : PcieState :=
  { p with pending := BitVec.ofNat 16 (putBits p.pending.toNat v 1 (ofBool b)) }

/-- An MSI-X message of vector v leaves. -/
def State.msgSent (s : State) : State := s.bump Reg.PCIE_MSG_COUNT 1

/-- A completion on vector v (R407): sent, left pending behind a mask or in D3hot, or not signalled. -/
def State.signal (s : State) (v : Nat) : State :=
  if !s.pcie.up then s
  else if s.pcie.d3 then { s with pcie := s.pcie.setPend v true }.raise 5 10
  else if !s.pcie.msixEnable then s.raise 5 10
  else if s.pcie.vecMasked v then { s with pcie := s.pcie.setPend v true }
  else s.msgSent

/-- Region n ended. -/
def State.regionDone (s : State) (n : Nat) : State := { s with pcie := s.pcie.bumpDone (captDb n) }.signal n

/-- Pattern p ended in a direction. -/
def State.patternDone (s : State) (p : Nat) : State := { s with pcie := s.pcie.bumpDone (playDb p) }.signal (8 + p % 8)

/-- Messages that a mask or D3hot held back are sent, lowest vector first. -/
def State.msixFlush (s : State) : State :=
  if !s.pcie.up || s.pcie.d3 || !s.pcie.msixEnable then s
  else (List.range 16).foldl (fun s v =>
    if s.pcie.pending.getLsbD v && !s.pcie.vecMasked v then { s with pcie := s.pcie.setPend v false }.msgSent else s) s

/-- DB_STAT of a doorbell (R405). -/
def State.dbStat (s : State) (db result op tag code : Nat) : State :=
  { s with pcie := { s.pcie with
      dbStat := NMap.put (fun _ => (0 : Word)) s.pcie.dbStat db
        (Word.ofNat (result + 16 * op + 256 * tag + 65536 * code)) } }

/-- The outcome of a playback START that was pending (R406): RESULT and CODE change, OP and TAG stay. -/
def State.dbOutcome (s : State) (db : Option Nat) (result code : Nat) : State :=
  match db with
  | none => s
  | some a =>
    let old := (NMap.get (fun _ => (0 : Word)) s.pcie.dbStat a).toNat
    s.dbStat a result (bitsAt old 4 4) (bitsAt old 8 8) code

end Sys2Proof.Machine
end

