-- ==== Sys2Proof/Machine/BogOps.lean ====
section
/-! DEFINITION. The Bog as a memory (R280, R286) and the capture regions that write into it: what a source writes, segment headers,
and the end of a region (R288–R295). -/

namespace Sys2Proof.Machine

/-! ### The store -/

/-- Size of the Bog in bytes (R280). -/
def bogSize : Nat := 2 ^ 34

/-- The canonical form of a memory of bytes: addresses strictly rising, and none listed that holds what an unlisted one reads. -/
def Memory.wf (m : NMap Byte) : Bool := NMap.wf (fun _ => 0) m

/-- The stretch of a stream that covers address a, latest first. -/
def streamAt (a : Nat) : List (Nat × Nat × Nat) → Option Nat
  | [] => none
  | (lo, hi, st) :: t => if lo ≤ a ∧ a < hi then some st else streamAt a t

/-- A byte of the store: written, written by a stream (an open value), or never written (log entry 8). -/
def BogState.byte (b : BogState) (a : Nat) : Byte :=
  match streamAt a b.streams with
  | some st => Config.streamByte a st
  | none => NMap.get (fun _ => 0) b.mem a

/-- n bytes from address a. -/
def BogState.read (b : BogState) : Nat → Nat → List Byte
  | _, 0 => []
  | a, n + 1 => b.byte a :: b.read (a + 1) n

/-- Cut the range lo..hi out of every stretch. -/
def cutStreams (lo hi : Nat) (l : List (Nat × Nat × Nat)) : List (Nat × Nat × Nat) :=
  l.flatMap (fun e => [(e.1, min e.2.1 lo, e.2.2), (max e.1 hi, e.2.1, e.2.2)].filter (fun x => decide (x.1 < x.2.1)))

def putBytes (m : NMap Byte) : Nat → List Byte → NMap Byte
  | _, [] => m
  | a, v :: t => putBytes (NMap.put (fun _ => 0) m a v) (a + 1) t

/-- Write bytes from address a. -/
def BogState.write (b : BogState) (a : Nat) (v : List Byte) : BogState :=
  { b with mem := putBytes b.mem a v, streams := cutStreams a (a + v.length) b.streams }

/-- Zero the range lo..hi. -/
def BogState.zero (b : BogState) (lo hi : Nat) : BogState :=
  { b with mem := b.mem.filter (fun e => !(decide (lo ≤ e.1) && decide (e.1 < hi))), streams := cutStreams lo hi b.streams }

/-- A stream writes the range lo..hi. -/
def BogState.stream (b : BogState) (lo hi stamp : Nat) : BogState :=
  if hi ≤ lo then b else { b.zero lo hi with streams := (lo, hi, stamp) :: cutStreams lo hi b.streams }

/-- Channel of an address (R280). -/
def bogChan (a : Nat) : Nat := a / 2 ^ 31 % 8

/-- Channels that a range of bytes touches. -/
def chansOf (lo len : Nat) : List Nat :=
  (List.range 8).filter (fun c => len ≠ 0 && decide (bogChan lo ≤ c) && decide (c ≤ bogChan (lo + len - 1)))

/-! ### Regions and pattern slots -/

def State.regBase (s : State) (n : Nat) : Nat := s.fld (Reg.BOG_REG_BASE n) 0 22 * 4096
def State.regSize (s : State) (n : Nat) : Nat := s.fld (Reg.BOG_REG_SIZE n) 0 23 * 4096
def State.regKind (s : State) (n : Nat) : Nat := s.fld (Reg.BOG_REG_SRC n) 0 3
def State.patBase (s : State) (p : Nat) : Nat := s.fld (Reg.BOG_PAT_BASE p) 0 22 * 4096
def State.patBytes (s : State) (p : Nat) : Nat := s.fld (Reg.BOG_PAT_SIZE p) 0 23 * 4096

def patNums : List Nat := [0, 1, 2, 3, 4, 5, 6, 7, 8, 9, 10, 11, 12, 13, 14, 15]

def BogState.pat (b : BogState) (p : Nat) : PatRec := NMap.get (fun _ => {}) b.pats p

def BogState.setPat (b : BogState) (p : Nat) (r : PatRec) : BogState :=
  { b with pats := NMap.put (fun _ => {}) b.pats p r }

/-- PAT_LEN fits the slot (R296). -/
def State.patFits (s : State) (p : Nat) : Bool :=
  decide (1 ≤ s.rd (Reg.BOG_PAT_LEN p)) && decide (4 * s.rd (Reg.BOG_PAT_LEN p) ≤ s.patBytes p)

/-- Pattern p plays somewhere. -/
def State.patPlays (s : State) (p : Nat) : Bool :=
  (match s.bog.pbDl with | some x => decide (x.pattern = p) | none => false) ||
    (match s.bog.pbUl with | some x => decide (x.pattern = p) | none => false)

/-- Do two byte ranges overlap? -/
def overlap (a n b m : Nat) : Bool := decide (a < b + m) && decide (b < a + n)

/-- A region is armed or triggered. -/
def RegionRec.active (r : RegionRec) : Bool := r.st = 1 || r.st = 2

/-- The layout conditions of ARM (R294). -/
def State.armLayout (s : State) (n : Nat) : Bool :=
  let k := s.regKind n
  !(k = 0) && !(k = 7) && decide (2 * 4096 ≤ s.segBytes n) && decide (s.regBase n + s.regSize n ≤ bogSize) &&
    regionNums.all (fun m => m = n || !(s.bog.region m).active ||
      !overlap (s.regBase n) (s.regSize n) (s.regBase m) (s.regSize m)) &&
    patNums.all (fun p => !(s.bog.pat p).loaded || !overlap (s.regBase n) (s.regSize n) (s.patBase p) (s.patBytes p)) &&
    (chansOf (s.regBase n) (s.regSize n)).all (fun c => !s.readsFenced 19 c && !s.isRetired 19 c) && !s.isOut 19 (8 + n)

/-- The region's source runs now, so samples reach it (R51, R295). -/
def State.regRuns (s : State) (n : Nat) : Bool :=
  let src := s.rd (Reg.BOG_REG_SRC n)
  match bitsAt src 0 3 with
  | 1 => s.rxRuns (bitsAt src 3 2)
  | 2 => s.txRuns (bitsAt src 3 2) && s.serves (laneDir (bitsAt src 3 2))
  | 3 => let x := bitsAt src 5 6; decide (x < 34) && s.slotRuns (keyDir x) (keySlot x)
  | _ => true

/-- Room that the rule leaves for `want` more bytes. -/
def State.regRoom (s : State) (n : Nat) (r : RegionRec) (want : Nat) : Nat :=
  let size := s.dataBytes n
  match s.regStop n with
  | 1 => min want (size - r.held)
  | 2 => want
  | _ => if r.st = 2 then min want ((s.postBytes n : Int) - r.since).toNat else want

/-- Advance a region's position by k bytes; the bytes themselves are placed by `place`. -/
def advance (size : Nat) (linear : Bool) (r : RegionRec) (k : Nat) : RegionRec :=
  let w := r.wr + k
  let wraps := if linear || size = 0 then 0 else w / size
  { r with
    wr := if linear || size = 0 then w else w % size
    held := min size (r.held + k)
    pass := r.pass + wraps
    since := r.since + k }

/-- Stretches of a segment's data area that k bytes from `wr` on cover. -/
def stretches (start size wr k : Nat) : List (Nat × Nat) :=
  if size = 0 then []
  else if size ≤ k then [(start, start + size)]
  else if wr + k ≤ size then [(start + wr, start + wr + k)]
  else [(start + wr, start + size), (start, start + (wr + k - size))]

/-- The stream source of an active region has written up to device time t. -/
def State.regStream (s : State) (n t : Nat) : State :=
  let r := s.bog.region n
  let k := s.regKind n
  if !r.active || k = 0 || 4 ≤ k then s
  else if !s.regRuns n then { s with bog := s.bog.setRegion n { r with upTo := t, paused := true } }
  else
    let broke := r.paused && r.held != 0
    let r := if broke then
        { r with breaks := satAdd 65535 r.breaks 1, lastBreak := r.upTo, flags := r.flags ||| 64 } else r
    let take := s.regRoom n r (s.regBytes n ((t : Int) - r.upTo)).toNat
    let size := s.dataBytes n
    let start := s.dataStart n r.seg
    let b := (stretches start size r.wr take).foldl (fun b e => b.stream e.1 e.2 t) s.bog
    let r' := advance size (s.regStop n = 1) r take
    { s with bog := b.setRegion n { r' with
        upTo := t, paused := false, flags := if s.bog.halving then r'.flags ||| 8 else r'.flags } }

/-- A break (R293) of every lane or slot stream into an active region that p names; `over_`: samples were lost (FLAGS[2]). -/
def State.breakStreams (s : State) (over_ : Bool) (p : Nat → Bool) : State :=
  regionNums.foldl (fun s n =>
    if (s.bog.region n).active && decide (1 ≤ s.regKind n) && decide (s.regKind n ≤ 3) && p n then
      let s := s.regStream n s.now
      let r := s.bog.region n
      { s with bog := s.bog.setRegion n { r with
          breaks := satAdd 65535 r.breaks 1, lastBreak := s.now, flags := r.flags ||| 64, lostSamples := r.lostSamples || over_ } }
    else s) s

/-- The direction whose lane or slot region n captures. -/
def State.regDir (s : State) (n : Nat) : Dir :=
  let src := s.rd (Reg.BOG_REG_SRC n)
  if bitsAt src 0 3 = 3 then keyDir (bitsAt src 5 6) else laneDir (bitsAt src 3 2)

/-- A receive lane carries flagged samples (R150, R285): FLAGS[4] of the regions that capture it, or a slot's branch of it. -/
def State.markFlagged (s : State) (l : Nat) : State :=
  { s with bog := regionNums.foldl (fun b n =>
      let src := s.rd (Reg.BOG_REG_SRC n)
      let r := b.region n
      let takes := (bitsAt src 0 3 = 1 && bitsAt src 3 2 = l) ||
        (bitsAt src 0 3 = 3 && s.regDir n = laneDir l && (decide (2 ≤ bitsAt src 13 2) || bitsAt src 13 2 = l % 2))
      if r.active && takes && s.regRuns n then b.setRegion n { r with flags := r.flags ||| 16 } else b) s.bog }

/-- Both receive lanes of a direction carry flagged samples. -/
def State.markDir (s : State) (d : Dir) : State := (s.markFlagged (laneOf d 0)).markFlagged (laneOf d 1)

/-- A record of a record source is written whole into an active region, circulating or up to the end of a linear one. The
answer says whether the region accepted it. -/
def State.regRecord (s : State) (n : Nat) (v : List Byte) : State × Bool :=
  let r := s.bog.region n
  if !r.active || s.regRoom n r v.length < v.length || s.dataBytes n < v.length then (s, false)
  else
    let size := s.dataBytes n
    let start := s.dataStart n r.seg
    -- records are aligned to their own size, and the area holds a whole number of them
    let b := s.bog.write (start + r.wr % size) v
    ({ s with bog := b.setRegion n { advance size (s.regStop n = 1) r v.length with upTo := s.now } }, true)

/-- A record goes to every active region of its kind that selects it (R289); the answer says whether one refused it. -/
def State.recordTo (s : State) (kind : Nat) (sel : Nat → Bool) (v : List Byte) : State × Bool :=
  regionNums.foldl (fun x n =>
    if x.1.regKind n = kind && sel n && (x.1.bog.region n).active then
      let (s, ok) := x.1.regRecord n v
      (s, x.2 || !ok)
    else x) (s, false)

/-- Valid bytes of a region's present segment (R291, R292). -/
def State.regValid (s : State) (n : Nat) (r : RegionRec) : Nat :=
  if r.triggered ∧ s.regOnce n then min r.held (r.preHeld + r.since.toNat) else r.held

/-- The segment header of R292; the oldest instant is open where the stream broke. -/
def State.segHeader (s : State) (n : Nat) (r : RegionRec) (oldest : Nat) : List Byte :=
  let size := s.dataBytes n
  let start := s.dataStart n r.seg
  let valid := s.regValid n r
  let first := if size = 0 then start else start + (r.wr + size - valid) % size
  leBytes 8 (if r.triggered then r.trigTime else 0) ++ leBytes 8 (if r.triggered then r.trigAddr else 0)
    ++ leBytes 8 first ++ leBytes 8 (start + r.wr) ++ leBytes 8 oldest ++ leBytes 8 r.lastBreak
    ++ leBytes 2 r.seg ++ leBytes 2 r.ignored ++ leBytes 2 r.breaks ++ leBytes 1 (r.flags + ofBool r.lostSamples * 4)
    ++ leBytes 1 (s.regKind n) ++ leBytes 4 r.pass ++ leBytes 4 0

/-- Sampling instant of the oldest valid sample: from the rate, or open after a break (log entry 8). -/
def State.oldestTime (s : State) (n : Nat) (r : RegionRec) : Nat × State :=
  if 4 ≤ s.regKind n then (0, s)
  else if r.breaks ≠ 0 then
    let (a, s1) := s.fresh
    let (b, s2) := s1.fresh
    (a.toNat + b.toNat * 2 ^ 32, s2)
  else
    let one := (s.regBytes n (2 ^ 20)).toNat
    (if one = 0 then 0 else r.upTo - s.regValid n r * 2 ^ 20 / one, s)

/-- Write the header of the present segment. -/
def State.regHeader (s : State) (n : Nat) : State :=
  let r := s.bog.region n
  let (t, s) := s.oldestTime n r
  { s with bog := s.bog.write (s.dataStart n r.seg - 4096) (s.segHeader n r t) }

/-- Region n ends in state stopped with extra header flags, and its completion is signalled (R291, R292, R407). -/
def State.regFinish (s : State) (n extra : Nat) : State :=
  let s := s.regStream n s.now
  let r := s.bog.region n
  let s := { s with bog := s.bog.setRegion n { r with flags := r.flags ||| extra } }
  let s := s.regHeader n
  let r := s.bog.region n
  { s with bog := s.bog.setRegion n { r with st := 3 } }.regionDone n

/-- STOP of region n: by a host, a fence or SHUTDOWN (R294, R295). -/
def State.regHalt (s : State) (n : Nat) : State := if (s.bog.region n).active then s.regFinish n 32 else s

/-! ### Codeword errors (R283) -/

/-- A codeword error is counted against the region or pattern slot that holds it. -/
def State.cwCount (s : State) (cw : Nat) (ue : Bool) : State :=
  let a := 32 * cw
  let b := regionNums.foldl (fun b n =>
    if overlap (s.regBase n) (s.regSize n) a 32 then
      let r := b.region n
      b.setRegion n (if ue then { r with uncorr := satAdd 65535 r.uncorr 1 } else { r with corr := satAdd 65535 r.corr 1 })
    else b) s.bog
  let b := patNums.foldl (fun b p =>
    if overlap (s.patBase p) (s.patBytes p) a 32 then
      let r := b.pat p
      b.setPat p (if ue then { r with uncorr := satAdd 65535 r.uncorr 1 } else { r with corr := satAdd 65535 r.corr 1 })
    else b) b
  { s with bog := b }

/-- An uncorrectable codeword is counted (R283). -/
def State.cwLost (s : State) (cw : Nat) : State :=
  ((s.cwCount cw true).bump Reg.BOG_UNCORR_TOTAL 1).setSt Reg.BOG_LAST_UE cw

/-! ### Playback -/

def State.setPlaying (s : State) (d : Dir) (p : Option Playing) : State :=
  match d with
  | .dl => { s with bog := { s.bog with pbDl := p } }
  | .ul => { s with bog := { s.bog with pbUl := p } }

/-- The pattern playing in a direction ends; what it returns to is the caller's. -/
def State.patStop (s : State) (d : Dir) : State :=
  match s.playing d with
  | none => s
  | some x => (s.setPlaying d none).patternDone x.pattern

end Sys2Proof.Machine
end

