-- ==== Sys2Proof/Machine/Seq.lean ====
section
/-! DEFINITION. The PA sequence of a transmit lane (R229–R232): its steps, their times, and how it advances with device time. -/

namespace Sys2Proof.Machine

/-- Device time of n µs, at 983.04 units a µs, rounded up. -/
def usTime (n : Nat) : Nat := (n * 98304 + 99) / 100

/-- The times of PA_SEQ_ON and PA_SEQ_OFF (R247). -/
def State.tBiasEn (s : State) : Nat := usTime (s.fld Reg.FRONT_PA_SEQ_ON 0 10)
def State.tEnRamp (s : State) : Nat := usTime (s.fld Reg.FRONT_PA_SEQ_ON 10 10)
def State.tRamp (s : State) : Nat := usTime (s.fld Reg.FRONT_PA_SEQ_ON 20 10)
def State.tRampDn (s : State) : Nat := usTime (s.fld Reg.FRONT_PA_SEQ_OFF 0 10)
def State.tEnBias (s : State) : Nat := usTime (s.fld Reg.FRONT_PA_SEQ_OFF 10 10)

/-- Sine of y, both in units of 2^-32, for 0 ≤ y ≤ π/2, by its power series. -/
def sinFix (y : Int) : Int :=
  let u : Int := 4294967296
  let y2 := y * y / u
  y * (u - y2 * (u - y2 * (u - y2 * (u - y2 * (u - y2 / 110) / (72 * u)) / (42 * u)) / (20 * u)) / (6 * u)) / u

/-- Weight w = 0.5 − 0.5 cos(π i / n) of the ramp after i of n units (R230), in units of 2^-32. -/
def rampWeight (i n : Nat) : Nat :=
  if n = 0 ∨ n ≤ i then 4294967296
  else
    let y : Int := 6746518852 * i / n   -- (π/2)·2^32·i/n
    let s := sinFix y
    (clampI 0 4294967296 (s * s / 4294967296)).toNat

def FrontState.laneEnd (f : FrontState) (l : Nat) : Nat := NMap.get (fun _ => 0) f.stepEnd l

def FrontState.setStep (f : FrontState) (l k e : Nat) : FrontState :=
  { f with step := NMap.put (fun _ => 0) f.step l k, stepEnd := NMap.put (fun _ => 0) f.stepEnd l e }

/-- The on-sequence may start: the direction is aligned and running (R63 step 3). -/
def State.mayBias (s : State) (l : Nat) : Bool := s.paWanted l && (s.dirRec (laneDir l)).running

/-- One move of lane l's sequence at the present device time, if one is due (R230, R232). -/
def State.laneMove (s : State) (l : Nat) : Option FrontState :=
  let f := s.front
  let e := f.laneEnd l
  let due := decide (e ≤ s.now)
  let want := s.paWanted l
  match f.laneStep l with
  | 0 => if s.mayBias l then some (f.setStep l 1 ((if due then s.now else e) + s.tBiasEn)) else none
  | 1 => if !want then some (f.setStep l 0 s.now)
         else if due then some (f.setStep l 2 (e + s.tEnRamp)) else none
  | 2 => if !want then some (f.setStep l 6 (s.now + s.tEnBias))
         else if due && (s.dirRec (laneDir l)).trans.isNone then some (f.setStep l 3 (e + s.tRamp)) else none
  | 3 => if !want then
           let w := rampWeight (s.tRamp - (e - s.now)) s.tRamp
           some (f.setStep l 5 (s.now + s.tRampDn * w / 4294967296))
         else if due then some (f.setStep l 4 0) else none
  | 4 => if !want then some (f.setStep l 5 (s.now + s.tRampDn)) else none
  | 5 => if due then some (f.setStep l 6 (e + s.tEnBias)) else none
  | _ => if due then some (f.setStep l 0 s.now) else none

/-- Every move of lane l that is due; a sequence has six steps, so the fuel is never short. -/
def State.laneRun (s : State) (l : Nat) : Nat → State
  | 0 => s
  | n + 1 => match s.laneMove l with
    | some f => State.laneRun { s with front := f } l n
    | none => s

/-- Every lane's sequence at the present device time. -/
def State.paAdvance (s : State) : State := laneNums.foldl (fun s l => s.laneRun l 8) s

/-- The direction's first repeated sample: the lanes it wants begin their ramp (R230 step 3). -/
def State.paRamp (s : State) (d : Dir) : State :=
  laneNums.foldl (fun s l =>
    if laneDir l = d && s.paWanted l && decide (s.front.laneStep l < 3) then
      { s with front := s.front.setStep l 3 (s.now + s.tRamp) } else s) s

/-- The off-sequence of a direction has ended (R43): lanes it does not want stand in the off step. -/
def State.paOff (s : State) (d : Dir) : State :=
  laneNums.foldl (fun s l =>
    if laneDir l = d && !s.paWanted l then { s with front := s.front.setStep l 0 s.now } else s) s

end Sys2Proof.Machine
end

