-- ==== Sys2Proof/Machine/EchoRun.lean ====
section
/-! DEFINITION. Runs of path estimation: their key, their start warm or cold, holding and discarding (R68, R163, R164, R171–R173),
and the shape of a slot's taps (R166). -/

namespace Sys2Proof.Machine

/-- What a cached estimate is keyed by (R172). -/
def State.echoKey (s : State) (d : Dir) (n : Nat) : List Nat :=
  [s.rd (loFreqReg d), s.fld (loCtrlReg d) 1 1, if n = 16 then 0 else s.rd (Reg.CHAN_SLOT_NCO d n),
    if n = 16 then 255 else s.slotResp d n, s.branchMode d]

/-- Taps of a slot and their first delay D0 in slot samples (R166). -/
def nTaps (k : Nat) (bypass : Bool) : Nat :=
  if bypass then 96 else [128, 128, 128, 82, 57, 45, 39, 36, 34, 33].getD k 128

def State.echoTaps (s : State) (d : Dir) (n : Nat) : Nat := nTaps (s.slotK d n) (n = 16)

def State.echoD0 (s : State) (d : Dir) (n : Nat) : Nat :=
  if n = 16 then 202 else respLat (s.slotResp d n) / 2 ^ (s.slotK d n + 1) - 8

/-- Paths (t, r) as 2t + r that the branching identifies (R42). -/
def State.echoPaths (s : State) (d : Dir) : List Nat :=
  match s.branchMode d with
  | 0 => [0, 1, 2, 3]
  | 1 => [0, 1]
  | _ => [0]

/-- Paths whose lanes are both in service (R117, R173). -/
def State.livePaths (s : State) (d : Dir) : List Nat :=
  (s.echoPaths d).filter (fun p => !s.txOut (laneOf d (p / 2)) && !s.rxOut (laneOf d (p % 2)))

/-- A run starts (R163): warm from the held estimate, else from the cached one, where the key agrees and nothing asks for a
cold start; otherwise cold. The adaptive level starts from −12 dB with it, also at a start that is no promotion (DESIGN CHOICE, log entry 76). -/
def EchoRec.start (r : EchoRec) (key : List Nat) (cold : Bool) (ident : List Nat) : EchoRec :=
  let id := BitVec.ofNat 4 (packBits 4 (fun p => ident.contains p))
  let base : EchoRec :=
    { r with warm := true, blocks := 0, result := false, converged := false, held := false, okPaths := 0, identified := id,
             rhoEst := none, rhoFast := none, atBound := 0, level := -1200, key := key, due := none }
  let coldRun : EchoRec := { base with warm := false, paths := [], iAir := 0, iEff := 0, credit := 0, sMax := 0, refAir := 0 }
  if cold then { coldRun with cached := none }
  else if r.paths ≠ [] ∧ r.key = key then { base with refAir := r.iAir }
  else match r.cached with
    | some c => if c.key = key then { base with paths := c.paths, iAir := c.iAir, iEff := c.iAir, credit := 0, refAir := c.iAir }
                else coldRun
    | none => coldRun

def State.echoStartSlot (s : State) (d : Dir) (n : Nat) (cold : Bool) : State :=
  s.setEcho d n ((s.echoRec d n).start (s.echoKey d n) cold (s.livePaths d))

/-- The runs of every enabled slot start. -/
def State.echoStart (s : State) (d : Dir) (cold : Bool) : State :=
  (s.enabled d).foldl (fun s n => s.echoStartSlot d n cold) s

/-- Taps and I_eff are held (R173). -/
def State.echoHoldSlot (s : State) (d : Dir) (n : Nat) : State :=
  s.setEcho d n { s.echoRec d n with held := true, onAir := false }

def State.echoHold (s : State) (d : Dir) : State := (s.enabled d).foldl (fun s n => s.echoHoldSlot d n) s

/-- Samples are included again without a new start, as after an inject playback (R47). -/
def State.echoGoOn (s : State) (d : Dir) : State :=
  (s.enabled d).foldl (fun s n => s.setEcho d n { s.echoRec d n with held := false }) s

/-- An oscillation discards running and cached estimates of the direction (R171). -/
def State.echoDiscard (s : State) (d : Dir) : State :=
  slotNums.foldl (fun s n =>
    let r := s.echoRec d n
    s.setEcho d n { r with paths := [], cached := none, converged := false, result := false, blocks := 0, warm := false,
                           iAir := 0, iEff := 0, credit := 0, sMax := 0, okPaths := 0, rhoEst := none, rhoFast := none,
                           held := true, onAir := false, due := none }) s

/-- The cache entry that the present estimate makes. -/
def EchoRec.entry (r : EchoRec) : Option EstEntry :=
  if r.paths = [] then none else some { paths := r.paths, iAir := r.iAir, key := r.key }

/-- Every current estimate is written to the cache, as on entry to SLEEP (R172). -/
def State.echoSave (s : State) : State :=
  { s with echo := NMap.mapVal (fun _ => {}) s.echo (fun _ r => match r.entry with
      | some c => { r with cached := some c, cachedAt := s.now }
      | none => r) }

/-- At a wake or a resume only the cache is left (R173); a run starts from it when its direction enters CAUTIOUS. -/
def State.echoForget (s : State) : State :=
  { s with echo := NMap.mapVal (fun _ => {}) s.echo (fun _ r => { r with paths := [], held := false, onAir := false, due := none }) }

/-- The cached entry of a slot reads back uncorrectable (R172): it is discarded, and a run that has just started from it starts cold. -/
def State.echoSpoilt (s : State) (d : Dir) (n : Nat) : State :=
  let r := { s.echoRec d n with cached := none }
  if r.warm ∧ r.blocks = 0 ∧ r.result = false then s.setEcho d n (r.start r.key true (s.livePaths d)) else s.setEcho d n r

end Sys2Proof.Machine
end

