-- ==== Sys2Proof/Machine/Sleep.lean ====
section
/-! DEFINITION. LAST_TRANSITION, and the entry to SLEEP (R273, R274): preserving, powering down, and what is kept and lost. -/

namespace Sys2Proof.Machine

/-- One transition is recorded (R55, R449); dir is 1 downlink, 2 uplink, 3 both or device. -/
def State.record (s : State) (fromCode toCode dir cause : Nat) : State :=
  (s.setSt Reg.SYS_LAST_TRANSITION (fromCode + 16 * toCode + 256 * dir + 4096 * cause)).bump Reg.SYS_TRANSITION_COUNT 1

/-- Show the latest request in REQ_STATUS. -/
def State.reqShow (s : State) (q : Req) (status : Nat) : State :=
  { s with sys := { s.sys with shown := q.no, shadow := none, reqTag := q.tag, reqStatus := status } }

/-- A request takes a status: REQ_STATUS shows it when it is the request shown, or when it is the pending one behind a refusal and has
ended (R448: the refusal shows until the pending request ends). -/
def State.reqEnd (s : State) (no tag status : Nat) : State :=
  if no = 0 then s
  else if s.sys.shown = no then { s with sys := { s.sys with reqTag := tag, reqStatus := status } }
  else if s.sys.shadow = some no ∧ status ≠ 1 then
    { s with sys := { s.sys with shown := no, shadow := none, reqTag := tag, reqStatus := status } }
  else s

/-- Measurement entry n: state, length, digest (R75). -/
def BootState.entry (b : BootState) (n : Nat) : Nat × Nat × Nat := NMap.get (fun _ => (0, 0, 0)) b.entries n

def BootState.setEntry (b : BootState) (n st len dig : Nat) : BootState :=
  { b with entries := NMap.put (fun _ => (0, 0, 0)) b.entries n (st, len, dig) }

/-- Eight fresh open words as one number. -/
def State.freshWide : Nat → State → Nat × State
  | 0, s => (0, s)
  | k + 1, s => let (w, s1) := s.fresh; let (n, s2) := State.freshWide k s1; (w.toNat + 2 ^ 32 * n, s2)

/-- The image slot that was applied. -/
def State.appliedSlot (s : State) : Option (List Byte) :=
  match s.boot.flash with
  | some f => if s.boot.slot = 1 then some f.slotA else if s.boot.slot = 2 then some f.slotB else none
  | none => none

/-- n flash bytes from an offset of a slot; what the list does not give reads as erased. -/
def flashBytes (l : List Byte) (off n : Nat) : List Byte :=
  let x := (l.drop off).take n
  x ++ List.replicate (n - x.length) 0xFF

/-- The preload is cut off (R78): the unfinished slots stay empty and entry 3 reads partial over the bytes read up to the stop (R75).
How many those are is open: a free value between CONFIG_LEN and IMAGE_LEN (log entry 2). CFG source 8 (R98). -/
def State.preloadStop (s : State) : State :=
  if !s.boot.preloading then s
  else
    let (w, s) := s.fresh
    let config := s.st Reg.CFG_CONFIG_LEN
    let len := config + w.toNat % (s.st Reg.CFG_IMAGE_LEN - config + 1)
    let dig := sha256 (flashBytes (s.appliedSlot.getD []) 0 len)
    { s with boot := { s.boot.setEntry 3 3 len dig with preloading := false } }.raise 3 8

/-- Step 1 of R273 begins: the Peat interval closes, and run state is written behind everything of higher precedence (R36). -/
def State.sleepStart (s : State) (cause no tag : Nat) : State :=
  let s := s.recorder (fun c => Rec.drain { c with p := { c.p with frozen := false, freezePending := false } })
  let s := s.peatClose 8 0
  let s := s.echoSave
  let s := (s.mramWrite .flush).mramWrite (.cache .estimate)
  let s := s.mramWrite .runState
  { s with
    sys := { s.sys with entering := some (cause, no, tag), sleepNext := none, wakeSession := false }
    peat := { s.peat with flushNext := some (s.peat.openI, s.peat.opsec, s.peat.pcc) } }

/-- Injections are disarmed at a cold start and on entry to SLEEP (R363). -/
def Flt.disarm (f : Flt) : Flt := { f with src := NMap.mapVal (fun _ => {}) f.src (fun _ r => { r with armed := false }) }

/-- What the Bog and its index keep across SLEEP (R274): placements, origins and counts, no contents. -/
def BogState.asleep (b : BogState) : BogState :=
  { regions := NMap.mapVal (fun _ => {}) b.regions (fun _ r => { corr := r.corr, uncorr := r.uncorr })
    pats := NMap.mapVal (fun _ => {}) b.pats (fun _ r => { r with loaded := false })
    trained := b.trained }

/-- Step 3 of R273: every domain but VD_AON is off. -/
def State.powerDown (s : State) : State :=
  match s.sys.entering with
  | none => s
  | some (cause, no, tag) =>
    let s := s.preloadStop
    let s := s.reqEnd no tag 2
    let s := s.record 2 1 3 cause
    let s := s.bump Reg.LICHEN_SLEEP_COUNT 1
    { s with
      power := .sleep
      flt := s.flt.disarm
      sys := { s.sys with entering := none, wakeSession := false, lingerOff := false }
      syn := { s.syn with c := { s.syn.c with locked := false, busy := false }, d := { s.syn.d with locked := false, busy := false }
                          u := { s.syn.u with locked := false, busy := false } }
      bog := s.bog.asleep
      bix := {}
      loop := { s.loop with units := [] }
      hk := { s.hk with a := { s.hk.a with injPending := false, injRun := false, passOpen := false, due := false }
                        b := { s.hk.b with injPending := false, injRun := false, passOpen := false, due := false } }
      pcie := { s.pcie with up := false, gen := 0, width := 0 }
      twb := { s.twb with sending := false, backoff := none }
      lichen := { s.lichen with holdoff := true, deferred := false, abandoned := false, untuned := 0
                                rx := NMap.mapVal (fun _ => {}) s.lichen.rx (fun _ r => { r with looks := [], qualified := false }) } }

/-- A two-wire address match in step 1 or 2 abandons the entry (R277). -/
def State.sleepAbandon (s : State) : State :=
  match s.sys.entering with
  | none => s
  | some (_, no, tag) =>
    let s := s.reqEnd no tag 4
    { s with sys := { s.sys with entering := none }, lichen := { s.lichen with abandoned := true } }

/-- SLEEP is entered from STANDBY once both directions stand there (R45, R272). -/
def State.trySleep (s : State) : State :=
  match s.sys.sleepNext with
  | none => s
  | some (cause, no, tag) =>
    if s.sys.dl.st = .standby ∧ s.sys.ul.st = .standby ∧ s.sys.dl.trans = none ∧ s.sys.ul.trans = none ∧ s.power = .up then
      s.sleepStart cause no tag
    else s

end Sys2Proof.Machine
end

