-- ==== Sys2Proof/Machine/Modes.lean ====
section
/-! DEFINITION. Transitions and requests: network-protection mutes (R192–R194), starting and ending a transition (R43, R63, R299),
request handling (R45, R448, R50), and automatic returns (R47, R48). -/

namespace Sys2Proof.Machine

def dirs : List Dir := [.dl, .ul]

/-! ### The measurement area's times (R77) -/

def measT (k : Nat) : Nat := 0xE108 + 4 * k

/-- µs from VIN valid, or from the wake: device time since STANDBY, and what passed before it started (R77, R121). -/
def State.sinceStart (s : State) : Nat := s.st (measT 0) + s.boot.waitUs + (s.now - s.boot.standbyAt) * 100 / 98304

/-- T_CAUTIOUS (k = 1) or T_FULL (k = 2) at the first direction that reaches the state. -/
def State.markT (s : State) (k : Nat) : State := if s.st (measT k) = 0 then s.setSt (measT k) s.sinceStart else s

/-! ### Governors at a mute and at a start (R184, R193) -/

def f64Min (a b : F64) : F64 := if F64.le a b then a else b

/-- The cautious cap of governor g. -/
def State.capF (s : State) (d : Dir) (g : Nat) : F64 := F64.ofCenti (gCap (s.target d g))

/-- The generator is seated at the cautious gain cap. -/
def State.seat (s : State) (d : Dir) (g : Nat) : State :=
  s.setGov d g { s.govRec d g with p := s.capF d g, v := F64.zero, a := F64.zero }

/-- The governor of a slot that a mute or a restore touches: p := min(p, g_cap), v := 0, a := 0. -/
def State.capGov (s : State) (d : Dir) (g : Nat) : State :=
  let r := s.govRec d g
  s.setGov d g { r with p := f64Min r.p (s.capF d g), v := F64.zero, a := F64.zero }

/-- Governors in use. -/
def State.govsOn (s : State) (d : Dir) : List Nat := govNums.filter (fun g => s.govEn d g)

/-- Every governor of the direction is seated: the start of service; eligible slots count as opened (R69). -/
def State.seatAll (s : State) (d : Dir) : State :=
  let s := (s.govsOn d).foldl (fun s g => s.seat d g) s
  (s.enabled d).foldl (fun s n => s.setSlot d n { s.slotRec d n with opened := s.slotElig d n }) s

/-- Slots whose gate opens for the first time in FULL (R69): their governors are seated and their runs start. -/
def State.openFirst (s : State) (d : Dir) : State :=
  (s.enabled d).foldl (fun s n =>
    if (s.slotRec d n).opened then s
    else ((s.seat d (govOf n)).setSlot d n { s.slotRec d n with opened := true }).echoStartSlot d n false) s

/-! ### Playback -/

/-- The way and the point of a pattern (R297, R298). -/
def State.patWay (s : State) (p : Nat) : Nat := let w := s.fld (Reg.BOG_PAT_CFG p) 10 2; if w = 3 then 1 else w
def State.patDir (s : State) (p : Nat) : Dir := dirOf (s.fld (Reg.BOG_PAT_CFG p) 0 1)

/-- PB_T0 of a direction (R299). -/
def State.patT0 (s : State) (d : Dir) : Nat :=
  let a := match d with | .dl => Reg.BOG_PB_T0_DL_LO | .ul => Reg.BOG_PB_T0_UL_LO
  s.st a + 2 ^ 32 * s.st (a + 4)

/-- Passes of a pattern: one for replace, else LOOPS, 0 meaning until stopped (R298). -/
def State.patLoops (s : State) (x : Playing) : Nat :=
  if s.patWay x.pattern = 1 then 1 else s.fld (Reg.BOG_PAT_CFG x.pattern) 16 16

/-- Passes that direction d's pattern has completed (R297, R299): its words enter from PB_T0 on without a gap, at the rate of its point; where BR is
3 the branches share them. -/
def State.patPasses (s : State) (d : Dir) (x : Playing) : Nat :=
  let p := x.pattern
  let point := s.fld (Reg.BOG_PAT_CFG p) 1 2
  let word := if point = 0 ∨ point = 2 then 2 ^ s.slotK d (clampN 0 16 (s.fld (Reg.BOG_PAT_CFG p) 3 5)) else 1
  let words := (s.now - s.patT0 d) / word * (if s.fld (Reg.BOG_PAT_CFG p) 8 2 = 3 then 2 else 1)
  let n := words / s.rd (Reg.BOG_PAT_LEN p)
  if s.patLoops x = 0 then n else min n (s.patLoops x)

/-- The direction whose pattern started latest (R308). -/
def State.latestPat (s : State) : Dir := if s.patT0 .dl < s.patT0 .ul then .ul else .dl

/-- PB_STAT's count follows the latest-started pattern while it plays (R308). -/
def State.playTick (s : State) : State :=
  let d := s.latestPat
  match s.playing d with
  | some x => s.setStF Reg.BOG_PB_STAT 16 16 (min 65535 (s.patPasses d x))
  | none => s

/-- The slots whose traffic a starting pattern replaces, or all when the direction leaves the air (R51, R173). -/
def State.patHold (s : State) (d : Dir) (p : Nat) (asReplace : Bool) : State :=
  let point := s.fld (Reg.BOG_PAT_CFG p) 1 2
  if !s.patTransmit p then s.echoHold d
  else if s.patWay p = 0 ∧ !asReplace then s
  else if point = 0 then s.echoHoldSlot d (clampN 0 16 (s.fld (Reg.BOG_PAT_CFG p) 3 5))
  else s.echoHold d

/-- Pattern p starts in direction d (R299): word 0 enters at a tick boundary, or is the first sample of the ramp. -/
def State.patStart (s : State) (d : Dir) (p : Nat) (from_ : DirState) : State :=
  let rest := from_ = .standby || from_ = .listen
  let asReplace := s.patWay p = 0 && s.patTransmit p && rest
  let t0 := if s.patTransmit p && rest then s.now else (s.now + tickTime - 1) / tickTime * tickTime
  let s := s.setPlaying d (some { pattern := p, asReplace := asReplace })
  let s := { s with bog := s.bog.setPat p { s.bog.pat p with asReplace := asReplace } }
  let s := (s.setStF Reg.BOG_PB_STAT 16 16 0).setWide (match d with | .dl => Reg.BOG_PB_T0_DL_LO | .ul => Reg.BOG_PB_T0_UL_LO) t0
  s.patHold d p asReplace

/-! ### Starting and ending a transition (R43) -/

/-- The pattern of a direction ends; which it was stays known for a shutdown (R44). -/
def State.patEnd (s : State) (d : Dir) : State :=
  match s.playing d with
  | some x => (s.setDir d { s.dirRec d with leftPat := some x.pattern }).patStop d
  | none => s.patStop d

/-- A transition starts. One to the air from a state off the air closes the direction's law instances (R214). -/
def State.beginTrans (s : State) (d : Dir) (t : Trans) : State :=
  let s := if t.toAir s && !s.onAir d then s.lawsStart d else s
  let s := if s.dirSt d = .playback && t.target != .playback then s.patEnd d else s
  let s := if !t.toAir s then s.echoHold d else s
  s.setDir d { s.dirRec d with trans := some { t with start := s.now } }

/-- Step 2 of R63 in device time, at its typical 0.23 ms (log entry 65). -/
def alignTime : Nat := usTime 230

/-- A direction whose start has had the time of step 2 is aligned: it is running from then on (R27, R28), and its PAs may begin their
on-sequence (R63 step 3). -/
def State.alignNow (s : State) (d : Dir) : State :=
  let r := s.dirRec d
  match r.trans with
  | some t =>
    if s.power = .up ∧ t.target ≠ .standby ∧ r.running = false ∧ t.start + alignTime ≤ s.now then
      s.setDir d { r with running := true, measured := false } else s
  | none => s

/-- The service of a direction starts (R63, R68, R184): estimates start warm or cold, generators are seated. -/
def State.serviceStart (s : State) (d : Dir) (from_ : DirState) : State :=
  let cold := (s.dirRec d).cold
  let s := s.echoStart d cold
  let s := if from_ = .muted then s else s.seatAll d
  (s.setDir d { s.dirRec d with cold := false }).markT 1

/-- Does any direction still run a transition of request `no`? -/
def State.runsReq (s : State) (no : Nat) : Bool :=
  dirs.any (fun d => match (s.dirRec d).trans with | some t => t.no = no | none => false)

/-- STANDBY follows, at once or when the running transition ends (R48, R50, R361); in SHUTDOWN it becomes what the direction resumes
to, once the resume conditions are met (R43). -/
def State.enterStandby (s : State) (d : Dir) (cause : Nat) : State :=
  if s.power = .shutdown then s.setDir d { s.dirRec d with resume := .standby }
  else match (s.dirRec d).trans with
  | some t => if t.target = .standby then s else s.setDir d { s.dirRec d with after := some cause }
  | none => if s.dirSt d = .standby then s else s.beginTrans d { target := .standby, cause := cause }

/-- The running transition is abandoned by a higher cause (R49); its request reads SUPERSEDED. -/
def State.abandonTrans (s : State) (d : Dir) : State :=
  match (s.dirRec d).trans with
  | none => s
  | some t =>
    let r := s.dirRec d
    let s := s.setDir d { r with trans := none, running := r.running && r.st != .standby }
    if t.no = 0 then s
    else
      let s := s.reqEnd t.no t.tag 4
      let s := s.dbOutcome t.doorbell 5 0
      if t.tag = 0xFD then s else { s with sys := { s.sys with supTag := t.tag } }

/-! ### Mutes (R192–R194) -/

/-- GOV source of a direction cause. -/
def MuteCause.dirSource : MuteCause → Nat
  | .oscillation => 16
  | .lockedOutput => 17
  | .lockedSynth => 18
  | .lockedDuty => 19
  | _ => 20

/-- MUTE_CAUSE (R197). -/
def MuteCause.code : MuteCause → Nat
  | .oscillation => 1
  | .donorLost => 2
  | .pairedDonorLost => 3
  | .noiseRise => 4
  | .lockedOutput | .lockedDuty | .lockedSynth => 5
  | .loopEngine => 6

/-- LIMIT of DIR_MUTE. -/
def MuteCause.limit : MuteCause → Nat
  | .lockedOutput => 1
  | .lockedDuty => 2
  | .lockedSynth => 4
  | _ => 0

/-- The direction goes to MUTED: any pattern ends with its return discarded, a running transition is overtaken (R49). -/
def State.toMuted (s : State) (d : Dir) : State :=
  let s := s.abandonTrans d
  let from_ := s.dirSt d
  let s := (s.patStop d).echoHold d
  let s := s.setDir d { s.dirRec d with st := .muted, after := none }
  if from_ = .muted then s else s.record from_.code 5 d.bit 4

/-- SYS source 13: the second of the two directions has now become MUTED (R49). -/
def State.bothMuted (s0 s : State) : State :=
  let both (s : State) := s.dirSt .dl = .muted && s.dirSt .ul = .muted
  s.raiseIf (both s && !both s0) 0 13

/-- A close of the Peat interval for a mute (R193, R373). -/
def State.peatMute (s : State) (b src u : Nat) : State :=
  let s := { s with peat := { s.peat with openI := { s.peat.openI with mutes := satAdd 65535 s.peat.openI.mutes 1 } } }
  s.peatClose 3 (32 * b + src + u % 256 * 65536)

/-- A network-protection mute of a direction (R192, R193, R194): one event of its GOV source; a second cause merges and the first
cause stays. Oscillation discards the estimates and makes the next start cold (R171). -/
def State.muteDir (s0 : State) (d : Dir) (c : MuteCause) : State :=
  let b := 15 + d.num
  let s := s0.raise b c.dirSource (some 16)
  let s := if c = .oscillation then
      let s := s.echoDiscard d
      s.setDir d { s.dirRec d with cold := true }
    else s
  if s.dirMuted d then s
  else
    let g := s.govDir d
    let s := s.setGovDir d { g with mute := some c, count := satAdd 65535 g.count 1 }
    let s := (s.govsOn d).foldl (fun s g => s.capGov d g) s
    let s := if s.transmits d then s.toMuted d else s
    let s := s.peatMute b c.dirSource 16
    s0.bothMuted s

/-- Every enabled slot of the direction is muted (R40). -/
def State.allSlotsMuted (s : State) (d : Dir) : Bool := !(s.enabled d).isEmpty && (s.enabled d).all (fun n => s.slotMuted d n)

/-- Network protection mutes the direction as a whole, or its last unmuted slot (R40). -/
def State.protMuted (s : State) (d : Dir) : Bool := s.dirMuted d || s.allSlotsMuted d

/-- A network-protection mute of a slot (R40, R192, R193, R196). -/
def State.muteSlot (s : State) (d : Dir) (n : Nat) (c : MuteCause) : State :=
  let g := govOf n
  let b := 15 + d.num
  let s := s.raise b g (some g)
  if (s.govRec d g).mute.isSome then s
  else
    let s := s.setGov d g { s.govRec d g with mute := some c }
    let s := s.capGov d g
    let s := s.bumpF (Reg.CHAN_GATE_COUNT d) 16 16 1
    let s := s.echoHoldSlot d n
    let s := s.peatMute b g g
    if s.allSlotsMuted d && s.transmits d && !s.dirMuted d then s.bothMuted (s.toMuted d) else s

/-- A muted direction starts back to CAUTIOUS (R40, R43), once nothing mutes it. -/
def State.restoreDir (s : State) (d : Dir) : State :=
  if s.dirSt d = .muted && !s.protMuted d && (s.dirRec d).trans.isNone then
    s.beginTrans d { target := .cautious, cause := 8 } else s

/-- The mute of a direction ends (R194). -/
def State.unmuteDir (s : State) (d : Dir) : State :=
  let s := s.setGovDir d { s.govDir d with mute := none, causeAt := none, over0 := 0, over1 := 0 }
  s.restoreDir d

/-- The mute of a slot ends: it reopens at the next tick boundary, warm from what was held (R173, R194). -/
def State.unmuteSlot (s : State) (d : Dir) (n : Nat) : State :=
  let g := govOf n
  let s := (s.setGov d g { s.govRec d g with mute := none, causeAt := none }).gateWait d n 2
  let s := s.echoStartSlot d n false
  s.restoreDir d

/-! ### Requests (R45) -/

/-- Directions that a request names: PLAYBACK the pattern's own, SLEEP both (R45, R297). -/
def State.reqDirs (s : State) (q : Req) : List Dir :=
  match q.target with
  | .playback p => [s.patDir p]
  | .sleep => dirs
  | _ => dirs.filter (fun d => bitAt q.scope d.num)

/-- The request's target needs transmission. -/
def State.reqAir (s : State) (q : Req) : Bool :=
  match q.target with
  | .cautious | .full => true
  | .playback p => s.patTransmit p
  | _ => false

/-- SCOPE bits of the directions that a request names. -/
def State.reqScope (s : State) (q : Req) : Nat := packBits 2 (fun i => (s.reqDirs q).contains (dirOf i))

/-- The synthesisers that a request waits for (R45): a transmission needs SYN_C and each direction's own; a resume to LISTEN needs
SYN_C, which must relock before any direction is realigned (R33). -/
def State.reqAwaits (s : State) (q : Req) : Nat :=
  if s.reqAir q then s.awaited (s.reqScope q)
  else if q.isResume && q.target = .listen then s.awaited (s.reqScope q) % 2 else 0

/-- The transition of an automatic return (R49 cause 7). -/
def Trans.isReturn (t : Trans) : Bool := (t.tag = 0xFD || t.no = 0) && (t.cause = 3 || t.cause = 6)

/-- A host or image request prevails over the automatic returns whose transitions run on the directions that it names (R49, R50). -/
def State.overtakeReturns (s : State) (ds : List Dir) : State :=
  ds.foldl (fun s d => match (s.dirRec d).trans with
    | some t => if t.isReturn then s.abandonTrans d else s
    | none => s) s

/-- A direction in STANDBY is on its way to service: the check runs or its start is held. -/
def State.onWay (s : State) (d : Dir) : Bool :=
  ((s.sys.check.isSome || s.sys.behind.isSome) && !(s.enabled d).isEmpty) ||
    (match s.sys.pendingReq with
     | some (q, _) => (q.target = .cautious || q.target = .full) && bitAt q.scope d.num
     | none => false) ||
    (match (s.dirRec d).trans with | some t => t.target = .cautious | none => false)

/-- The refusal rows of R45 below the SHUTDOWN rows, in their order. -/
def State.refusal (s : State) (q : Req) : Option Nat :=
  let ds := s.reqDirs q
  let air := s.reqAir q
  let play := match q.target with | .playback _ => true | _ => false
  if air && !s.sys.serviceEn then some 0x0A04
  else if air && ds.any (fun d => (s.liveSlots d).isEmpty) then some 0x0A07
  else match q.target with
    | .playback p =>
      if air && !s.lock.playAir then some 0x0A03
      else if air && ds.any (fun d => s.dirSt d = .cautious || s.dirSt d = .muted || (s.dirSt d = .standby && s.onWay d)) then
        some 0x0A08
      else if play && ds.any (fun d => s.dirSt d = .muted) then some 0x0A0A
      else if !(s.bog.pat p).loaded then some 0x0A09
      else none
    | _ => none

/-- A refusal of class 0x0A that applies to a request as it stands, the SHUTDOWN rows included (R448). -/
def State.refusalNow (s : State) (q : Req) : Option Nat :=
  if q.target = .bad ∨ q.scope = 0 then some 0x0A02
  else if s.power = .shutdown ∧ !q.isResume then
    (if q.target = .standby ∨ q.target = .sleep then none else some 0x0A05)
  else s.refusal q

/-- A refused return or resume ends in STANDBY (R48, R347): at once, or, refused by a shutdown, when that ends. -/
def State.fallBack (s : State) (d : Dir) (cause : Nat) : State :=
  if s.power = .shutdown then s.setDir d { s.dirRec d with resume := .standby } else s.enterStandby d cause

/-- A request is refused (R45, R48, R347): REFUSE_CODE, its source, and for a return or a resume the fall-back. -/
def State.refuse (s : State) (q : Req) (code src : Nat) : State :=
  let s := s.setSt Reg.SYS_REFUSE_CODE (code + 65536 * q.tag)
  let s := s.reqEnd q.no q.tag 3
  let s := (s.dbOutcome q.doorbell 5 code).raiseIf q.doorbell.isSome 5 8
  let s := s.raise 0 src
  if q.tag = 0xFD then (s.reqDirs q).foldl (fun s d => s.fallBack d 3) (s.raise 0 7)
  else if q.isResume then (s.reqDirs q).foldl (fun s d => s.fallBack d 5) (s.raise 0 9)
  else s

/-- The request stays pending. -/
def State.holdReq (s : State) (q : Req) (w : Wait) : State :=
  let s := s.reqEnd q.no q.tag 1
  { s with sys := { s.sys with pendingReq := some (q, w) } }.dbOutcome q.doorbell 4 0

/-- FULL resumes at once after an inject playback to a transmit point that began in FULL (R47). -/
def State.resumesFull (s : State) (d : Dir) : Bool :=
  match s.playing d with
  | some x => s.dirSt d = .playback && s.patWay x.pattern = 0 && !x.asReplace && s.patTransmit x.pattern &&
      (s.dirRec d).before = .full
  | none => false

/-- One direction of an accepted request starts its transition, or has none to make. -/
def State.startDir (s : State) (q : Req) (d : Dir) : State :=
  let go (t : DirState) (p : Option Nat) : State :=
    s.beginTrans d { target := t, cause := q.cause, no := q.no, tag := q.tag, pattern := p, doorbell := q.doorbell }
  match q.target with
  | .cautious | .full =>
    if s.dirSt d = .cautious ∨ s.dirSt d = .full ∨ s.dirSt d = .muted then s
    else if q.tag = 0xFD ∧ s.resumesFull d then
      let s := (s.patStop d).echoGoOn d
      (s.setDir d { s.dirRec d with st := .full }).record 7 4 d.bit q.cause
    else go .cautious none
  | .standby => if s.dirSt d = .standby then s else go .standby none
  | .listen => if s.dirSt d = .listen then s else go .listen none
  | .playback p => go .playback (some p)
  | _ => s

/-- A request is carried out: DONE where no transition runs for it. -/
def State.startReq (s : State) (q : Req) : State :=
  match q.target with
  | .sleep =>
    let s := s.reqEnd q.no q.tag 1
    let s := { s with sys := { s.sys with sleepNext := some (q.cause, q.no, q.tag) } }
    (dirs.foldl (fun s d => s.enterStandby d q.cause) s).trySleep
  | _ =>
    let s := (s.reqDirs q).foldl (fun s d => s.startDir q d) s
    if s.runsReq q.no then (s.reqEnd q.no q.tag 1).dbOutcome q.doorbell 4 0
    else (s.reqEnd q.no q.tag 2).dbOutcome q.doorbell 1 0

/-- Does the request name only directions that already stand where it asks (R45)? -/
def State.already (s : State) (q : Req) : Bool :=
  (s.reqDirs q).all (fun d => match q.target with
    | .cautious | .full => s.dirSt d = .cautious || s.dirSt d = .full || s.dirSt d = .muted
    | .standby => s.dirSt d = .standby
    | .listen => s.dirSt d = .listen
    | _ => false)

/-- A request from the top of R45. -/
def State.handle (s : State) (q : Req) : State :=
  if q.target = .bad ∨ q.scope = 0 then s.refuse q 0x0A02 0
  else if s.power = .shutdown ∧ !q.isResume then
    (if q.target = .standby ∨ q.target = .sleep then s.holdReq q .shutdown else s.refuse q 0x0A05 0)
  else if s.power = .waking then s.holdReq q .wake
  else
    let s := if q.cause = 0 ∨ q.cause = 1 then s.overtakeReturns (s.reqDirs q) else s
    if (s.reqDirs q).any (fun d => (s.dirRec d).trans.isSome) then s.holdReq q .transition
    else match s.refusal q with
      | some c => s.refuse q c 0
      | none =>
        if s.already q then s.startReq q
        else if s.reqAwaits q != 0 then s.holdReq q (.locks (s.now + 2 * msTime))
        else if s.sys.check.isSome then s.holdReq q .check
        else s.startReq q

/-- The pending request is discarded for a newer one (R448). -/
def State.supersede (s : State) (p : Req) : State :=
  { s with sys := { s.sys with supTag := p.tag } }.dbOutcome p.doorbell 5 0 |>.raise 0 1

/-- Every request that waits is discarded for a newer one: the pending one, then one held behind the service start (R448; that the
second goes too is DEDUCED, log entry 69). -/
def State.supersedeAll (s : State) : State :=
  let s1 := { s with sys := { s.sys with pendingReq := none, behind := none } }
  let s2 := match s.sys.pendingReq with | some (p, _) => s1.supersede p | none => s1
  match s.sys.behind with | some p => s2.supersede p | none => s2

/-- The wake session's part of a request (R47): SERVICE, LISTEN and PLAYBACK end it; any but SLEEP stops the linger. -/
def State.sessionNote (s : State) (t : Target) : State :=
  let ends := match t with
    | .cautious | .full | .listen | .playback _ => true
    | _ => false
  { s with sys := { s.sys with wakeSession := s.sys.wakeSession && !ends, lingerOff := s.sys.lingerOff || t != .sleep } }

/-- The latest request that waits: one held behind the service start came after the request that it waits behind. -/
def State.waiting (s : State) : Option Req :=
  match s.sys.behind with
  | some p => some p
  | none => s.sys.pendingReq.map Prod.fst

/-- A request arrives (R45, R448): from the host, the image, or the device itself. -/
def State.request (s : State) (q : Req) : State :=
  if s.power = .off ∨ s.power = .sleep then s
  else
    let no := s.sys.serial + 1
    let q := { q with no := no }
    let s := { s with sys := { s.sys with serial := no } }
    match s.waiting with
    | none => ((s.sessionNote q.target).reqShow q 1).handle q
    | some p =>
      if q.tag = 0xFD ∧ p.tag ≠ 0xFD then s
      else match s.refusalNow q with
        | some c =>
          let s := (s.sessionNote q.target).reqShow q 3
          { s with sys := { s.sys with shadow := some p.no } }.refuse q c 0
        | none => ((s.supersedeAll.sessionNote q.target).reqShow q 1).handle q

/-- The pending request is handled again from the top of R45 where `w` holds of what it waited for. -/
def State.retry (s : State) (w : Wait → Bool) : State :=
  match s.sys.pendingReq with
  | some (q, x) => if w x then { s with sys := { s.sys with pendingReq := none } }.handle q else s
  | none => s

/-- A request held behind the service start is handled once nothing is pending (R448). -/
def State.unbehind (s : State) : State :=
  match s.sys.behind, s.sys.pendingReq with
  | some p, none => { s with sys := { s.sys with behind := none } }.handle p
  | _, _ => s

/-- The service request that a passed check or SYN_C's first lock makes (R46, R63, R121). It supersedes nothing; a request that waits
goes behind it and is handled once the start has ended (R448). -/
def State.serviceRequest (s : State) (tag cause : Nat) : State :=
  let scope := packBits 2 (fun i => !(s.enabled (dirOf i)).isEmpty)
  if scope = 0 then s
  else
    let no := s.sys.serial + 1
    let q : Req := { target := .cautious, scope := scope, tag := tag, cause := cause, no := no }
    let s := { s with sys := { s.sys with serial := no } }
    match s.waiting with
    | some p => { s with sys := { s.sys with pendingReq := none, behind := some p } }.handle q |>.unbehind
    | none => (s.reqShow q 1).handle q

/-- Locks have changed: a request that waits for them is handled again. -/
def State.locksChanged (s : State) : State :=
  (s.retry (fun w => match w with | .locks _ => true | _ => false)).unbehind

/-! ### Automatic returns (R47, R48) -/

/-- An automatic return, as a request with tag 0xFD. -/
def State.autoReturn (s : State) (d : Dir) (t : Target) (cause : Nat) : State :=
  s.request { target := t, scope := d.bit, tag := 0xFD, cause := cause }

/-- The target that RETURN of a pattern names (R299); `none` for the values 4–7. -/
def State.patReturn (s : State) (d : Dir) (p : Nat) : Option Target :=
  match s.fld (Reg.BOG_PAT_CFG p) 12 3 with
  | 0 => some .standby
  | 1 => some .listen
  | 2 => some .cautious
  | 3 => some (match (s.dirRec d).before with
    | .standby => .standby
    | .listen => .listen
    | _ => .cautious)
  | _ => none

/-- A pattern ends by itself or by a stop, and its return applies (R47, R299); a mute discards it (R49). -/
def State.patReturnNow (s : State) (d : Dir) : State :=
  match s.playing d with
  | none => s
  | some x =>
    if s.dirSt d != .playback || (s.dirRec d).trans.isSome then s.patEnd d
    else match s.patReturn d x.pattern with
      | some t =>
        let s := s.autoReturn d t 3
        -- an abandoned or held return leaves the direction in PLAYBACK with its pattern over
        s.patEnd d
      | none => ((s.raise 0 7).enterStandby d 3).patEnd d

/-- End of capture (R47, R291): the return applies to every direction in LISTEN. A direction whose return R45 refuses falls back alone;
those that it accepts go as one request, so that none supersedes another. -/
def State.captureReturn (s : State) (rule : Nat) : State :=
  let t : Option Target := match bitsAt rule 3 2 with | 1 => some .standby | 2 => some .cautious | _ => none
  match t with
  | none => s
  | some (t : Target) =>
    let here : List Dir := dirs.filter (fun d => s.dirSt d = .listen && (s.dirRec d).trans.isNone)
    let q (scope : Nat) : Req := { target := t, scope := scope, tag := 0xFD, cause := 3 }
    let bad (d : Dir) : Bool := (s.refusalNow (q d.bit)).isSome
    let s := (here.filter bad).foldl (fun s d => s.autoReturn d t 3) s
    let good := here.filter (fun d => !bad d)
    if good.isEmpty then s else s.request (q (packBits 2 (fun i => good.contains (dirOf i))))

/-! ### The end of a transition (TRANSITION_END) -/

/-- GATE_COUNT of a direction (R153); DIR_STAT as last seen stands in the status store. -/
def State.noteGate (s : State) (d : Dir) : State :=
  let now := s.dirStat d
  let was := s.st (Reg.CHAN_DIR_STAT d)
  let s := if bitAt was 0 && !bitAt now 0 then s.bumpF (Reg.CHAN_GATE_COUNT d) 0 16 1 else s
  s.setSt (Reg.CHAN_DIR_STAT d) now

/-- One pattern gives way to another without a state in between (R301). -/
def Trans.swaps (t : Trans) (from_ : DirState) : Bool := decide (from_ = .playback) && decide (t.target = .playback)

/-- The direction's record as its transition ends: MUTED in place of CAUTIOUS while protection mutes the whole of it (R40). -/
def State.transRec (s : State) (d : Dir) (t : Trans) : DirRec :=
  let r := s.dirRec d
  { r with
    st := if t.target = .cautious && s.protMuted d then DirState.muted else t.target
    trans := none, running := t.target != .standby, measured := r.measured && t.target != .standby, leftPat := none, after := none
    before := if t.target = .playback ∧ !t.swaps r.st then r.st else r.before }

/-- What the direction does on arriving: service or a pattern starts, or its generators are seated behind a standing mute. -/
def State.arrive (s : State) (d : Dir) (t : Trans) (from_ : DirState) : State :=
  match t.target with
  | .cautious =>
    if s.dirSt d = .muted then (if from_ = .muted then s else s.seatAll d) else (s.serviceStart d from_).paRamp d
  | .playback => match t.pattern with
    | some p => (s.patStart d p (if t.swaps from_ then (s.dirRec d).before else from_)).paRamp d
    | none => s
  | _ => s

/-- The request whose last transition has ended is DONE. -/
def State.transDone (s : State) (t : Trans) : State :=
  if t.no ≠ 0 ∧ !s.runsReq t.no ∧ s.sys.sleepNext.isNone then (s.reqEnd t.no t.tag 2).dbOutcome t.doorbell 1 0 else s

/-- The resume from a shutdown has brought its first direction back (R44, SUPPLY source 18). -/
def State.resumed (s : State) (t : Trans) (from_ : DirState) : State :=
  if from_ = .shutdown && s.therm.resuming && t.no != 0 then
    { s with therm := { s.therm with resuming := false } }.raise 2 18 else s

/-- What waited for the transition goes on: STANDBY that was to follow, a request, the entry to SLEEP. -/
def State.afterTrans (s : State) (d : Dir) (after : Option Nat) : State :=
  let s := match after with
    | some c => s.enterStandby d c
    | none => s
  (s.retry (fun w => w = Wait.transition)).unbehind.trySleep

/-- A transition ends: the direction stands in its target state (R43, R63, R70, R299). -/
def State.finishTrans (s0 : State) (d : Dir) : State :=
  let r := s0.dirRec d
  match r.trans with
  | none => s0
  | some t =>
    let s := if t.swaps r.st then s0.patStop d else s0
    let s := s.setDir d (s.transRec d t)
    let s := s0.bothMuted s
    let s := if t.swaps r.st then s else s.record r.st.code (s.dirSt d).code d.bit t.cause
    let s := (s.resumed t r.st).arrive d t r.st
    (((s.paOff d).noteGate d).transDone t).afterTrans d r.after

/-- CAUTIOUS → FULL (R70). -/
def State.promote (s : State) (d : Dir) : State :=
  let s := s.setDir d { s.dirRec d with st := .full }
  ((s.record 3 4 d.bit 2).markT 2).openFirst d

end Sys2Proof.Machine
end

