-- ==== Sys2Proof/Machine/Settle.lean ====
section
/-! DEFINITION. What follows at the end of every device-time instant: PA sequences, newly restricted resolutions (R53), gate
closures (R153), a device without a slot left (R49), channels and endpoint out of service (R295, R301, R408), synthesisers out of
service (R121), and handlings whose retry is over (R357). -/

namespace Sys2Proof.Machine

/-- SYS source 12 for each restricted resolution newly applied (R53, R56). -/
def State.noteRestrict (s : State) : State :=
  let new := s.restrictNow
  let rose := (List.range 10).filter (fun i => bitAt new i && !bitAt s.sys.restrict i)
  { s with sys := { s.sys with restrict := new } }.raiseEvs (rose.map (fun _ => { blk := 0, src := 12 }))

/-- SERVICE_EN is cleared by the device: both directions go to STANDBY with this CAUSE. -/
def State.clearService (s : State) (cause : Nat) : State :=
  let s := { s with sys := { s.sys with serviceEn := false } }.raise 0 15
  dirs.foldl (fun s d => s.enterStandby d cause) s

/-- Every slot of both directions is retired (R49). -/
def State.noteRetired (s : State) : State :=
  let all (d : Dir) : Bool := (s.enabled d).all (fun n => s.slotRetired d n)
  let some_ (d : Dir) : Bool := !(s.enabled d).isEmpty
  if s.sys.serviceEn && s.sys.check.isNone && (some_ .dl || some_ .ul) && all .dl && all .ul then s.clearService 10 else s

/-- A range of the Bog lies on a channel that is out of service. -/
def State.rangeOut (s : State) (lo len : Nat) : Bool :=
  (chansOf lo len).any (fun c => s.readsFenced 19 c || s.isRetired 19 c)

/-- A region or a pattern whose channel or own unit is out of service stops (R295, R301, R309). -/
def State.noteBog (s : State) : State :=
  let s := regionNums.foldl (fun s n =>
    if (s.bog.region n).active && (s.rangeOut (s.regBase n) (s.regSize n) || s.isOut 19 (8 + n)) then s.regHalt n else s) s
  dirs.foldl (fun s d => match s.playing d with
    | some x => if s.rangeOut (s.patBase x.pattern) (s.patBytes x.pattern) || s.isOut 19 (16 + x.pattern) then
        s.patReturnNow d else s
    | none => s) s

/-- The link goes down, and DOWNS counts it (R409). -/
def State.linkDown (s : State) : State :=
  if !s.pcie.up then s
  else { s with pcie := { s.pcie with up := false, gen := 0, width := 0 } }.bumpF Reg.PCIE_LINK_STAT 16 16 1

/-- A fenced endpoint holds its link in electrical idle (R408). -/
def State.notePcie (s : State) : State := if s.readsFenced 5 0 || s.isRetired 5 0 then s.linkDown else s

/-- A recorder out of service ends a freeze and counts what it held in LOST (R380). -/
def State.notePeat (s : State) : State :=
  if s.isOut 21 0 && !s.peat.out then
    { s with peat := { s.peat with out := true, frozen := false, freezePending := false, hold := []
                                   lost := satAdd 65535 s.peat.lost s.peat.hold.length } }
  else s

/-- A controller role out of service stops a retry wait and a transfer (R394, R396). -/
def State.noteTwb (s : State) : State :=
  if s.isOut 4 0 then { s with twb := { s.twb with sending := false, waiting := false, backoff := none } } else s

/-- One converter takes over the other's sequences: HK source 20; a converter out of service abandons its pass (R326, R327). -/
def State.noteHk (s : State) : State :=
  let over_ := s.isOut 18 0 != s.isOut 18 1
  if over_ == s.hk.takeover then s
  else
    let drop (c : Nat) (r : HkRec) : HkRec :=
      { r with filt := [], passOpen := r.passOpen && !s.isOut 18 c, due := r.due && !s.isOut 18 c, injRun := r.injRun && !s.isOut 18 c }
    ({ s with hk := { s.hk with a := drop 0 s.hk.a, b := drop 1 s.hk.b, takeover := over_ } }).raiseIf over_ 18 20

/-- TRSW of a direction's lowest-numbered TDD transmit lane moves to transmit: an urgent trigger of HK (R316). -/
def State.noteTrsw (s : State) : State :=
  let at_ (d : Dir) : Bool := match [laneOf d 0, laneOf d 1].find? (fun l => s.laneTdd l) with
    | some l => s.trsw l && !s.pinsReleased
    | none => false
  let dl := at_ .dl
  let ul := at_ .ul
  let roseDl := dl && !s.hk.trswDl
  let roseUl := ul && !s.hk.trswUl
  let s := { s with hk := { s.hk with trswDl := dl, trswUl := ul } }
  let s := if roseDl then s.hkTrigger 17 else s
  if roseUl then s.hkTrigger 18 else s

def State.setSyn (s : State) (y : Syn) (r : SynRec) : State :=
  match y with
  | .c => { s with syn := { s.syn with c := r } }
  | .d => { s with syn := { s.syn with d := r } }
  | .u => { s with syn := { s.syn with u := r } }

/-- A synthesiser out of service keeps its LO output off, and directions that transmit on it are muted (R121). -/
def State.noteSyn (s : State) : State :=
  let s := ([Syn.c, .d, .u]).foldl (fun s y =>
    if s.isOut 6 (synNum y) && (s.synRec y).locked then s.setSyn y { s.synRec y with locked := false, busy := false } else s) s
  dirs.foldl (fun s d =>
    if s.transmits d && !s.dirMuted d && (s.needsSyn d).any (fun y => s.isOut 6 (synNum y)) then s.muteDir d .lockedSynth
    else s) s

/-- The retry of a unit's handling is still under way (R357, R121, R194, R30). -/
def State.retrying (s : State) (b u : Nat) : Bool :=
  if b = 6 then !(s.synRec (if u = 0 then .c else if u = 1 then .d else .u)).locked
  else if b = 15 ∨ b = 16 then
    let d := dirOf (b - 15)
    if u = 16 then s.dirMuted d else (s.govRec d u).mute.isSome
  else if b = 23 ∧ u < 8 then (s.dirRec (laneDir (u % 4))).realign
  else false

/-- What holds at this instant goes into the record of the tick: slot mute gates that are open (R182), and transmit lanes that do not repeat
with their PA on (R221). -/
def State.noteWatch (s : State) : State :=
  let opened := dirs.foldl (fun m d => (s.enabled d).foldl (fun m n =>
    if s.slotOpen d n then NMap.put (fun _ => false) m (slotKey d n) true else m) m) s.watch.opened
  let repeats (l : Nat) : Bool := s.txRuns l && s.gateOpen (laneDir l) && s.front.laneStep l = 4
  { s with watch := { opened := opened, broke := s.watch.broke ||| BitVec.ofNat 4 (packBits 4 (fun l => !repeats l)) } }

/-- Handlings whose retry is over close (R357); the restore history stays. -/
def State.closeHandlings (s : State) : State :=
  { s with flt := { s.flt with units := NMap.mapVal (fun _ => {}) s.flt.units (fun k r =>
      if r.st = .transient ∧ s.retrying (k / 256) (k % 256) = false then { restores := r.restores } else r) } }

/-- Directions that have started are aligned in their time (R27, R63). -/
def State.alignAll (s : State) : State := (s.alignNow .dl).alignNow .ul

/-- The end of an instant. -/
def State.settle (s : State) : State :=
  if !s.isUp then s.closeHandlings
  else (((((((((((((s.noteRestrict.noteBog).notePcie).noteSyn).noteHk).notePeat).noteTwb).noteRetired).alignAll).paAdvance).noteTrsw).noteGate .dl).noteGate .ul).noteWatch).closeHandlings

/-- The state after a command run in state s0 whose meaning gives t: settled, with the queue as it was. -/
def State.after (s0 t : State) : State := { t.settle with pending := s0.pending }

/-- The outcome of a command's meaning. -/
def done (s0 t : State) : Host.Outcome State Fault Refusal := .next (s0.after t)

/-- The register domain answers: the device is up, or a wake has restored it (R65). -/
def State.regsUp (s : State) : Bool := s.isUp || s.power = .waking

/-- Where the register domain is up. -/
def State.ifUp (s : State) (f : State → State) : State := if s.regsUp then f s else s

end Sys2Proof.Machine
end

