-- ==== Sys2Proof/Machine/Bix.lean ====
section
/-! DEFINITION. The burst index (R302–R307, R310): reports, the queue, the table and the dump. -/

namespace Sys2Proof.Machine

/-- IDX_CFG admits a report (R302). -/
def State.bixAdmits (s : State) (e : BixEntry) : Bool :=
  let c := s.rd Reg.BIX_IDX_CFG
  (if e.kind = 1 then bitAt c 1 else bitAt c 2 && (e.flag != 1 || bitAt c 3)) && decide (s.fldS Reg.BIX_IDX_CFG 16 16 ≤ e.p)

/-- A report reaches BIX (R305, R306, R311). -/
def State.bixReport (s : State) (e : BixEntry) : State :=
  if s.isOut 20 0 then s.bump Reg.BIX_DROPPED 1
  else if !s.bixAdmits e || s.bix.stopped then s
  else if 64 ≤ s.bix.queue.length then (s.bump Reg.BIX_DROPPED 1).raise 20 2
  else { s with bix := { s.bix with queue := s.bix.queue ++ [e] } }

/-- Region n carries the lane or the slot's branch of an entry. -/
def State.carries (s : State) (n : Nat) (e : BixEntry) : Bool :=
  let src := s.rd (Reg.BOG_REG_SRC n)
  match bitsAt src 0 3 with
  | 1 => bitsAt src 3 2 = e.lane
  | 3 => bitsAt src 5 6 = e.slot && (decide (2 ≤ bitsAt src 13 2) || bitsAt src 13 2 = e.lane % 2)
  | _ => false

/-- Where region n holds the sample at the entry's T: address and the pass that wrote it (R304). -/
def State.heldAt (s : State) (n : Nat) (e : BixEntry) : Option (Nat × Nat) :=
  let r := s.bog.region n
  let size := s.dataBytes n
  let ahead := s.regBytes n ((e.t : Int) - r.upTo)
  if !r.active || !s.carries n e || size = 0 || (r.breaks ≠ 0 && decide (e.t < r.lastBreak)) then none
  else if (r.held : Int) + ahead < 0 then none
  else
    let pos := (r.wr : Int) + ahead
    some (s.dataStart n r.seg + (pos % size).toNat, if pos < 0 then r.pass - 1 else r.pass)

/-- CAPTURED of an entry: the lowest-numbered region that holds its sample (R304). -/
def State.bixCapture (s : State) (e : BixEntry) : BixEntry :=
  match regionNums.findSome? (fun n => (s.heldAt n e).map (fun x => (n, x))) with
  | some (n, a, p) => { e with captured := true, region := n, addr := a, pass := p % 256 }
  | none => e

/-- An entry is written (R305). -/
def State.bixStore (s : State) (e : BixEntry) : State :=
  let b := s.bix
  let b' := { b with table := NMap.put (fun _ => {}) b.table b.wr e, wr := (b.wr + 1) % 65536, count := min 65536 (b.count + 1) }
  let s := { s with bix := b' }
  if bitAt (s.rd Reg.BIX_IDX_CFG) 0 then
    if b'.count = 65536 then { s with bix := { b' with stopped := true } }.raise 20 0 else s
  else if b.wr = 65535 then
    let full := decide (s.st Reg.BIX_WRAP = 2 ^ 32 - 2)
    ((s.bump Reg.BIX_WRAP 1).raise 20 1).raiseIf full 20 5
  else s

/-- BIX_QUEUE_DRAIN (R304–R306): one entry leaves the queue, unless a dump pauses indexing or the table is full. -/
def bixQueueDrain (s : State) : State :=
  s.ifUp (fun s => match s.bix.queue with
    | [] => s
    | e :: t =>
      if s.bix.dumping.isSome then s
      else
        let s' := { s with bix := { s.bix with queue := t } }
        if s.bix.stopped then s' else s'.bixStore (s'.bixCapture e))

def execBixQueueDrain (s : State) : Host.Outcome State Fault Refusal := done s (bixQueueDrain s)

/-- CMD.CLEAR (R307, R310). -/
def State.bixClearNow (s : State) : State :=
  if s.bix.dumping.isSome then s.raise 20 6
  else { s with bix := { s.bix with table := [], wr := 0, count := 0, stopped := false } }

/-- BIX_CLEAR (R310). -/
def bixClear (s : State) : State := s.ifUp State.bixClearNow
def execBixClear (s : State) : Host.Outcome State Fault Refusal := done s (bixClear s)

/-- CMD.DUMP to region n (R307). -/
def State.bixDumpNow (s : State) (n : Nat) : State :=
  if s.bix.dumping.isSome || (s.bog.region n).st != 0 then (s.setStF Reg.BIX_DUMP_STAT 0 2 (if s.bix.dumping.isSome then 1 else 3)).raise 20 4
  else { s with bix := { s.bix with dumping := some n } }.setSt Reg.BIX_DUMP_STAT 1

/-- BIX_DUMP (R307). -/
def bixDump (r : Fin 8) (s : State) : State := s.ifUp (fun s => s.bixDumpNow r)
def execBixDump (r : Fin 8) (s : State) : Host.Outcome State Fault Refusal := done s (bixDump r s)

/-- The 32 bytes of an entry (R303). -/
def BixEntry.bytes (e : BixEntry) : List Byte :=
  if e.kind = 0 then List.replicate 32 0
  else
    leBytes 8 e.t
    ++ leBytes 1 (e.kind + 4 * e.flag + 16 * ofBool e.continues + 32 * ofBool e.captured + 64 * ofBool e.flagSeen)
    ++ leBytes 1 e.lane ++ leBytes 1 e.slot ++ leBytes 1 (if e.kind = 1 then 255 else e.ref)
    ++ leBytes 4 (if e.kind = 1 then e.len else 0) ++ leBytes 2 (bitsOf 16 e.p)
    ++ leBytes 2 (if e.kind = 1 then 0 else bitsOf 16 e.rho)
    ++ leBytes 1 e.region ++ leBytes 1 e.pass ++ leBytes 2 0 ++ leBytes 8 e.addr

def BixState.at (b : BixState) (i : Nat) : BixEntry := NMap.get (fun _ => {}) b.table (i % 65536)

/-- The valid entries, oldest first. -/
def BixState.valid (b : BixState) : List BixEntry := (List.range b.count).map (fun i => b.at (b.wr + 65536 - b.count + i))

/-- BIX_DUMP_COMPLETE (R307): the entries that fit stand from the region's BASE on, and the region is stopped. -/
def bixDumpComplete (s : State) : State :=
  s.ifUp (fun s => match s.bix.dumping with
    | none => s
    | some n =>
      let es := s.bix.valid.take (s.regSize n / 32)
      let b := s.bog.write (s.regBase n) (es.flatMap BixEntry.bytes)
      let b := b.setRegion n { b.region n with st := 3 }
      { s with bog := b, bix := { s.bix with dumping := none } }.setSt Reg.BIX_DUMP_STAT (2 + 4 * es.length))

def execBixDumpComplete (s : State) : Host.Outcome State Fault Refusal := done s (bixDumpComplete s)

end Sys2Proof.Machine
end

