-- ==== Sys2Proof/Machine/Bog.lean ====
section
/-! DEFINITION. Meanings of the Bog's commands: capture regions (R288–R295), pattern slots and playback (R296–R301), register writes
(R294, R308) and the scrub (R283, R284). -/

namespace Sys2Proof.Machine

/-! ### Region commands (R294) -/

/-- CMD_STATUS (R308): 0 DONE, 1 REFUSED_LAYOUT, 2 REFUSED_STATE. -/
def State.cmdStatus (s : State) (code n : Nat) : State := s.setSt Reg.BOG_CMD_STATUS (code + 16 * n)

/-- ARM: the outcome code and the state. An active region is REFUSED_STATE, every other failed condition REFUSED_LAYOUT (DESIGN CHOICE, log
entry 84). -/
def State.armRegion (s : State) (n : Nat) : State × Nat :=
  let r := s.bog.region n
  if r.active then ((s.cmdStatus 2 n).raise 19 19, 2)
  else if !s.armLayout n then ((s.cmdStatus 1 n).raise 19 19, 1)
  else
    let b := (List.range (s.regSegs n)).foldl (fun b g =>
      let h := s.regBase n + g * s.segBytes n
      b.zero h (h + 4096)) s.bog
    let b := b.setRegion n { st := 1, upTo := s.now, corr := r.corr, uncorr := r.uncorr }
    let s : State := { s with bog := b }
    let s : State := if s.trigKind n = 7 then { s with bog := fireRegion s s.bog n s.now } else s
    (s.cmdStatus 0 n, 0)

/-- A host trigger. -/
def State.triggerRegion (s : State) (n : Nat) : State :=
  ({ s with bog := fireRegion s s.bog n s.now }).cmdStatus 0 n

def State.stopRegion (s : State) (n : Nat) : State := (s.regHalt n).cmdStatus 0 n

/-- CLEAR leaves the data untouched. -/
def State.clearRegion (s : State) (n : Nat) : State :=
  let r := s.bog.region n
  { s with bog := s.bog.setRegion n { corr := r.corr, uncorr := r.uncorr } }.cmdStatus 0 n

/-- BOG_ARM (R294). -/
def bogArm (r : Fin 8) (s : State) : State := s.ifUp (fun s => (s.armRegion r).1)
def execBogArm (r : Fin 8) (s : State) : Host.Outcome State Fault Refusal := done s (bogArm r s)

/-- BOG_TRIGGER (R290, R294). -/
def bogTrigger (r : Fin 8) (s : State) : State := s.ifUp (fun s => s.triggerRegion r)
def execBogTrigger (r : Fin 8) (s : State) : Host.Outcome State Fault Refusal := done s (bogTrigger r s)

/-- BOG_STOP (R291, R294): no return is applied. -/
def bogStop (r : Fin 8) (s : State) : State := s.ifUp (fun s => s.stopRegion r)
def execBogStop (r : Fin 8) (s : State) : Host.Outcome State Fault Refusal := done s (bogStop r s)

/-- BOG_CLEAR (R294). -/
def bogClear (r : Fin 8) (s : State) : State := s.ifUp (fun s => s.clearRegion r)
def execBogClear (r : Fin 8) (s : State) : Host.Outcome State Fault Refusal := done s (bogClear r s)

/-- STOP_PLAYBACK (R299). -/
def stopPlayback (d : Dir) (s : State) : State := s.ifUp (fun s => (s.patReturnNow d).cmdStatus 0 d.num)
def execStopPlayback (d : Dir) (s : State) : Host.Outcome State Fault Refusal := done s (stopPlayback d s)

/-! ### The end of a segment or region (R291) -/

/-- A stream source writes its last k bytes: the happening that ends the segment says they have come. -/
def State.regFill (s : State) (n k : Nat) : State :=
  let r := s.bog.region n
  if 4 ≤ s.regKind n ∨ k = 0 then s
  else
    let one := (s.regBytes n (2 ^ 20)).toNat
    let t := r.upTo + (if one = 0 then 0 else k * 2 ^ 20 / one)
    let b := (stretches (s.dataStart n r.seg) (s.dataBytes n) r.wr k).foldl (fun b e => b.stream e.1 e.2 t) s.bog
    { s with bog := b.setRegion n { advance (s.dataBytes n) (s.regStop n = 1) r k with upTo := t } }

/-- Bytes that the stop rule still takes. -/
def State.regLeft (s : State) (n : Nat) : Nat :=
  let r := s.bog.region n
  if s.regStop n = 1 then s.dataBytes n - r.held else ((s.postBytes n : Int) - r.since).toNat

/-- SEGMENT_END (R291, R292): a segment of a segmented region has its POST; the next begins filling. -/
def segmentEnd (n : Fin 8) (s : State) : State :=
  s.ifUp (fun s =>
    let r := s.bog.region n
    if s.regStop n = 3 ∧ r.st = 2 ∧ r.seg + 1 < s.regSegs n then
      let s := s.regFill n (s.regLeft n)
      let s := s.regHeader n
      let r := s.bog.region n
      { s with bog := s.bog.setRegion n { st := 1, seg := r.seg + 1, upTo := r.upTo, lostSamples := r.lostSamples, paused := r.paused,
                                          corr := r.corr, uncorr := r.uncorr } }
    else s)

def execSegmentEnd (r : Fin 8) (s : State) : Host.Outcome State Fault Refusal := done s (segmentEnd r s)

/-- The stop rule can end the region now (R291). -/
def State.mayEnd (s : State) (n : Nat) : Bool :=
  let r := s.bog.region n
  match s.regStop n with
  | 0 => r.st = 2
  | 1 => r.active
  | 3 => r.st = 2 && r.seg + 1 = s.regSegs n
  | _ => false

/-- REGION_END (R291, R292, R407, R47). -/
def regionEnd (n : Fin 8) (s : State) : State :=
  s.ifUp (fun s =>
    if s.mayEnd n then
      let rule := s.rd (Reg.BOG_REG_RULE n)
      let s := s.regFill n (s.regLeft n)
      let s := (s.regHeader n)
      let r := s.bog.region n
      let s := { s with bog := s.bog.setRegion n { r with st := 3 } }.regionDone n
      s.captureReturn rule
    else s)

def execRegionEnd (r : Fin 8) (s : State) : Host.Outcome State Fault Refusal := done s (regionEnd r s)

/-! ### Codeword errors (R283, R284) -/

/-- A codeword is corrected. -/
def State.cwFixed (s : State) (cw : Nat) : State := (s.cwCount cw false).bump Reg.BOG_CORR_TOTAL 1

/-- A read finds a correctable codeword; the one that takes its channel's count above CORR_THRESH in a second of device time counts source
16 (R283; log entry 84). -/
def State.cwCorr (s : State) (cw : Nat) : State :=
  let c := bogChan (32 * cw)
  let sec := s.now / (1000 * msTime)
  let l := c :: (if s.bog.corrSec = sec then s.bog.corrIn else [])
  let s := { s.cwFixed cw with bog := { (s.cwFixed cw).bog with corrSec := sec, corrIn := l } }
  s.raiseIf (l.count c = s.rd Reg.BOG_CORR_THRESH + 1) 19 16

/-- A read finds an uncorrectable codeword: BOG source c. -/
def State.cwUe (s : State) (cw : Nat) : State := (s.cwLost cw).raise 19 (bogChan (32 * cw))

/-- Codewords of the store. -/
def codewords (l : List Nat) : List Nat := l.filter (fun c => decide (c < 2 ^ 29))

/-- PERIOD as it acts, in seconds (R308). -/
def State.scrubPeriod (s : State) : Nat := clampN 10 3600 (s.fld Reg.BOG_SCRUB_CFG 0 16)

/-- Times that a channel's corrected count of one second exceeded CORR_THRESH, given the second of each codeword of the pass (R283). -/
def State.corrOver (s : State) (l : List (Nat × Nat)) (c : Nat) : Nat :=
  let mine := (l.filter (fun e => bogChan (32 * e.2) = c)).map (·.1)
  (mine.eraseDups.filter (fun t => decide (s.rd Reg.BOG_CORR_THRESH < mine.count t))).length

/-- SCRUB_PASS (R283, R284): a pass that took longer than PERIOD counts source 21. -/
def scrubPass (f : ScrubIn) (s : State) : State :=
  if !s.isUp || !bitAt (s.rd Reg.BOG_SCRUB_CFG) 16 || !s.bog.ready then s
  else
    let corr := f.corr.filter (fun e => decide (e.2 < 2 ^ 29))
    let s := corr.foldl (fun s e => s.cwFixed e.2) s
    let s := (codewords f.ue).foldl (fun s c => s.cwUe c) s
    let over_ := (List.range 8).map (s.corrOver corr)
    let s := s.raiseEvs (List.replicate over_.sum { blk := 19, src := 16 })
    let s := s.raiseIf (s.scrubPeriod < f.seconds) 19 21
    (s.bumpF Reg.BOG_SCRUB_STAT 0 16 1).setStF Reg.BOG_SCRUB_STAT 16 16 (min f.seconds 65535)

def execScrubPass (f : ScrubIn) (s : State) : Host.Outcome State Fault Refusal := done s (scrubPass f s)

/-! ### Pattern slots (R296, R299) -/

/-- A write of PAT_LEN: LOADED follows whether the pattern fits. -/
def State.patLen (s : State) (p : Nat) (v : Word) : State :=
  if s.patPlays p then s.raise 19 20
  else
    let s := s.wrc (Reg.BOG_PAT_LEN p) v.toNat
    { s with bog := s.bog.setPat p { s.bog.pat p with loaded := s.patFits p, preload := false } }

/-- A write of PAT_BASE or PAT_SIZE clears LOADED. -/
def State.patPlace (s : State) (p : Nat) (size : Bool) (v : Word) : State :=
  if s.patPlays p then s.raise 19 20
  else
    let s := s.wrc (if size then Reg.BOG_PAT_SIZE p else Reg.BOG_PAT_BASE p) v.toNat
    { s with bog := s.bog.setPat p { s.bog.pat p with loaded := false } }

/-- PAT_LEN_WRITE (R296). -/
def patLenWrite (p : Fin 16) (v : Word) (s : State) : State := s.ifUp (fun s => s.patLen p v)
def execPatLenWrite (p : Fin 16) (v : Word) (s : State) : Host.Outcome State Fault Refusal := done s (patLenWrite p v s)

/-- PAT_PLACEMENT_WRITE (R296). -/
def patPlacementWrite (p : Fin 16) (size : Bool) (v : Word) (s : State) : State := s.ifUp (fun s => s.patPlace p size v)
def execPatPlacementWrite (p : Fin 16) (size : Bool) (v : Word) (s : State) : Host.Outcome State Fault Refusal :=
  done s (patPlacementWrite p size v s)

/-- PATTERN_END (R299): the last word of the last pass has entered its point. -/
def patternEnd (d : Dir) (s : State) : State :=
  s.ifUp (fun s => match s.playing d with
    | some x => if s.patLoops x = 0 then s
                else (if s.latestPat = d then s.setStF Reg.BOG_PB_STAT 16 16 (s.patLoops x) else s).patReturnNow d
    | none => s)

def execPatternEnd (d : Dir) (s : State) : Host.Outcome State Fault Refusal := done s (patternEnd d s)

/-! ### Register writes (R294, R308) -/

/-- Registers of a region that stand while it is armed or triggered: BASE, SIZE, SRC, GOVS, TRIG and RULE. -/
def regionLocked (o : Nat) : Bool := o = 0x00 || o = 0x04 || o = 0x08 || o = 0x0C || o = 0x10 || o = 0x18

/-- A command through BOG.CMD (R308). -/
def State.bogCmd (s : State) (v : Nat) : State :=
  let n := bitsAt v 4 3
  match bitsAt v 0 4 with
  | 1 => (s.armRegion n).1
  | 2 => s.triggerRegion n
  | 3 => s.stopRegion n
  | 4 => s.clearRegion n
  | 5 => (s.patReturnNow (dirOf n)).cmdStatus 0 n
  | _ => s

/-- A write to a BOG register by its window offset. -/
def State.bogWrite (s : State) (o : Nat) (v : Word) : State :=
  let a := 0x9800 + o
  if o % 4 ≠ 0 then s
  else if o = 0x5C then s.bogCmd v.toNat
  else if o = 0x44 ∨ o = 0x58 then s.wrc a v.toNat
  else if 0x100 ≤ o ∧ o < 0x300 then
    let n := (o - 0x100) / 0x40
    let k := (o - 0x100) % 0x40
    if (s.bog.region n).active && regionLocked k then s.raise 19 19
    else if k ≤ 0x20 then s.wrc a v.toNat else s
  else if 0x300 ≤ o ∧ o < 0x500 then
    let p := (o - 0x300) / 0x20
    match (o - 0x300) % 0x20 with
    | 0x00 => s.patPlace p false v
    | 0x04 => s.patPlace p true v
    | 0x08 => s.patLen p v
    | 0x0C | 0x10 => s.wrc a v.toNat
    | _ => s
  else s

/-- BOG_REGISTER_WRITE (R294, R308). -/
def bogRegisterWrite (off : Fin 2048) (v : Word) (s : State) : State := s.ifUp (fun s => s.bogWrite off v)
def execBogRegisterWrite (off : Fin 2048) (v : Word) (s : State) : Host.Outcome State Fault Refusal :=
  done s (bogRegisterWrite off v s)

end Sys2Proof.Machine
end

