-- ==== Sys2Proof/Machine/Signal.lean ====
section
/-! DEFINITION. The arithmetic of the sample paths, stage by stage (R112–R116, R129–R150, R155–R159, R162, R166, R167, R220, R253, R263,
R286, R297, R313); Chain.lean puts the stages in order. No row of the command table stands for a sample: what the samples between two
commands give reaches the block as a command's operands, and these functions say how such operands come from samples (log entry 15).
Nothing here touches the state. -/

namespace Sys2Proof.Machine.Signal

/-! ### Formats (R129, R130) -/

/-- Saturation to w bits, two's complement. -/
def satW (w : Nat) (x : Int) : Int := clampI (-(2 ^ (w - 1) : Nat)) ((2 ^ (w - 1) : Nat) - 1) x

/-- A reduction of width: `drop` fraction bits rounded half to even, saturated to w bits. -/
def reduce (drop w : Nat) (x : Int) : Int := satW w (rneDiv x (2 ^ drop))

/-- A complex value, real and imaginary part. -/
abbrev Cplx := Int × Int

def cadd (a b : Cplx) : Cplx := (a.1 + b.1, a.2 + b.2)
def cmul (a b : Cplx) : Cplx := (a.1 * b.1 - a.2 * b.2, a.1 * b.2 + a.2 * b.1)
def conj (a : Cplx) : Cplx := (a.1, -a.2)
def magSq (a : Cplx) : Nat := (a.1 * a.1 + a.2 * a.2).toNat
def csum (l : List Cplx) : Cplx := l.foldl cadd (0, 0)
def creduce (drop w : Nat) (a : Cplx) : Cplx := (reduce drop w a.1, reduce drop w a.2)

/-! ### Converters (R112–R116) -/

/-- A 16-bit word of a receive FIFO: code, OVR, and the parity that makes the number of ones even (R113); of a transmit FIFO: code,
clip flag, parity (R115). -/
def fifoWord (code : Int) (flag : Bool) : Nat :=
  let low := bitsOf 14 code + 2 ^ 14 * ofBool flag
  low + 2 ^ 15 * (popcount 15 low % 2)

/-- A word whose parity is right. -/
def parityOk (w : Nat) : Bool := popcount 16 w % 2 == 0

/-- What the receive side takes from a FIFO word (R113): code and OVR; on a mismatch code 0 with OVR. -/
def rxSample (w : Nat) : Int × Bool := if parityOk w then (signedOf 14 w, bitAt w 14) else (0, true)

/-- What a transmit converter takes from a FIFO word (R115): 0 on a mismatch. -/
def txSample (w : Nat) : Int := if parityOk w then signedOf 14 w else 0

/-- What a transmit converter puts out (R116), given the codes that it read, newest first: the inverse-sinc correction of them, never above
full scale; code 0 while it is idle. -/
def txOut (idle : Bool) (codes : List Int) : Int :=
  if idle then 0
  else satW 14 (rneDiv ((List.range Config.sincTaps).foldl (fun a i => a + Config.sincTap i * codes.getD i 0) 0) (2 ^ 17))

/-! ### Boundary FIFOs (R27–R29) -/

/-- A boundary FIFO: its words, oldest first. -/
abbrev Fifo := List Nat

/-- The converter delivers a word: one that finds 64 of them is discarded, which is a slip. -/
def Fifo.push (q : Fifo) (w : Nat) : Fifo × Bool := if q.length < 64 then (q ++ [w], false) else (q, true)

/-- The converter reads: an empty FIFO gives the word of code 0, which is an underflow. -/
def Fifo.pop : Fifo → Fifo × Nat × Bool
  | [] => ([], 0, true)
  | w :: t => (t, w, false)

/-- The headroom of FIFO f, receive FIFOs 0–3 and transmit FIFOs 4–7, at an occupancy (R28). -/
def headroom (f occ : Nat) : Nat := if f < 4 then 64 - occ else min 64 occ

/-- A realignment of R29 refills both sides to the alignment of R27: the receive side holds what its 24 clocks of latency and the fixed
number of clocks leave, the transmit side idle words. -/
def Fifo.realigned (occ : Nat) : Fifo := List.replicate (min 64 occ) 0

/-- The conversion clocks from the first receive sample in the FIFO to the first read of the transmit converters (R27), for a latency LAT:
what the converters' own 24 and 18 clocks leave of it (R112, R116). -/
def readStart (lat : Nat) : Nat := lat - 24 - 18

/-- An over-range episode in progress (R114): samples still recovering, and samples in a row with OVR clear. -/
structure Episode where
  open_ : Bool := false
  recover : Nat := 0
  clear : Nat := 0
  deriving DecidableEq, Repr

/-- One sample of a receive converter: the episode after it, its OVR, and whether an episode begins with it. -/
def Episode.sample (e : Episode) (clipped : Bool) : Episode × Bool × Bool :=
  if clipped then (⟨true, 3, 0⟩, true, !e.open_)
  else if e.recover ≠ 0 then ({ e with recover := e.recover - 1, clear := 0 }, true, false)
  else ({ e with open_ := e.open_ && decide (e.clear + 1 < 64), clear := e.clear + 1 }, false, false)

/-- A lane sample carries the over-range flag: one of the 63 real samples in its QHB window has OVR (R150). -/
def laneFlag (window : List Bool) : Bool := (window.take 63).any id

/-- A slot sample carries it: one of the lane samples in the 2 × GD conversion clocks before it does (R150); a lane sample is two clocks. -/
def slotFlag (gd : Nat) (lane : List Bool) : Bool := (lane.take gd).any id

/-! ### Slot placement (R132, R133) -/

/-- φ(n) = W × n mod 2^32. -/
def ncoPhase (w n : Nat) : Nat := signedOf 32 w * n % 2 ^ 32 |>.toNat

/-- The table's address: φ truncated to 20 bits. -/
def ncoIndex (w n : Nat) : Nat := ncoPhase w n / 2 ^ 12

/-- One in the unit of 2^-64. -/
def unit64 : Int := 2 ^ 64

/-- n terms of the power series of the cosine (m = 1) or of the sine over its argument (m = 2), for an argument whose square is y2; in
units of 2^-64. -/
def trigSeries (y2 : Int) : Nat → Nat → Int
  | 0, _ => unit64
  | n + 1, m => unit64 - y2 * trigSeries y2 n (m + 2) / (m * (m + 1) * unit64)

/-- Cosine and sine of i parts of a quarter turn of 2^18 parts, in units of 2^-64. -/
def quarter (i : Nat) : Int × Int :=
  let y : Int := 28976077832308491370 * i / 2 ^ 18   -- (π/2)·2^64·i/2^18
  let y2 := y * y / unit64
  if i = 0 then (unit64, 0) else (trigSeries y2 14 1, y * trigSeries y2 14 2 / unit64)

/-- Cosine and sine of a phase of 20 bits, in units of 2^-64. -/
def turn (i : Nat) : Int × Int :=
  let (c, s) := quarter (i % 2 ^ 18)
  match i / 2 ^ 18 % 4 with
  | 0 => (c, s)
  | 1 => (-s, c)
  | 2 => (-c, -s)
  | _ => (s, -c)

/-- A value of the table in 18 bits, Q1.17: exact where it can be, else the value below it or the one above (`Config.ncoUp`). -/
def tablePart (x : Int) (up : Bool) : Int := satW 18 (x / 2 ^ 47 + ofBool (up && x % 2 ^ 47 != 0))

/-- The NCO's table: cosine and sine of a phase of 20 bits (R132). -/
def ncoTable (i : Nat) : Cplx := (tablePart (turn i).1 (Config.ncoUp (2 * i)), tablePart (turn i).2 (Config.ncoUp (2 * i + 1)))

/-- Receive NCO: lane sample n in Q1.15 times exp(−jφ), in Q1.15. -/
def ncoDown (w n : Nat) (x : Cplx) : Cplx := creduce 17 16 (cmul x (conj (ncoTable (ncoIndex w n))))

/-- Transmit NCO: output sample n in Q1.17 times exp(+jφ), in Q1.17. -/
def ncoUp (w n : Nat) (x : Cplx) : Cplx := creduce 17 18 (cmul x (ncoTable (ncoIndex w n)))

/-- A sample of Q1.15 in Q1.19: four zero bits appended (R129). -/
def widen (x : Cplx) : Cplx := (16 * x.1, 16 * x.2)

/-! ### Quadrature conversion (R21, R131, R135) -/

/-- Real sample m turned by m times −90° (receive), and a complex value turned by m times +90° (transmit). -/
def turnDown (m : Nat) (x : Int) : Cplx :=
  match m % 4 with
  | 0 => (x, 0)
  | 1 => (0, -x)
  | 2 => (-x, 0)
  | _ => (0, x)

def turnUp (m : Nat) (x : Cplx) : Cplx :=
  match m % 4 with
  | 0 => x
  | 1 => (-x.2, x.1)
  | 2 => (-x.1, -x.2)
  | _ => (x.2, -x.1)

/-! ### The decimation and interpolation chain (R134–R137) -/

/-- Filters of the chain: 0 QHB, 1 HBa, 2 HBb, 3 HBc, 4 HBd; their taps, and what one input sample is at response k, in conversion clocks. -/
def chainTaps (f : Nat) : Nat := [63, 11, 15, 23, 43].getD f 1
def chainClocks (f k : Nat) : Nat := if f = 0 then 1 else 2 ^ (k + 1) / [1, 16, 8, 4, 2].getD f 1

/-- The half-bands of response k, in order: the last min (k, 4) of HBa–HBd. -/
def halfBands (k : Nat) : List Nat := ([1, 2, 3, 4] : List Nat).drop (4 - min k 4)

/-- CIC exponent c of response k; 0 where the CIC is absent. -/
def cicExp (k : Nat) : Nat := k - 4

/-- Slot samples of a tick (R134). -/
def tickSamples (k : Nat) : Nat := 98304 / 2 ^ k

/-- Chain delay P put together from its parts: the QHB, the CIC (5(2^c − 1)/2 lane samples) and the half-bands. -/
def chainDelayOf (k : Nat) : Nat :=
  31 + 5 * (2 ^ cicExp k - 1) + ((halfBands k).map (fun f => (chainTaps f - 1) / 2 * chainClocks f k)).foldl (· + ·) 0

/-- A linear-phase FIR of n taps on its latest inputs, newest first: tap i equals tap n − 1 − i, of `width` bits, and the sum is held in
an accumulator of `acc` bits. -/
def fir (half : Nat → Int) (width acc n : Nat) (xs : List Cplx) : Cplx :=
  let tap (i : Nat) : Int := satW width (half (min i (n - 1 - i)))
  let s := csum ((List.range n).map (fun i => let x := xs.getD i (0, 0); (tap i * x.1, tap i * x.2)))
  (satW acc s.1, satW acc s.2)

/-- The exact sum of a fixed filter of the chain: 18-bit coefficients, 40-bit accumulator (R135). -/
def chainSum (f : Nat) (xs : List Cplx) : Cplx := fir (Config.chainTap f) 18 40 (chainTaps f) xs

/-- A fixed filter of the chain, its output in w bits with the input's fraction. -/
def chainFir (f w : Nat) (xs : List Cplx) : Cplx := creduce 17 w (chainSum f xs)

/-- Taps of a Frond response (R140). -/
def frondTaps (r : Nat) : Nat := (tapTable (r / 8)).getD (r % 8) 1

/-- Coefficient i of a Frond response: 20 bits, symmetric (R140). -/
def frondCoef (r i : Nat) : Int := satW 20 (Config.frondTap r (min i (frondTaps r - 1 - i)))

/-- The Frond filter: Q1.19 in, a 48-bit accumulator, Q1.23 out. -/
def frond (r : Nat) (xs : List Cplx) : Cplx := creduce 15 24 (fir (Config.frondTap r) 20 48 (frondTaps r) xs)

/-- A CIC register. -/
abbrev CicReg := BitVec 42

/-- The five integrators take a lane sample; each addition wraps modulo 2^42. -/
def cicIntegrate : List CicReg → CicReg → List CicReg
  | [], _ => []
  | r :: rs, x => (r + x) :: cicIntegrate rs (r + x)

/-- The five combs take the last integrator: the registers after it, and the final comb value. -/
def cicComb : List CicReg → CicReg → List CicReg × CicReg
  | [], x => ([], x)
  | r :: rs, x => let (rs', y) := cicComb rs (x - r); (x :: rs', y)

/-- Decimator output: the final comb value over 2^(5c − 4), in Q1.19. -/
def cicOut (c : Nat) (y : CicReg) : Int := reduce (5 * c - 4) 20 y.toInt

/-- Integrators and combs of one decimator. -/
structure Cic where
  integ : List CicReg := [0, 0, 0, 0, 0]
  comb : List CicReg := [0, 0, 0, 0, 0]
  deriving DecidableEq, Repr

/-- 2^c lane samples (one part of each) give one output. -/
def Cic.decimate (s : Cic) (c : Nat) (xs : List Int) : Cic × Int :=
  let integ := xs.foldl (fun r x => cicIntegrate r (BitVec.ofInt 42 x)) s.integ
  let (comb, y) := cicComb s.comb (integ.getLastD 0)
  (⟨integ, comb⟩, cicOut c y)

/-- The interpolator: the combs take a slot sample, and 2^c outputs follow, each over 2^(4c), in Q1.17. -/
def Cic.interpolate (s : Cic) (c : Nat) (x : Int) : Cic × List Int :=
  let (comb, y) := cicComb s.comb (BitVec.ofInt 42 x)
  let run := (List.range (2 ^ c)).foldl (fun (st : List CicReg × List Int) i =>
    let r := cicIntegrate st.1 (if i = 0 then y else 0)
    (r, st.2 ++ [reduce (4 * c) 18 (r.getLastD 0).toInt])) (s.integ, [])
  (⟨run.1, comb⟩, run.2)

/-- Lane summation (R137): the streams of the open gates in the Q6.17 accumulator. -/
def laneSum (open_ : List Cplx) : Cplx := let s := csum open_; (satW 23 s.1, satW 23 s.2)

/-- The 14-bit code of a value that `drop` bits stand below a code, and its clip flag (R115, R130). -/
def toCode (drop : Nat) (x : Int) : Int × Bool :=
  let c := rneDiv x (2 ^ drop)
  (satW 14 c, decide (satW 14 c ≠ c))

/-- The 14-bit code of a lane's real part in Q6.17: twice the real part, full scale 8,192 codes (R112, R115, R137). -/
def txCode (re : Int) : Int × Bool := toCode 3 re

/-! ### Gain, gate and meters (R145–R149) -/

/-- y = x × m × 2^e, x in Q1.23 and m in Q1.17, to Q1.17. -/
def gainMul (x : Int) (m : Nat) (e : Int) : Int :=
  let f := 23 - e
  if 0 < f then reduce f.toNat 18 (x * m) else satW 18 (x * m * (2 ^ (-f).toNat : Nat))

/-- (m, e) represents a gain of q in Q16.16 dB within 0.0005 dB (32 units of 2^-16 dB), in the ranges of R145. -/
def gainPair (m : Nat) (e : Int) (q : Int) : Bool :=
  decide (2 ^ 17 ≤ m ∧ m < 2 ^ 18 ∧ -20 ≤ e ∧ e ≤ 27) &&
    decide ((dbOfRatio (m * m * 4 ^ e.toNat) (2 ^ 34 * 4 ^ (-e).toNat) - q).natAbs ≤ 32)

/-- The pair (m, e) of a gain in 2^-24 of 0.01 dB: the amplitude 10^(d/20), its exponent and its mantissa rounded to 18 bits. Which of the
pairs that `gainPair` admits the device forms is open (R145; log entry 15). -/
def gainForm (d : Int) : Nat × Int :=
  let a := isqrt (linOfDb (rneDiv (d * 65536) (100 * 2 ^ 24)) * 2 ^ 64)   -- units of 2^-96
  let e : Int := (a.log2 : Int) - 96
  let m := (rneDiv a (2 ^ (a.log2 - 17))).toNat
  if m < 2 ^ 18 then (m, e) else (2 ^ 17, e + 1)

/-- Mean of |x|² over samples with f fraction bits (R149), as a linear power in units of 2^-128 with a tone of magnitude 0.5 at
0 dBFS (R131). -/
def meanPower (f : Nat) (xs : List Cplx) : Nat :=
  if xs.isEmpty then 0 else (xs.map magSq).foldl (· + ·) 0 * 4 * 2 ^ (128 - 2 * f) / xs.length

/-- A mean as a meter shows it, in 0.01 dBFS; the floor is −200.00 dBFS. -/
def meterDb (p : Nat) : Int := max (-20000) (centiOfQ (dbOfLin p))

/-- Block j of the eight blocks of 12.5 µs that a tick's samples make (R149). -/
def meterBlock (xs : List Cplx) (j : Nat) : List Cplx := (xs.drop (j * (xs.length / 8))).take (xs.length / 8)

/-- What a tick's meters of one branch give: the block means at the gain-multiplier input and at the slot-gate output. -/
def meterTick (input output : List Cplx) : BranchIn :=
  { inBlocks := (List.range 8).map (fun j => meanPower 23 (meterBlock input j))
    outBlocks := (List.range 8).map (fun j => meanPower 17 (meterBlock output j)) }

/-- The mean over a tick of its eight block means. -/
def tickMean (blocks : List Nat) : Nat := blocks.foldl (· + ·) 0 / 8

/-- p_dig of a transmit lane in Q16.16 dB (R220): the mean square of n output codes, whose squares sum to q, over that of a 0 dBFS sine; a
lane without a sample or without output is silent. -/
def pDig (q n : Nat) : Int := if q = 0 ∨ n = 0 then dbOfLin 0 else dbOfRatio (2 * q) (n * 8192 ^ 2)

/-! ### The probe (R155–R158) -/

/-- Taps of the recurrence of a direction below x^23: x^18 + 1 downlink, x^5 + 1 uplink. -/
def probePoly : Dir → Nat
  | .dl => 2 ^ 18 + 1
  | .ul => 2 ^ 5 + 1

/-- A polynomial over GF(2) times x, modulo the generator of a direction. -/
def polyX (d : Dir) (v : Nat) : Nat := if v < 2 ^ 22 then 2 * v else (2 * v - 2 ^ 23) ^^^ probePoly d

/-- The product of two polynomials modulo the generator, the second by its k low bits from the top. -/
def polyMul (d : Dir) (a b : Nat) : Nat → Nat → Nat
  | 0, acc => acc
  | k + 1, acc => polyMul d a b k (if bitAt b k then polyX d acc ^^^ a else polyX d acc)

/-- x^j modulo the generator, by the k low bits of j from the top: the jump-ahead of R155. -/
def polyPow (d : Dir) (j : Nat) : Nat → Nat → Nat
  | 0, acc => acc
  | k + 1, acc =>
    let sq := polyMul d acc acc 23 0
    polyPow d j k (if bitAt j k then polyX d sq else sq)

/-- a[j]: a[0] to a[22] are all 1, so it is the parity of x^j modulo the generator. -/
def mseq (d : Dir) (j : Nat) : Nat := popcount 23 (polyPow d (j % 8388607) 23 1) % 2

/-- φ(s, t, h): the starting phase of stream (slot, branch, sub-stream) (R156). -/
def probePhase (rot s t h : Nat) : Nat := (rot + (2 * s + t) * 262143 + h * 8191) % 8388607

/-- The phase of a slot's stream in the block: PROBE_ROT of ECHO, the bypass slot standing as slot 0 (R156, R174). -/
def slotPhase (s : State) (n t h : Nat) : Nat := probePhase (s.fld Reg.ECHO_PROBE_ROT 0 23) (if n = 16 then 0 else n) t h

/-- The chip of slot `n`'s branch t at the slot sample with lane index x (R157); the bypass slot counts as k = 0. -/
def chip (s : State) (d : Dir) (n t x : Nat) : Int :=
  let k := s.slotK d n
  let m := x / max 32 (2 ^ k)
  let h := if k < 5 then x % 32 / 2 ^ k else 0
  1 - 2 * (mseq d (slotPhase s n t h + m) : Int)

/-- a_t in Q0.24 for a probe power P_p in units of 2^-128 and E_f in units of 2^-32 (R159): half the root of their ratio. -/
def probeAmp (p ef : Nat) : Nat := if ef = 0 then 0 else min (2 ^ 24 - 1) ((isqrt (p * 2 ^ 80 / (ef * 2 ^ 128)) + 1) / 2)

/-- The probe's sample in Q1.17 (R158): amplitude times the shaped chips q. -/
def probeSample (a : Nat) (q : Int) : Int := rneDiv (a * q) (2 ^ 26)

/-- q[n] with 19 fraction bits: the slot's own response over its chips, newest first, exact in 48 bits; the latest chip itself in the bypass
slot. -/
def probeShape (bypass : Bool) (r : Nat) (chips : List Int) : Int :=
  if bypass then chips.getD 0 0 * 2 ^ 19
  else satW 48 (((List.range (frondTaps r)).map (fun i => frondCoef r i * chips.getD i 0)).foldl (· + ·) 0)

/-- E_f of a slot in units of 2^-32 (R158): 0.610 for the bypass slot, 0.651 for response 104, else as the Frond file gives it. -/
def energyF (bypass : Bool) (r : Nat) : Nat :=
  if bypass then 610 * 2 ^ 32 / 1000 else if r = 104 then 651 * 2 ^ 32 / 1000 else Config.frondEnergy r

/-- The probe is added to the real part of the multiplier's output, before the gate. -/
def probeAdd (y : Cplx) (p : Int) : Cplx := (satW 18 (y.1 + p), y.2)

/-! ### Correlation and cancellers (R162, R166, R167) -/

/-- What the correlator of a path (t, r) sees, by the slot sample's number: e_r with its over-range, unlocked and realignment flags, the
chip that branch t sent, the amplitude it was sent with, and whether it was on air. -/
structure CorrIn where
  e : Nat → Cplx
  flagged : Nat → Bool
  chip : Nat → Int
  amp : Nat → Nat
  onAir : Nat → Bool

/-- The slot sample whose chip meets sample n at lag d (R162). -/
def corrLag (d0 g d n : Nat) : Nat := n - (d0 + d + g)

/-- Sample n is included: it carries no flag, and every chip that it is correlated with was on air. -/
def CorrIn.takes (c : CorrIn) (d0 g taps n : Nat) : Bool :=
  !c.flagged n && decide (d0 + g + taps ≤ n + 1) && (List.range taps).all (fun d => c.onAir (corrLag d0 g d n))

/-- The included samples of a block: their number is K. -/
def CorrIn.included (c : CorrIn) (d0 g taps : Nat) (block : List Nat) : List Nat := block.filter (fun n => c.takes d0 g taps n)

/-- The exact sums of one lag, in Q1.23, by the tick of ns samples in which the chips were sent, each with that tick's amplitude: the
56-bit accumulators of R162. -/
def CorrIn.ticks (c : CorrIn) (d0 g taps ns d : Nat) (block : List Nat) : List (Cplx × Nat) :=
  let ns' := c.included d0 g taps block
  let ticks := (ns'.map (fun n => corrLag d0 g d n / ns)).eraseDups
  ticks.map (fun k =>
    let mine := ns'.filter (fun n => corrLag d0 g d n / ns = k)
    let s := csum (mine.map (fun n => let x := c.e n; let h := c.chip (corrLag d0 g d n); (x.1 * h, x.2 * h)))
    ((satW 56 s.1, satW 56 s.2), c.amp (k * ns)))

/-- The block sum of one part: each tick's sum over the amplitude its chips were sent with, added in binary64. -/
def corrBlock (ticks : List (Int × Nat)) : F64 :=
  ticks.foldl (fun acc x => F64.add acc (F64.div (F64.norm x.1 (-23)) (F64.norm (x.2 : Int) (-24)))) F64.zero

/-- Ĥ of one part: the block sum over the number of included samples. -/
def corrResidual (s : F64) (k : Nat) : F64 := F64.div s (F64.norm (k : Int) 0)

/-- Ĥ_tr[d] over a block (R162), real and imaginary part; none where no sample is included. -/
def CorrIn.residual (c : CorrIn) (d0 g taps ns d : Nat) (block : List Nat) : Option (F64 × F64) :=
  let k := (c.included d0 g taps block).length
  let l := c.ticks d0 g taps ns d block
  if k = 0 then none
  else some (corrResidual (corrBlock (l.map (fun x => (x.1.1, x.2)))) k, corrResidual (corrBlock (l.map (fun x => (x.1.2, x.2)))) k)

/-- σ²_tr in units of 2^-128 (R162): P_e × E_f / (P_p × K), the powers in one unit, E_f in units of 2^-32. -/
def sigmaSq (pe pp ef k : Nat) : Nat := if pp * k = 0 then 0 else pe * ef * 2 ^ 96 / (pp * k)

/-- Tap shape of a canceller: mantissas in Q1.15 and the path's exponent. -/
structure CancelTaps where
  m : List Cplx := []
  e : Nat := 0
  deriving DecidableEq, Repr

/-- Exact echo sum of one path: Σ m[d] × x[n − D0 − d], the reference newest first from D0. -/
def cancelSum (t : CancelTaps) (xs : List Cplx) : Cplx := csum ((t.m.zip xs).map (fun p => cmul p.1 p.2))

/-- The echo sum of one path in units of 2^-80: 56-bit accumulation, then the path's exponent (0–48) exactly. -/
def pathEcho (t : CancelTaps) (xs : List Cplx) : Cplx :=
  let s := cancelSum t xs
  (satW 56 s.1 * (2 ^ (48 - t.e) : Nat), satW 56 s.2 * (2 ^ (48 - t.e) : Nat))

/-- ŷ_r at sample i of a cross-fade over ns samples (R167): over every transmit branch's reference, (1 − λ) of the old taps' sum and λ of
the new, rounded once to Q1.23. -/
def echoEstimate (paths : List (CancelTaps × CancelTaps × List Cplx)) (i ns : Nat) : Cplx :=
  let old := csum (paths.map (fun p => pathEcho p.1 p.2.2))
  let new := csum (paths.map (fun p => pathEcho p.2.1 p.2.2))
  let part (a b : Int) : Int := rneDiv (((ns - (i + 1) : Nat) : Int) * a + ((i + 1 : Nat) : Int) * b) (ns * 2 ^ 57)
  (part old.1 new.1, part old.2 new.2)

/-- The canceller's output: y less the estimate, saturated to Q1.23. -/
def cancel (y est : Cplx) : Cplx := (satW 24 (y.1 - est.1), satW 24 (y.2 - est.2))

/-! ### Detectors (R253, R263) -/

/-- c[n] and ex[n] of a search channel: the reference against the samples from n. -/
def syncCorr (xs ref : List Cplx) : Cplx := csum ((xs.zip ref).map (fun p => cmul p.1 (conj p.2)))
def energyOf (xs : List Cplx) : Nat := (xs.map magSq).foldl (· + ·) 0

/-- rho[n] ≥ DET_THR (Q0.16), without a division. -/
def syncAbove (thr : Nat) (xs ref : List Cplx) : Bool :=
  decide (thr * (energyOf ref * energyOf (xs.take ref.length)) ≤ magSq (syncCorr xs ref) * 65536)

/-- rho[n] in units of 2^-16, rounded down; 0 where nothing was received. -/
def syncRho (xs ref : List Cplx) : Nat :=
  let d := energyOf ref * energyOf (xs.take ref.length)
  if d = 0 then 0 else magSq (syncCorr xs ref) * 65536 / d

/-- P of a hit (R253, R131): 10·log10(|c|² / (er × L) / 0.25) in 0.01 dBFS, the samples with 23 fraction bits. -/
def syncPower (xs ref : List Cplx) : Int :=
  centiOfQ (dbOfRatio (4 * magSq (syncCorr xs ref)) (energyOf ref * ref.length * 2 ^ 46))

/-- RHO of a hit in 0.01 dB: 10·log10(rho). -/
def syncRhoDb (xs ref : List Cplx) : Int :=
  centiOfQ (dbOfRatio (magSq (syncCorr xs ref)) (energyOf ref * energyOf (xs.take ref.length)))

/-- rho at n is the largest within ±win samples (R253). -/
def syncPeak (rho : Nat → Nat) (win n : Nat) : Bool := (List.range (2 * win + 1)).all (fun i => decide (rho (n + i - win) ≤ rho n))

/-- A burst as the detector follows it: first block, latest block above the threshold, blocks above, blocks below in a row, peak. -/
structure Burst where
  first : Nat
  last : Nat
  above : Nat := 1
  low : Nat := 0
  peak : Int
  deriving DecidableEq, Repr

/-- How a block leaves a burst: still running, ended (reported), or ended with too few blocks (source 9). -/
inductive BurstStep where
  | idle
  | running (b : Burst)
  | ended (b : Burst)
  | tooShort
  deriving DecidableEq, Repr

/-- Block i with mean p (0.01 dBFS) against the threshold thr: a burst starts at or above it, and ends after `hang` blocks in a row
more than 3 dB below it. -/
def burstBlock (thr : Int) (hang minBlocks i : Nat) (p : Int) : Option Burst → BurstStep
  | none => if thr ≤ p then .running { first := i, last := i, peak := p } else .idle
  | some b =>
    let low := if p < thr - 300 then b.low + 1 else 0
    let b := { b with low := low, peak := max b.peak p }
    let b := if thr ≤ p then { b with last := i, above := b.above + 1 } else b
    if low < max 1 hang then .running b else if b.above < minBlocks then .tooShort else .ended b

/-- Length in slot samples, up to the last block above the threshold. -/
def Burst.length (b : Burst) (blk : Nat) : Nat := (b.last - b.first + 1) * max 1 blk

/-! ### Captured and played words (R286, R297, R298) -/

/-- The 32-bit word of a slot sample with f fraction bits, at SCALE: I and Q in Q1.15, bit 16 the flag. -/
def captureWord (f scale : Nat) (x : Cplx) (flag : Bool) : Nat :=
  let q15 (v : Int) := bitsOf 16 (satW 16 (rneDiv (v * (2 ^ scale : Nat)) (2 ^ (f - 15))))
  q15 x.1 + 65536 * (q15 x.2 / 2 * 2 + ofBool flag)

/-- The two 16-bit samples of a lane word: code, flag, unlocked flag each. -/
def captureLane (code : Int) (flag unlocked : Bool) : Nat := bitsOf 14 code + 2 ^ 14 * ofBool flag + 2 ^ 15 * ofBool unlocked

/-- PAT_LEVEL in 0.01 dB as an amplitude in units of 2^-34. -/
def playLevel (q : Int) : Nat :=
  let (m, e) := gainForm (q * 2 ^ 24)
  m * 2 ^ (17 + e).toNat

/-- A pattern's part, a signed 16-bit number, times its level: the value's 15 fraction bits become f, in w bits (R130, R297). -/
def playPart (f w level : Nat) (v : Int) : Int := satW w (rneDiv (v * level * (2 ^ f : Nat)) (2 ^ 49))

/-- WAY at the point: added to traffic, or in its place (R298). -/
def playAt (w : Nat) (asReplace : Bool) (traffic pattern : Cplx) : Cplx :=
  if asReplace then pattern else (satW w (traffic.1 + pattern.1), satW w (traffic.2 + pattern.2))

/-! ### Housekeeping and wake receivers (R313, R268) -/

/-- Code of an HK conversion: floor (4,096 × V / Vref), limited to 0–4,095; both in µV. -/
def hkCode (v : Int) (vref : Nat) : Nat := if vref = 0 then 4095 else (clampI 0 4095 (4096 * v / (vref : Int))).toNat

/-- THR as a receiver of the mode takes it, in dBm. -/
def wakeThr (mode : Nat) (thr : Int) : Int := clampI (if mode = 1 then -50 else -80) (-10) thr

/-- A look is active: the level stayed at or above the threshold for 100 ns, given the levels of that stretch. -/
def lookActive (mode : Nat) (thr : Int) (levels : List Int) : Bool :=
  decide ((mode = 1 ∨ mode = 2) ∧ levels ≠ []) && levels.all (fun l => decide (wakeThr mode thr ≤ l))

end Sys2Proof.Machine.Signal
end

