-- ==== Sys2Proof/Machine/SyncOps.lean ====
section
/-! DEFINITION. Frame structures and transmit windows (R254, R255, R259), the noise floor as the rest of the device reads it (R159,
R262), and the timing of a reference (R256–R258). Samples are those at 30.72 MS/s, 32 units of device time each. -/

namespace Sys2Proof.Machine

/-! ### Schedules (R254, R255, R266) -/

/-- FORMAT; 3 acts as 0. -/
def State.refFormat (s : State) (r : Nat) : Nat := let f := s.fld (Reg.SYNC_SCHED r) 0 2; if f = 3 then 0 else f

/-- TSRC; 3 acts as 0. -/
def State.refTsrc (s : State) (r : Nat) : Nat := let f := s.fld (Reg.SYNC_SCHED r) 2 2; if f = 3 then 0 else f

/-- REF_EVERY; outside 1–8 acts as 1. -/
def State.refEvery (s : State) (r : Nat) : Nat :=
  let e := s.fld (Reg.SYNC_SCHED r) 22 4
  if 1 ≤ e ∧ e ≤ 8 then e else 1

/-- SCS μ; 3 acts as 2. -/
def State.refMu (s : State) (r : Nat) : Nat := min 2 (s.fld (Reg.SYNC_SCHED r) 12 2)

/-- REF_r.LEN and OFFSET. -/
def State.refLen (s : State) (r : Nat) : Nat := s.fld (Reg.SYNC_REF r) 20 12
def State.refOffset (s : State) (r : Nat) : Nat := s.fld (Reg.SYNC_REF r) 0 20

/-- A pattern period in samples by its code; 9 and above act as 8. -/
def perSamples (c : Nat) : Nat :=
  [15360, 30720, 38400, 61440, 76800, 92160, 122880, 153600, 307200].getD (min c 8) 307200

/-- Samples before symbol k of a frame: the first symbol of every 0.5 ms is 16 samples longer. -/
def symStart (mu k : Nat) : Nat := k * (2192 / 2 ^ mu) + 16 * ((k + 7 * 2 ^ mu - 1) / (7 * 2 ^ mu))

/-- DL_SLOTS, DL_SYM, UL_SYM and UL_SLOTS of a pattern word. -/
def patFields (w : Nat) : Nat × Nat × Nat × Nat := (bitsAt w 0 8, bitsAt w 8 4, bitsAt w 12 4, bitsAt w 16 8)

/-- Is there a pattern 2? -/
def State.hasPat2 (s : State) (r : Nat) : Bool := s.fld (Reg.SYNC_SCHED r) 18 4 != 15

/-- Periods of the two patterns in samples. -/
def State.per1 (s : State) (r : Nat) : Nat := perSamples (s.fld (Reg.SYNC_SCHED r) 14 4)
def State.per2 (s : State) (r : Nat) : Nat := if s.hasPat2 r then perSamples (s.fld (Reg.SYNC_SCHED r) 18 4) else 0

/-- Period of a schedule in samples; 0 for untimed. -/
def State.refPeriod (s : State) (r : Nat) : Nat :=
  match s.refFormat r with
  | 0 => 0
  | 1 => 307200
  | _ => s.per1 r + s.per2 r

/-- Portions of one NR pattern that begins at slot `s0` of the frame and has `n` slots: downlink, uplink. -/
def nrPortions (mu s0 n w : Nat) : (Nat × Nat) × (Nat × Nat) :=
  let (dl, ds, us, ul) := patFields w
  ((symStart mu (14 * s0), symStart mu (14 * (s0 + dl) + ds)),
   (symStart mu (14 * (s0 + n - ul) - us), symStart mu (14 * (s0 + n))))

/-- Subframes of an LTE TDD pattern: 0 D, 1 S, 2 U. -/
def lteFrame (uldl : Nat) : List Nat :=
  [[0, 1, 2, 2, 2, 0, 1, 2, 2, 2], [0, 1, 2, 2, 0, 0, 1, 2, 2, 0], [0, 1, 2, 0, 0, 0, 1, 2, 0, 0],
   [0, 1, 2, 2, 2, 0, 0, 0, 0, 0], [0, 1, 2, 2, 0, 0, 0, 0, 0, 0], [0, 1, 2, 0, 0, 0, 0, 0, 0, 0],
   [0, 1, 2, 2, 2, 0, 1, 2, 2, 0]].getD (if uldl = 7 then 0 else uldl) []

/-- DwPTS and UpPTS lengths by SSF. -/
def dwPts (ssf : Nat) : Nat :=
  [6592, 19760, 21952, 24144, 26336, 6592, 19760, 21952, 24144, 13168].getD (if 9 < ssf then 0 else ssf) 6592
def upPts (ssf : Nat) : Nat := if 5 ≤ ssf ∧ ssf ≤ 9 then 4384 else 2192

/-- Portions of direction d of an LTE frame, subframe i onwards. -/
def ltePortions (d : Dir) (ssf : Nat) : Nat → List Nat → List (Nat × Nat)
  | _, [] => []
  | i, k :: t =>
    let a := 30720 * i
    let here : List (Nat × Nat) := match d, k with
      | .dl, 0 => [(a, a + 30720)]
      | .dl, 1 => [(a, a + dwPts ssf)]
      | .ul, 1 => [(a + 30720 - upPts ssf, a + 30720)]
      | .ul, 2 => [(a, a + 30720)]
      | _, _ => []
    here ++ ltePortions d ssf (i + 1) t

/-- Portions of direction d of schedule r, in samples from the frame start. -/
def State.portions (s : State) (r : Nat) (d : Dir) : List (Nat × Nat) :=
  let pick (x : (Nat × Nat) × (Nat × Nat)) : Nat × Nat := match d with | .dl => x.1 | .ul => x.2
  let l : List (Nat × Nat) := match s.refFormat r with
    | 0 => []
    | 1 => ltePortions d (s.fld (Reg.SYNC_SCHED r) 8 4) 0 (lteFrame (s.fld (Reg.SYNC_SCHED r) 4 3))
    | _ =>
      let mu := s.refMu r
      let n1 := s.per1 r * 2 ^ mu / 30720
      let n2 := s.per2 r * 2 ^ mu / 30720
      pick (nrPortions mu 0 n1 (s.rd (Reg.SYNC_PAT1 r)))
        :: (if s.hasPat2 r then [pick (nrPortions mu n1 n2 (s.rd (Reg.SYNC_PAT2 r)))] else [])
  l.filter (fun e => decide (e.1 < e.2))

/-- A pattern that does not fit its period (R255). -/
def badPattern (mu per w : Nat) : Bool :=
  let (dl, ds, us, ul) := patFields w
  decide (per * 2 ^ mu % 30720 ≠ 0) || decide (14 < ds + us) ||
    decide (per * 2 ^ mu / 30720 < dl + ul + (if 0 < ds + us then 1 else 0))

/-- MALFORMED (R255). -/
def State.malformed (s : State) (r : Nat) : Bool :=
  match s.refFormat r with
  | 0 => [Dir.dl, .ul].any (fun d => (s.enabled d).any (fun n => s.slotTdd d n && s.slotRef d n = some r))
  | 1 => false
  | _ =>
    badPattern (s.refMu r) (s.per1 r) (s.rd (Reg.SYNC_PAT1 r)) ||
      (s.hasPat2 r && (badPattern (s.refMu r) (s.per2 r) (s.rd (Reg.SYNC_PAT2 r)) ||
        decide (614400 % (s.per1 r + s.per2 r) ≠ 0)))

/-! ### Timing (R256–R258) -/

def SyncState.track (y : SyncState) (r : Nat) : TrkRec := NMap.get (fun _ => {}) y.trk r

def State.trk (s : State) (r : Nat) : TrkRec := s.sync.track r

def State.setTrk (s : State) (r : Nat) (t : TrkRec) : State :=
  { s with sync := { s.sync with trk := NMap.put (fun _ => {}) s.sync.trk r t } }

/-- Period, occurrence spacing, OFFSET modulo the period, and TRACK_WIN, in device time. -/
def State.perTime (s : State) (r : Nat) : Nat := 32 * s.refPeriod r
def State.occTime (s : State) (r : Nat) : Nat := s.perTime r * s.refEvery r
def State.offTime (s : State) (r : Nat) : Nat :=
  if s.perTime r = 0 then 0 else 32 * s.refOffset r % s.perTime r
def State.trackWin (s : State) : Nat := 32 * s.fld Reg.SYNC_TRACK_CFG 0 8

/-- ACQ, LOSS, HOLD; zero acts as 1. -/
def State.acq (s : State) : Nat := max 1 (s.fld Reg.SYNC_TRACK_CFG 16 4)
def State.lossN (s : State) : Nat := max 1 (s.fld Reg.SYNC_TRACK_CFG 20 4)
def State.holdN (s : State) : Nat := max 1 (s.fld Reg.SYNC_TRACK_CFG 24 8)

/-- The next occurrence of reference r. -/
def State.nextOcc (s : State) (r : Nat) : Int := (s.trk r).t0 + s.offTime r + s.occTime r

/-- A time lies inside the window of the next occurrence. -/
def State.inTrack (s : State) (r : Nat) (t : Int) : Bool := decide ((t - s.nextOcc r).natAbs ≤ s.trackWin)

/-- A time lies inside the window of a candidate whose latest hit came at c. -/
def State.inCand (s : State) (r : Nat) (c t : Int) : Bool :=
  let p := s.occTime r
  if p = 0 then false
  else
    let x := ((t - c) % (p : Int)).toNat
    decide (x ≤ s.trackWin) || decide (p - x ≤ s.trackWin)

/-- Windows of reference r exist (R255, R259). -/
def State.windowsOf (s : State) (r : Nat) : Bool := decide (2 ≤ (s.trk r).st) && s.refPeriod r != 0 && !s.malformed r

/-! ### Transmit windows (R233, R259)

Positions inside a frame are in units of 1/10,000 of device time, in which the sample, the conversion clock and UL_ADV are whole. -/

/-- Latency of a slot in conversion clocks (R141). -/
def State.slotLat (s : State) (d : Dir) (n : Nat) : Nat := if n = 16 then 412 else respLat (s.slotResp d n)

/-- Where in the timing the sample that leaves at device time t belongs, from t0 on (R259). -/
def State.frameTime (s : State) (d : Dir) (n r t : Nat) : Int :=
  let x : Int := ((t : Int) - (s.trk r).t0) * 10000
  match d with
  | .dl => x - s.slotLat d n * 5000
  | .ul => x + s.fld (Reg.SYNC_UL_ADV r) 0 16 * 98304

/-- Position of it in its frame. -/
def State.framePos (s : State) (d : Dir) (n r t : Nat) : Nat :=
  let p := s.perTime r * 10000
  if p = 0 then 0 else (s.frameTime d n r t % (p : Int)).toNat

/-- The frame start at or after t of a timing with a frame at t0 (R257, R258). -/
def State.frameFrom (s : State) (r : Nat) (t0 t : Int) : Int :=
  let p := s.perTime r
  if p = 0 then t0 else t0 + (t - t0 + p - 1) / p * p

/-- t0 of the latest frame at time t, as FRAME_LO and FRAME_HI show it (R266). -/
def State.latestFrame (s : State) (r : Nat) (t : Int) : Int :=
  let k := s.trk r
  let p := s.perTime r
  if p = 0 ∨ k.st = 0 ∨ t < k.t0 then k.t0 else k.t0 + (t - k.t0) / p * p

/-- Does position x lie in a portion widened by `lead` before and `lag` after, in a frame of period p? -/
def inSpans (p lead lag x : Nat) (l : List (Nat × Nat)) : Bool :=
  l.any (fun e =>
    let a : Int := (e.1 * 320000 : Nat) - (lead : Int)
    let b : Int := (e.2 * 320000 + lag : Nat)
    [x, x + p].any (fun y => decide (a ≤ (y : Int)) && decide ((y : Int) < b)) || decide (a ≤ (x : Int) - p) && decide ((x : Int) - p < b))

/-- The transmit window of a TDD slot, widened, covers device time t; the first frame of a timing begins at `opens`. -/
def State.windowAt (s : State) (d : Dir) (n lead lag t : Nat) : Bool :=
  match s.slotRef d n with
  | none => false
  | some r => s.windowsOf r && decide (((s.trk r).opens - (s.trk r).t0) * 10000 ≤ s.frameTime d n r t + lead) && inSpans (s.perTime r * 10000) lead lag (s.framePos d n r t) (s.portions r d)

/-- TR_LEAD and TR_LAG. -/
def State.trLead (s : State) : Nat := s.fld Reg.FRONT_TR_TIMING 0 8 * 983040
def State.trLag (s : State) : Nat := s.fld Reg.FRONT_TR_TIMING 8 8 * 983040

/-- Enabled TDD slots of a direction. -/
def State.tddSlots (s : State) (d : Dir) : List Nat := (s.enabled d).filter (fun n => s.slotTdd d n)

/-- The guard before the window that opens at t is shorter than TR_LEAD + TR_LAG. -/
def State.shortGuard (s : State) (d : Dir) (n t : Nat) : Bool :=
  match s.slotRef d n with
  | none => false
  | some r =>
    let p := s.perTime r * 10000
    let x := s.framePos d n r t
    (s.portions r d).any (fun e =>
      let gap := (x + p - e.2 * 320000 % p) % (max p 1)
      decide (0 < gap) && decide (gap < s.trLead + s.trLag))

/-- The window of a direction (R233): the union over its enabled TDD slots, widened by TR_LEAD and TR_LAG. -/
def State.dirWindow (s : State) (d : Dir) (t : Nat) : Bool :=
  (s.tddSlots d).any (fun n => s.windowAt d n s.trLead s.trLag t)

def State.setWin (s : State) (d : Dir) (b : Bool) : State :=
  match d with
  | .dl => { s with front := { s.front with winDl := b } }
  | .ul => { s with front := { s.front with winUl := b } }

/-- Every window of reference r closes at once (R257, R258). -/
def State.closeWindows (s : State) (r : Nat) : State :=
  [Dir.dl, .ul].foldl (fun s d =>
    let s := (s.tddSlots d).foldl (fun s n =>
      if s.slotRef d n = some r then s.setSlot d n { s.slotRec d n with tddOpen := false } else s) s
    s.setWin d ((s.tddSlots d).any (fun n => (s.slotRec d n).tddOpen))) s

/-- Share of a frame that direction d's portions of schedule r cover, in 0.01 %. -/
def State.schedShare (s : State) (r : Nat) (d : Dir) : Nat :=
  let p := s.refPeriod r
  if p = 0 then 0 else (s.portions r d).foldl (fun a e => a + (e.2 - e.1)) 0 * 10000 / p

/-- The scheduled transmit share of a direction (R234): the largest of its tracked TDD slots. -/
def State.txShare (s : State) (d : Dir) : Nat :=
  (s.tddSlots d).foldl (fun m n => match s.slotRef d n with
    | some r => if s.windowsOf r then max m (s.schedShare r d) else m
    | none => m) 0

/-! ### The noise floor as it is read (R159) -/

def State.nfRec (s : State) (k : Nat) : NfRec := NMap.get (fun _ => {}) s.sync.nf k

/-- A measured floor of a branch, unless it is older than 60 s, or the slot is an FDD downlink slot (R159, R261). -/
def State.nfMeasured (s : State) (d : Dir) (n b : Nat) : Option Nat :=
  let r := s.nfRec (slotKey d n)
  let v := if b = 0 then r.n0 else r.n1
  let at_ := if b = 0 then r.at0 else r.at1
  if (d = .dl && !s.slotTdd d n) || decide (at_ + 60000 * msTime < s.now) then none else v

/-- 10·log10(BW / 1 MHz) of a slot in Q16.16 dB. -/
def State.bwDb (s : State) (d : Dir) (n : Nat) : Int := dbOfRatio (max 1 (s.slotBw d n)) 1000

/-- NF_DEFAULT + 10·log10(BW / 1 MHz). -/
def State.nfDefault (s : State) (d : Dir) (n : Nat) : Int :=
  qOfCenti (s.fldS Reg.ECHO_NF_DEFAULT (16 * d.num) 16) + s.bwDb d n

/-- Noise floor of receive branch b in Q16.16 dBFS. -/
def State.nfBranch (s : State) (d : Dir) (n b : Nat) : Int :=
  match s.nfMeasured d n b with
  | some v => dbOfLin v
  | none => s.nfDefault d n

/-- N_in for transmit branch t (R159): the branch's own, or in SISO diversity the lower of the two. -/
def State.nIn (s : State) (d : Dir) (n t : Nat) : Int :=
  match s.branchMode d with
  | 0 => s.nfBranch d n t
  | 1 => minI (s.nfBranch d n 0) (s.nfBranch d n 1)
  | _ => s.nfBranch d n 0

/-- NF_DEF of a slot (R174). -/
def State.nfIsDefault (s : State) (d : Dir) (n : Nat) : Bool := (s.rxBr d).any (fun b => (s.nfMeasured d n b).isNone)

end Sys2Proof.Machine
end

