-- ==== Sys2Proof/Machine/Echo.lean ====
section
/-! DEFINITION. Path estimation, isolation and oscillation detection (R161–R172): what a correlation block and a fast window do. -/

namespace Sys2Proof.Machine

/-! ### Figures of a path (R164, R165) -/

/-- Taps plus a share num / den of a residual, tap by tap; missing taps count as zero. -/
def addTaps (num den : Nat) : List (Int × Int) → List (Int × Int) → List (Int × Int)
  | [], [] => []
  | w :: ws, [] => w :: addTaps num den ws []
  | [], h :: hs => (rneDiv (h.1 * num) den, rneDiv (h.2 * num) den) :: addTaps num den [] hs
  | w :: ws, h :: hs => (w.1 + rneDiv (h.1 * num) den, w.2 + rneDiv (h.2 * num) den) :: addTaps num den ws hs

/-- ‖w‖² in units of 2^-128. -/
def normSq (w : List (Int × Int)) : Nat := w.foldl (fun a x => a + (x.1 * x.1 + x.2 * x.2).toNat) 0

/-- Bias-corrected energy P_tr. -/
def pathEnergy (n : Nat) (p : PathRec) : Nat := max (normSq p.w - n * p.var) p.var

/-- Standard error s_tr in 0.01 dB. -/
def pathError (n : Nat) (p : PathRec) : Nat :=
  let e := pathEnergy n p
  if e = 0 then 0
  else (rneDiv (4343 * (isqrt ((2 * n * p.var * p.var + 4 * p.var * e) * 2 ^ 40) : Nat)) (10 * e * 2 ^ 20)).toNat

/-- MU_SHIFT; values above 6 act as 6. -/
def State.muShift (s : State) : Nat := min 6 (s.fld Reg.ECHO_EST_CTRL 0 4)

/-- E_f of a slot (R158), in units of 2^-32. -/
def State.energyF (s : State) (d : Dir) (n : Nat) : Nat := Signal.energyF (n = 16) (s.slotResp d n)

/-- σ² of a path's estimate from K samples (R162), in units of 2^-128. -/
def blockNoise (ef k : Nat) (x : PathBlock) : Nat := Signal.sigmaSq x.pe x.pp ef k

/-- One block's update of a path with residual h and noise sg: μ = 1/b early in a cold run, else 2^-MU_SHIFT (R164). -/
def stepPath (warm first : Bool) (b mu sg : Nat) (p : PathRec) (h : List (Int × Int)) : PathRec :=
  let d := if !warm ∧ b ≤ 2 ^ mu then b else 2 ^ mu
  let var0 := if warm ∧ first then sg else p.var
  { p with w := addTaps 1 d p.w h, var := ((d - 1) * (d - 1) * var0 + sg) / (d * d) }

def EchoRec.path (r : EchoRec) (p : Nat) : PathRec := NMap.get (fun _ => {}) r.paths p

/-- Energies of the live paths. -/
def EchoRec.energies (r : EchoRec) (n : Nat) (live : List Nat) : List (Nat × Nat) :=
  live.map (fun p => (p, pathEnergy n (r.path p)))

/-- Greatest energy into receive branch b. -/
def strongest (es : List (Nat × Nat)) (b : Nat) : Nat := es.foldl (fun m e => if e.1 % 2 = b then max m e.2 else m) 0

/-- A path meets R165 or is exempt: more than 10 dB below the strongest path into the same branch. -/
def EchoRec.pathOk (r : EchoRec) (n : Nat) (es : List (Nat × Nat)) (p : Nat) : Bool :=
  decide (pathError n (r.path p) ≤ 100) || decide (10 * pathEnergy n (r.path p) < strongest es (p % 2))

/-- sqrt of a power in units of 2^-128, in the same units. -/
def sqrtLin (x : Nat) : Nat := isqrt (x * linOne)

/-- a_r and Z_r of receive branch b (R168). -/
def coupling (es : List (Nat × Nat)) (b : Nat) : Nat :=
  let t := es.foldl (fun m e => if e.1 % 2 = b then m + sqrtLin e.2 else m) 0
  t * t / linOne

def EchoRec.residual (r : EchoRec) (n : Nat) (live : List Nat) (b : Nat) : Nat :=
  live.foldl (fun m p => if p % 2 = b then m + n * (r.path p).var else m) 0

/-- −10·log10 of a linear power, in 0.01 dB. -/
def lossOf (x : Nat) : Int := -(centiOfQ (dbOfLin x))

/-- I_air, I_eff and C (R168). -/
def EchoRec.isolate (r : EchoRec) (n : Nat) (live : List Nat) : EchoRec :=
  let es := r.energies n live
  let air := lossOf (max (coupling es 0) (coupling es 1))
  let z := lossOf (max (r.residual n live 0) (r.residual n live 1))
  let eff := minI (air + 3500) (maxI air z)
  { r with iAir := air, iEff := eff, credit := eff - air
           sMax := live.foldl (fun m p => maxI m (pathError n (r.path p))) 0
           okPaths := BitVec.ofNat 4 (packBits 4 (fun p => live.contains p && r.pathOk n es p)) }

/-! ### What the rest of the device reads -/

/-- The converged cautious-eligible slot nearest to slot n (R169). -/
def State.isoSlot (s : State) (d : Dir) (n : Nat) : Option Nat :=
  s.nearest d n ((s.enabled d).filter (fun m => s.slotElig d m && m != n && (s.echoRec d m).converged))

/-- I_eff of a slot, as R169 gives it for a slot that R69 covers. -/
def State.iEff (s : State) (d : Dir) (n : Nat) : Int :=
  let r := s.echoRec d n
  if r.converged || s.slotElig d n then r.iEff
  else match s.isoSlot d n with
    | some m => (s.echoRec d m).iAir - 600
    | none => r.iEff

/-- D_k plus the larger trim of the branches that carry output. -/
def State.gainTrim (s : State) (d : Dir) (n : Nat) : Int :=
  (s.slotRec d n).gain + (if (s.txBr d).contains 1 then maxI (s.trim d n 0) (s.trim d n 1) else s.trim d n 0)

/-- OSC_STAT of a detection (R174). -/
def State.oscStat (s : State) (d : Dir) (n crit path : Nat) (rho : Int) : State :=
  s.setSt Reg.ECHO_OSC_STAT (n + 32 * d.num + 64 * crit + 256 * path + 65536 * bitsOf 16 (sat16 rho))

/-- An oscillation detection (R171): reported, then the direction is muted; detections while it is muted add nothing. One by the estimate
criterion leaves its instant, for a fast one within the same 2 µs. -/
def State.oscillation (s : State) (d : Dir) (n crit path : Nat) (rho : Int) : State :=
  if s.dirMuted d || !s.transmits d then s
  else
    let s := (s.oscStat d n crit path rho).bumpF Reg.ECHO_OSC_COUNT (16 * d.num) 16 1
    let s := s.setGovDir d { s.govDir d with estOscAt := if crit = 1 then some s.now else none }
    (s.raise 14 (2 * crit + d.num)).muteDir d .oscillation

/-- The estimate criterion has muted the direction within the past 2 µs (R171). -/
def State.justOscillated (s : State) (d : Dir) : Bool :=
  (s.govDir d).mute = some .oscillation &&
    (match (s.govDir d).estOscAt with | some t => decide (s.now ≤ t + usTime 2) | none => false)

/-- The path of the largest value. -/
def largest (l : List (Nat × Nat)) : Nat := (l.foldl (fun m e => if m.2 < e.2 then e else m) (0, 0)).1

/-- The estimate criterion (R170), of a slot with a block result in a direction that repeats: its probe may be off, and its estimates
held or fenced. -/
def State.estTest (s : State) (d : Dir) (n : Nat) : State :=
  let r := s.echoRec d n
  if !r.result || !s.onAir d || s.dirMuted d then s
  else
    let rho := s.gainTrim d n - s.iEff d n
    let s := s.setEcho d n { r with rhoEst := some rho }
    if -600 < rho then s.oscillation d n 1 (largest (r.energies (s.echoTaps d n) (s.livePaths d))) rho else s

/-- The slot's probe is generated behind a closed gate: network protection mutes the slot or its direction (R51). -/
def State.probeGated (s : State) (d : Dir) (n : Nat) : Bool := s.dirSt d = .muted || s.slotMuted d n

/-- The level that a slot's probe has, and what it comes from (R160). In MUTED, where R51 has the probe generated behind the gate and R160 no row,
it is the level that the direction's service had (DEDUCED, log entry 77). -/
def State.probeLevel (s : State) (d : Dir) (n : Nat) : Option (Int × Nat) :=
  let level (l : Int) (src : Nat) : Option (Int × Nat) := if s.lock.mossMax < l then some (s.lock.mossMax, 3) else some (l, src)
  if !s.slotEn d n || s.probeOff d n || !s.slotRuns d n || s.isOut 14 (34 + d.num) then none
  else if (s.echoRec d n).held && !s.probeGated d n then none
  else match s.dirSt d with
    | .cautious => level (-1200) 1
    | .full | .playback | .muted => if s.probeMode d n = 2 then level (s.probeForced d n * 100) 2 else level (s.echoRec d n).level 0
    | _ => none

/-- Amplitude of the probe on transmit branch t, as formed at a tick boundary (R158, R159): P_p = N_in + D_k + trim_t + L. -/
def State.probeAmp (s : State) (d : Dir) (n t : Nat) : Nat :=
  match s.probeLevel d n with
  | some (l, _) =>
    Signal.probeAmp (linOfDb (s.nIn d n t + qOfCenti ((s.slotRec d n).gain + s.trim d n t + l))) (s.energyF d n)
  | none => 0

/-! ### CORRELATOR_BLOCK_END -/

/-- C_TARGET in dB; values outside 10–35 act as the nearer limit. -/
def State.cTarget (s : State) : Nat := clampN 10 35 (s.fld Reg.ECHO_EST_CTRL 16 8)

/-- Upper bound of the adaptive level: −12 dB or the locked maximum (R161). -/
def State.levelTop (s : State) : Int := minI (-1200) s.lock.mossMax

/-- Adaptive level control at a result of a converged slot (R161), and source 23 at the tenth result at the upper bound. -/
def State.adapt (s : State) (d : Dir) (n : Nat) : State :=
  let r := s.echoRec d n
  let on := (s.dirSt d = .full || s.dirSt d = .playback) && s.probeMode d n = 0 && r.converged
  if !on then s
  else
    let ct : Int := s.cTarget * 100
    let now := minI r.level s.levelTop
    let l := if ct + 300 ≤ r.credit then maxI (-3000) (now - 100)
             else if r.credit < ct then minI s.levelTop (now + 200) else r.level
    let bound := if s.levelTop ≤ now ∧ r.credit < ct then r.atBound + 1 else 0
    (s.setEcho d n { r with level := l, atBound := bound }).raiseIf (bound = 10) 14 23

/-- The cache is written at convergence, and when I_air has moved by more than 1 dB, at most once in 10 s (R172). A converged slot without a
cached value, as after EST_CLR, has none that I_air could have moved from, and is written at its next result (DESIGN CHOICE, log entry 76). -/
def State.cacheEst (s : State) (d : Dir) (n : Nat) (newly : Bool) : State :=
  let r := s.echoRec d n
  let moved := match r.cached with
    | some c => decide (100 < (r.iAir - c.iAir).natAbs) && decide (r.cachedAt + 10000 * msTime ≤ s.now)
    | none => true
  if r.converged && (newly || moved) then
    s.setEcho d n { r with cached := r.entry, cachedAt := s.now } |>.mramWrite (.cache .estimate)
  else s

/-- Every live path of a block takes its residual, from the paths given. -/
def takeBlock (warm first : Bool) (b mu ef : Nat) (live : List Nat) (x : BlockIn) (ps : NMap PathRec) : NMap PathRec :=
  (x.paths.filter (fun y => live.contains y.path)).foldl (fun m y =>
    NMap.put (fun _ => {}) m y.path (stepPath warm first b mu (blockNoise ef x.k y) (NMap.get (fun _ => {}) m y.path) y.h)) ps

/-- The run takes a block result (R164–R168, R68); the answer says whether a warm estimate failed the 6 dB test. A warm run that fails goes on
cold with w_0 = 0 (R164): one that misses s ≤ +1.00 dB with the block just ended as its first block (R165), one that fails the 6 dB test
with its count restarted, so that its next block is its first (DEDUCED, log entry 75). A slot that has converged stays so until its next
start, whatever a later block's s_tr (DESIGN CHOICE, log entry 75). -/
def EchoRec.block (r : EchoRec) (n mu ef : Nat) (live : List Nat) (b : BlockIn) : EchoRec × Bool :=
  let k := r.blocks + 1
  let r1 := { r with paths := takeBlock r.warm (r.blocks = 0) k mu ef live b r.paths, blocks := k, result := true }.isolate n live
  let es := r1.energies n live
  let good := live.all (fun p => r1.pathOk n es p) && !live.isEmpty
  if r.warm ∧ r.blocks = 0 then
    if !live.all (fun p => r1.pathOk n es p) then
      ({ r1 with paths := takeBlock false true 1 mu ef live b [], warm := false, converged := false }.isolate n live, false)
    else if 600 < (r1.iAir - r.refAir).natAbs then ({ r1 with paths := [], warm := false, blocks := 0, converged := false }, true)
    else ({ r1 with converged := good }, false)
  else ({ r1 with converged := r1.converged || (good && (r1.warm || decide (8 ≤ k))) }, false)

/-- The slot's correlators run (R163, R173). -/
def State.correlates (s : State) (d : Dir) (n : Nat) : Bool :=
  s.power = .up && s.slotEn d n && s.onAir d && !s.dirMuted d && !(s.echoRec d n).held && !s.probeOff d n &&
    !s.isOut 14 (slotKey d n) && !s.isOut 14 (34 + d.num) && !(s.slotMuted d n)

/-- Ticks of a run's next block (R163): the first 300 cold or 400 warm, every later one 500. -/
def EchoRec.blockTicks (r : EchoRec) : Nat := if r.blocks = 0 then (if r.warm then 400 else 300) else 500

/-- Slot samples of a run's next block. -/
def State.nominal (s : State) (d : Dir) (n : Nat) : Nat := (s.echoRec d n).blockTicks * Signal.tickSamples (s.slotK d n)

/-- CORRELATOR_BLOCK_END (R163): a block of slot s′ ends; one with K below 25 % of its nominal count changes nothing, and the result of any
other takes effect at the next tick boundary. -/
def correlatorBlockEnd (slot : Fin 34) (b : BlockIn) (s : State) : State :=
  let d := keyDir slot
  let n := keySlot slot
  if !s.correlates d n then s
  else if 4 * b.k < s.nominal d n then s.raise 14 (10 + d.num)
  else s.setEcho d n { s.echoRec d n with due := some b }

/-- The result of a block that has ended takes effect, at a tick boundary (R163–R165, R172, R173). -/
def State.blockEffect (s : State) (d : Dir) (n : Nat) : State :=
  let old := s.echoRec d n
  match old.due with
  | none => s
  | some b =>
    let (r, beyond) := { old with due := none }.block (s.echoTaps d n) s.muShift (s.energyF d n) (s.livePaths d) b
    let s := s.setEcho d n { r with capped := r.capped && !r.converged }
    let s := s.raiseIf beyond 14 (6 + d.num)
    let s := s.raiseIf (old.result && decide ((s.fld Reg.ECHO_EST_CTRL 8 8 : Int) * 100 < old.iEff - r.iEff)) 14 (8 + d.num)
    let s := s.raiseIf (!r.warm && !r.converged && r.blocks % 40 = 0 && decide (0 < r.blocks)) 14 (4 + d.num)
    let s := s.adapt d n
    s.cacheEst d n (r.converged && !old.converged)

def execCorrelatorBlockEnd (slot : Fin 34) (b : BlockIn) (s : State) : Host.Outcome State Fault Refusal :=
  done s (correlatorBlockEnd slot b s)

/-! ### OSC_FAST_EVAL -/

/-- OSC_WIN; values outside 64–4,096 act as the nearer limit. -/
def State.oscWin (s : State) : Nat := clampN 64 4096 (s.fld Reg.ECHO_OSC_WIN 0 13)

/-- Energy of a window residual well clear of its noise: Σ max(0, |g|² − 4σ²) (R170). -/
def clearEnergy (ef k : Nat) (x : PathBlock) : Nat :=
  x.h.foldl (fun a g => a + ((g.1 * g.1 + g.2 * g.2).toNat - 4 * blockNoise ef k x)) 0

/-- Z_r + Y_r of receive branch b. -/
def fastSum (r : EchoRec) (n ef : Nat) (live : List Nat) (f : FastIn) (b : Nat) : Nat :=
  r.residual n live b + f.paths.foldl (fun a x =>
    if x.path.val % 2 = b ∧ live.contains x.path then a + clearEnergy ef f.included x else a) 0

/-- OSC_FAST_EVAL (R170, R171). One that fires within 2 µs of a detection by the estimate criterion makes that detection read CRIT = 0, its Z
being nothing, since the detection has discarded the estimates (DEDUCED, log entry 77). -/
def oscFastEval (slot : Fin 34) (f : FastIn) (s : State) : State :=
  let d := keyDir slot
  let n := keySlot slot
  let again := s.justOscillated d && s.slotEn d n
  if !(s.correlates d n || again) || decide (2 * f.included < s.oscWin) then s
  else
    let r := s.echoRec d n
    let t := s.echoTaps d n
    let ef := s.energyF d n
    let live := s.livePaths d
    let rho := s.gainTrim d n - lossOf (max (fastSum r t ef live f 0) (fastSum r t ef live f 1))
    let part := live.map (fun p =>
      (p, t * (r.path p).var + (f.paths.filter (fun x => x.path = p)).foldl (fun a x => a + clearEnergy ef f.included x) 0))
    if again then (if -600 < rho then s.oscStat d n 0 (largest part) rho else s)
    else
      let s := s.setEcho d n { r with rhoFast := some rho }
      if -600 < rho then s.oscillation d n 0 (largest part) rho else s

def execOscFastEval (slot : Fin 34) (b : FastIn) (s : State) : Host.Outcome State Fault Refusal := done s (oscFastEval slot b s)

/-- EST_CLR (R174): cached estimates are discarded, running ones unchanged. -/
def estClr (v : Word) (s : State) : State :=
  s.ifUp (fun s => dirs.foldl (fun s d =>
    if bitAt v.toNat d.num then
      slotNums.foldl (fun s n => s.setEcho d n { s.echoRec d n with cached := none }) s
    else s) s)

def execEstClr (v : Word) (s : State) : Host.Outcome State Fault Refusal := done s (estClr v s)

end Sys2Proof.Machine
end

