-- ==== Sys2Proof/Machine/ThermOps.lean ====
section
/-! DEFINITION. What the rest of the device reads from the thermal model and the PA model: region temperatures (R339, R342), the
core-voltage floor (R330), and g_tx (R239). -/

namespace Sys2Proof.Machine

/-- Region of each sensor D0–D5 (R338). -/
def sensorRegion (k : Nat) : Nat := [5, 6, 2, 7, 8, 10].getD k 0

def sensorNums : List Nat := [0, 1, 2, 3, 4, 5]
def regionTs : List Nat := [0, 1, 2, 3, 4, 5, 6, 7, 8, 9, 10, 11]

def State.pole (s : State) (j i : Nat) : Int := NMap.get (fun _ => 0) s.therm.x (3 * j + i)

/-- x[j][1] + x[j][2] + x[j][3] in 2^-16 of 0.01 °C. -/
def State.rise (s : State) (j : Nat) : Int := s.pole j 0 + s.pole j 1 + s.pole j 2

/-- The latest valid reading of a sensor, 0.01 °C. -/
def State.sensorAt (s : State) (k : Nat) : Option Int := (s.therm.sensors.find? (fun e => e.1 = k)).map Prod.snd

/-- Sensors in service that have given a valid reading since the start. -/
def State.sensorsOn (s : State) : List (Nat × Int) :=
  sensorNums.filterMap (fun k => if s.isOut 2 k then none else (s.sensorAt k).map (fun t => (k, t)))

def maxList (d : Int) : List Int → Int
  | [] => d
  | x :: t => t.foldl maxI x

/-- Temperature of region j in 2^-16 of 0.01 °C; with the model fenced, the highest sensor plus 10 °C (R342). -/
def State.regionFine (s : State) (j : Nat) : Int :=
  if s.isOut 2 6 then (maxList 0 (s.sensorsOn.map Prod.snd) + 1000) * 65536 else s.therm.tb + s.rise j

/-- Temperature of region j in 0.01 °C. -/
def State.regionT (s : State) (j : Nat) : Int := rneDiv (s.regionFine j) 65536

/-- The region of the highest temperature of a list, the lower on a tie. -/
def State.hottest (s : State) : List Nat → Nat
  | [] => 0
  | j :: t => t.foldl (fun m k => if s.regionFine m < s.regionFine k then k else m) j

/-- The hottest sensor (R342). -/
def State.hotSensor (s : State) : Nat :=
  let j := s.hottest [2, 5, 6, 7, 8, 10]
  (sensorNums.find? (fun k => sensorRegion k = j)).getD 0

/-- T_max in 0.01 °C, with the margin that applies (R342). -/
def State.tMax (s : State) : Int := s.regionT (s.hottest regionTs) + s.therm.margin

/-- Points of the floor table: 0.01 °C and mV (R330). -/
def floorTable : List (Int × Int) :=
  [(-4000, 620), (-2000, 605), (0, 590), (2500, 575), (5000, 562), (8500, 550), (12500, 550)]

/-- Linear interpolation of a table at x (units of its first column in `u` parts), result in 1/`u2` of its second column; the ends
hold outside it. -/
def interpol (x : Int) (u u2 : Nat) : List (Int × Int) → Int
  | [] => 0
  | [(_, y)] => y * u2
  | (a, y) :: (b, z) :: t =>
    if x ≤ a * u then y * u2
    else if x ≤ b * u then rneDiv (y * u2 * ((b - a) * u) + (z - y) * (x - a * u) * u2) ((b - a) * u).toNat
    else interpol x u u2 ((b, z) :: t)

/-- V_floor in Q16.16 mV, at T_low − 5 °C (R330). -/
def State.vFloor (s : State) : Int :=
  let low := minI (s.regionFine 5) (minI (s.regionFine 6) (s.regionFine 7)) - 500 * 65536
  interpol low 65536 65536 floorTable

/-! ### g_tx (R239) -/

/-- Key of body word w of lane n's PA table (R94). -/
def tableKey (lane w : Nat) : Nat := 32 * lane + w

def State.tableWord (s : State) (lane w : Nat) : Nat := (NMap.get (fun _ => (0 : Word)) s.front.tables (tableKey lane w)).toNat

/-- Lane n has a table when its word 0 holds LANE = n and POINTS = 16. -/
def State.hasTable (s : State) (lane : Nat) : Bool := bitsAt (s.tableWord lane 0) 0 16 = lane + 16 * 256

/-- Point i of a lane's table: TEMP in 0.01 °C, GAIN in 0.01 dB. -/
def State.paPoint (s : State) (lane i : Nat) : Int × Int :=
  let w := s.tableWord lane (1 + i)
  (signedOf 16 w * 10, signedOf 16 (w / 65536))

def State.paPoints (s : State) (lane : Nat) : List (Int × Int) := (List.range 16).map (fun i => s.paPoint lane i)

/-- The region whose temperature a transmit lane's PA model takes: its direction's transmit converters (R338, R239). -/
def paRegion (lane : Nat) : Nat := if lane < 2 then 2 else 3

/-- T lies inside the table. -/
def State.paInside (s : State) (lane : Nat) : Bool :=
  let t := s.regionFine (paRegion lane)
  decide ((s.paPoint lane 0).1 * 65536 ≤ t) && decide (t ≤ (s.paPoint lane 15).1 * 65536)

/-- g_tx as FRONT holds it, 0.01 dB. -/
def State.gtx (s : State) (lane : Nat) : Int := NMap.get (fun _ => 0) s.front.gtx lane

/-- FRONT forms g_tx of a lane at a tick. -/
def State.gtxStep (s : State) (lane : Nat) : State :=
  if !s.hasTable lane then s
  else if s.paInside lane then
    { s with front := { s.front with
        gtx := NMap.put (fun _ => 0) s.front.gtx lane (interpol (s.regionFine (paRegion lane)) 65536 1 (s.paPoints lane))
        outOfTable := BitVec.ofNat 4 (putBits s.front.outOfTable.toNat lane 1 0) } }
  else { s with front := { s.front with outOfTable := BitVec.ofNat 4 (putBits s.front.outOfTable.toNat lane 1 1) } }

/-- G_tx of transmit branch t of a direction, 0.01 dB. -/
def State.gTx (s : State) (d : Dir) (t : Nat) : Int := s.gtx (laneOf d t)

/-- Detector law of a lane (R239): INTERCEPT + code / SLOPE in Q16.16 dBm, the code as an HK result in 1/16; none where the slope
is 0. -/
def State.detector (s : State) (lane value : Nat) : Option Int :=
  let slope := signedOf 32 (s.tableWord lane 17)
  let icpt := signedOf 32 (s.tableWord lane 18)
  if slope = 0 then none
  else some (icpt + rneDiv ((value : Int) * 268435456 * (if slope < 0 then -1 else 1)) slope.natAbs)

/-- The latest result of an HK channel that reached the consumers (R321). -/
def State.hkRes (s : State) (c : Nat) : Nat := NMap.get (fun _ => 0) s.hk.delivered c

/-- VIN in mV from HK channel 30, whose scale is 1/3 (R312, R321, R348). -/
def State.vinMv (s : State) : Nat :=
  let w := s.hkRes 30
  min 65535 (w % 65536 * s.hkVref (bitsAt w 20 1) * 3 / 65536)

/-- HK_IN of a lane's detector. -/
def State.detInput (s : State) (lane : Nat) : Nat := bitsAt (s.tableWord lane 19) 0 8

end Sys2Proof.Machine
end

