-- ==== Sys2Proof/Machine/GovOps.lean ====
section
/-! DEFINITION. What the governors compute from their inputs (R177–R191): fixed gain, limits, noise rise, and when the cause of a
mute is absent (R192). Gains are in 0.01 dB unless a definition says Q16.16. -/

namespace Sys2Proof.Machine

/-! ### Gain ramps (R145–R147, R188) -/

/-- The unit of a ramp, 2^-24 of 0.01 dB, and the range of R146 in it. -/
def gainUnit : Int := 2 ^ 24
def gainLow : Int := -6000 * gainUnit
def gainHigh : Int := 8400 * gainUnit

/-- The gain in 2^-24 of 0.01 dB that a ramp gives at slot sample i (R146, R188): even steps from its base to its goal, rounded half to
even to the unit in which the device holds it. -/
def Ramp.at_ (r : Ramp) (i : Int) : Int :=
  if r.stop ≤ i then r.goal * gainUnit
  else if i ≤ r.start then r.base
  else r.base + rneDiv ((r.goal * gainUnit - r.base) * (i - r.start)) (r.stop - r.start).toNat

/-- The trim of branch b at slot sample i of a tick of ns samples, moving evenly to the trim of the latest boundary (R146, R147). -/
def SlotRec.trimAt (r : SlotRec) (b : Nat) (i : Int) (ns : Nat) : Int :=
  let old := if b = 0 then r.trimPrev.1 else r.trimPrev.2
  let new := if b = 0 then r.trimNow.1 else r.trimNow.2
  rneDiv ((old * ns + (new - old) * (i + 1)) * gainUnit) ns

/-- D with the trim of branch b at slot sample i, before the clamp of R146. The d of the pseudocode is taken as D alone and the trims are
added once, though its text puts them into d_prev and d_new as well (DEDUCED, log entry 74). -/
def SlotRec.trimmedAt (r : SlotRec) (b : Nat) (i : Int) (ns : Nat) : Int := r.ramp.at_ i + r.trimAt b i ns

/-- d_b, in 2^-24 of 0.01 dB (R146). -/
def SlotRec.gainAt (r : SlotRec) (b : Nat) (i : Int) (ns : Nat) : Int := clampI gainLow gainHigh (r.trimmedAt b i ns)

/-- Slot samples of a tick of slot n (R134). -/
def State.tickLen (s : State) (d : Dir) (n : Nat) : Nat := Signal.tickSamples (s.slotK d n)

/-! ### Governor inputs -/

def maxOver (l : List Nat) (f : Nat → Int) (d : Int) : Int := maxList d (l.map f)

def minOver (l : List Nat) (f : Nat → Int) (d : Int) : Int := -(maxOver l (fun x => -(f x)) (-d))

/-- G_fix of a direction (R177): transmit full scale less receive full scale is −2.60 dB. -/
def State.gFixNow (s : State) (d : Dir) : Int :=
  s.fldS (Reg.GOV_RX_CHAIN d) 0 16 + maxOver (s.txBr d) (fun t => s.gTx d t) 0 - 260

/-- LANE_RED of a branch. -/
def State.laneRed (s : State) (d : Dir) (t : Nat) : Int := if t = 0 then (s.govDir d).red0 else (s.govDir d).red1

/-- L2_eff of a branch (R187). -/
def State.l2Eff (s : State) (d : Dir) (g t : Nat) : Int := s.l2Limit d g - s.laneRed d t

/-- The applied repeater gain (R178). -/
def State.gApp (s : State) (d : Dir) (n : Nat) : Int := clampI (-6000) 8400 (s.slotRec d n).gain + (s.govDir d).gFix

/-- N_dens of branch t in Q16.16 dBFS per MHz (R189). -/
def State.nDens (s : State) (d : Dir) (n t : Nat) : Int := s.nIn d n t - s.bwDb d n

/-- max_t(N_dens + trim_t + G_tx,t) in Q16.16. -/
def State.noiseOut (s : State) (d : Dir) (n : Nat) : Int :=
  maxOver (s.txBr d) (fun t => s.nDens d n t + qOfCenti (s.trim d n t + s.gTx d t)) (-13107200)

/-- L3_LIMIT and L3_REF of an uplink governor, Q16.16. -/
def State.l3Limit (s : State) (d : Dir) (g : Nat) : Int := qOfCenti (s.fld (Reg.GOV_L3_CFG d g) 0 16)
def State.l3Ref (s : State) (d : Dir) (g : Nat) : Int := qOfCenti (s.fldS (Reg.GOV_L3_CFG d g) 16 16)

/-- The noise rise at digital gain D, Q16.16 dB (R189). -/
def State.noiseRise (s : State) (d : Dir) (n : Nat) (dg : Int) : Int :=
  dbOfLin (linOne + linOfDb (s.noiseOut d n + qOfCenti dg - s.l3Ref d (govOf n)))

/-- Is the direction of the noise-rise law's slot one of the uplink, and of the donor law's the downlink? -/
def isUl (d : Dir) : Bool := d = .ul

/-- L3's lower output limit as a digital gain. -/
def State.l3Floor (s : State) (d : Dir) (n : Nat) : Int :=
  let j := lawIndex d (govOf n) 3
  centiOfQ ((s.loop.law j).fieldOf j 9) - (s.govDir d).gFix

/-- The donor of a downlink slot is present. -/
def State.donorHere (s : State) (n : Nat) : Bool := (s.govRec .dl (govOf n)).donorOk

/-- The downlink slot that an uplink governor's PAIR names, where it is enabled (R190). -/
def State.pairOf (s : State) (g : Nat) : Option Nat :=
  let p := s.pairField .ul g
  if p < 17 ∧ s.slotEn .dl p then some p else none

/-- The cause of a mute is absent (R192). -/
def State.causeAbsent (s : State) (d : Dir) (n : Nat) (c : MuteCause) : Bool :=
  match c with
  | .oscillation | .lockedOutput => true
  | .donorLost => s.donorHere n
  | .pairedDonorLost => match s.pairOf (govOf n) with
    | some p => s.donorHere p
    | none => true
  | .noiseRise => decide (s.noiseRise d n (s.l3Floor d n) ≤ s.l3Limit d (govOf n) - 65536)
  | .lockedSynth => decide (s.awaited d.bit = 0)
  | .lockedDuty => decide (s.txShare d ≤ s.lock.dutyMax d)
  | .loopEngine => decide (10 ≤ s.loop.goodTicks)

/-- The slots that a lost donor mutes (R190): the downlink slot itself, and the uplink slots paired with it. The loss strikes a slot that is
muted already as a second cause, which merges (R194); a mute that only follows as the direction comes to transmit is for the unmuted. -/
def State.donorMutes (s : State) (n : Nat) (struck : Bool) : State :=
  let s := if s.transmits .dl && s.slotEn .dl n && (struck || !s.slotMuted .dl n) then s.muteSlot .dl n .donorLost else s
  (s.enabled .ul).foldl (fun s m =>
    if s.transmits .ul && s.pairOf (govOf m) = some n && (struck || !s.slotMuted .ul m) then s.muteSlot .ul m .pairedDonorLost else s) s

/-- A time of ms milliseconds has passed since a device time that something happened at, or nothing is known to have happened. -/
def sinceMs (now ms : Nat) : Option Nat → Bool
  | some t => decide (t + ms * msTime ≤ now)
  | none => true

/-- RETRY_MS and MUTE_HOLD_MS of a direction (R192, R194). -/
def State.retryMs (s : State) (d : Dir) : Nat := s.fld (Reg.GOV_MUTE_CFG d) 16 16
def State.holdMs (s : State) (d : Dir) : Nat := s.fld (Reg.GOV_MUTE_CFG d) 0 16

/-- DONOR_MIN in 0.01 dBFS and DONOR_LOSS_MS of a downlink governor (R190). -/
def State.donorMin (s : State) (g : Nat) : Int := s.fldS (Reg.GOV_L3_CFG .dl g) 0 16
def State.donorLossMs (s : State) (g : Nat) : Nat := s.fld (Reg.GOV_L3_CFG .dl g) 16 16

end Sys2Proof.Machine
end

