-- ==== Sys2Proof/Machine/LoopOps.lean ====
section
/-! DEFINITION. The loop engine's tick, part by part (R183, R184, R186–R191, R200–R219): latch, profile generator, law inputs, laws,
selection, lane reduction, the core-voltage law and the auxiliary laws. -/

namespace Sys2Proof.Machine

/-! ### Step 1: latch (R206, R211–R214) -/

/-- What falls due for instance j at a boundary: the oldest queued write, then an open or a close (R217). -/
def State.latchOne (s : State) (j : Nat) : State :=
  let x := s.loop.law j
  let y := if x.isOpen then x else x.applyOne j
  let s := if x.queue = [] then s else { s with loop := s.loop.setLaw j y }
  if y.pendOpen then ({ s with loop := s.loop.setLaw j (y.openNow j) }).pendingDone j 0
  else if y.pendClose then
    if y.inverted j then (({ s with loop := s.loop.setLaw j (y.closeNow j) }).pendingDone j 7).raise 17 15
    else ({ s with loop := s.loop.setLaw j (y.closeNow j) }).pendingDone j 0
  else s

/-- The latch: every listed instance, then the snapshot that a late instance keeps (R208). -/
def State.latch (s : State) : State :=
  let s := (s.loop.laws.map Prod.fst).foldl (fun s j => s.latchOne j) s
  { s with loop := { s.loop with lawsAtLatch := s.loop.laws } }

/-! ### Computing an instance (R203, R208, R213, R217) -/

/-- The loop engine commits nothing while it is fenced. -/
def State.engineOut (s : State) : Bool := s.isOut 17 192

/-- Instance j at a tick, its inputs brought to 32 bits (R202); the answer says whether anything saturated. An open or a fenced one is not
computed, so it is not late; what a fenced governor law puts out is `State.lawOutput`. -/
def State.runLaw (s : State) (j : Nat) (m : IMode) (e xin xacc : Int) : State × Bool :=
  let x := s.loop.law j
  if !s.lawEnabled j then (s, false)
  else if x.isOpen || s.lawOut j then ({ s with loop := s.loop.setLaw j { x with late := false } }, false)
  else if s.engineOut then ({ s with loop := s.loop.setLaw j { x with late := true } }, false)
  else
    let (y, sat) := x.compute j m (satOf e).v (satOf xin).v (satOf xacc).v
    ({ s with loop := s.loop.setLaw j y }, sat || (satOf e).sat || (satOf xin).sat || (satOf xacc).sat)

/-! ### The profile generator (R183, R184, R193) -/

/-- One step of the generator towards x. -/
def genStep (r : GovRec) (x vmax amax jmax : F64) : GovRec :=
  let dt := F64.ofRatio 1 10000
  let two : F64 := F64.norm 2 0
  let d := (F64.sub x r.p).abs
  let sg := (F64.sub x r.p).sign
  let vt0 := if sg = 0 then F64.zero else if sg < 0 then vmax.neg else vmax
  let dstop := F64.add (F64.div (F64.mul r.v r.v) (F64.mul two amax))
    (F64.div (F64.mul r.v.abs amax) (F64.mul two jmax))
  let vt := if decide (0 < sg * r.v.sign) && F64.le d dstop then F64.zero else vt0
  let at_ := F64.clamp amax.neg amax (F64.div (F64.mul (F64.sub vt r.v) jmax) amax)
  let jd := F64.mul jmax dt
  let a := F64.add r.a (F64.clamp jd.neg jd (F64.sub at_ r.a))
  let v := F64.clamp vmax.neg vmax (F64.add r.v (F64.mul a dt))
  let p := F64.add r.p (F64.mul v dt)
  if F64.le (F64.sub x p).abs (F64.ofRatio 5 1000) && F64.le v.abs (F64.mul amax dt) then
    { r with p := x, v := F64.zero, a := F64.zero }
  else { r with p := p, v := v, a := a }

/-- The generator of governor g at a tick: it steps where L0 was selected in the previous tick, else it is re-seated; a mute
keeps p at or below the cap, and a step leaves v and a as they are (R193). -/
def State.profile (s : State) (d : Dir) (g : Nat) : GovRec :=
  let r := s.govRec d g
  let va := s.rd (Reg.GOV_PROFILE_VA d g)
  let amax := bitsAt va 16 16
  let jmax := s.fld (Reg.GOV_PROFILE_J d g) 0 16
  let r1 :=
    if r.sel = 0 then
      if amax = 0 ∨ jmax = 0 then r
      else genStep r (F64.ofCenti (s.target d g)) (F64.ofRatio (bitsAt va 0 16) 10) (F64.ofRatio amax 10) (F64.norm jmax 0)
    else { r with p := F64.ofCenti (s.gApp d (s.govSlot d g)), v := F64.zero, a := F64.zero }
  if r.mute.isSome || s.dirMuted d then { r1 with p := f64Min r1.p (s.capF d g) } else r1

/-! ### Law inputs (R179, R186, R187, R189–R191) -/

/-- What the meters gave for a slot in the tick just ended; silent where they are not listed. -/
def meters (i : TickIn) (k : Nat) : SlotIn := (i.slots.find? (fun x => x.slot.val = k)).getD { slot := 0 }

def brIn (x : SlotIn) (t : Nat) : BranchIn := if t = 0 then x.br0 else x.br1

/-- PIN, POUT and the largest block mean of PIN of a branch in the tick just ended, in 0.01 dBFS (R149). -/
def pinOf (x : BranchIn) : Int := Signal.meterDb (Signal.tickMean x.inBlocks)
def poutOf (x : BranchIn) : Int := Signal.meterDb (Signal.tickMean x.outBlocks)
def pkOf (x : BranchIn) : Int := Signal.meterDb (x.inBlocks.foldl max 0)

/-- A fence of the slot's estimates or of its direction's ECHO unit caps it, until its estimate has converged afresh (R35). -/
def State.faultCap (s : State) (d : Dir) (n : Nat) : Bool :=
  s.isOut 14 (slotKey d n) || s.isOut 14 (34 + d.num) || (s.echoRec d n).capped

/-- EST_STAT.CAP: ECHO requires the cautious gain cap (R35, R53, R173). -/
def State.echoCap (s : State) (d : Dir) (n : Nat) : Bool := s.faultCap d n || s.probeOff d n

/-- The slot counts as converged for L1 (R186). -/
def State.l1Converged (s : State) (d : Dir) (n : Nat) : Bool :=
  (s.echoRec d n).converged || (s.dirSt d = .full && s.countsConverged d n)

/-- L1's feed-forward input in Q16.16, and whether a capped row applies. -/
def State.l1Input (s : State) (d : Dir) (g : Nat) : Int × Bool :=
  let n := s.govSlot d g
  let cap := s.gCapQ d g
  let full := qOfCenti (s.iEff d n + (s.govDir d).gFix - s.l1Margin d g - s.trimMax d n)
  if !(s.echoRec d n).result && !s.l1Converged d n || s.echoCap d n then (cap, true)
  else if s.l1Converged d n && s.dirSt d != .cautious then (full, false)
  else (minI full cap, true)

/-- e, f_in and f_acc of law i of governor g (R179). -/
def State.lawInput (s : State) (i : TickIn) (d : Dir) (g l : Nat) (r : GovRec) : Int × Int × Int :=
  let n := s.govSlot d g
  let x := meters i (slotKey d n)
  let ts := s.txBr d
  let gfix := (s.govDir d).gFix
  let j := lawIndex d g l
  match l with
  | 0 =>
    let dt := F64.ofRatio 1 10000
    (F64.toQ16 (F64.sub r.p (F64.ofCenti (s.gApp d n))), F64.toQ16 (F64.add r.p (F64.mul r.v dt)), F64.toQ16 r.a)
  | 1 =>
    let e := match (s.echoRec d n).rhoEst with
      | some rho => qOfCenti (-(s.l1Margin d g) - rho)
      | none => 0
    (e, (s.l1Input d g).1, 0)
  | 2 =>
    (qOfCenti (minOver ts (fun t => s.l2Eff d g t - poutOf (brIn x t) - s.gTx d t) 0),
     qOfCenti (gfix + minOver ts (fun t => s.l2Eff d g t - pkOf (brIn x t) - s.trim d n t - s.gTx d t) 0), 0)
  | 3 =>
    match d with
    | .ul =>
      (s.l3Limit d g - s.noiseRise d n (s.slotRec d n).gain,
       qOfCenti gfix + s.l3Ref d g + dbOfLin (linOfDb (s.l3Limit d g) - linOne) - s.noiseOut d n, 0)
    | .dl =>
      let y := s.loop.law j
      (0, if s.donorHere n then y.fieldOf j 10 else y.fieldOf j 9, 0)
  | _ =>
    let rth := if s.therm.rth = 0 then 0 else rneDiv ((s.therm.rth : Int) * 65536) 1000
    (0, qOfCenti (s.target d g) - rth, 0)

/-- The slot mute gate has been open at some instant of the tick that is recorded. -/
def Watch.sawOpen (w : Watch) (d : Dir) (n : Nat) : Bool := NMap.get (fun _ => false) w.opened (slotKey d n)

/-- The slot mute gate was closed throughout the tick just ended (R182). -/
def State.gateShut (s : State) (d : Dir) (n : Nat) : Bool := !s.watch.sawOpen d n

/-- imode of law l (R182, R204). -/
def State.imode (s : State) (d : Dir) (g l : Nat) (r : GovRec) : IMode :=
  if (l = 2 || l = 3) && s.gateShut d (s.govSlot d g) then .hold
  else if r.mute.isSome || s.dirMuted d then .noRise
  else if r.sel = l && !r.lockClamped && !r.chanClamped then .free else .noRise

/-! ### Selection (R181) -/

/-- The least output of the enabled laws, with its lowest law. -/
def leastLaw : List (Nat × Int) → Option (Nat × Int)
  | [] => none
  | (l, v) :: t => match leastLaw t with
    | some (m, w) => if w < v then some (m, w) else some (l, v)
    | none => some (l, v)

/-- R181 for governor g: its record and D_(k+1). With every law disabled each g is +inf: the tie keeps the selection, and the lock clamp
lowers gs. -/
def State.select (s : State) (d : Dir) (g : Nat) (r : GovRec) : GovRec × Int :=
  let n := s.govSlot d g
  let gfix := (s.govDir d).gFix
  let out (l : Nat) : Int := s.lawOutput (lawIndex d g l)
  let law (l : Nat) : Law := s.loop.law (lawIndex d g l)
  let on := [0, 1, 2, 3, 4].filter (fun l => s.lawEn d g l)
  let outs := on.map (fun l => (l, out l))
  let lim := qOfCenti (s.lock.gainMax d - s.trimMax d n)
  let shown (l : Nat) : Option Int := if (law l).terms = [] then none else some (out l)
  let r := { r with outs := [0, 1, 2, 3, 4].map shown, late := BitVec.ofNat 5 (packBits 5 (fun l => s.lawEn d g l && (law l).late)) }
  match leastLaw outs with
  | none => ({ r with sel := if r.prev < 5 then r.prev else 0, capped := false, lockClamped := true },
      rneDiv (lim * 100 - gfix * 65536) 65536)
  | some (l, m) =>
    let sel := if outs.any (fun e => e.1 = r.prev && e.2 = m) then r.prev else l
    let gs := minI m lim
    ({ r with sel := sel, capped := sel = 1 && (s.l1Input d g).2, lockClamped := decide (lim < m) },
     rneDiv (gs * 100 - gfix * 65536) 65536)

/-- The selection takes effect: the lock clamp's source 29, and what is delivered at the next boundary. -/
def State.selectNow (s : State) (d : Dir) (g : Nat) (was : Bool) : State :=
  let (r, dk) := s.select d g (s.govRec d g)
  let n := s.govSlot d g
  let s := (s.setGov d g r).setSlot d n { s.slotRec d n with nextGain := dk }
  if r.lockClamped && !was then (s.raise (15 + d.num) 29).lockActs 2 d.num (256 + g) else s

/-! ### The governors at a tick (R206) -/

/-- The order of the directions in tick k: the downlink first in even ticks. -/
def State.dirOrder (s : State) : List Dir := if s.now / tickTime % 2 = 0 then [.dl, .ul] else [.ul, .dl]

/-- The laws in the engine's order: protective, limit, profile. -/
def lawOrder : List Nat := [2, 1, 3, 4, 0]

/-- The instances in the order in which the engine computes them in this tick (R206). -/
def State.engineOrder (s : State) : List Nat :=
  (160 :: lawOrder.flatMap (fun l => s.dirOrder.flatMap (fun d => (s.govsOn d).map (fun g => lawIndex d g l)))) ++
    (lawNums.filter (fun j => decide (160 < j)))

/-- Governor g takes the tick that ended: the generator moves, and the selection becomes the previous one. -/
def State.govStart (s : State) (d : Dir) (g : Nat) : State :=
  let p := s.profile d g
  s.setGov d g { p with prev := p.sel, gApp := s.gApp d (s.govSlot d g) }

/-- Law l of governor g, its inputs those of the latch; the answer says whether it saturated. -/
def State.govLaw (s latched : State) (i : TickIn) (d : Dir) (g l : Nat) : State × Bool :=
  let r := latched.govRec d g
  let (e, xin, xacc) := latched.lawInput i d g l r
  s.runLaw (lawIndex d g l) (latched.imode d g l r) e xin xacc

/-- Steps 3–5 and 7 of R206: every law of every governor in the engine's order, then every selection; the answer says whether a law
saturated. -/
def State.govsTick (s : State) (i : TickIn) : State × Bool :=
  let was (d : Dir) (g : Nat) : Bool := (s.govRec d g).lockClamped
  let s := dirs.foldl (fun s d => (s.govsOn d).foldl (fun s g => s.govStart d g) s) s
  let (s, sat) := lawOrder.foldl (fun x l => s.dirOrder.foldl (fun x d => (s.govsOn d).foldl (fun x g =>
    let (y, b) := x.1.govLaw s i d g l
    (y, x.2 || b)) x) x) (s, false)
  (dirs.foldl (fun s d => (s.govsOn d).foldl (fun s g => s.selectNow d g (was d g)) s) s, sat)

/-! ### Delivery and clamps (R146, R147, R178, R188) -/

/-- d_b of a running branch falls outside the multiplier's range at one of these slot samples. -/
def State.gainClamps (s : State) (d : Dir) (n : Nat) (samples : List Int) : Bool :=
  let r := s.slotRec d n
  (s.rxBr d).any (fun b => samples.any (fun i =>
    let x := r.trimmedAt b i (s.tickLen d n)
    decide (x < gainLow) || decide (gainHigh < x)))

/-- The ramp of the tick that begins: from the gain that the last one has reached to D_k; one that a fast cut runs through this tick goes on
while D_k is what it cuts to (R188; DESIGN CHOICE, log entry 74). -/
def Ramp.next (r : Ramp) (ns : Nat) (dk : Int) : Ramp :=
  if r.stop = 2 * (ns : Int) - 1 ∧ r.goal = dk then { r with start := r.start - ns, stop := r.stop - ns }
  else { base := r.at_ (ns - 1), start := -1, goal := dk, stop := (ns : Int) - 1 }

/-- D_k is delivered to slot n: a slot without a value keeps the last one; a fast cut bounds it (R188). What the governor is told of a clamp
and of a cut is what acted in the tick that ends (R182, R197). -/
def State.deliver (s : State) (d : Dir) (n : Nat) (noGain : Bool) : State :=
  let r := s.slotRec d n
  let ns := s.tickLen d n
  let dk := if noGain then r.gain else r.nextGain
  let dk := match r.cut with | some c => minI dk c | none => dk
  let g := govOf n
  let s := s.setGov d g { s.govRec d g with chanClamped := r.clamped, fastCut := r.cut.isSome }
  let s := s.setSlot d n { r with prevGain := r.gain, gain := dk, cut := none, ramp := r.ramp.next ns dk,
                                  trimPrev := r.trimNow, trimNow := (s.trim d n 0, s.trim d n 1) }
  s.setSlot d n { s.slotRec d n with clamped := s.gainClamps d n [0, (ns : Int) - 1] }

/-- What waited for the boundary: gates held closed, a PRIORITY, over-range flags that have left the slot's chain (R147, R150, R152); a running
chain's registers hold what its samples leave (R136). -/
def State.slotDue (s : State) (d : Dir) (n : Nat) : State :=
  let r := s.slotRec d n
  s.setSlot d n { r with wait := 0, prioHeld := none, recovering := BitVec.ofNat 2 (packBits 2 (s.slotFlagged d n)),
                         chain := if s.slotRuns d n then some s.now else r.chain }

/-- A clamp of a direction's gain counts once per tick (R147). -/
def State.clampNote (s : State) (d : Dir) : State := (s.bump (Reg.CHAN_GAIN_CLAMP_COUNT d) 1).raise (12 + d.num) 19

/-- Every slot of a direction takes its gain; CHAN sources 25 and 19. -/
def State.deliverAll (s : State) (d : Dir) (noGain : List Nat) : State :=
  let lacks (n : Nat) : Bool := noGain.contains (slotKey d n)
  let s := slotNums.foldl (fun s n => s.slotDue d n) s
  let s := (s.enabled d).foldl (fun s n => s.deliver d n (lacks n)) s
  let s := s.raiseIf ((s.enabled d).any lacks) (12 + d.num) 25
  if (s.enabled d).any (fun n => (s.slotRec d n).clamped) then s.clampNote d else s

/-! ### G_fix (R177, R196, R199) -/

/-- Of values with the device times they hold from, newest first, those that held within the second before now. -/
def recentVals (now : Nat) : List (Nat × Int) → List (Nat × Int)
  | a :: b :: t => if now ≤ a.1 + 1000 * msTime then a :: recentVals now (b :: t) else [a]
  | l => l

/-- G_fix of a direction at a tick: source 27 for a step beyond 3.00 dB within 1 s, source 31 when the PA model leaves its table. -/
def State.gFixStep (s : State) (d : Dir) : State :=
  let outBefore := (s.txBr d).any (fun t => s.front.outOfTable.getLsbD (laneOf d t))
  let s := [0, 1].foldl (fun s t => s.gtxStep (laneOf d t)) s
  let outNow := (s.txBr d).any (fun t => s.front.outOfTable.getLsbD (laneOf d t))
  let g := s.govDir d
  let v := s.gFixNow d
  let past := recentVals s.now g.gFixAt
  let stepped := past.any (fun e => decide (300 < (v - e.2).natAbs))
  let held : List (Nat × Int) := if stepped then [(s.now, v)]
    else if past.head?.map Prod.snd = some v then past else (s.now, v) :: past
  let s := s.setGovDir d { g with gFix := v, gFixAt := held }
  (s.raiseIf stepped (15 + d.num) 27).raiseIf (outNow && !outBefore) (15 + d.num) 31

/-! ### Lane reduction (R187) -/

/-- Predicted output of a transmit branch: the POUT of every open slot at the PA output, in 0.01 dBm. -/
def State.predOut (s : State) (i : TickIn) (d : Dir) (t : Nat) : Option Int :=
  let open_ := (s.enabled d).filter (fun n => s.slotOpen d n)
  if open_ = [] then none
  else
    let sum := open_.foldl (fun a n => a + linOfDb (qOfCenti (poutOf (brIn (meters i (slotKey d n)) t) + s.gTx d t))) 0
    some (centiOfQ (dbOfLin sum))

/-- LANE_RED of a branch after a tick. -/
def redStep (red top : Int) (pred : Option Int) : Int :=
  match pred with
  | none => maxI 0 (red - 10)
  | some p => if top < p then red + (p - top) else if p ≤ top - 100 then maxI 0 (red - 10) else red

def State.laneRedStep (s : State) (i : TickIn) (d : Dir) : State :=
  let g := s.govDir d
  let ts := s.txBr d
  let p (t : Nat) := if ts.contains t then s.predOut i d t else none
  let red (t : Nat) (r : Int) := if ts.contains t then redStep r (s.lock.outMax (laneOf d t)) (p t) else 0
  let over_ (t k : Nat) : Nat := match p t with
    | some x => if s.lock.outMax (laneOf d t) + 100 < x then min 255 (k + 1) else 0
    | none => 0
  let g1 := { g with pred0 := p 0, pred1 := p 1, red0 := red 0 g.red0, red1 := red 1 g.red1, over0 := over_ 0 g.over0, over1 := over_ 1 g.over1 }
  let new0 := g.red0 = 0 && g1.red0 != 0
  let new1 := g.red1 = 0 && g1.red1 != 0
  let s := s.setGovDir d g1
  let s := if new0 then (s.raise (15 + d.num) 21).lockActs 3 (laneOf d 0) 4 else s
  if new1 then (s.raise (15 + d.num) 21).lockActs 3 (laneOf d 1) 4 else s

/-! ### L3's measurement (R189, R190, R197) -/

/-- A millisecond of a downlink slot ends with these mean powers of its branches (R190): the greater is its 1 ms mean; a mean of a running branch at or
above DONOR_MIN is a sign of the donor; while the donor is lost the means are kept, each with whether a TDD slot's reference tracks. -/
def State.donorMs (s : State) (g : Nat) (r : GovRec) (m0 m1 : Nat) : GovRec :=
  let n := s.govSlot .dl g
  let mean (b : Nat) : Nat := if b = 0 then m0 else m1
  let top := (s.rxBr .dl).foldl (fun a b => max a (mean b)) 0
  let tracked := !s.slotTdd .dl n || (match s.slotRef .dl n with | some k => (s.trk k).st = 2 | none => false)
  { r with meas := Signal.meterDb top, acc := 0, acc1 := 0
           donorHigh := if s.donorMin g ≤ Signal.meterDb top then some s.now else r.donorHigh
           means := if r.donorOk then [] else ((top, tracked) :: r.means).take 1000 }

/-- The rise, or the 1 ms mean of PIN over ten ticks; source 26 when L3 reaches its lower limit with the rise at its limit. -/
def State.l3Measure (s : State) (i : TickIn) (d : Dir) (g : Nat) : State :=
  let n := s.govSlot d g
  let r := s.govRec d g
  match d with
  | .ul =>
    let rise := s.noiseRise d n (s.slotRec d n).gain
    let j := lawIndex d g 3
    let lim := s.lawEn d g 3 && decide (s.lawOutput j ≤ (s.loop.law j).fieldOf j 9) && decide (s.l3Limit d g ≤ rise)
    (s.setGov d g { r with meas := centiOfQ rise, floorLimit := lim, floorAt := if lim && r.floorLimit then r.floorAt else s.now }).raiseIf
      (lim && !r.floorLimit) 16 26
  | .dl =>
    let x := meters i (slotKey d n)
    let a0 := r.acc + Signal.tickMean x.br0.inBlocks
    let a1 := r.acc1 + Signal.tickMean x.br1.inBlocks
    s.setGov d g (if s.now / tickTime % 10 = 0 then s.donorMs g r (a0 / 10) (a1 / 10) else { r with acc := a0, acc1 := a1 })

/-- A mute's cause is present at this tick (R194). -/
def State.causeNote (s : State) (d : Dir) : State :=
  let s := match (s.govDir d).mute with
    | some c => if s.causeAbsent d 0 c then s else s.setGovDir d { s.govDir d with causeAt := some s.now }
    | none => s
  (s.govsOn d).foldl (fun s g => match (s.govRec d g).mute with
    | some c => if s.causeAbsent d (s.govSlot d g) c then s else s.setGov d g { s.govRec d g with causeAt := some s.now }
    | none => s) s

/-! ### The core-voltage law (R218, R219) -/

/-- M_TARGET (R332). -/
def State.mTarget (s : State) : Nat := clampN 16 48 (s.fld Reg.SUPPLY_VCORE_TGT 0 7)

/-- The command in whole mV, as VCORE_STAT shows it, and the command itself in 2^-16 mV (R218; DESIGN CHOICE, log entry 80). -/
def State.vcoreCmd (s : State) : Nat := s.stF Reg.LOOP_VCORE_STAT 0 12
def State.vcoreQ (s : State) : Nat := s.vcoreCmd * 65536 + s.loop.cmdFrac

/-- SUPPLY takes a command in 2^-16 mV. -/
def State.setVcore (s : State) (q : Nat) : State :=
  { s with loop := { s.loop with cmdFrac := q % 65536 } }.setStF Reg.LOOP_VCORE_STAT 0 12 (q / 65536)

/-- 0.85 V in the unit of the command. -/
def vcoreTop : Nat := 850 * 65536

/-- The core-voltage instance takes the steps of the tick that ended into i, up to I_HI; with no direction running it holds i at 0. -/
def State.vcoreStart (s : State) (run : Bool) : State :=
  let x := s.loop.law 160
  let x1 := { x with i := if run then minI (x.fieldOf 160 8) (x.i + s.loop.emergency) else 0 }
  { s with loop := { s.loop.setLaw 160 x1 with emergency := 0, lawsAtLatch := NMap.put (fun _ => {}) s.loop.lawsAtLatch 160 x1 } }

/-- The core-voltage instance at a tick, and the command it issues. -/
def State.vcoreTick (s : State) (i : TickIn) : State × Bool :=
  let run := s.anyRunning
  let floor := s.vFloor
  let e0 := (i.mTick : Int) - s.mTarget
  let e := if s.fld Reg.LOOP_VCORE_CFG 16 16 < s.stF Reg.LOOP_TIMING 0 16 then minI e0 (-4) else e0
  let (s2, sat) := if run then (s.vcoreStart run).runLaw 160 .free (e * 65536) floor 0 else (s.vcoreStart run, false)
  let commits := s.lawComputes 160 && !s.engineOut
  let s2 := { s2 with loop := { s2.loop with hold085 := s.loop.hold085 && !commits, prevHold := s.loop.hold085, prevCmd := s.vcoreQ } }
  let own : Int := if run then (s2.loop.law 160).out else floor
  let cmd : Nat := if s2.vcoreHeld then vcoreTop else if run && !commits then s.vcoreQ else own.toNat
  let steps := s.stF Reg.LOOP_VCORE_STAT 24 8
  let s2 := s2.setSt Reg.LOOP_VCORE_STAT (min 127 i.mTick * 65536 + ofBool (s.loop.emergency != 0) * 2 ^ 23 + steps * 2 ^ 24)
  let s2 := s2.setVcore cmd
  let s2 := s2.setSt Reg.SUPPLY_VCORE_MEAS (min 1023 i.vcore + (rneDiv floor 65536).toNat % 1024 * 65536)
  let top := run && decide (vcoreTop ≤ cmd) && decide (i.mTick < s.mTarget)
  ({ s2 with loop := { s2.loop with atTop := top } }.raiseIf (top && !s.loop.atTop) 23 9, sat)

/-! ### Auxiliary laws (R201) -/

/-- The value of an auxiliary source as an integer. -/
def State.auxSource (s : State) (src : Nat) : Nat :=
  if src < 40 then s.hkRes src % 65536 / 16 else if src = 40 then bitsAt s.deviceMargin 0 7 else 0

def State.auxTick (s : State) (j : Nat) : State × Bool :=
  let x := s.loop.law j
  let src := s.auxSource (bitsAt (x.fieldWord j 11) 3 8)
  s.runLaw j .free (x.fieldOf j 12 - (src : Int) * 65536) 0 0

end Sys2Proof.Machine
end

