-- ==== Sys2Proof/Machine/CheckCodes.lean ====
section
/-! DEFINITION. The reason codes of the consistency check (R102), evaluated on a configuration. -/

namespace Sys2Proof.Machine

/-- A code that fails when its condition holds. -/
def failsIf (c : Bool) (code : Nat) : List Nat := if c then [code] else []

/-- Directions in use: those with an enabled slot. -/
def State.needed (s : State) : List Dir := dirs.filter (fun d => !(s.enabled d).isEmpty)

/-! ### Slots (class 0x01, 0x0701) -/

/-- The passband reaches outside 191.52–791.52 MHz. -/
def State.bandOut (s : State) (d : Dir) (n : Nat) : Bool :=
  decide ((s.ifBand d n).1 < 191520 * khz) || decide (791520 * khz < (s.ifBand d n).2)

/-- Two open bands overlap. -/
def bandsMeet (a b : Int × Int) : Bool := decide (a.1 < b.2) && decide (b.1 < a.2)

/-- Two different enabled slots of a direction overlap. -/
def State.slotsMeet (s : State) (d : Dir) : Bool :=
  (s.enabled d).any (fun m => (s.enabled d).any (fun n => decide (m < n) && bandsMeet (s.ifBand d m) (s.ifBand d n)))

def trimBad (t : Int) : Bool := decide (t < -600) || decide (600 < t)

/-- A branch trim outside ±6.00 dB, of either branch as written. -/
def State.trimsBad (s : State) (d : Dir) (n : Nat) : Bool :=
  trimBad (s.fldS (Reg.CHAN_SLOT_TRIM d n) 0 16) || trimBad (s.fldS (Reg.CHAN_SLOT_TRIM d n) 16 16)

/-- The reference of a TDD slot, where it has one that is loaded (R252, R256). -/
def State.tddRef (s : State) (d : Dir) (n : Nat) : Option Nat :=
  match s.slotRef d n with
  | none => none
  | some r =>
    let timed := match d with
      | .dl => true
      | .ul => (s.enabled .dl).any (fun m => s.slotRef .dl m = some r) || s.refTsrc r != 0
    if s.refLen r = 0 || !timed then none else some r

def State.forcedBad (s : State) (d : Dir) (n : Nat) : Bool :=
  s.probeMode d n = 2 && (decide (s.probeForced d n < -30) || decide (-12 < s.probeForced d n))

def State.codesSlot (s : State) (d : Dir) (n : Nat) : List Nat :=
  failsIf (s.bandOut d n) 0x0101 ++ failsIf (n != 16 && decide (191 < s.slotResp d n)) 0x0103 ++ failsIf (s.trimsBad d n) 0x0105 ++
    failsIf (s.slotTdd d n && (s.tddRef d n).isNone) 0x0106 ++ failsIf (s.forcedBad d n) 0x0109 ++
    failsIf (!s.lock.allows (rfBand (s.rd (loFreqReg d)) (bitAt (s.rd (loCtrlReg d)) 1) (s.ifBand d n))) 0x0701

/-! ### Governors (class 0x02, 0x0702–0x0704) -/

def outside (lo hi : Nat) (x : Nat) : Bool := decide (x < lo) || decide (hi < x)

/-- VEL, ACC or JERK outside its range (R185). -/
def State.profileBad (s : State) (d : Dir) (g : Nat) : Bool :=
  outside 1 10000 (s.fld (Reg.GOV_PROFILE_VA d g) 0 16) || outside 1 50000 (s.fld (Reg.GOV_PROFILE_VA d g) 16 16) ||
    outside 1 50000 (s.fld (Reg.GOV_PROFILE_J d g) 0 16)

/-- A target plus a branch trim exceeds the locked maximum gain: with a trim of 0.00 dB that is 0x0702's case alone, as in the example of R102. -/
def State.trimmedOver (s : State) (d : Dir) (n : Nat) : Bool :=
  [0, 16].any (fun b =>
    let t := s.fldS (Reg.CHAN_SLOT_TRIM d n) b 16
    decide (t ≠ 0) && decide (s.lock.gainMax d < s.target d (govOf n) + t))

def State.codesGov (s : State) (d : Dir) (n : Nat) : List Nat :=
  let g := govOf n
  failsIf (decide (s.target d g < 0) || decide (9500 < s.target d g)) 0x0201 ++ failsIf (decide (s.l1Margin d g < 1000)) 0x0202 ++
    failsIf (s.profileBad d g) 0x0203 ++ failsIf (s.fld (Reg.GOV_CTRL d g) 0 5 != 31) 0x0204 ++
    failsIf (d = .ul && s.fld (Reg.GOV_L3_CFG d g) 0 16 = 0) 0x0205 ++
    failsIf (decide (s.lock.gainMax d < s.target d g)) 0x0702 ++ failsIf (s.trimmedOver d n) 0x0703 ++
    failsIf ((s.txBr d).any (fun t => decide (s.lock.outMax (laneOf d t) < s.l2Limit d g))) 0x0704

/-! ### Sync (0x0108, class 0x04, 0x0705) -/

/-- References that enabled slots of a direction name, one entry a slot. -/
def State.refsOf (s : State) (d : Dir) : List Nat := (s.enabled d).filterMap (fun n => s.slotRef d n)

/-- A second sync reference of a TDD bypass direction (R53). -/
def State.secondRef (s : State) (d : Dir) : Bool :=
  s.slotEn d 16 && s.slotTdd d 16 && (match s.divField d with | some r => s.slotRef d 16 != some r | none => false)

/-- Frame timing from a pin that is disabled (R256). -/
def State.pinOff (s : State) (r : Nat) : Bool :=
  (s.refTsrc r = 1 && !bitAt (s.rd Reg.SYNC_TDD_IN_CFG) 0) || (s.refTsrc r = 2 && !bitAt (s.rd Reg.SYNC_PPS_CFG) 0)

/-- Transmit samples of a schedule's period, and the period: 0 of 1 without windows. -/
def State.refShare (s : State) (d : Dir) (r : Nat) : Nat × Nat :=
  if s.refPeriod r = 0 || s.malformed r then (0, 1) else ((s.portions r d).foldl (fun a e => a + (e.2 - e.1)) 0, s.refPeriod r)

/-- The configured transmit share of a direction exceeds the locked duty; across references the sum, capped at 100 %. -/
def State.shareOver (s : State) (d : Dir) : Bool :=
  let refs := ((s.enabled d).filterMap (fun n => if s.slotTdd d n then s.tddRef d n else none)).eraseDups
  let (a, b) := refs.foldl (fun x r => let y := s.refShare d r; (x.1 * y.2 + y.1 * x.2, x.2 * y.2)) (0, 1)
  decide (s.lock.dutyMax d * b < min a b * 10000)

def State.codesSync (s : State) (d : Dir) : List Nat :=
  let refs := s.refsOf d
  failsIf (s.secondRef d) 0x0108 ++ failsIf (decide (4 < refs.length)) 0x0401 ++
    failsIf (refs.any (fun r => decide (s.refLen r < 128))) 0x0402 ++ failsIf (refs.any s.pinOff) 0x0403 ++
    failsIf (s.shareOver d) 0x0705

/-! ### Hardware (0x0502, class 0x06, class 0x08) -/

/-- A lane retired by its converters or by CORE (R30, R354). -/
def State.rxGone (s : State) (l : Nat) : Bool := s.isRetired 7 l || s.isRetired 23 l || s.isRetired 9 (l + 4)
def State.txGone (s : State) (l : Nat) : Bool := s.isRetired 8 l || s.isRetired 23 (l + 4) || s.isRetired 9 l

/-- The channels of both regular sequences (R314, R328). -/
def State.regularChannels (s : State) : List Nat :=
  (List.range (seqLen (s.rd Reg.HK_CTRL_A))).map (fun e => s.fld (Reg.HK_SEQ_A e) 0 6) ++
    (List.range (seqLen (s.rd Reg.HK_CTRL_B))).map (fun e => s.fld (Reg.HK_SEQ_B e) 0 6)

/-- TEMP values of a lane's PA table rise strictly. -/
def State.tableRises (s : State) (l : Nat) : Bool :=
  (List.range 15).all (fun i => decide ((s.paPoint l i).1 < (s.paPoint l (i + 1)).1))

def State.codesHw (s : State) (d : Dir) : List Nat :=
  let tx := (s.txBr d).map (laneOf d)
  failsIf (s.loEn d && outside 400000 6000000 (s.rd (loFreqReg d))) 0x0502 ++
    failsIf (tx.any (fun l => !s.hasTable l || !s.tableRises l)) 0x0602 ++
    failsIf (tx.any (fun l => s.hasTable l && !s.regularChannels.contains (s.detInput l))) 0x0603 ++
    failsIf ((s.rxBr d).any (fun b => s.rxGone (laneOf d b))) 0x0801 ++ failsIf (tx.any s.txGone) 0x0802 ++
    failsIf ((s.needsSyn d).any (fun y => s.isRetired 6 (synNum y))) 0x0803 ++ failsIf (s.isRetired 14 (34 + d.num)) 0x0805

/-! ### The rest -/

/-- A trace node that does not exist (R222). -/
def nodeBad (w : Nat) : Bool :=
  let inst := bitsAt w 0 8
  let kind := bitsAt w 8 4
  (decide (kind ≤ 7) && decide (191 < inst)) || (decide (8 ≤ kind) && decide (kind ≤ 10) && decide (159 < inst)) ||
    ((kind = 11 || kind = 12) && decide (3 < inst))

def State.nodesBad (s : State) : Bool :=
  [0, 1, 2, 3].any (fun u => [s.rd (Reg.LOOP_TR_NODE01 u), s.rd (Reg.LOOP_TR_NODE23 u), s.rd (Reg.LOOP_TR_NODE45 u),
    s.rd (Reg.LOOP_TR_NODE67 u)].any (fun w => nodeBad (bitsAt w 0 16) || nodeBad (bitsAt w 16 16)))

/-- A PA sequence time below its minimum (R231). -/
def State.paTimesBad (s : State) : Bool :=
  decide (s.fld Reg.FRONT_PA_SEQ_ON 0 10 < 10) || decide (s.fld Reg.FRONT_PA_SEQ_ON 10 10 < 5) ||
    decide (s.fld Reg.FRONT_PA_SEQ_ON 20 10 < 10) || decide (s.fld Reg.FRONT_PA_SEQ_OFF 0 10 < 5) ||
    decide (s.fld Reg.FRONT_PA_SEQ_OFF 10 10 < 5)

/-- Configured regions and pattern slots, in units of 4 KiB. -/
def State.spans (s : State) : List (Nat × Nat) :=
  (regionNums.map (fun n => (s.fld (Reg.BOG_REG_BASE n) 0 22, s.fld (Reg.BOG_REG_SIZE n) 0 23)) ++
    patNums.map (fun p => (s.fld (Reg.BOG_PAT_BASE p) 0 22, s.fld (Reg.BOG_PAT_SIZE p) 0 23))).filter (fun e => e.2 != 0)

/-- Some two spans of a list overlap. -/
def spansMeet : List (Nat × Nat) → Bool
  | [] => false
  | e :: t => t.any (fun f => overlap e.1 e.2 f.1 f.2) || spansMeet t

def State.spansBad (s : State) : Bool :=
  spansMeet s.spans || decide (4194304 < s.spans.foldl (fun a e => a + e.2) 0) || s.spans.any (fun e => decide (4194304 < e.1 + e.2))

/-- The two-wire address of a base and straps (R383). -/
def State.twbAddr (s : State) : Nat := s.fld Reg.TWB_ADDR_CFG 3 4 * 8 + s.twb.strap % 8

def State.twbBad (s : State) : Bool := hostDisables s.twbAddr || s.twbAddr = s.fld Reg.TWB_ADDR_CFG 8 7

/-- The page in MRAM differs from its mirror. -/
def LockState.differs (l : LockState) : Bool := l.page != l.mram

def State.codesDevice (s : State) : List Nat :=
  failsIf (decide (192 < (lawNums.filter (fun j => s.lawEnabled j)).length)) 0x0301 ++
    failsIf (lawNums.any (fun j => (s.loop.law j).inverted j)) 0x0302 ++ failsIf s.nodesBad 0x0303 ++ failsIf s.paTimesBad 0x0601 ++
    failsIf (!s.lock.ue.isEmpty || s.lock.differs) 0x0706 ++ failsIf (s.isRetired 18 0 && s.isRetired 18 1) 0x0804 ++
    failsIf (s.isRetired 17 192) 0x0805 ++ failsIf s.spansBad 0x0901 ++
    failsIf (patNums.any (fun p => decide (3 < s.fld (Reg.BOG_PAT_CFG p) 12 3))) 0x0902 ++ failsIf s.twbBad 0x0B01

/-- The codes of one direction in use. -/
def State.codesDir (s : State) (d : Dir) : List Nat :=
  (s.enabled d).flatMap (fun n => s.codesSlot d n ++ s.codesGov d n) ++ failsIf (s.slotsMeet d) 0x0102 ++
    failsIf (s.slotEn d 16 && decide (1 < (s.enabled d).length)) 0x0104 ++
    failsIf ((s.enabled d).all (fun n => !s.slotElig d n)) 0x0107 ++ s.codesSync d ++ s.codesHw d

/-- Every failing code, once each (R100, R102). -/
def State.checkCodes (s : State) : List Nat := (s.needed.flatMap (fun d => s.codesDir d) ++ s.codesDevice).eraseDups

/-- The lowest failing code, the count, and the classes (R100, R103). -/
def lowestCode : List Nat → Nat
  | [] => 0
  | c :: t => t.foldl min c

def codeClasses (l : List Nat) : Nat := packBits 16 (fun i => l.any (fun c => c / 256 = i))

end Sys2Proof.Machine
end

