-- ==== Sys2Proof/Machine/SynthOps.lean ====
section
/-! DEFINITION. Lock sequences of the synthesisers (R119, R120), realignment (R29), and what a loss of lock does (R121). -/

namespace Sys2Proof.Machine

/-! ### Realignment (R29) -/

/-- A realignment of a running direction starts, which breaks its capture streams (R293); a second cause merges into the running
one. -/
def State.realignStart (s : State) (d : Dir) : State :=
  let r := s.dirRec d
  if !r.running || r.realign then s
  else
    let s := (s.breakStreams false (fun n => s.regDir n = d)).markDir d
    (s.setDir d { s.dirRec d with realign := true, realignDue := false }).bumpF Reg.CORE_ALIGN_COUNT (16 * d.num) 16 1

/-! ### The calibration cache (R119) -/

def State.cache (s : State) (y : Syn) : List CacheEntry :=
  match y with | .c => s.syn.cacheC | .d => s.syn.cacheD | .u => s.syn.cacheU

def State.setCache (s : State) (y : Syn) (l : List CacheEntry) : State :=
  match y with
  | .c => { s with syn := { s.syn with cacheC := l } }
  | .d => { s with syn := { s.syn with cacheD := l } }
  | .u => { s with syn := { s.syn with cacheU := l } }

/-- The key of a synthesiser's entries: REF_SEL, or its FREQ value. -/
def State.synKey (s : State) (y : Syn) : Nat :=
  match y with
  | .c => s.fld Reg.SYN_REF_SEL 0 2
  | .d => s.rd Reg.SYN_LOD_FREQ
  | .u => s.rd Reg.SYN_LOU_FREQ

/-- The modelled junction temperature of the synthesisers (region 4). -/
def State.synTemp (s : State) : Int := s.regionT 4

/-- Is an entry a hit? -/
def State.cacheHit (s : State) (y : Syn) (e : CacheEntry) : Bool :=
  e.key = s.synKey y && decide ((e.temp - s.synTemp).natAbs ≤ 4000)

/-- A list of entries with one more: it becomes the most recently used and replaces the least recently used of sixteen. An older
entry of the same key goes, whatever its temperature: R62 and R67 rewrite "the entry" (DESIGN CHOICE, log entry 47). -/
def addEntry (e : CacheEntry) (l : List CacheEntry) : List CacheEntry := (e :: l.filter (fun x => x.key != e.key)).take 16

/-- The entry that a band calibration of synthesiser y makes now. -/
def State.newEntry (s : State) (y : Syn) (b : BandCal) : CacheEntry := { key := s.synKey y, cal := b, temp := s.synTemp }

def State.cacheAdd (s : State) (y : Syn) (b : BandCal) : State := s.setCache y (addEntry (s.newEntry y b) (s.cache y))

/-- The entry is made and its write asked for (R120 step 3, R36). -/
def State.cacheWrite (s : State) (y : Syn) (b : BandCal) : State :=
  (s.cacheAdd y b).mramWrite (.cache (.entry y (s.newEntry y b)))

/-- What the calibration cache in MRAM holds once a write of precedence 5 has ended (R36). -/
def SynState.save (y : SynState) (c : CacheJob) : SynState :=
  match c with
  | .entry .c e => { y with savedC := addEntry e y.savedC }
  | .entry .d e => { y with savedD := addEntry e y.savedD }
  | .entry .u e => { y with savedU := addEntry e y.savedU }
  | .clear => { y with savedC := [], savedD := [], savedU := [] }
  | _ => y

/-- The converters' records likewise (R118). -/
def ConvState.save (v : ConvState) (c : CacheJob) : ConvState :=
  match c with
  | .record l =>
    if l < 4 then { v with rxSaved := BitVec.ofNat 4 (putBits v.rxSaved.toNat l 1 1) }
    else { v with txSaved := BitVec.ofNat 4 (putBits v.txSaved.toNat (l - 4) 1 1) }
  | _ => v

/-- Entry i of synthesiser y reads back uncorrectable: it is discarded, and a lookup that was using it counts as a miss (R119). -/
def State.cacheDrop (s : State) (y : Syn) (i : Nat) : State :=
  match (s.cache y)[i]? with
  | none => s
  | some e =>
    let r := s.synRec y
    let s := s.setCache y ((s.cache y).eraseIdx i)
    if r.busy && !r.calibrating && r.band = some e.cal then
      (s.setSyn y { r with calibrating := true, band := none, found := false }).bumpF Reg.SYN_CACHE_STAT 24 8 1
    else s

/-! ### The lock sequence (R120) -/

/-- The synthesiser of a direction is wanted: its LO_EN is 1 (R108); SYN_C always. -/
def State.synWanted (s : State) (y : Syn) : Bool :=
  match y with | .c => true | .d => s.loEn .dl | .u => s.loEn .ul

/-- What keeps a lock sequence from starting: a unit out of service, no reference, or SYN_C unlocked. -/
def State.synCan (s : State) (y : Syn) : Bool :=
  !s.isOut 6 (synNum y) && s.synWanted y &&
    (match y with | .c => s.syn.refPresent && s.syn.refOk | _ => s.syn.c.locked)

/-- Step 1: the output goes off, and the lookup chooses step 2 or 3. -/
def State.lockStart (s : State) (y : Syn) : State :=
  let off : SynRec := { s.synRec y with locked := false, busy := false, calibrating := false, found := false }
  if !s.synCan y then s.setSyn y off
  else match (s.cache y).find? (s.cacheHit y) with
    | some e =>
      (s.setSyn y { off with busy := true, band := some e.cal }).setCache y (e :: (s.cache y).filter (fun x => x != e))
    | none => (s.setSyn y { off with busy := true, calibrating := true, band := none }).bumpF Reg.SYN_CACHE_STAT 24 8 1

def State.synOff (s : State) (y : Syn) : State :=
  s.setSyn y { s.synRec y with locked := false, busy := false, calibrating := false }

/-- SYN_C relocks, and then SYN_D and SYN_U. -/
def State.relockAll (s : State) : State := ((s.synOff .d).synOff .u).lockStart .c

/-- LOCK_TIME of a synthesiser. -/
def State.lockTime (s : State) (y : Syn) (us : Nat) : State := s.setStF Reg.SYN_LOCK_TIME (10 * synNum y) 10 (min 1023 us)

/-- Step 3 has ended: the output is on, and behind a step 2 the cache entry is written (R120). -/
def State.lockEnd (s : State) (y : Syn) (us : Nat) : State :=
  let r := s.synRec y
  let s := (s.setSyn y { r with locked := true, busy := false, calibrating := false, found := false }).lockTime y us
  match r.band with
  | some b => if r.found then s.cacheWrite y b else s
  | none => s

/-- A synthesiser reaches lock; behind SYN_C the LO synthesisers start. -/
def State.lockReached (s : State) (y : Syn) (us : Nat) : State :=
  let s := s.lockEnd y us
  match y with
  | .c => (s.lockStart .d).lockStart .u
  | _ => s

/-- A lock as a start finds it: a lookup, then lock after so many µs or none (R57, R65). -/
def State.lockAtStart (s : State) (y : Syn) (l : LockUs) (band : BandCal) : State :=
  let s := s.lockStart y
  if !(s.synRec y).busy then s
  else match l with
    | none => s
    | some us =>
      let s := if (s.synRec y).calibrating then s.setSyn y { s.synRec y with band := some band, found := true } else s
      s.lockEnd y us

/-- Running directions whose synthesisers have locked again are realigned (R121). -/
def State.realignDueNow (s : State) : State :=
  dirs.foldl (fun s d =>
    if (s.dirRec d).realignDue && s.awaited d.bit = 0 then s.realignStart d else s) s

/-! ### Calibration of the converters (R118) -/

/-- A lane's calibration record is made, and its write asked for. -/
def State.recordMade (s : State) (tx : Bool) (l : Nat) : State :=
  let set (x : BitVec 4) := BitVec.ofNat 4 (putBits x.toNat l 1 1)
  let c := if tx then { s.conv with txRecords := set s.conv.txRecords } else { s.conv with rxRecords := set s.conv.rxRecords }
  { s with conv := c }.mramWrite (.cache (.record (if tx then l + 4 else l)))

/-- CAL_DONE of every lane, and RXC sources 8–11 or TXC sources 4–7 for the lanes of `fail`: receive in bits 0–3, transmit in bits
4–7. -/
def State.calDone (s : State) (rx tx : BitVec 4) (fail : BitVec 8) : State :=
  let s := { s with conv := { s.conv with rxCal := rx, txCal := tx } }
  let s := laneNums.foldl (fun s l => s.raiseIf (fail.getLsbD l) 7 (8 + l) (some l)) s
  laneNums.foldl (fun s l => s.raiseIf (fail.getLsbD (l + 4)) 8 (4 + l) (some l)) s

/-- Foreground calibration: every lane that succeeds gets a record. -/
def State.calibrate (s : State) (fail : BitVec 8) : State :=
  let ok (b : Nat) : BitVec 4 := BitVec.ofNat 4 (packBits 4 (fun l => !fail.getLsbD (l + b)))
  let s := s.calDone (ok 0) (ok 4) fail
  laneNums.foldl (fun s l =>
    let s := if fail.getLsbD l then s else s.recordMade false l
    if fail.getLsbD (l + 4) then s else s.recordMade true l) s

/-- Restore at a wake: a lane is calibrated by its record, where it has one and the restore succeeds. -/
def State.calRestore (s : State) (fail : BitVec 8) : State :=
  let ok (b : Nat) (rec_ : BitVec 4) : BitVec 4 := BitVec.ofNat 4 (packBits 4 (fun l => rec_.getLsbD l && !fail.getLsbD (l + b)))
  s.calDone (ok 0 s.conv.rxRecords) (ok 4 s.conv.txRecords) fail

/-! ### Loss of lock (R121) -/

/-- SYN_C has lost lock: every direction that transmits is muted, running ones are realigned once all have locked again. -/
def State.lossC (s : State) : State :=
  let s := { s with syn := { s.syn with c := { s.syn.c with locked := false, busy := false, calibrating := false } } }
  let s := ((s.synOff .d).synOff .u).markDir .dl |>.markDir .ul
  dirs.foldl (fun s d =>
    let s := if (s.dirRec d).running then s.setDir d { s.dirRec d with realignDue := true } else s
    if s.transmits d then s.muteDir d .lockedSynth else s) s

/-- SYN source 0 and SYS source 11, and what SYN_C's loss does. -/
def State.loseC (s : State) : State := ((s.raise 6 0).raise 0 11).lossC

/-- SYN.STATUS (R123). -/
def State.synStatus (s : State) : Nat :=
  let recs := [s.syn.c, s.syn.d, s.syn.u]
  packBits 3 (fun i => (recs.getD i {}).locked) + 8 * packBits 3 (fun i => (recs.getD i {}).busy)
    + 64 * ofBool (s.syn.timeRuns && !s.syn.c.locked) + 128 * ofBool (s.syn.refPresent && s.syn.refOk)
    + 256 * packBits 3 (fun i => s.isFenced 6 i)

/-- PLAN_D or PLAN_U (R107). -/
def planOf (f : Nat) : Nat :=
  if f < 400000 ∨ 6000000 < f then 0
  else
    let k := if 6000000 ≤ f * 2 then 0 else if 6000000 ≤ f * 4 then 1 else if 6000000 ≤ f * 8 then 2 else 3
    let v := f * 2 ^ (k + 1)
    v % 122880 + v / 122880 * 2 ^ 17 + k * 2 ^ 24

/-- CACHE_STAT with its occupancies. -/
def State.cacheStat (s : State) : Nat :=
  s.syn.cacheC.length + 256 * s.syn.cacheD.length + 65536 * s.syn.cacheU.length + 2 ^ 24 * s.stF Reg.SYN_CACHE_STAT 24 8

end Sys2Proof.Machine
end

