-- ==== Sys2Proof/Machine/Restore.lean ====
section
/-! DEFINITION. Each block's restore procedure for a unit that returns to service (R359, R361): after its quiet period, or by a
reconfiguration. -/

namespace Sys2Proof.Machine

/-- A restored slot starts from D of the current tick, without a ramp, with its chain registers clear; its gate opens at the next tick boundary
(R147), and its generator starts at or below g_cap (R195). -/
def State.restoreSlot (s : State) (d : Dir) (n : Nat) : State :=
  let r := s.slotRec d n
  let s := s.setSlot d n { r with prevGain := r.gain, ramp := { base := r.gain * gainUnit, goal := r.gain }, chain := none }
  let s := s.gateWait d n 5
  let g := govOf n
  s.setGov d g { s.govRec d g with p := f64Min (F64.ofCenti (s.gApp d n)) (s.capF d g), v := F64.zero, a := F64.zero }

/-- A restored lane: its calibration is restored from the cache, then CORE realigns its direction (R117). -/
def State.restoreLane (s : State) (tx : Bool) (l : Nat) : State :=
  let set (x : BitVec 4) := BitVec.ofNat 4 (putBits x.toNat l 1 1)
  let c := if tx then { s.conv with txRestoring := set s.conv.txRestoring }
           else { s.conv with rxRestoring := set s.conv.rxRestoring }
  { s with conv := c }

/-- Restored path estimates are identified afresh, and the slot stays capped until they converge; the cache stays (R35). -/
def State.restoreEcho (s : State) (d : Dir) (n : Nat) : State :=
  let c := (s.echoRec d n).cached
  let s := s.echoStartSlot d n true
  s.setEcho d n { s.echoRec d n with cached := c, capped := true }

/-- A direction's restored ECHO unit: every slot starts from what it held, and stays capped until it converges (R35, R173). -/
def State.restoreEchoes (s : State) (d : Dir) : State :=
  (s.enabled d).foldl (fun s n => s.setEcho d n { s.echoRec d n with capped := true }) (s.echoStart d false)

/-- A restored law instance re-seats at its first computation, as after a close (R214). -/
def State.restoreLaw (s : State) (j : Nat) : State :=
  { s with loop := s.loop.setLaw j { s.loop.law j with reseat := true } }

/-- A restored governor: its mute ends, or its generator starts at or below g_cap (R194, R195). -/
def State.restoreGov (s : State) (d : Dir) (u : Nat) : State :=
  if u = 16 then (if s.dirMuted d then s.unmuteDir d else s)
  else if (s.govRec d u).mute.isSome then s.unmuteSlot d (s.govSlot d u)
  else s.restoreSlot d (s.govSlot d u)

/-- The restored recorder commits a RESTORE record that carries LOST (R380). -/
def State.restorePeat (s : State) : State :=
  let lost := s.peat.lost
  let s := ({ s with peat := { s.peat with out := false } }.raiseIf (lost != 0) 21 13).peatClose 11 0
  { s with peat := { s.peat with lost := 0 } }

/-- The restore procedure of unit u of block b, already back in service. -/
def State.restoreBlock (s : State) (b u : Nat) : State :=
  match b with
  | 6 => s.lockStart (synOf u)
  | 7 => s.restoreLane false u
  | 8 => s.restoreLane true u
  | 9 => if u < 4 then s.restoreLane true u else s.restoreLane false (u - 4)
  | 12 | 13 => if u < 17 then s.restoreSlot (dirOf b) u else s
  | 14 => if u < 34 then s.restoreEcho (keyDir u) (keySlot u) else s.restoreEchoes (dirOf u)
  | 15 | 16 => s.restoreGov (dirOf (b - 15)) u
  | 17 => if u < 192 then s.restoreLaw u else s
  | 19 => if u < 8 then { s with bog := { s.bog with trained := BitVec.ofNat 8 (putBits s.bog.trained.toNat u 1 1) } } else s
  | 21 => s.restorePeat
  | 23 => if u < 4 then s.restoreLane false u
          else if u < 8 then s.restoreLane true (u - 4)
          else if 10 ≤ u then s.restoreSlot (dirOf u) 16 else s
  | _ => s

/-- Unit u of block b is in service again: its handling ends, its restore history stays as given. -/
def State.backInService (s : State) (b u : Nat) (history : List Nat) : State :=
  { s with flt := s.flt.setUnit b u { restores := history } }

/-! ### The end of a severe state (R359, R361) -/

/-- A unit out of service, fenced or retired, that source `src` of block b has a part in. -/
def Flt.holds (f : Flt) (b src : Nat) : Bool :=
  f.units.any (fun e => e.1 / 256 = b && (e.2.st = .fenced || e.2.st = .retired) && bitAt e.2.cause src)

/-- Severe sources of a cause mask that no unit out of service holds any more. -/
def Flt.ended (f : Flt) (b cause : Nat) : List Nat :=
  (List.range 32).filter (fun n => bitAt cause n && (f.source b n).severe && !f.holds b n)

/-- The severe state of a source ends. -/
def Flt.endSevere (f : Flt) (b src : Nat) : Flt := f.setSource b src { f.source b src with severe := false }

/-- A recovered message for a source (R362). -/
def State.recovered (s : State) (b src : Nat) : State :=
  let (x, evs) := enqueue s s.fx b src 2 (s.flt.source b src).total (s.flt.source b src).armed
  (s.withFx x).raiseEvs evs

end Sys2Proof.Machine
end

