-- ==== Sys2Proof/Machine/FrontLock.lean ====
section
/-! DEFINITION. Meanings of the commands of "Front-end control and the regulatory lock": FRONT writes (R247), LNA bypass (R236),
transmit duty (R234), and the lock page (R240–R246). -/

namespace Sys2Proof.Machine

/-! ### FRONT writes (R247) -/

/-- The lane and word that PA_TBL_SEL selects. -/
def State.tableSel (s : State) : Nat × Nat :=
  (s.fld Reg.FRONT_PA_TBL_SEL 0 2, clampN 0 19 (s.fld Reg.FRONT_PA_TBL_SEL 2 5))

/-- Registers that SERVICE_EN = 1 protects. -/
def frontProtected (off : Nat) : Bool :=
  off = 0x44 || off = 0x48 || (decide (0x4C ≤ off) && decide (off ≤ 0x58)) || off = 0x6C || off = 0x70 || off = 0x74 || off = 0x9C

/-- Registers of FRONT that a write reaches. -/
def frontWritable (off : Nat) : Bool :=
  frontProtected off || (decide (0x5C ≤ off) && decide (off ≤ 0x68)) || off = 0x78 || off = 0x98

/-- FRONT_WRITE (R247). -/
def frontWrite (off : Fin 2048) (v : Word) (s : State) : State :=
  let o : Nat := off
  let a := 0x4800 + o
  if !s.regsUp || o % 4 ≠ 0 || !frontWritable o then s
  else
    let (l, w) := s.tableSel
    let old := if o = 0x9C then s.tableWord l w else s.rd a
    let new := if o = 0x9C then v.toNat else ((s.wr a v.toNat).rd a)
    if s.judgeEn && frontProtected o && old != new then
      (s.setSt Reg.FRONT_WRITE_STATUS (2 + o / 4 * 256)).raise 9 21
    else
      let s := s.setSt Reg.FRONT_WRITE_STATUS (o / 4 * 256)
      if o = 0x9C then
        { s with front := { s.front with tables := NMap.put (fun _ => (0 : Word)) s.front.tables (tableKey l w) v } }.touch
      else s.wrc a v.toNat

def execFrontWrite (off : Fin 2048) (v : Word) (s : State) : Host.Outcome State Fault Refusal := done s (frontWrite off v s)

/-! ### LNA bypass (R236) -/

/-- The canceller taps into receive lane l of every slot are scaled, or scaled back. -/
def State.scaleTaps (s : State) (l : Nat) (on : Bool) : State :=
  let d := laneDir l
  (s.enabled d).foldl (fun s n =>
    let r := s.echoRec d n
    s.setEcho d n { r with scaled := BitVec.ofNat 2 (putBits r.scaled.toNat (l % 2) 1 (ofBool on)) }) s

def State.setBypass (s : State) (l : Nat) (on : Bool) : State :=
  { s with front := { s.front with bypass := BitVec.ofNat 4 (putBits s.front.bypass.toNat l 1 (ofBool on)) } }.scaleTaps l on

/-- NEAR_OVER_RANGE (R114, R236): with BYP_EN the bypass is asserted at the first near-over-range signal of a running lane. -/
def nearOverRange (lane : Fin 4) (s : State) : State :=
  let l : Nat := lane
  if s.isUp ∧ s.rxRuns l ∧ bitAt (s.rd (Reg.FRONT_LNA_CFG l)) 16 ∧ !s.front.bypass.getLsbD l then
    ((s.setBypass l true).bumpF Reg.FRONT_BYP_COUNT (8 * l) 8 1).raise 9 l
  else s

def execNearOverRange (lane : Fin 4) (s : State) : Host.Outcome State Fault Refusal := done s (nearOverRange lane s)

/-- LNA_BYPASS_RELEASE (R236): the peak stayed below the release level for BYP_HOLD ms. -/
def lnaBypassRelease (lane : Fin 4) (s : State) : State :=
  s.ifUp (fun s => if s.front.bypass.getLsbD lane then s.setBypass lane false else s)

def execLnaBypassRelease (lane : Fin 4) (s : State) : Host.Outcome State Fault Refusal := done s (lnaBypassRelease lane s)

/-! ### Duty (R234) -/

/-- The duty of one direction in the window just ended: 90 % is reported, an excess mutes. -/
def State.dutyDir (s : State) (d : Dir) (duty : Nat) : State :=
  let top := s.lock.dutyMax d
  let s := s.raiseIf (decide (9 * top < 10 * duty)) 9 (18 + d.num)
  if top < duty ∧ s.transmits d then (s.lockActs 4 d.num 6).muteDir d .lockedDuty else s

/-- A direction's duty is that of its TDD lanes: FDD lanes are not measured (R234). -/
def State.dutyOf (s : State) (d : Dir) (duty : Nat) : Nat :=
  if (s.txBr d).any (fun t => s.laneTdd (laneOf d t)) then clampN 0 10000 duty else 0

/-- DUTY_WINDOW_END (R234): duties in 0.01 %. -/
def dutyWindowEnd (dl ul : Nat) (s : State) : State :=
  s.ifUp (fun s =>
    let a := s.dutyOf .dl dl
    let b := s.dutyOf .ul ul
    ((s.setSt Reg.FRONT_DUTY (a + 65536 * b)).dutyDir .dl a).dutyDir .ul b)

def execDutyWindowEnd (dl ul : Nat) (s : State) : Host.Outcome State Fault Refusal := done s (dutyWindowEnd dl ul s)

/-! ### The lock page (R240–R246) -/

/-- Page offset of an item's field, or none for an unknown item or index (R95, R240). -/
def lockOffset (item index : Nat) : Option Nat :=
  match item with
  | 1 => if index < 32 then some (0x40 + 8 * index) else none
  | 2 => if index < 2 then some (0x10 + 4 * index) else none
  | 3 => if index < 4 then some (0x20 + 4 * index) else none
  | 4 => if index < 2 then some (0x18 + 4 * index) else none
  | 5 => if index = 0 then some 0x0C else none
  | 6 => if index = 0 then some 0x08 else none
  | 7 => if index = 0 then some 0x00 else none
  | _ => none

/-- An unknown item or index, or a range whose upper edge does not exceed its lower edge. -/
def lockMalformed (item index a b : Nat) : Bool := (lockOffset item index).isNone || (item = 1 && decide (b ≤ a))

/-- Present A and B of an item. -/
def LockState.present (l : LockState) (item index : Nat) : Nat × Nat :=
  match lockOffset item index with
  | none => (0, 0)
  | some o => if item = 1 then (l.raw o, l.raw (o + 4)) else if item = 7 then (bitsAt (l.raw o) 0 1, 0) else (l.raw o, 0)

/-- The value as the item takes it: one word, one bit for the lock. -/
def lockValue (item a b : Nat) : Nat × Nat := if item = 1 then (a, b) else if item = 7 then (a % 2, 0) else (a, 0)

/-- "Stricter" (R241). -/
def lockStricter (item : Nat) (old new : Nat × Nat) : Bool :=
  match item with
  | 1 => !(old.1 = 0 && old.2 = 0) && decide (old.1 ≤ new.1) && decide (new.2 ≤ old.2)
  | 2 | 3 | 5 => decide (signedOf 32 new.1 < signedOf 32 old.1)
  | 4 => decide (new.1 < old.1)
  | 6 => old.1 = 1 && new.1 = 0
  | 7 => old.1 = 0 && new.1 = 1
  | _ => false

def putPage (m : NMap Byte) : Nat → List Byte → NMap Byte
  | _, [] => m
  | k, v :: t => putPage (NMap.put lockDelivered m k v) (k + 1) t

/-- Write bytes of the page, in its mirror and in MRAM. -/
def LockState.poke (l : LockState) (off : Nat) (v : List Byte) : LockState :=
  { l with page := putPage l.page off v, mram := putPage l.mram off v }

/-- The page with an item's value replaced. -/
def LockState.setItem (l : LockState) (item index : Nat) (v : Nat × Nat) : LockState :=
  match lockOffset item index with
  | none => l
  | some o =>
    if item = 1 then l.poke o (leBytes 4 v.1 ++ leBytes 4 v.2)
    else if item = 7 then l.poke o (leBytes 4 (putBits (l.raw o) 0 1 v.1))
    else l.poke o (leBytes 4 v.1)

/-- Log entries used: an entry's ITEM is never 0 (R246). -/
def LockState.logUsed (l : LockState) : Nat := ((List.range 64).filter (fun j => l.raw (0x800 + 32 * j) % 65536 != 0)).length

/-- A serving slot's passband would leave the allowed ranges with this page (R241): an enabled slot of any direction (R102). -/
def State.rangeBreaks (s : State) (l : LockState) : Bool :=
  dirs.any (fun d => (s.enabled d).any (fun n =>
    !l.allows (rfBand (s.rd (loFreqReg d)) (bitAt (s.rd (loCtrlReg d)) 1) (s.ifBand d n))))

/-- WR_STATUS of a write without a log entry. -/
def State.lockStatus (s : State) (result item log : Nat) : State :=
  s.setSt Reg.LOCK_WR_STATUS (result + 256 * log + 65536 * item)

/-- RESULT of a write as R241 judges it; 0 is a commit. -/
def State.lockJudge (s : State) (item index a b : Nat) : Nat :=
  if lockMalformed item index a b then 3
  else if s.lock.damaged then 5
  else
    let old := s.lock.present item index
    let new := lockValue item a b
    if old = new then 1
    else if item = 1 && s.judgeEn && s.rangeBreaks (s.lock.setItem item index new) then 4
    else if s.lock.locked && !lockStricter item old new then 2
    else 0

/-- LOCK source of a refusal: 0 host or 1 image for a looser value. -/
def lockSource (result : Nat) (image : Bool) : Option Nat :=
  match result with
  | 2 => some (ofBool image)
  | 3 => some 2
  | 4 => some 3
  | _ => none

/-- The whole page, as entry 5 measures it (R75). -/
def LockState.all (l : LockState) : List Byte := l.bytes 0 4096

/-- Playback to air stops at once when the page forbids it (R49): the return applies, service and "previous" going to LISTEN. -/
def State.airForbidden (s : State) (d : Dir) : State :=
  if s.lock.playAir then s
  else
    let s := match (s.dirRec d).trans with
      | some t => if t.target = DirState.playback && t.toAir s then
          let s := (s.abandonTrans d).raise 0 8
          s.lockActs 6 0 8
        else s
      | none => s
    match s.playing d with
    | none => s
    | some x =>
      if s.dirSt d != .playback || !s.patTransmit x.pattern then s
      else
        let s := ((s.abandonTrans d).raise 0 8).lockActs 6 0 8
        let s := s.raiseIf (decide (4 ≤ s.fld (Reg.BOG_PAT_CFG x.pattern) 12 3)) 0 7
        let to_ : DirState := match s.fld (Reg.BOG_PAT_CFG x.pattern) 12 3 with
          | 1 | 2 | 3 => .listen
          | _ => .standby
        s.beginTrans d { target := to_, cause := 7 }

/-- A value is committed (R242, R246): mirror, log, measurement entry 5, counts, and what acts on it at once. The answer gives the
log entry written, 0xFF for none. -/
def State.lockApply (s : State) (j : LockJob) : State × Nat :=
  let a := j.a.toNat
  let b := j.b.toNat
  let old := s.lock.present j.item j.index
  let new := lockValue j.item a b
  let strict := lockStricter j.item old new
  let used := s.lock.logUsed
  let wasLocked := s.lock.locked
  let l := s.lock.setItem j.item j.index new
  let rec_ := leBytes 2 j.item ++ leBytes 2 j.index ++ leBytes 4 old.1 ++ leBytes 4 old.2 ++ leBytes 4 new.1 ++ leBytes 4 new.2
    ++ leBytes 4 s.peat.opsec ++ leBytes 3 s.peat.pcc ++ leBytes 1 (ofBool (!j.image)) ++ leBytes 4 0
  let l := if used < 64 then l.poke (0x800 + 32 * used) rec_ else l
  let key := lockKey j.item j.index
  let l := if strict then { l with actors := key :: l.actors.filter (· != key), acted := l.acted.filter (· % 65536 != key) } else l
  let s := { s with lock := l }.touch
  let s := s.bumpF 0xE104 0 16 1
  let s := { s with boot := s.boot.setEntry 5 2 4096 (sha256 s.lock.all) }
  let s := s.raiseIf (j.item = 7) 22 4
  let s := s.raiseIf (wasLocked && strict) 22 5
  let s := s.raiseIf (decide (64 ≤ used)) 22 10
  let s := s.peatClose 9 (j.item + 65536 * j.index)
  let s := dirs.foldl (fun s d => s.airForbidden d) s
  (s, if used < 64 then used else 255)

/-- LOCK_COMMIT (R241, R242): a write of WR_CMD. -/
def lockCommit (v : Word) (s : State) : State :=
  if !s.regsUp then s
  else if v.toNat % 65536 ≠ 0x4C4B then s.raise 22 12
  else
    let item := s.fld Reg.LOCK_WR_ITEM 0 16
    let index := s.fld Reg.LOCK_WR_ITEM 16 16
    let a := s.rd Reg.LOCK_WR_A
    let b := s.rd Reg.LOCK_WR_B
    if s.lock.commit.isSome then (s.lockStatus 6 item 255).bump Reg.LOCK_REFUSED 1
    else
      let r := s.lockJudge item index a b
      if r = 0 then
        { s with lock := { s.lock with commit := some { item := item, index := index, a := Word.ofNat a, b := Word.ofNat b, image := false } } }.mramWrite .lock
      else
        let s := s.lockStatus r item 255
        let s := if 2 ≤ r then s.bump Reg.LOCK_REFUSED 1 else s
        match lockSource r false with
        | some n => s.raise 22 n
        | none => s

def execLockCommit (v : Word) (s : State) : Host.Outcome State Fault Refusal := done s (lockCommit v s)

/-- LOCK_COMMIT_COMPLETE (R242): the commit in flight on the MRAM port ends. -/
def lockCommitComplete (s : State) : State :=
  match s.lock.commit with
  | none => s
  | some j =>
    if !s.regsUp || s.mram.inFlight != some .lock then s
    else
      let s := { s with lock := { s.lock with commit := none }, mram := s.mram.finish .lock }
      let (s, log) := s.lockApply j
      s.lockStatus 0 j.item log

def execLockCommitComplete (s : State) : Host.Outcome State Fault Refusal := done s (lockCommitComplete s)

/-- LOCK_PAGE_SCRUB (R244, R245): the page is read from MRAM, once a second and during every full check. -/
def lockPageScrub (f : LockScrubIn) (s : State) : State :=
  s.ifUp (fun s =>
    let s := s.raiseEvs ((f.corr.filter (fun c => decide (c < 128))).map (fun _ => { blk := 22, src := 6 }))
    let s := if f.corr = [] then s else s.mramWrite .lock
    let s := (f.mirror.filter (fun w => decide (w < 512))).foldl (fun s w =>
      let fix (m : NMap Byte) (k : Nat) := NMap.put lockDelivered m k (NMap.get lockDelivered s.lock.mram k)
      { s with lock := { s.lock with page := [4 * w, 4 * w + 1, 4 * w + 2, 4 * w + 3].foldl fix s.lock.page } }.raise 22 9) s
    let new := f.ue.filter (fun c => decide (c < 128) && !s.lock.ue.contains c)
    let s := new.foldl (fun s c =>
      if s.lock.ue.contains c then s
      else { s with lock := { s.lock with ue := c :: s.lock.ue } }.raise 22 (if c < 64 then 7 else 8)) s
    let s := if !f.ue.any (fun c => decide (c < 128)) && !f.mirror.any (fun w => decide (w < 512)) then s else
      match s.sys.check with
      | some c => if c.short then s else { s with sys := { s.sys with check := some { c with codes := c.codes ++ [0x0706] } } }
      | none => s
    dirs.foldl (fun s d => s.airForbidden d) s)

def execLockPageScrub (f : LockScrubIn) (s : State) : Host.Outcome State Fault Refusal := done s (lockPageScrub f s)

end Sys2Proof.Machine
end

