-- ==== Sys2Proof/Machine/Supply.lean ====
section
/-! DEFINITION. Meanings of the commands of "Supply, power and thermal management" that are not the throttle's: VIN (R335–R337, R422),
thermal shutdown and the resume from it (R44, R101, R346, R347), and the MRAM port (R36). -/

namespace Sys2Proof.Machine

/-! ### The MRAM port (R36) -/

/-- What a write of precedence 5 leaves in MRAM once it has ended (R36). -/
def State.saved (s : State) (c : CacheJob) : State := { s with syn := s.syn.save c, conv := s.conv.save c }

/-- The flush on its way stands in the buffer that the latest valid one does not use (R369). -/
def State.flushed (s : State) : State :=
  { s with peat := { s.peat with flush := s.peat.flushNext, flushNext := none, flushA := !s.peat.flushA } }

/-- The emergency codeword stands; after a shutdown the full record follows at precedence 3 (R372). -/
def State.emergencyDone (s : State) : State :=
  let r := s.peat.emergencyNext
  let s := { s with peat := { s.peat with emergency := r, emergencyNext := none }, mram := s.mram.next }
  match r with
  | some e => if e.cause = 4 ∧ s.power = .shutdown then s.peatClose 4 e.detail else s
  | none => s

/-- The write in flight ends, and the port takes the next (R36). -/
def mramWriteComplete (s : State) : State :=
  match s.mram.inFlight with
  | none => s
  | some .emergency => s.emergencyDone
  | some .lock => if s.lock.commit.isSome && s.isUp then lockCommitComplete s else { s with mram := s.mram.next }
  | some .peat => s.recorder Rec.codeword
  | some .flush => { s.flushed with mram := s.mram.next }
  | some (.cache c) => { s.saved c with mram := s.mram.next }
  | some .runState => { s with mram := s.mram.next }.powerDown

def execMramWriteComplete (s : State) : Host.Outcome State Fault Refusal := done s (mramWriteComplete s)

/-! ### Loss of power (R335–R337, R78) -/

/-- A commit of a record is cut off (R337, R377): `flying` says that a codeword of it is in flight and completes. With none of its
codewords standing it never began, with all of them it is complete; else an empty slot stands torn, an old record damaged. -/
def PeatState.cut (p : PeatState) (flying : Bool) : PeatState :=
  let left := p.left - (if flying then 1 else 0)
  match p.writing with
  | some (some r) =>
    if recWords ≤ left then p
    else if left = 0 then (Rec.store { p := p, m := {} } r).p
    else match p.place r with
    | none => p
    | some i =>
      if (p.slot i).kind = 0 then { p with tornSlot := some i }
      else { p with slots := NMap.put (fun _ => {}) p.slots i { p.slot i with body := r.body } }
  | _ => p

/-- Power goes: the write in flight completes (R36), and a commit of a record stands as far as it got. -/
def State.cutOff (s : State) : State :=
  let s := { s with peat := s.peat.cut (decide (s.mram.inFlight = some MramJob.peat)) }
  match s.mram.inFlight with
  | some .emergency => { s with peat := { s.peat with emergency := s.peat.emergencyNext } }
  | some .lock => match s.lock.commit with
    | some j => (s.lockApply j).1
    | none => s
  | some .flush => s.flushed
  | some (.cache c) => s.saved c
  | _ => s

/-- The device is in OFF: pins released, nothing runs; what MRAM holds stays, and the next start is cold (R62). -/
def State.powerOff (s : State) : State :=
  { s with
    power := .off, mram := {}
    peat := { s.peat with writing := none, left := 0, hold := [], emergencyNext := none, flushNext := none }
    pcie := { s.pcie with up := false, gen := 0, width := 0 }
    sys := { s.sys with entering := none, sleepNext := none, pendingReq := none, behind := none, check := none, shortLow := false } }

/-- The power-loss codeword, or the power-loss cause joining a shutdown record's (R347, R372). -/
def PeatState.powerLoss (p : PeatState) (mv : Nat) : PeatState :=
  let shut : Option PeatRec := match p.emergencyNext, p.emergency with
    | some e, _ => if e.cause = 4 then some e else none
    | none, some e => if e.cause = 4 then some e else none
    | _, _ => none
  match shut with
  | some e => { p with emergency := some { e with cflags := e.cflags ||| 1 } }
  | none =>
    let r : PeatRec :=
      { kind := 2, format := 1 + causeSeverity 5 * 16, cause := 5, opsecClose := p.opsec, pcc := p.pcc, opsecLast := p.opsec
        detail := mv % 65536, seq := p.nextSeq }
    { p with emergency := some r }

/-- The hold-up reservoir was charged at the start (R336). -/
def State.holdupOk (s : State) : Bool := bitAt (s.st Reg.SUPPLY_STAT) 2

/-- VIN_WARNING (R336): the sequence, its record, and reset. With the reservoir short, the record and the write in flight may be
torn: which is open (log entry 2). Before STANDBY and in SLEEP the write in flight ends and no record is written (R78, R277). -/
def vinWarning (lowestMv : Nat) (s : State) : State :=
  let s := { s with lev := { s.lev with vinValid := false } }
  match s.power with
  | .off => s
  | .discovery _ | .sleep => s.cutOff.powerOff
  | _ =>
    if s.sys.entering.isSome then s.cutOff.powerOff
    else
      let s := s.raise 1 0
      let (w, s1) := s.fresh
      let record (s : State) : State := { s.cutOff with peat := s.cutOff.peat.powerLoss lowestMv }
      if s.holdupOk then (record s).powerOff
      else if bitAt w.toNat 0 then { s1 with peat := s1.peat.cut false }.powerOff
      else (record s1).powerOff

def execVinWarning (lowestMv : Nat) (s : State) : Host.Outcome State Fault Refusal := done s (vinWarning lowestMv s)

/-- VIN_LOW (R335). -/
def vinLow (s : State) : State := s.raiseIf s.regsUp 1 1
def execVinLow (s : State) : Host.Outcome State Fault Refusal := done s (vinLow s)

/-- VIN_HIGH (R422). -/
def vinHigh (absMax : Bool) (s : State) : State := s.raiseIf s.regsUp 1 (if absMax then 3 else 2)
def execVinHigh (absMax : Bool) (s : State) : Host.Outcome State Fault Refusal := done s (vinHigh absMax s)

/-- VIN_CLR (R348). -/
def vinClr (v : Word) (s : State) : State :=
  s.ifUp (fun s => if bitAt v.toNat 0 then s.setStF Reg.SUPPLY_VIN 16 16 (s.stF Reg.SUPPLY_VIN 0 16) else s)
def execVinClr (v : Word) (s : State) : Host.Outcome State Fault Refusal := done s (vinClr v s)

/-- P_CLR (R348). -/
def pClr (v : Word) (s : State) : State :=
  s.ifUp (fun s => if bitAt v.toNat 0 then s.setStF Reg.SUPPLY_P_IN 16 16 0 else s)
def execPClr (v : Word) (s : State) : Host.Outcome State Fault Refusal := done s (pClr v s)

/-! ### Thermal shutdown (R44, R346) -/

/-- What a direction resumes to (R44). -/
def State.resumeState (s : State) (d : Dir) : DirState :=
  match s.dirSt d with
  | .cautious | .full | .muted => .cautious
  | .listen => .listen
  | .playback => match (s.playing d).elim (s.dirRec d).leftPat (fun x => some x.pattern) with
    | some p => match s.patReturn d p with
      | some .listen => .listen
      | some .cautious => .cautious
      | _ => .standby
    | none => .standby
  | _ => .standby

/-- A direction goes to SHUTDOWN, whatever it was doing (R49). -/
def State.dirShutdown (s : State) (d : Dir) : State :=
  let s := s.abandonTrans d
  let to_ := s.resumeState d
  let s := (s.patStop d).echoHold d
  s.setDir d { s.dirRec d with
    st := .shutdown, resume := to_, after := none, running := false, measured := false, realign := false, realignDue := false, leftPat := none }

/-- Every pending request is refused (R49). -/
def State.refusePending (s : State) : State :=
  let s := match s.sys.pendingReq with
    | some (q, _) => { s with sys := { s.sys with pendingReq := none } }.refuse q 0x0A05 0
    | none => s
  match s.sys.behind with
  | some q => { s with sys := { s.sys with behind := none } }.refuse q 0x0A05 0
  | none => s

/-- DEV of SYS.STATE (R55). -/
def State.devCode (s : State) : Nat :=
  if s.power = .shutdown then 8 else if s.dirSt .dl = .standby ∧ s.dirSt .ul = .standby then 2 else 9

/-- A running check is abandoned (R101): no refusal, SERVICE_EN reads 0. -/
def State.abandonCheck (s : State) : State :=
  match s.sys.check with
  | none => s
  | some _ => { s with sys := { s.sys with check := none, serviceEn := false } }.setStF Reg.CFG_CHECK_STATUS 0 2 3

/-- An entry to SLEEP that has been accepted is overtaken (R49). -/
def State.dropSleep (s : State) : State :=
  match s.sys.sleepNext with
  | some (_, no, tag) => { s.reqEnd no tag 4 with sys := { (s.reqEnd no tag 4).sys with sleepNext := none } }
  | none => s.sleepAbandon

/-- Thermal shutdown begins (R346). -/
def State.shutHot (s : State) (sensed : Bool) : State :=
  if !s.regsUp || s.power = .shutdown then s
  else
    let src := if sensed then 17 else 16
    let from_ := s.devCode
    let s := (s.raise 2 src).bumpF Reg.THERM_SHUT_STAT 0 16 1
    let s := s.setStF Reg.THERM_SHUT_STAT 16 1 (ofBool sensed)
    let s := ((s.abandonCheck).dropSleep).preloadStop
    let s := dirs.foldl (fun s d => s.dirShutdown d) s
    let s := regionNums.foldl (fun s n => s.regHalt n) s
    let s := { s with power := .shutdown, bog := { s.bog with awake := 0 }, therm := { s.therm with resuming := false } }
    let off (r : SynRec) : SynRec := { r with locked := false, busy := false, calibrating := false }
    let s := { s with syn := { s.syn with c := off s.syn.c, d := off s.syn.d, u := off s.syn.u } }
    let s := s.recorder (fun c => c.emergency 4 (64 + src + bitsOf 16 (sat16 s.tMax) * 65536))
    (s.record from_ 8 3 5).refusePending

/-- What begins a shutdown: a modelled T_max of 140 °C, or two consecutive valid readings of 145 °C of one unfenced sensor (R346). -/
def State.tooHot (s : State) (sensed : Bool) : Bool :=
  if sensed then sensorNums.any (fun k => !s.isOut 2 k && decide (2 ≤ NMap.get (fun _ => 0) s.therm.hotReads k)) else decide (14000 ≤ s.tMax)

/-- THERMAL_SHUTDOWN (R346). -/
def thermalShutdown (sensed : Bool) (s : State) : State := if s.tooHot sensed then s.shutHot sensed else s

def execThermalShutdown (sensed : Bool) (s : State) : Host.Outcome State Fault Refusal := done s (thermalShutdown sensed s)

/-- One part of the resume request (R44): the directions that go to one target. It supersedes no other part: one that waits for locks has the
next wait behind it. -/
def State.resumeTo (s : State) (t : Target) (st : DirState) (named : Nat) : State :=
  let scope := packBits 2 (fun i => (s.dirRec (dirOf i)).resume = st && s.dirSt (dirOf i) = .shutdown && !bitAt named i)
  let q : Req := { target := t, scope := scope, tag := 0xFE, cause := 5, isResume := true }
  if scope = 0 then s
  else if (s.sys.pendingReq.map (fun p => p.1.isResume)).getD false then
    { s with sys := { s.sys with serial := s.sys.serial + 1, behind := some { q with no := s.sys.serial + 1 } } }
  else s.request q

/-- Directions that a STANDBY or SLEEP request from the time of SHUTDOWN names. -/
def State.heldScope (s : State) : Nat :=
  match s.sys.pendingReq with
  | some (q, .shutdown) => if q.target = .sleep then 3 else q.scope
  | _ => 0

/-- The request held under R45 is carried out (R44, R449). -/
def State.resumeHeld (s : State) : State :=
  match s.sys.pendingReq with
  | some (q, .shutdown) => { s with sys := { s.sys with pendingReq := none } }.handle { q with cause := 5 }
  | _ => s

/-- SHUTDOWN_RESUME (R44, R346 steps 4 and 5): 60 quiet seconds are over; the synthesisers lock, and the resume is requested with tag 0xFE. -/
def shutdownResume (lockC lockD lockU : LockUs) (s : State) : State :=
  if s.power != .shutdown || decide (s.therm.quiet < 600000) then s
  else
    let s := { s with power := .up, bog := { s.bog with awake := 255 }, therm := { s.therm with resuming := true } }
    let (w, s) := State.freshWide 1 s
    let found : BandCal := { band := w % 256, cap := w / 256 % 256, trim := w / 65536 }
    let s := s.lockAtStart .c lockC found
    let s := (s.lockAtStart .d lockD found).lockAtStart .u lockU found
    let named := s.heldScope
    let s := s.echoForget.resumeHeld
    ((s.resumeTo .standby .standby named).resumeTo .listen .listen named).resumeTo .cautious .cautious named

def execShutdownResume (lockC lockD lockU : LockUs) (s : State) : Host.Outcome State Fault Refusal :=
  done s (shutdownResume lockC lockD lockU s)

end Sys2Proof.Machine
end

