-- ==== Sys2Proof/Machine/Check.lean ====
section
/-! DEFINITION. The consistency check (R46, R63, R66, R99–R101), SERVICE_EN (R361), and what a wake returns to (R47). -/

namespace Sys2Proof.Machine

/-! ### The check set and its digest (R99, R215, R94) -/

/-- RETIRED_UNITS of the blocks that have one away from zero. -/
def Flt.retiredSet (f : Flt) : NMap Word := f.hdr.filter (fun e => e.1 % 0x800 = 0x2C)

/-- The check set as it stands. -/
def State.checkSet (s : State) : CheckSet :=
  { regs := s.cfg.filter (fun e => inCheckSet e.1), laws := s.loop.fieldSet, tables := s.front.tables, page := s.lock.page
    retired := s.flt.retiredSet }

/-- Addresses of the image registers of a window's rows. -/
def imageAddrs (base : Nat) (rows : List RegRow) : List Nat :=
  rows.flatMap (fun r => if r.image then
    (List.range r.count).map (fun i => base + r.off + r.stride * i) else [])

/-- Address and value of each register of the set, in ascending order of the tables' rows. -/
def State.checkRegs (s : State) : List (Nat × Nat) :=
  (List.range 24).flatMap (fun b =>
    (((0x800 * b + 0x2C) :: imageAddrs (0x800 * b) headerRows).mergeSort ++ (imageAddrs (0x800 * b) (blockRows b)).mergeSort).filterMap (fun a =>
      if a = Reg.SYS_SERVICE_EN then none else some (a, if a % 0x800 = 0x2C then s.flt.word a else s.rd a)))

/-- A register as it enters the digest. -/
def digestEntry (e : Nat × Nat) : List Byte := leBytes 2 e.1 ++ leBytes 4 e.2

/-- A law field as it enters the digest: bit 0 of a governor instance's MODE is its LAW_EN bit (R209, R215). -/
def State.lawDigest (s : State) (j f : Nat) : Nat :=
  let w := (s.loop.law j).fieldWord j f
  if f = 11 ∧ j < 160 then putBits w 0 1 (ofBool (s.lawEn (lawDir j) (lawGov j) (j % 5))) else w

def State.lawRegs (s : State) : List (Nat × Nat) :=
  lawNums.flatMap (fun j => (List.range 13).map (fun f => (0xF000 + 0x10 * j + f, s.lawDigest j f)))

def State.tableRegs (s : State) : List (Nat × Nat) :=
  laneNums.flatMap (fun l => (List.range 20).map (fun w => (0xFC00 + 0x80 * l + 4 * w, s.tableWord l w)))

/-- The configuration digest. -/
def State.configDigest (s : State) : Nat :=
  sha256 (s.lock.all ++ (s.checkRegs ++ s.lawRegs ++ s.tableRegs).flatMap digestEntry)

/-! ### Starting a check -/

/-- A check starts: SERVICE_EN reads 1, and the set is snapshotted (R100, R101). -/
def State.startCheck (s : State) (o : Origin) (short : Bool) (tag cause : Nat) : State :=
  let c : Check := { origin := o, short := short, snap := s.checkSet, codes := if short then [] else s.checkCodes, cause := cause, tag := tag }
  { s with sys := { s.sys with serviceEn := true, check := some c } }

/-- CAUSE of what an origin starts (R449). -/
def originCause : Origin → Nat
  | .host => 0
  | .image => 1

/-- Tag of what an origin starts. -/
def originTag : Origin → Nat
  | .host => 0x00
  | .image => 0xFF

/-- A write of SERVICE_EN is held by a wake (R65): REQ_STATUS reads PENDING, and a 0 reads at once (R50). A write of what the register
will hold anyway, the writes held before it done, changes nothing. -/
def State.holdEnable (s : State) (v : Bool) : State :=
  if (s.sys.wakeHeldEn.getLast?).getD s.sys.serviceEn = v then s
  else
    let no := s.sys.serial + 1
    { s with sys := { s.sys with
      wakeHeldEn := s.sys.wakeHeldEn ++ [v], serviceEn := s.sys.serviceEn && v
      serial := no, shown := no, shadow := none, wakeHeldNo := no, reqTag := 0, reqStatus := 1 } }

/-- SERVICE_EN written 1 (R46, R101): ignored while it reads 1, held by a wake (R65). -/
def State.enableService (s : State) (o : Origin) : State :=
  if s.power = .waking then s.holdEnable true
  else if s.power = .off ∨ s.power = .sleep ∨ s.sys.serviceEn then s
  else s.sleepAbandon.startCheck o false (originTag o) (originCause o)

/-- SERVICE_EN_SET (R46). -/
def serviceEnSet (o : Origin) (s : State) : State := s.enableService o
def execServiceEnSet (o : Origin) (s : State) : Host.Outcome State Fault Refusal := done s (serviceEnSet o s)

/-- WAKE_CTRL.RETURN applies as an automatic return (R47, R66): service through the short form while SERVICE_EN is 1, else refused. -/
def State.applyReturn (s : State) : State :=
  if s.fld Reg.SYS_WAKE_CTRL 0 4 != 3 || s.sys.check.isSome then s
  else if s.sys.serviceEn then s.startCheck .host true 0xFD 6
  else
    let scope := packBits 2 (fun i => !(s.enabled (dirOf i)).isEmpty)
    s.request { target := .cautious, scope := if scope = 0 then 3 else scope, tag := 0xFD, cause := 6 }

/-! ### Its end (R100, R101) -/

/-- The check refuses while a request is pending (R45): it is refused with 0x0A06, whatever it waited for; one from the time of SHUTDOWN
stays held. -/
def State.refuseHeld (s : State) : State :=
  match s.sys.pendingReq with
  | some (_, .shutdown) => s
  | some (q, _) => { s with sys := { s.sys with pendingReq := none } }.refuse q 0x0A06 0
  | none => s

/-- A refused check leaves the device in STANDBY (R100): what runs is abandoned, and each direction out of STANDBY goes there with
CAUSE 9 (R449). -/
def State.checkStandby (s : State) : State :=
  dirs.foldl (fun s d => if s.dirSt d = .standby ∧ (s.dirRec d).trans = none then s else (s.abandonTrans d).enterStandby d 9) s

/-- The check refuses: the lowest code, the count and classes, SERVICE_EN cleared; a wake's return falls back (R48). -/
def State.checkRefuses (s : State) (c : Check) (codes : List Nat) : State :=
  let low := lowestCode codes
  let s := { s with sys := { s.sys with check := none, serviceEn := false } }
  let s := s.setSt Reg.SYS_REFUSE_CODE (low + 65536 * c.tag)
  let s := s.setSt Reg.CFG_CHECK_STATUS
    (2 + 4 * ofBool c.short + 256 * min 255 codes.length + 65536 * codeClasses codes)
  let s := s.raiseEvs [{ blk := 0, src := 5, detail := low }]
  let s := s.raiseIf (codes.contains 0x0F02) 0 6
  ((s.raiseIf (c.tag = 0xFD) 0 7).reqEnd c.no c.tag 3).refuseHeld.checkStandby

/-- The check passes: its digest is stored, open law instances close, service starts. -/
def State.checkPasses (s : State) (c : Check) (digest : Nat) : State :=
  let s := { s with sys := { s.sys with check := none }, boot := { s.boot with digest := digest, passed := true } }
  let s := (List.range 8).foldl (fun s w => s.setSt (Reg.CFG_CHECK_DIGEST w) (digestWord digest w)) s
  (s.setSt Reg.CFG_CHECK_STATUS (1 + 4 * ofBool c.short)).lawsPassed.serviceRequest c.tag c.cause

/-- Duration of a check that ends after us µs: a full check behind a short form adds its time (R100). -/
def State.checkUs (s : State) (c : Check) (us : Nat) : Nat := if c.second then s.st Reg.CFG_CHECK_TIME + us else us

/-- The short form found another digest: the full check runs (R100). -/
def State.secondCheck (s : State) (c : Check) : State :=
  let s := (s.raise 3 10).startCheck c.origin false c.tag c.cause
  match s.sys.check with
  | some n => { s with sys := { s.sys with check := some { n with second := true, touched := c.touched } } }
  | none => s

/-- CHECK_COMPLETE (R100): the short form decides by the digest, or gives way to the full check; the full form by its codes and by
what changed while it ran. -/
def checkComplete (us : Nat) (s : State) : State :=
  match s.sys.check with
  | none => s
  | some c =>
    let s := s.setSt Reg.CFG_CHECK_TIME (s.checkUs c us)
    let changed := c.touched || s.checkSet != c.snap
    if c.short then
      if s.boot.passed && s.configDigest = s.boot.digest then
        if c.touched then s.checkRefuses c [0x0F01] else s.checkPasses c s.boot.digest
      else s.secondCheck c
    else
      let codes := c.codes.eraseDups ++ failsIf changed 0x0F01
      if codes = [] then s.checkPasses c s.configDigest else s.checkRefuses c codes

def execCheckComplete (us : Nat) (s : State) : Host.Outcome State Fault Refusal := done s (checkComplete us s)

/-- CHECK_TIMEOUT (R101): 3.0 ms elapsed; 0x0F02 joins the codes that had been found. -/
def checkTimeout (found : List Nat) (s : State) : State :=
  match s.sys.check with
  | none => s
  | some c =>
    let codes := (c.codes.filter (fun x => found.contains x)).eraseDups ++ [0x0F02]
    (s.setSt Reg.CFG_CHECK_TIME (s.checkUs c 3000)).checkRefuses c codes

def execCheckTimeout (found : List Nat) (s : State) : Host.Outcome State Fault Refusal := done s (checkTimeout found s)

/-! ### SERVICE_EN cleared (R50, R101, R361) -/

/-- Units out for good come back, restore histories and counts clear, severe states end silently (R361). -/
def State.returnUnits (s : State) : State :=
  let out := s.flt.units.filter (fun e => s.unitSt (e.1 / 256) (e.1 % 256) = .retired)
  let s := out.foldl (fun s e => (s.backInService (e.1 / 256) (e.1 % 256) []).restoreBlock (e.1 / 256) (e.1 % 256)) s
  let f := out.foldl (fun f e => (f.ended (e.1 / 256) e.2.cause).foldl (fun f n => f.endSevere (e.1 / 256) n) f) s.flt
  let f := { f with units := NMap.mapVal (fun _ => {}) f.units (fun _ r => { r with restores := [] }) }
  { s with flt := (List.range 24).foldl (fun f b =>
      let w := f.word (hdr b 0x2C)
      if w = 0 then f else f.setWord (hdr b 0x2C) (putBits w 0 8 0)) f }

/-- A reconfiguration for Peat (R376, R380): a freeze ends, the interval closes, the layout takes effect. -/
def State.peatReconfig (s : State) : State :=
  let s := { s with peat := { s.peat with frozen := false, freezePending := false } }.recorder Rec.drain
  let s := s.peatClose 7 0
  { s with peat := { s.peat with layout := bitAt (s.rd Reg.PEAT_CFG) 0 } }

/-- SERVICE_EN written 0 while it reads 1: a reconfiguration. -/
def State.reconfigure (s : State) : State :=
  let s := if s.sys.check.isSome then s.abandonCheck.retry (fun w => w = Wait.check)
    else
      let s := { s with sys := { s.sys with serviceEn := false } }.overtakeReturns dirs
      dirs.foldl (fun s d => s.enterStandby d 0) s
  s.returnUnits.peatReconfig

/-- SERVICE_EN_CLEAR (R361). -/
def serviceEnClear (s : State) : State :=
  if s.power = .waking then s.holdEnable false
  else if !s.isUp || !s.sys.serviceEn then s
  else s.reconfigure

def execServiceEnClear (s : State) : Host.Outcome State Fault Refusal := done s (serviceEnClear s)

end Sys2Proof.Machine
end

