-- ==== Sys2Proof/Machine/CoreCmds.lean ====
section
/-! DEFINITION. Meanings of CORE's commands (R28–R30): slips, underflows, realignment and the margin. -/

namespace Sys2Proof.Machine

/-- A slip or an underflow of a FIFO of direction d that names unit u: the event, and a realignment (R29, R30). -/
def State.fifoFault (s : State) (d : Dir) (u : Nat) : State :=
  if s.isUp && (s.dirRec d).running && !s.isOut 23 u then (s.raise 23 u (some u)).realignStart d else s

/-- RX_FIFO_SLIP (R29). -/
def rxFifoSlip (lane : Fin 4) (s : State) : State := s.fifoFault (laneDir lane) lane
def execRxFifoSlip (lane : Fin 4) (s : State) : Host.Outcome State Fault Refusal := done s (rxFifoSlip lane s)

/-- TX_FIFO_UNDERFLOW (R29). -/
def txFifoUnderflow (lane : Fin 4) (s : State) : State := s.fifoFault (laneDir lane) (4 + lane.val)
def execTxFifoUnderflow (lane : Fin 4) (s : State) : Host.Outcome State Fault Refusal := done s (txFifoUnderflow lane s)

/-- REALIGNMENT_COMPLETE (R29): the gate reopens after 256 conversion clocks. -/
def realignmentComplete (d : Dir) (s : State) : State := s.setDir d { s.dirRec d with realign := false }
def execRealignmentComplete (d : Dir) (s : State) : Host.Outcome State Fault Refusal := done s (realignmentComplete d s)

/-- MARGIN_LOW_TIMEOUT (R30): the margin was below one quarter of its target for 1 ms. -/
def marginLowTimeout (s : State) : State := s.raiseIf (s.isUp && (s.sys.dl.running || s.sys.ul.running)) 23 8
def execMarginLowTimeout (s : State) : Host.Outcome State Fault Refusal := done s (marginLowTimeout s)

/-- STAGE_STALL (R30). -/
def stageStall (d : Dir) (s : State) : State := s.raiseIf s.isUp 23 20 (some (8 + d.num))
def execStageStall (d : Dir) (s : State) : Host.Outcome State Fault Refusal := done s (stageStall d s)

/-- VCORE_UPDATE_TIMEOUT (R30): the voltage steps to 0.85 V and holds until updates resume. -/
def vcoreUpdateTimeout (s : State) : State :=
  s.ifUp (fun s => ({ s with loop := { s.loop with hold085 := true } }.setVcore vcoreTop).raise 23 25)
def execVcoreUpdateTimeout (s : State) : Host.Outcome State Fault Refusal := done s (vcoreUpdateTimeout s)

/-- MARGIN_CLR (R29). -/
def marginClr (v : Word) (s : State) : State :=
  s.ifUp (fun s => if bitAt v.toNat 0 then s.setSt Reg.CORE_MARGIN_MIN (s.deviceMargin % 128) else s)
def execMarginClr (v : Word) (s : State) : Host.Outcome State Fault Refusal := done s (marginClr v s)

end Sys2Proof.Machine
end

