-- ==== Sys2Proof/Machine/LawCmds.lean ====
section
/-! DEFINITION. Meanings of the loop engine's commands: fields of a law (R209–R214), and the emergency step of the core voltage
(R219, R332). -/

namespace Sys2Proof.Machine

/-! ### LAW_CMD (R210) -/

/-- INSTANCE and FIELD of LAW_ADDR. -/
def State.lawAddr (s : State) : Nat × Nat := (s.fld Reg.LOOP_LAW_ADDR 0 8, s.fld Reg.LOOP_LAW_ADDR 8 4)

/-- LOOP source that a code counts (R210). -/
def lawCodeSource (code : Nat) : Option Nat :=
  if code = 3 then some 14 else if 2 ≤ code ∧ code ≤ 7 then some 15 else none

/-- A command's outcome: LAW_STATUS and its source. -/
def State.lawDone (s : State) (code : Nat) : State :=
  let (j, f) := s.lawAddr
  let s := s.lawStatus code j f
  match lawCodeSource code with
  | some n => s.raise 17 n
  | none => s

/-- A structural field (R209). -/
def structural (f : Nat) : Bool := decide (6 ≤ f) && decide (f ≤ 11)

/-- Field f of instance j takes writes: AUX_SET of auxiliary instances only. -/
def fieldWritable (j f : Nat) : Bool := decide (f < 12) || (f = 12 && decide (160 < j))

/-- The word that a write stores: reserved bits read zero, and a governor's MODE keeps its ENABLE (R209). -/
def State.lawWord (s : State) (j f v : Nat) : Int :=
  if f = 6 then signedOf 32 (v % 2 ^ 30)
  else if f = 11 then
    if j < 160 then signedOf 32 (bitsAt v 1 2 * 2 + (s.loop.law j).fieldWord j 11 % 2)
    else if j = 160 then (v % 8 : Nat) else (v % 2048 : Nat)
  else signedOf 32 v

/-- LAW_WRITE (R209, R210, R212, R213). -/
def lawWrite (s : State) : State :=
  s.ifUp (fun s =>
    let (j, f) := s.lawAddr
    let x := s.loop.law j
    let v := s.lawWord j f (s.rd Reg.LOOP_LAW_DATA)
    if 191 < j then s.lawDone 4
    else if !fieldWritable j f then s.lawDone 5
    else if x.isOpen then ({ s with loop := s.loop.setLaw j (x.setField j f v) }.touch).lawDone 0
    else if structural f then s.lawDone 2
    else if 8 ≤ x.queue.length then s.lawDone 3
    else ({ s with loop := s.loop.setLaw j { x with queue := x.queue ++ [(f, v)] } }).lawDone 1)

def execLawWrite (s : State) : Host.Outcome State Fault Refusal := done s (lawWrite s)

/-- What field f of instance j reads as (R209). -/
def State.lawField (s : State) (j f : Nat) : Int :=
  let x := s.loop.law j
  if f = 13 then x.i
  else if f = 14 then x.df
  else if f = 15 then x.out
  else if f = 12 ∧ j ≤ 160 then 0
  else if f = 11 ∧ j < 160 then
    (bitsAt (x.fieldWord j 11) 1 2 * 2 + ofBool (s.lawEn (lawDir j) (lawGov j) (j % 5)) : Nat)
  else x.fieldOf j f

/-- LAW_READ (R210). -/
def lawRead (s : State) : State :=
  s.ifUp (fun s =>
    let (j, f) := s.lawAddr
    if 191 < j then s.lawDone 4
    else (s.wr Reg.LOOP_LAW_DATA (bitsOf 32 (s.lawField j f))).lawDone 0)

def execLawRead (s : State) : Host.Outcome State Fault Refusal := done s (lawRead s)

/-- LAW_OPEN (R213): at the next tick boundary. -/
def lawOpen (s : State) : State :=
  s.ifUp (fun s =>
    let (j, _) := s.lawAddr
    let x := s.loop.law j
    if 191 < j then s.lawDone 4
    else if j < 160 ∧ s.transmits (lawDir j) then s.lawDone 6
    else if x.isOpen ∧ !x.pendClose then s.lawDone 0
    else ({ s with loop := s.loop.setLaw j { x with pendOpen := true, pendClose := false } }).lawDone 8)

def execLawOpen (s : State) : Host.Outcome State Fault Refusal := done s (lawOpen s)

/-- LAW_CLOSE (R214): at the next tick boundary; inverted limits keep the instance open. -/
def lawClose (s : State) : State :=
  s.ifUp (fun s =>
    let (j, _) := s.lawAddr
    let x := s.loop.law j
    if 191 < j then s.lawDone 4
    else if x.inverted j then s.lawDone 7
    else if !x.isOpen ∧ !x.pendOpen then s.lawDone 0
    else ({ s with loop := s.loop.setLaw j { x with pendClose := true, pendOpen := false } }).lawDone 8)

def execLawClose (s : State) : Host.Outcome State Fault Refusal := done s (lawClose s)

/-- LAW_DISCARD_QUEUE (R212). -/
def lawDiscardQueue (s : State) : State :=
  s.ifUp (fun s =>
    let (j, _) := s.lawAddr
    if 191 < j then s.lawDone 4
    else ({ s with loop := s.loop.setLaw j { s.loop.law j with queue := [] } }).lawDone 0)

def execLawDiscardQueue (s : State) : Host.Outcome State Fault Refusal := done s (lawDiscardQueue s)

/-- TIMING_CLR (R225). -/
def timingClr (v : Word) (s : State) : State :=
  s.ifUp (fun s => if bitAt v.toNat 0 then s.setStF Reg.LOOP_TIMING 16 16 0 else s)

def execTimingClr (v : Word) (s : State) : Host.Outcome State Fault Refusal := done s (timingClr v s)

/-! ### The core voltage (R219, R332, R347) -/

/-- STEP_MV. -/
def State.stepMv (s : State) : Nat := s.fld Reg.LOOP_VCORE_CFG 8 8

/-- One emergency step: VD_CORE rises by STEP_MV up to 0.85 V; asked for at 0.85 V it is reported only. -/
def State.vcoreStep (s : State) : State :=
  if !s.isUp || !s.anyRunning then s
  else if vcoreTop ≤ s.vcoreQ then
    ({ s with loop := { s.loop with atTop := true } }.raise 1 15).raise 23 9
  else
    let q := min vcoreTop (s.vcoreQ + s.stepMv * 65536)
    let s1 := { s with loop := { s.loop with emergency := s.loop.emergency + (q - s.vcoreQ) } }.setVcore q
    (s1.setStF Reg.LOOP_VCORE_STAT 23 1 1).bumpF Reg.LOOP_VCORE_STAT 24 8 1

/-- VCORE_EMERGENCY_STEP (R219): the margin has fallen below EMERG. -/
def vcoreEmergencyStep (s : State) : State := s.vcoreStep
def execVcoreEmergencyStep (s : State) : Host.Outcome State Fault Refusal := done s (vcoreEmergencyStep s)

/-- VCORE_EMERGENCY_REPEAT (R219): 10 µs later the margin is still below EMERG. -/
def vcoreEmergencyRepeat (s : State) : State := s.vcoreStep
def execVcoreEmergencyRepeat (s : State) : Host.Outcome State Fault Refusal := done s (vcoreEmergencyRepeat s)

/-- VCORE_SLEW_TIMEOUT (R332): the command was not reached within 20 µs. -/
def vcoreSlewTimeout (s : State) : State := s.raiseIf s.isUp 1 14
def execVcoreSlewTimeout (s : State) : Host.Outcome State Fault Refusal := done s (vcoreSlewTimeout s)

end Sys2Proof.Machine
end

