-- ==== Sys2Proof/Machine/ThermRun.lean ====
section
/-! DEFINITION. The thermal model's tick (R339–R343): poles, boundary temperature, margin, throttle. -/

namespace Sys2Proof.Machine

/-! ### The model (R339, R340) -/

/-- Power of region j with the coupled shares of its neighbours, mW in units of 2^-16. -/
def coupledPower (q : NMap Nat) (j : Nat) : Nat :=
  NMap.get (fun _ => 0) q j * 65536 +
    regionTs.foldl (fun a n => if n = j then a else a + Config.thermCoupling n j * NMap.get (fun _ => 0) q n) 0

/-- One step of pole i of region j. -/
def poleStep (q : NMap Nat) (j i : Nat) (x : Int) : Int :=
  let aim : Int := ((Config.thermR j i * coupledPower q j / 65536 : Nat) : Int)
  x + rneDiv ((Config.thermA i : Int) * (aim - x)) (2 ^ 32)

def poles : List (Nat × Nat) := regionTs.flatMap (fun j => [(j, 0), (j, 1), (j, 2)])

/-- Insert into a rising list. -/
def insI (x : Int) : List Int → List Int
  | [] => [x]
  | y :: t => if x ≤ y then x :: y :: t else y :: insI x t

/-- Median; of an even number the mean of the middle two. -/
def median (l : List Int) : Option Int :=
  let r := l.foldl (fun acc x => insI x acc) []
  let n := r.length
  if n = 0 then none
  else if n % 2 = 1 then r[n / 2]?
  else match r[n / 2 - 1]?, r[n / 2]? with
    | some a, some b => some (rneDiv (a + b) 2)
    | _, _ => none

/-- T_b at a tick with fresh readings (R340): set at the first, then corrected by the median residual. -/
def State.boundaryStep (s : State) : State :=
  if s.therm.fresh = 0 ∨ s.isOut 2 6 then s
  else
    let on := s.sensorsOn
    let free := on.map (fun e => e.2 * 65536 - s.rise (sensorRegion e.1))
    match median free with
    | none => s
    | some m =>
      let tb := if s.therm.tbSet then s.therm.tb + rneDiv (m - s.therm.tb) 20000 else m
      { s with therm := { s.therm with tb := tb, tbSet := true } }

/-- The margin of R342, 0.01 °C. -/
def State.marginNow (s : State) : Nat :=
  if s.isOut 2 6 then 0
  else if sensorNums.all (fun k => s.isOut 2 k) then 1000
  else if s.isOut 2 s.hotSensor then 500 else 0

/-- The margin applies; THERM sources 19 and 20 when it is newly applied. -/
def State.marginStep (s : State) : State :=
  let m := s.marginNow
  let old := s.therm.margin
  let s := { s with therm := { s.therm with margin := m } }
  (s.raiseIf (m = 500 && old != 500) 2 19).raiseIf (m = 1000 && old != 1000) 2 20

/-! ### The throttle (R343) -/

def State.tThr (s : State) : Int := (clampN 100 118 (s.fld Reg.THERM_THR_CFG 0 8) * 100 : Nat)
def State.tHyst (s : State) : Int := (max 1 (s.fld Reg.THERM_THR_CFG 8 4) * 100 : Nat)
def State.rRise (s : State) : Nat := max 1 (s.fld Reg.THERM_THR_CFG 16 8)
def State.rFall (s : State) : Nat := max 1 (s.fld Reg.THERM_THR_CFG 24 8)

/-- R_MAX in 0.001 dB. -/
def State.rMax (s : State) : Nat := s.fld Reg.THERM_THR_CFG2 0 16 * 10

def State.throttleStep (s : State) : State :=
  let t := s.tMax
  let h := s.therm
  if s.tThr ≤ t then
    let s1 := { s with therm := { h with rth := max h.rth (min s.rMax (h.rth + s.rRise)), falling := false, throttling := true } }
    let s1 := if h.throttling then s1 else (s1.bumpF Reg.THERM_THR_COUNT 0 16 1).raise 2 12
    if h.rth = 0 ∧ s1.therm.rth ≠ 0 then
      dirs.foldl (fun s d => s.raiseIf (!(s.enabled d).isEmpty) (15 + d.num) 30) s1
    else s1
  else if t ≤ s.tThr - s.tHyst then
    if h.falling && h.dropped.isEmpty && !s.bog.halving then
      let r := h.rth - s.rFall
      let s1 := { s with therm := { h with rth := r, falling := decide (0 < r), throttling := decide (0 < r) } }
      s1.raiseIf (r = 0) 2 15
    else s
  else { s with therm := { h with falling := false } }

/-- Region powers as a store. -/
def powerMap (power : List Nat) : NMap Nat :=
  (regionTs.zip power).foldl (fun m e => NMap.put (fun _ => 0) m e.1 e.2) []

/-- Every pole stepped; the model's own unit out of service holds them (R342). -/
def State.stepPoles (s : State) (q : NMap Nat) : NMap Int :=
  if s.isOut 2 6 then s.therm.x
  else poles.foldl (fun m e => NMap.put (fun _ => (0 : Int)) m (3 * e.1 + e.2) (poleStep q e.1 e.2 (s.pole e.1 e.2))) s.therm.x

/-- What THERM.PEAK shows of the present (R350). -/
def State.peakWord (s : State) : Nat := bitsOf 16 (sat16 s.tMax) + s.hottest regionTs * 65536

/-- THERM.PEAK takes a new largest T_max. -/
def State.peakStep (s : State) : State :=
  let old := s.st Reg.THERM_PEAK
  if old = 0 then s.setSt Reg.THERM_PEAK s.peakWord
  else if decide (signedOf 16 old < s.tMax) then s.setSt Reg.THERM_PEAK s.peakWord else s

/-- Poles and boundary temperature after a tick. -/
def State.modelStep (s : State) (power : List Nat) : State :=
  let q := powerMap power
  let x := s.stepPoles q
  { s with therm := { s.therm with x := x, q := q } }.boundaryStep

/-- The quiet step of a shutdown (R346): ticks with every region below 115 °C, without a break, up to 60 s. -/
def State.quietStep (s : State) : State :=
  let cool := s.power = .shutdown && regionTs.all (fun j => decide (s.regionFine j < 11500 * 65536))
  { s with therm := { s.therm with quiet := if cool then min 600000 (s.therm.quiet + 1) else 0 } }

/-- Residual of a sensor against its region's modelled temperature, in 2^-16 of 0.01 °C (R340). -/
def State.residualFine (s : State) (k : Nat) : Int :=
  match s.sensorAt k with
  | some t => t * 65536 - (s.therm.tb + s.rise (sensorRegion k))
  | none => 0

/-- Ticks of a fault of each sensor in service, without a break (R341). -/
def State.sensorStep (s : State) : State :=
  let bump (m : NMap Nat) (k : Nat) (on : Bool) : NMap Nat :=
    NMap.put (fun _ => 0) m k (if on && !s.isOut 2 k then min 10000 (NMap.get (fun _ => 0) m k + 1) else 0)
  { s with therm := { s.therm with
      beyond := sensorNums.foldl (fun m k => bump m k (decide (800 * 65536 < (s.residualFine k).natAbs))) s.therm.beyond
      silent := sensorNums.foldl (fun m k => bump m k (!s.therm.fresh.getLsbD k)) s.therm.silent } }

/-- The throttle's clocks (R344, R345): R_th stands at R_MAX with T_max at T_THR or above; T_max at T_THR − HYST or below. -/
def State.holdStep (s : State) : State :=
  let h := s.therm
  let up := h.throttling && decide (s.rMax ≤ h.rth) && decide (s.tThr ≤ s.tMax)
  let down := h.throttling && decide (s.tMax ≤ s.tThr - s.tHyst)
  { s with therm := { h with stepN := if up then h.stepN + 1 else 0, undoN := if down then h.undoN + 1 else 0 } }

/-- DROP_HOLD and UNDO_HOLD in ticks; 0 acts as 1 (R350). -/
def State.dropHold (s : State) : Nat := max 1 (s.fld Reg.THERM_THR_CFG2 16 8) * 1000
def State.undoHold (s : State) : Nat := max 1 (s.fld Reg.THERM_THR_CFG2 24 8) * 10000

/-- The thermal model at a tick. -/
def State.thermTick (s : State) (power : List Nat) : State :=
  let s := (s.modelStep power).sensorStep
  { s with therm := { s.therm with fresh := 0 } }.marginStep.throttleStep.holdStep.peakStep.quietStep

/-- A step of the throttle or an undo begins its successor's clocks anew (R344, R345). -/
def State.clocksAnew (s : State) : State := { s with therm := { s.therm with stepN := 0, undoN := 0 } }

/-! ### Slot drop and undo (R344, R345) -/

/-- Slots that the throttle may drop: running, not dropped yet, of PRIORITY below 15. -/
def State.droppable (s : State) (d : Dir) : List Nat :=
  (s.liveSlots d).filter (fun n => (s.dirRec d).running && !(s.slotRec d n).dropped && decide (s.slotPrio d n < 15))

/-- Order of dropping: PRIORITY, then uplink before downlink, then the higher slot number. -/
def State.dropKey (s : State) (d : Dir) (n : Nat) : Nat := s.slotPrio d n * 64 + (1 - d.num) * 32 + (16 - n)

/-- The next slot to drop. -/
def State.nextDrop (s : State) : Option (Dir × Nat) :=
  let all := (s.droppable .dl).map (fun n => (Dir.dl, n)) ++ (s.droppable .ul).map (fun n => (Dir.ul, n))
  all.foldl (fun m e => match m with
    | none => some e
    | some b => if s.dropKey e.1 e.2 < s.dropKey b.1 b.2 then some e else some b) none

/-- Capture-rate halving starts or ends: a break of every lane and slot stream (R293). -/
def State.halve (s : State) (on : Bool) : State :=
  let s := s.breakStreams false (fun _ => true)
  { s with bog := { s.bog with halving := on } }

/-- SLOT_DROP (R344): DROP_HOLD has run since R_th reached R_MAX or since the latest step. -/
def slotDrop (s : State) : State :=
  if !s.isUp || !s.therm.throttling || s.bog.halving || decide (s.therm.stepN < s.dropHold) then s
  else
    let s := s.clocksAnew
    match s.nextDrop with
    | some (d, n) =>
      let s := s.setSlot d n { s.slotRec d n with dropped := true }
      let s := { s with therm := { s.therm with dropped := slotKey d n :: s.therm.dropped } }
      ((s.bumpF Reg.THERM_THR_COUNT 16 16 1).raise 2 13).raise (12 + d.num) 27
    | none => ((s.halve true).raise 2 14).raise 19 22

def execSlotDrop (s : State) : Host.Outcome State Fault Refusal := done s (slotDrop s)

/-- UNDO_HELD (R345): the quiet period of a hottest sensor runs. -/
def State.undoHeld (s : State) : Bool := s.therm.throttling && decide (s.now < s.therm.hotQuiet)

/-- THROTTLE_UNDO (R345): UNDO_HOLD has run, and one step is undone, unless the quiet period of the hottest sensor holds it. -/
def throttleUndo (s : State) : State :=
  if !s.isUp || !s.therm.throttling || decide (s.therm.undoN < s.undoHold) then s
  else if s.undoHeld then s.raise 2 21
  else
    let s := s.clocksAnew
    if s.bog.halving then s.halve false
  else match s.therm.dropped with
    | k :: t =>
      let d := keyDir k
      let n := keySlot k
      let s := s.setSlot d n { s.slotRec d n with dropped := false }
      { s with therm := { s.therm with dropped := t } }
    | [] => { s with therm := { s.therm with falling := true } }

def execThrottleUndo (s : State) : Host.Outcome State Fault Refusal := done s (throttleUndo s)

/-- A sensor is fenced at once, whatever its class; the hottest sensor's quiet period holds the undo (R341, R345). -/
def State.fenceSensor (s : State) (k : Fin 6) (noReading : Bool) : State :=
  if s.isOut 2 k then s
  else
    let src := if noReading then 6 + k.val else k.val
    let hot := decide (s.hotSensor = k.val)
    let s := (s.raise 2 src).fenceNow 2 k src
    if hot then { s with therm := { s.therm with hotQuiet := s.now + s.quietMs 2 * msTime } } else s

/-- The fault of a sensor has lasted: 10 ms without a reading, or 1 s of residuals beyond ±8 °C (R341). -/
def State.sensorDue (s : State) (k : Fin 6) (noReading : Bool) : Bool :=
  if noReading then decide (100 ≤ NMap.get (fun _ => 0) s.therm.silent k) else decide (10000 ≤ NMap.get (fun _ => 0) s.therm.beyond k)

/-- SENSOR_FENCE (R341). -/
def sensorFence (k : Fin 6) (noReading : Bool) (s : State) : State :=
  s.ifUp (fun s => if s.sensorDue k noReading then s.fenceSensor k noReading else s)

def execSensorFence (k : Fin 6) (noReading : Bool) (s : State) : Host.Outcome State Fault Refusal := done s (sensorFence k noReading s)

/-- THERM_PEAK_CLR (R350). -/
def thermPeakClr (v : Word) (s : State) : State :=
  s.ifUp (fun s => if bitAt v.toNat 0 then s.setSt Reg.THERM_PEAK s.peakWord else s)

def execThermPeakClr (v : Word) (s : State) : Host.Outcome State Fault Refusal := done s (thermPeakClr v s)

end Sys2Proof.Machine
end

