-- ==== Sys2Proof/Machine/PeatTick.lean ====
section
/-! DEFINITION. What a tick adds to the open Peat interval (R371): histogram bins, extremes and coverage. -/

namespace Sys2Proof.Machine

/-- Index of the first of rising thresholds that x lies below; their number where there is none. -/
def binOf (x : Int) (ts : List Int) : Nat := (ts.takeWhile (fun t => decide (t ≤ x))).length

/-- One count of bin b of histogram h. -/
def Interval.count (i : Interval) (h b : Nat) : Interval :=
  { i with bins := NMap.put (fun _ => 0) i.bins (16 * h + b) (i.bin h b + 1) }

/-- An extreme that was not observed. -/
def noExt : Int × Nat := (-32768, 0)

/-- Extreme x takes value v where nothing was observed or `better` says so; the first of equals keeps its time. -/
def Interval.note (i : Interval) (x : Nat) (v : Int) (secs : Nat) (better : Int → Int → Bool) : Interval :=
  let take := match i.ext.find? (fun e => e.1 = x) with
    | some (_, w, _) => better (sat16 v) w
    | none => true
  if take then { i with ext := NMap.put (fun _ => noExt) i.ext x (sat16 v, secs) } else i

def lower (a b : Int) : Bool := decide (a < b)
def higher (a b : Int) : Bool := decide (b < a)

/-- Least I_eff of the enabled slots converged by their own estimates (R169); 0 for none. -/
def State.dirIso (s : State) (d : Dir) : Int :=
  let l := (s.enabled d).filter (fun n => (s.echoRec d n).converged)
  match l with
  | [] => 0
  | n :: t => t.foldl (fun m k => minI m (s.echoRec d k).iEff) (s.echoRec d n).iEff

/-- Bin of a slot's output power. -/
def State.powerBin (s : State) (i : TickIn) (d : Dir) (n : Nat) : Nat :=
  if !s.slotOpen d n then 0
  else
    let x := meters i (slotKey d n)
    let over_ := maxOver (s.txBr d) (fun t => poutOf (brIn x t) + s.gTx d t - s.l2Eff d (govOf n) t) (-100000)
    1 + binOf over_ [-1000, -100]

/-- Bin of a governor's gain. -/
def State.gainBin (s : State) (d : Dir) (n : Nat) : Nat := binOf (s.gApp d n - s.target d (govOf n)) [-2000, -600, -50]

/-- Bin of a direction's isolation. -/
def State.isoBin (s : State) (d : Dir) : Nat :=
  if !(s.enabled d).any (fun n => (s.echoRec d n).converged) then 0
  else 1 + binOf (s.dirIso d) [6000, 7000, 8000, 9000, 10000, 11000]

/-- Bin of a direction's noise floor. -/
def State.noiseBin (s : State) (d : Dir) : Nat :=
  if (s.enabled d).any (fun n => s.nfIsDefault d n) then 0
  else
    let top := maxOver (s.enabled d) (fun n => maxOver (s.txBr d) (fun t => s.nDens d n t) (-13107200)) (-13107200)
    1 + binOf (top - qOfCenti (s.fldS Reg.ECHO_NF_DEFAULT (16 * d.num) 16)) [-196608, 0, 196608, 393216, 655360, 1310720]

/-- The bins of one direction. -/
def State.dirBins (s : State) (i : TickIn) (d : Dir) (v : Interval) : Interval :=
  let v := govNums.foldl (fun v g =>
    let n := s.govSlot d g
    if s.slotEn d n then
      (v.count (16 * d.num + g) (s.powerBin i d n)).count (32 + 16 * d.num + g) (s.gainBin d n)
    else v) v
  if (s.enabled d).isEmpty then v else (v.count (64 + d.num) (s.isoBin d)).count (66 + d.num) (s.noiseBin d)

/-- Thresholds of T_max in 0.01 °C and of the VD_CORE command in mV. -/
def tempSteps : List Int := [-2000, 0, 2000, 4000, 6000, 8000, 9000, 10000, 10500, 11000, 11500, 11800, 12500, 13000, 14000]
def coreSteps : List Int := [575, 600, 625, 650, 700, 750, 800]

/-- The largest predicted lane output less the lane's locked maximum. -/
def State.laneOver (s : State) : Option Int :=
  let one (d : Dir) (t : Nat) : List Int :=
    match (if t = 0 then (s.govDir d).pred0 else (s.govDir d).pred1) with
    | some p => [p - s.lock.outMax (laneOf d t)]
    | none => []
  match one .dl 0 ++ one .dl 1 ++ one .ul 0 ++ one .ul 1 with
  | [] => none
  | x :: t => some (t.foldl maxI x)

/-- The interval after a tick. -/
def State.peatTick (s : State) (i : TickIn) : State :=
  let v := s.peat.openI
  let secs := s.peat.opsec - v.openedAt
  let v := s.dirBins i .ul (s.dirBins i .dl v)
  let v := (v.count 68 (binOf s.tMax tempSteps)).count 69 (binOf (s.vcoreCmd : Nat) coreSteps)
  let v := ((v.note 0 s.tMax secs higher).note 1 s.tMax secs lower).note 2 (s.vinMv : Nat) secs lower
  let v := if s.dirIso .dl = 0 then v else v.note 3 (s.dirIso .dl) secs lower
  let v := if s.dirIso .ul = 0 then v else v.note 4 (s.dirIso .ul) secs lower
  let v := v.note 5 (i.mTick : Nat) secs lower
  let v := match s.laneOver with
    | some x => v.note 6 x secs higher
    | none => v
  { s with peat := { s.peat with
      openI := { v with cover := satAdd 4294967295 v.cover 1 }, frozenN := if s.peat.frozen then min 100000 (s.peat.frozenN + 1) else 0 } }

end Sys2Proof.Machine
end

