-- ==== Sys2Proof/Machine/Trace.lean ====
section
/-! DEFINITION. The trace units (R222–R225): nodes, samples, triggers, spill records, and the commands that arm, force, rearm, freeze
and dump them. -/

namespace Sys2Proof.Machine

def unitNums : List Nat := [0, 1, 2, 3]

def State.trace (s : State) (u : Nat) : TraceUnit := NMap.get (fun _ => {}) s.loop.units u

def State.setTrace (s : State) (u : Nat) (t : TraceUnit) : State :=
  { s with loop := { s.loop with units := NMap.put (fun _ => {}) s.loop.units u t } }

/-! ### Configuration -/

/-- MODE: 3 acts as 0. -/
def State.trMode (s : State) (u : Nat) : Nat := let m := s.fld (Reg.LOOP_TR_CTRL u) 1 2; if m = 3 then 0 else m
def State.trSpills (s : State) (u : Nat) : Bool := s.trMode u != 0
def State.trFreezes (s : State) (u : Nat) : Bool := s.trMode u != 1
def State.trRegion (s : State) (u : Nat) : Nat := s.fld (Reg.LOOP_TR_CTRL u) 4 3
def State.trDecim (s : State) (u : Nat) : Nat := max 1 (s.fld (Reg.LOOP_TR_CTRL u) 16 16)
def State.trPost (s : State) (u : Nat) : Nat := s.fld (Reg.LOOP_TR_POST u) 0 12

/-- Trigger kind; 8–15 act as 0. -/
def State.trKind (s : State) (u : Nat) : Nat := let k := s.fld (Reg.LOOP_TR_TRIG u) 0 4; if 7 < k then 0 else k

/-- The word that names node m of unit u. -/
def State.nodeWord (s : State) (u m : Nat) : Nat := s.fld (Reg.LOOP_TR_NODE01 u + 4 * (m / 2)) (16 * (m % 2)) 16

def nodeInst (w : Nat) : Nat := bitsAt w 0 8
def nodeKind (w : Nat) : Nat := bitsAt w 8 4

/-! ### Nodes (R222) -/

/-- Value of a node as 32 bits; a disabled or missing instance records zero. -/
def State.nodeVal (s : State) (w : Nat) : Int :=
  let j := nodeInst w
  let k := nodeKind w
  let d := lawDir j
  let g := lawGov j
  if k < 8 then
    if !s.lawEnabled j then 0
    else
      let x := s.loop.law j
      match k with
      | 0 => x.terms.getD 0 0
      | 1 => x.terms.getD 1 0
      | 2 => x.terms.getD 2 0
      | 3 => x.terms.getD 3 0
      | 4 => x.i
      | 5 => x.terms.getD 4 0
      | 6 => x.terms.getD 5 0
      | _ => s.lawOutput j
  else if k < 11 then
    if 159 < j || !s.lawEnabled j then 0
    else match k with
      | 8 => ((s.govRec d g).sel : Nat)
      | 9 => qOfCenti (s.govRec d g).gApp
      | _ => qOfCenti (s.slotRec d (s.govSlot d g)).gain
  else if k = 11 then NMap.get (fun _ => 0) s.loop.pred j
  else if k = 12 then NMap.get (fun _ => 0) s.loop.meas j
  else if k = 13 then (s.vcoreQ : Nat)
  else if k = 14 then (s.stF Reg.LOOP_VCORE_STAT 16 7 : Nat)
  else 0

/-- Node m's instance was late. -/
def State.nodeLate (s : State) (u m : Nat) : Bool :=
  let w := s.nodeWord u m
  decide (nodeKind w < 8) && s.lawEnabled (nodeInst w) && (s.loop.law (nodeInst w)).late

def nodeNums : List Nat := [0, 1, 2, 3, 4, 5, 6, 7]

/-- A sample of unit u at present, its record number given. -/
def State.traceSample (s : State) (u seq : Nat) : List Int :=
  [(s.now : Int), (packBits 8 (fun m => s.nodeLate u m) : Nat), (seq : Int)] ++ nodeNums.map (fun m => s.nodeVal (s.nodeWord u m))

/-- The trace record of R224. -/
def traceRecord (u : Nat) (trig : Bool) (x : List Int) : List Byte :=
  leBytes 8 (x.getD 0 0).toNat ++ leBytes 1 u ++ leBytes 1 (x.getD 1 0).toNat ++ leBytes 1 (ofBool trig) ++ leBytes 1 0
    ++ leBytes 4 ((x.getD 2 0).toNat % 2 ^ 32) ++ nodeNums.flatMap (fun m => leBytes 4 (bitsOf 32 (x.getD (3 + m) 0)))
    ++ leBytes 16 0

/-! ### Writing records -/

/-- Where a record of this kind and length would go in every region that takes it. -/
def State.recordAt (s : State) (kind : Nat) (sel : Nat → Bool) (len : Nat) : List Nat :=
  regionNums.filterMap (fun n =>
    let r := s.bog.region n
    if s.regKind n = kind && sel n && r.active && decide (len ≤ s.regRoom n r len) && decide (len ≤ s.dataBytes n) then
      some (s.dataStart n r.seg + r.wr % s.dataBytes n)
    else none)

/-- A spill record goes to REGION; one that the region does not take is dropped (R224). The answer says whether it was dropped. -/
def State.spill (s : State) (u : Nat) (v : List Byte) : State × Bool :=
  let n := s.trRegion u
  if s.regKind n = 4 && (s.bog.region n).active then
    let (s1, bad) := s.recordTo 4 (fun m => decide (m = n)) v
    if bad then (s.bump (Reg.LOOP_TR_DROPPED u) 1, true) else (s1, false)
  else (s.bump (Reg.LOOP_TR_DROPPED u) 1, true)

/-! ### Triggers (R223, R225) -/

/-- Does the trigger fire on this sample? `prev` is the sample before it. -/
def State.trFires (s : State) (u : Nat) (t : TraceUnit) (x : List Int) (prev : Option (List Int)) : Bool :=
  let m := s.fld (Reg.LOOP_TR_TRIG u) 4 3
  let v := signedOf 32 (s.rd (Reg.LOOP_TR_TRIG_VAL u))
  let now := x.getD (3 + m) 0
  t.force || (match s.trKind u with
    | 1 => decide (v < now)
    | 2 => decide (now < v)
    | 3 => (match prev with | some p => decide (p.getD (3 + m) 0 < v) && decide (v ≤ now) | none => false)
    | 4 => (match prev with | some p => decide (v < p.getD (3 + m) 0) && decide (now ≤ v) | none => false)
    | 5 => lawNums.any (fun j => s.lawEnabled j && (s.loop.law j).late)
    | 6 => t.evt
    | 7 => decide ((s.govRec (lawDir (nodeInst (s.nodeWord u m))) (lawGov (nodeInst (s.nodeWord u m)))).sel ≠ t.lastSel)
    | _ => false)

/-- The selection that trigger kind 7 of unit u watches. -/
def State.trSel (s : State) (u : Nat) : Nat :=
  let j := nodeInst (s.nodeWord u (s.fld (Reg.LOOP_TR_TRIG u) 4 3))
  (s.govRec (lawDir j) (lawGov j)).sel

/-- The event that unit u's trigger names happened since the latest sample (R223). -/
def State.traceEvents (s : State) : State :=
  unitNums.foldl (fun s u =>
    let t := s.trace u
    s.setTrace u { t with evt := t.evt || s.flt.recent.contains (s.fld (Reg.LOOP_TR_TRIG u) 8 10) }) s

/-- Unit u takes a sample in this tick. -/
def State.samples (s : State) (u : Nat) : Bool :=
  let t := s.trace u
  (t.st = 1 || (t.st = 2 && (!s.trFreezes u || decide (0 < t.postLeft)))) && !s.isOut 17 (193 + u) && s.now / tickTime % s.trDecim u = 0

/-- A unit that stood at t takes its sample at present, its trigger tested on it: the unit after it, and whether the trigger fired. -/
def State.traceStep (s : State) (u : Nat) (t : TraceUnit) : TraceUnit × Bool :=
  let x := s.traceSample u t.seq
  let fires := t.st = 1 && s.trFires u t x t.samples.head?
  ({ t with
      samples := (x :: t.samples).take 4096, seq := (t.seq + 1) % 2 ^ 32, evt := false, force := false, lastSel := s.trSel u
      st := if fires then 2 else t.st
      trigTime := if fires then s.now else t.trigTime
      trigIdx := if fires then 0 else if t.st = 2 then t.trigIdx + 1 else t.trigIdx
      postLeft := if fires then s.trPost u else t.postLeft - (if t.st = 2 then 1 else 0) }, fires)

/-- One unit at step 8 of tick k; the answer says whether a spill record was dropped. -/
def State.traceTick (s : State) (u : Nat) : State × Bool :=
  if !s.samples u then (s, false)
  else
    let (t, fires) := s.traceStep u (s.trace u)
    let at_ := if s.trSpills u then s.recordAt 4 (fun m => decide (m = s.trRegion u)) 64 else []
    let s := s.setTrace u { t with spilled := at_ }
    if s.trSpills u then s.spill u (traceRecord u fires (t.samples.headD [])) else (s, false)

/-- Every unit; LOOP source 23 once where records were dropped. The units as they stood before stay known until the next tick. -/
def State.traceAll (s : State) : State :=
  let s := s.traceEvents
  let s := { s with loop := { s.loop with unitsBefore := s.loop.units } }
  let (s, bad) := unitNums.foldl (fun x u => let (s, b) := x.1.traceTick u; (s, x.2 || b)) (s, false)
  s.raiseIf bad 17 23

/-- The samples of this tick again, after its deadline has made instances late (R206 steps 7 and 8, R222, R223): ring, trigger and spilled record. -/
def State.traceAmend (s : State) : State :=
  unitNums.foldl (fun s u =>
    let now := s.trace u
    match now.samples with
    | x :: _ =>
      if x.getD 0 0 = (s.now : Int) then
        let (t, fires) := s.traceStep u (NMap.get (fun _ => {}) s.loop.unitsBefore u)
        let s := s.setTrace u { t with spilled := now.spilled, evt := now.evt, force := now.force }
        { s with bog := now.spilled.foldl (fun b a => b.write a (traceRecord u fires (t.samples.headD []))) s.bog }
      else s
    | [] => s) s

/-! ### Commands -/

/-- An armed unit without samples. -/
def State.traceArmed (s : State) (u : Nat) : State :=
  s.setTrace u { st := 1, lastSel := s.trSel u }

/-- TRACE_ARM (R223, R225): a write of TR_CTRL; ARM from 0 to 1 starts recording where the unit is not frozen, ARM 0 ends it. -/
def traceArm (u : Fin 4) (v : Word) (s : State) : State :=
  s.ifUp (fun s =>
    let was := bitAt (s.rd (Reg.LOOP_TR_CTRL u)) 0
    let s := s.wrc (Reg.LOOP_TR_CTRL u) v.toNat
    let t := s.trace u
    if !was && bitAt v.toNat 0 then (if t.st = 3 then s else s.traceArmed u)
    else if !bitAt v.toNat 0 && t.st != 3 then s.setTrace u { t with st := 0 }
    else s)

def execTraceArm (u : Fin 4) (v : Word) (s : State) : Host.Outcome State Fault Refusal := done s (traceArm u v s)

/-- TRACE_POST_COMPLETE (R223): TR_POST samples after the trigger, a unit in a freeze mode freezes. -/
def tracePostComplete (u : Fin 4) (s : State) : State :=
  let t := s.trace u
  if s.isUp && t.st = 2 && s.trFreezes u && t.postLeft = 0 then s.setTrace u { t with st := 3 } else s

def execTracePostComplete (u : Fin 4) (s : State) : Host.Outcome State Fault Refusal := done s (tracePostComplete u s)

/-- TRACE_FORCE (R225): the next sample of an armed unit is its trigger sample, whatever its kind. -/
def traceForce (u : Fin 4) (s : State) : State :=
  if s.isUp && (s.trace u).st = 1 then s.setTrace u { s.trace u with force := true } else s

def execTraceForce (u : Fin 4) (s : State) : Host.Outcome State Fault Refusal := done s (traceForce u s)

/-- TRACE_REARM (R225): clear and arm. -/
def traceRearm (u : Fin 4) (s : State) : State := s.ifUp (fun s => s.traceArmed u)

def execTraceRearm (u : Fin 4) (s : State) : Host.Outcome State Fault Refusal := done s (traceRearm u s)

/-- Records of a frozen buffer with their trigger flags, oldest first. -/
def TraceUnit.records (t : TraceUnit) (u : Nat) : List (List Byte) :=
  let n := t.samples.length
  (t.samples.reverse.zip (List.range n)).map (fun e => traceRecord u (e.2 + 1 + t.trigIdx = n) e.1)

/-- TRACE_DUMP (R224): a frozen buffer goes to REGION, oldest first. -/
def traceDump (u : Fin 4) (s : State) : State :=
  let t := s.trace u
  if !s.isUp || t.st != 3 then s
  else
    let (s, bad) := (t.records u).foldl (fun x v => let (s, b) := x.1.spill u v; (s, x.2 || b)) (s, false)
    s.raiseIf bad 17 23

def execTraceDump (u : Fin 4) (s : State) : Host.Outcome State Fault Refusal := done s (traceDump u s)

end Sys2Proof.Machine
end

