-- ==== Sys2Proof/Machine/Loop.lean ====
section
/-! DEFINITION. LOOP_TICK: what a tick boundary does, step by step (R26, R28, R146–R149, R178–R191, R206, R218–R224, R330–R343, R371,
R450), and the deadline that ends it early (R208). -/

namespace Sys2Proof.Machine

/-! ### Time and samples -/

/-- Device time reaches the next tick boundary, and every capture stream stands written up to it (R26). -/
def State.toTick (s : State) : State :=
  let s := { s with now := (s.now / tickTime + 1) * tickTime }
  regionNums.foldl (fun s n => s.regStream n s.now) s

/-- The boundary FIFOs of running, measured directions: receive FIFOs 0–3, transmit FIFOs 4–7; a lane that is idle or out of service is left
out (R28, R117; log entry 65). -/
def State.runningFifos (s : State) : List Nat :=
  [0, 1, 2, 3, 4, 5, 6, 7].filter (fun f =>
    (s.dirRec (laneDir (f % 4))).measured && (if f < 4 then s.rxRuns f else s.txRuns (f - 4)))

/-- The least headroom of a list of FIFOs, with the first of them that has it. -/
def leastRoom (occ : List Nat) : List Nat → Option (Nat × Nat)
  | [] => none
  | f :: t => match leastRoom occ t with
    | some (m, w) => if m < Signal.headroom f (occ.getD f 0) then some (m, w) else some (Signal.headroom f (occ.getD f 0), f)
    | none => some (Signal.headroom f (occ.getD f 0), f)

/-- Every running direction's FIFOs count from the first boundary after its alignment. -/
def State.watchFifos (s : State) : State :=
  dirs.foldl (fun s d => s.setDir d { s.dirRec d with measured := (s.dirRec d).running }) s

/-- MARGIN_NOW, MARGIN_MIN and the FIFO occupancies (R28, R29). -/
def State.marginTick (s : State) (i : TickIn) : State :=
  let s := s.watchFifos
  let s := match leastRoom i.occ s.runningFifos with
    | some (m, w) => (s.setSt Reg.CORE_MARGIN_NOW (m + 256 * w)).setSt Reg.CORE_MARGIN_MIN
        (min (s.st Reg.CORE_MARGIN_MIN) (min m i.mTick))
    | none => s.setSt Reg.CORE_MARGIN_NOW 0xFF40
  laneNums.foldl (fun s l =>
    (s.setSt (Reg.CORE_FIFO_OCC_RX l) (min 64 (i.occ.getD l 0))).setSt (Reg.CORE_FIFO_OCC_TX l) (min 64 (i.occ.getD (4 + l) 0))) s

/-! ### Meters of the tick just ended (R114, R127, R149, R154, R175) -/

/-- CHAN's meters and saturations of a slot. -/
def State.slotMeters (s : State) (i : TickIn) (d : Dir) (n : Nat) : State :=
  let x := meters i (slotKey d n)
  let w (a b : Int) : Nat := pack16 (clampI (-20000) 32767 a) (clampI (-20000) 32767 b)
  let s := (s.setSt (Reg.CHAN_SLOT_PIN d n) (w (pinOf x.br0) (pinOf x.br1))).setSt
    (Reg.CHAN_SLOT_POUT d n) (w (poutOf x.br0) (poutOf x.br1))
  let e := s.echoRec d n
  let s := s.setEcho d n { e with onAir := (s.probeLevel d n).isSome && !e.held && s.watch.sawOpen d n && s.gateOpen d }
  s.raiseIf (s.slotEn d n && decide (s.fld (Reg.CHAN_SAT_THRESH d) 0 16 < x.sat)) (12 + d.num) n

/-- Lane-summation saturations. -/
def State.sumClips (s : State) (i : TickIn) (d : Dir) : State :=
  let c (b : Nat) : Nat := i.sumClip.getD (2 * d.num + b) 0
  let s := (s.bump (Reg.CHAN_SUM_CLIP_0 d) (c 0)).bump (Reg.CHAN_SUM_CLIP_1 d) (c 1)
  (s.raiseIf (decide (0 < c 0)) (12 + d.num) 17).raiseIf (decide (0 < c 1)) (12 + d.num) 18

def State.chanTick (s : State) (i : TickIn) : State :=
  let s := dirs.foldl (fun s d => (slotNums.foldl (fun s n => s.slotMeters i d n) s).sumClips i d) s
  s.raiseIf (i.slots.any (fun x => decide (16 < x.echoSat))) 14 21

def laneIn (i : TickIn) (l : Nat) : LaneIn := if l = 0 then i.lane0 else if l = 1 then i.lane1 else if l = 2 then i.lane2 else i.lane3

/-- A lane's converters: an idle or fenced lane counts nothing. -/
def State.laneTick (s : State) (i : TickIn) (l : Nat) : State :=
  let x := laneIn i l
  let s := if s.rxRuns l then
      let p := s.st (Reg.RXC_PEAK l)
      let s := if x.rxOvr = 0 then s else s.markFlagged l
      let s := s.bump (Reg.RXC_OVR_SAMPLES l) x.rxOvr
      let s := s.setSt (Reg.RXC_PEAK l) (putBits p 0 14 (max (bitsAt p 0 14) (min 8192 x.rxPeak)))
      let s := if x.rxClip = 0 then s else s.setStF (Reg.RXC_PEAK l) 14 1 1
      s.raiseIf (decide (196608 < x.rxOvr * 100)) 7 (4 + l)
    else s
  if s.txRuns l then
    (s.bump (Reg.TXC_CLIP_COUNT l) x.txClip).raiseIf (decide (s.fld Reg.TXC_CLIP_THRESH 0 16 < x.txClip)) 8 l
  else s

/-- The locked maximum holds the slot's probe level down (R160, R243). -/
def State.mossClamp (s : State) (d : Dir) (n : Nat) : State :=
  match s.probeLevel d n with
  | some (_, 3) => s.lockActs 5 0 (512 + slotKey d n)
  | _ => s

/-- A slot of a direction in FULL drops to the cautious cap (R35, R49): ECHO sources 12 and 13. -/
def State.capNote (s : State) (d : Dir) (n : Nat) : State :=
  let r := s.echoRec d n
  let on := s.dirSt d = .full && s.faultCap d n
  (s.setEcho d n { r with capSeen := on }).raiseIf (on && !r.capSeen) 14 (12 + d.num)

/-- NF_DEFAULT serves a TDD or uplink slot of a running direction: ECHO source 22 after 60 s (R159, R175). -/
def State.defaultNote (s : State) (d : Dir) (n : Nat) : State :=
  let r := s.echoRec d n
  if (d = .ul || s.slotTdd d n) && s.slotRuns d n && s.nfIsDefault d n then
    let since := r.defSince.getD s.now
    let due := !r.defTold && decide (since + 60000 * msTime ≤ s.now)
    (s.setEcho d n { r with defSince := some since, defTold := r.defTold || due }).raiseIf due 14 22
  else s.setEcho d n { r with defSince := none, defTold := false }

/-- The probe's amplitudes of the tick that begins (R158). -/
def State.probeTick (s : State) (d : Dir) (n : Nat) : State :=
  s.setEcho d n { s.echoRec d n with amp := (s.probeAmp d n 0, s.probeAmp d n 1) }

/-- What a tick boundary does to a slot of ECHO: the level's clamp, the result of a block that has ended (R163), the estimate criterion (R170),
reports, and the amplitudes of the probe. -/
def State.echoTick (s : State) : State :=
  dirs.foldl (fun s d => (s.enabled d).foldl (fun s n =>
    ((((((s.mossClamp d n).blockEffect d n).estTest d n).capNote d n).defaultNote d n).probeTick d n)) s) s

/-! ### PA plausibility (R220, R221) -/

/-- The HK result of lane l's detector counts for the tick just ended: its own tick, no flag, a converter in service. -/
def State.detFresh (s : State) (l : Nat) : Bool :=
  let r := s.hkRes (s.detInput l)
  decide (bitsAt r 24 8 = (s.now / tickTime - 1) % 256) && decide (s.detInput l < 24) &&
    !bitAt r 16 && !bitAt r 17 && !bitAt r 18 && !bitAt r 22 && !s.isOut 18 (bitsAt r 20 1)

/-- A lane is evaluated for the tick just ended (R221). -/
def State.plausOn (s : State) (l : Nat) (pred : Int) : Bool :=
  bitAt (s.rd Reg.LOOP_PLAUS_CFG) (8 + l) && !s.watch.broke.getLsbD l && s.hasTable l && s.detFresh l &&
    (!s.laneTdd l || s.hk.inWin.getLsbD l) && decide (s.fldS Reg.LOOP_PLAUS_CFG 16 16 ≤ centiOfQ pred)

/-- The signed run of large differences of one sign, in evaluated ticks. -/
def plausRun (diff run : Int) : Int :=
  if 131072 < diff then (if 0 ≤ run then run + 1 else 1)
  else if diff < -131072 then (if run ≤ 0 then run - 1 else -1) else 0

/-- A lane at step 8: p_pred and p_meas of every tick, and what an evaluated one leaves in PLAUS and in the run (R220, R221). -/
def State.plausLane (s : State) (i : TickIn) (l : Nat) : State :=
  let x := laneIn i l
  let off (s : State) := ((s.setSt (Reg.LOOP_PLAUS l) 0x80008000).setStF Reg.LOOP_PLAUS_STAT l 1 0).setStF Reg.LOOP_PLAUS_STAT (4 + l) 1 0
  let pred := Signal.pDig x.txSquares x.txCount + qOfCenti (s.gtx l)
  let s := { s with loop := { s.loop with pred := NMap.put (fun _ => 0) s.loop.pred l pred } }
  match s.detector l (bitsAt (s.hkRes (s.detInput l)) 0 16) with
  | some m =>
    let s := { s with loop := { s.loop with meas := NMap.put (fun _ => 0) s.loop.meas l m } }
    if !s.plausOn l pred then off s
    else
      let diff := m - pred
      let run := plausRun diff (NMap.get (fun _ => 0) s.loop.plaus l)
      let s := { s with loop := { s.loop with plaus := NMap.put (fun _ => 0) s.loop.plaus l run } }
      let s := s.setSt (Reg.LOOP_PLAUS l) (pack16 (sat16 (centiOfQ pred)) (sat16 (centiOfQ m)))
      (s.setStF Reg.LOOP_PLAUS_STAT l 1 1).setStF Reg.LOOP_PLAUS_STAT (4 + l) 1 (ofBool (decide (131072 < diff.natAbs)))
  | none => off s

/-- PLAUS_CFG.TICKS: 0 acts as 1. -/
def State.plausTicks (s : State) : Nat := max 1 (s.fld Reg.LOOP_PLAUS_CFG 0 8)

/-- The run of a lane has reached TICKS on this side. -/
def State.plausFull (s : State) (l : Nat) (high : Bool) : Bool :=
  let run := NMap.get (fun _ => 0) s.loop.plaus l
  decide ((s.plausTicks : Int) ≤ if high then run else -run)

/-- PLAUSIBILITY_RUN_COMPLETE (R221): the run reached TICKS; it is counted and restarts. -/
def plausibilityRunComplete (lane : Fin 4) (high : Bool) (s : State) : State :=
  if s.isUp && s.plausFull lane high then
    { s with loop := { s.loop with plaus := NMap.put (fun _ => 0) s.loop.plaus lane 0 } }.raise 17 (if high then lane else 4 + lane)
  else s

def execPlausibilityRunComplete (lane : Fin 4) (high : Bool) (s : State) : Host.Outcome State Fault Refusal :=
  done s (plausibilityRunComplete lane high s)

/-! ### Governor records (R197, R287) -/

/-- The mute that a governor's slot is under: its own, or its direction's (R192). -/
def State.govMute (s : State) (d : Dir) (g : Nat) : Option MuteCause :=
  match (s.govRec d g).mute with
  | some c => some c
  | none => if s.govEn d g then (s.govDir d).mute else none

/-- SEL_g (R197). -/
def State.selWord (s : State) (d : Dir) (g : Nat) : Nat :=
  let r := s.govRec d g
  let m := s.govMute d g
  let c := match m with | some c => c.code | none => 0
  r.sel + 8 * ofBool r.capped + 16 * ofBool r.lockClamped + 32 * ofBool r.fastCut + 64 * ofBool m.isSome
    + 256 * r.late.toNat + 8192 * c + 65536 * bitsOf 16 (sat16 r.gApp)

/-- The governor record of R287. -/
def State.govRecord (s : State) (d : Dir) (g : Nat) : List Byte :=
  let n := s.govSlot d g
  let q (c : Int) : List Byte := leBytes 4 (bitsOf 32 (qOfCenti c))
  leBytes 8 s.now ++ leBytes 1 d.num ++ leBytes 1 g ++ leBytes 1 (s.selWord d g % 256) ++ leBytes 1 (s.govRec d g).late.toNat
    ++ [0, 1, 2, 3, 4].flatMap (fun l => leBytes 4 (bitsOf 32 (s.loop.law (lawIndex d g l)).out))
    ++ q (s.slotRec d n).gain ++ q (s.govRec d g).gApp ++ q (s.govDir d).gFix ++ q (s.iEff d n) ++ leBytes 16 0

/-- REG_GOVS of region n selects governor g. -/
def State.govSelects (s : State) (d : Dir) (g n : Nat) : Bool := bitAt (s.rd (Reg.BOG_REG_GOVS n)) (16 * d.num + g)

def State.govRecTick (s : State) (d : Dir) (g : Nat) : State :=
  let at_ := s.recordAt 5 (s.govSelects d g) 64
  let s := s.setGov d g { s.govRec d g with spilled := at_ }
  if at_ = [] then s else (s.recordTo 5 (s.govSelects d g) (s.govRecord d g)).1

def State.govRecAmend (s : State) (d : Dir) (g : Nat) : State :=
  { s with bog := (s.govRec d g).spilled.foldl (fun b a => b.write a (s.govRecord d g)) s.bog }

/-! ### Supply (R332–R335) -/

/-- VIN and its least, power and its peak, and the energy of the start (R334, R348). -/
def State.supplyTick (s : State) (i : TickIn) : State :=
  let v := s.vinMv
  let p := min 65535 i.pIn
  let least := s.stF Reg.SUPPLY_VIN 16 16
  let s := s.setSt Reg.SUPPLY_VIN (v + 65536 * (if least = 0 then v else min least v))
  let s := s.setSt Reg.SUPPLY_P_IN (p + 65536 * max p (s.stF Reg.SUPPLY_P_IN 16 16))
  let e := s.boot.energy + p
  let s := { s with boot := { s.boot with energy := e } }
  let mj := min 65535 (e / 10000)
  let s := if s.st (measT 1) = 0 then s.setStF Reg.SUPPLY_E_START 0 16 mj else s
  if s.st (measT 2) = 0 then s.setStF Reg.SUPPLY_E_START 16 16 mj else s

/-! ### Injected checks of the tick (R363, R450) -/

/-- The checker of source src of block b has met its next check by this tick boundary. -/
def State.checkedNow (s : State) (b src : Nat) : Bool :=
  let running (d : Dir) : Bool := (s.dirRec d).running
  let slots (d : Dir) : Bool := (s.enabled d).any (fun n => s.slotRuns d n)
  if tickChecked b src then true
  else match b with
    | 7 => decide (16 ≤ src) && decide (src ≤ 19) && s.rxRuns (src - 16)
    | 8 => decide (12 ≤ src) && decide (src ≤ 15) && s.txRuns (src - 12)
    | 9 => src = 22 && laneNums.any (fun l => s.hasTable l)
    | 12 | 13 => let d := dirOf b; (src = 23 && slots d) || (src = 28 && running d)
    | 15 | 16 => src = 22 && !(s.govsOn (dirOf (b - 15))).isEmpty
    | 17 => (src = 16 && lawNums.any (fun j => s.lawEnabled j && !(s.loop.law j).isOpen)) ||
        (decide (19 ≤ src) && decide (src ≤ 22) && ((s.trace (src - 19)).st = 1 || (s.trace (src - 19)).st = 2))
    | 23 => (decide (10 ≤ src) && decide (src ≤ 13) && running .dl) || (decide (14 ≤ src) && decide (src ≤ 17) && running .ul) ||
        ((src = 18 || src = 21) && running .dl) || ((src = 19 || src = 22) && running .ul) || (src = 24 && s.anyRunning)
    | _ => false

/-- Armed checkers whose check fell in the tick raise their injected events. -/
def State.injectTick (s : State) : State :=
  s.flt.src.foldl (fun s e =>
    let b := e.1 / 32
    let n := e.1 % 32
    if e.2.armed && injCap b n && s.checkedNow b n then s.inject b n else s) s

/-! ### The engine's part of the tick -/

/-- LATE_COUNT (R225): ticks with a late instance, and consecutive all-late ticks. -/
def State.lateNote (s : State) (all : Bool) : State :=
  let n := if all then satAdd 255 s.loop.lateTicks 1 else 0
  let s := { s with loop := { s.loop with lateTicks := n, goodTicks := 0 } }
  (s.bumpF Reg.LOOP_LATE_COUNT 0 16 1).setStF Reg.LOOP_LATE_COUNT 16 8 n

/-- The kinds of instance that a list of late ones holds: LOOP sources 8–11. -/
def State.lateRaise (s : State) (late : List Nat) : State :=
  let s := s.raiseIf (late.any (fun j => decide (j < 80))) 17 8
  let s := s.raiseIf (late.any (fun j => decide (80 ≤ j) && decide (j < 160))) 17 9
  let s := s.raiseIf (late.contains 160) 17 10
  s.raiseIf (late.any (fun j => decide (160 < j))) 17 11

/-- The count of good ticks, taken before the tick's deadline; a fenced engine makes the tick all-late (R208, R217). -/
def State.lateTick (s : State) : State :=
  if s.engineOut then
    let s := (s.lateNote true).lateRaise (lawNums.filter (fun j => s.lawComputes j))
    dirs.foldl (fun s d => s.raiseIf ((s.govsOn d).any (fun g => [0, 1, 2, 3, 4].any (fun l => (s.loop.law (lawIndex d g l)).late)))
      (15 + d.num) 24) s
  else
    let n := if s.loop.goodTicks = 0 then s.loop.lateTicks else 0
    let s := { s with loop := { s.loop with goodTicks := s.loop.goodTicks + 1, lateTicks := n } }
    s.setStF Reg.LOOP_LATE_COUNT 16 8 n

/-- TIMING after a tick that finished. -/
def State.timingTick (s : State) (i : TickIn) : State :=
  let f := if s.engineOut then 65535 else min 65534 i.finish
  s.setSt Reg.LOOP_TIMING (f + 65536 * max f (s.stF Reg.LOOP_TIMING 16 16))

/-- Steps 2–7: every instance in the engine's order, LOOP source 13 once where any saturated (R202, R206). -/
def State.lawsTick (s : State) (i : TickIn) : State :=
  let (s, a) := s.vcoreTick i
  let (s, b) := s.govsTick i
  let (s, c) := (lawNums.filter (fun j => decide (160 < j) && s.lawEnabled j)).foldl (fun x j =>
    let (s, c) := x.1.auxTick j
    (s, x.2 || c)) (s, false)
  s.raiseIf (a || b || c) 17 13

/-- A lost donor mutes a slot whose direction transmits again (R190); an engine that still misses every law mutes a direction that
comes to transmit (R35). -/
def State.muteAgain (s : State) : State :=
  let s := (s.enabled .dl).foldl (fun s n => if s.donorHere n then s else s.donorMutes n false) s
  if 10 < s.loop.lateTicks then
    dirs.foldl (fun s d => if s.transmits d && !s.dirMuted d then s.muteDir d .loopEngine else s) s
  else s

/-- Step 8 (R206): lane reduction, L3's measurement, causes of mutes, plausibility, records. -/
def State.superviseTick (s : State) (i : TickIn) : State :=
  let s := dirs.foldl (fun s d => ((s.govsOn d).foldl (fun s g => s.l3Measure i d g) (s.laneRedStep i d)).causeNote d) s
  let s := laneNums.foldl (fun s l => s.plausLane i l) s
  let s := dirs.foldl (fun s d => (s.govsOn d).foldl (fun s g => s.govRecTick d g) s) s
  let s := s.traceAll
  { s with flt := { s.flt with recent := [] } }

/-- LOOP_TICK (R206): one tick boundary. -/
def loopTick (i : TickIn) (s : State) : State :=
  if !s.isUp || !s.syn.timeRuns then s
  else
    let s := (s.toTick.marginTick i).chanTick i
    let s := laneNums.foldl (fun s l => s.laneTick i l) s
    let s := dirs.foldl (fun s d => s.deliverAll d (i.noGain.map Fin.val)) s
    let s := s.echoTick
    let s := s.latch.thermTick i.power
    let s := dirs.foldl (fun s d => s.gFixStep d) s
    let s := ((s.lawsTick i).timingTick i).lateTick
    let s := (s.muteAgain.superviseTick i)
    { ((s.peatTick i).supplyTick i).playTick.injectTick with watch := {} }

def execLoopTick (i : TickIn) (s : State) : Host.Outcome State Fault Refusal := done s (loopTick i s)

/-! ### The deadline (R208) -/

/-- Instance j was not committed: what a computation writes stands as at the latch, and it is late; its fields, its queue and the commands that it
has taken since stay (R208, R212). A late core-voltage instance leaves SUPPLY its last command, with the emergency steps since (R219). -/
def State.makeLate (s : State) (j : Nat) : State :=
  let old := NMap.get (fun _ => {}) s.loop.lawsAtLatch j
  let x := s.loop.law j
  let s := { s with loop := s.loop.setLaw j { x with
    i := old.i, df := old.df, ePrev := old.ePrev, out := old.out, terms := old.terms, reseat := old.reseat || x.reseat, late := true } }
  if j = 160 then { s with loop := { s.loop with hold085 := s.loop.prevHold } }.setVcore (min vcoreTop (s.loop.prevCmd + s.loop.emergency)) else s

/-- The instances that the engine computes in this tick, in its order. -/
def State.computed (s : State) : List Nat :=
  s.engineOrder.filter (fun j => s.lawComputes j && !(NMap.get (fun _ => {}) s.loop.lawsAtLatch j).isOpen)

/-- LOOP_DEADLINE (R208): T_k + 80 µs abandons the first of these instances that the engine was to compute, and with it every later one in its
order (R206; log entry 81). -/
def loopDeadline (late : List (Fin 192)) (s : State) : State :=
  let on := s.computed
  let js := on.dropWhile (fun j => !(late.map Fin.val).contains j)
  if !s.isUp || !s.syn.timeRuns || s.engineOut || js.isEmpty then s
  else
    let s := js.foldl (fun s j => s.makeLate j) s
    let s := (s.lateRaise js).lateNote (on.all (fun j => js.contains j))
    let s := dirs.foldl (fun s d =>
      let gs := (s.govsOn d).filter (fun g => [0, 1, 2, 3, 4].any (fun l => js.contains (lawIndex d g l)))
      let s := gs.foldl (fun s g => s.selectNow d g (s.govRec d g).lockClamped) s
      let s := s.raiseIf (!gs.isEmpty) (15 + d.num) 24
      gs.foldl (fun s g => s.govRecAmend d g) s) s
    let s := (s.setStF Reg.LOOP_TIMING 0 16 65535).setStF Reg.LOOP_TIMING 16 16 65535
    s.traceAmend.muteAgain

def execLoopDeadline (late : List (Fin 192)) (s : State) : Host.Outcome State Fault Refusal := done s (loopDeadline late s)

/-- LOOP_ALL_LATE_10 (R35, R208): ten consecutive ticks missed every law. -/
def loopAllLate10 (s : State) : State :=
  s.ifUp (fun s =>
    let s := { s with loop := { s.loop with hold085 := true, goodTicks := 0, lateTicks := max 10 s.loop.lateTicks } }.raise 17 12
    let s := (s.setStF Reg.LOOP_LATE_COUNT 16 8 s.loop.lateTicks).setVcore vcoreTop
    dirs.foldl (fun s d => s.muteDir d .loopEngine) s)

def execLoopAllLate10 (s : State) : Host.Outcome State Fault Refusal := done s (loopAllLate10 s)

end Sys2Proof.Machine
end

