-- ==== Sys2Proof/Machine/Synth.lean ====
section
/-! DEFINITION. Meanings of the synthesiser and converter commands of "Data converters and synthesisers" (R105–R128). -/

namespace Sys2Proof.Machine

/-! ### Writes (R110) -/

/-- WRITE_STATUS; a refusal counts SYN source 17. -/
def State.synWriteStatus (s : State) (result which : Nat) : State :=
  (s.setSt Reg.SYN_WRITE_STATUS (result + 4 * which)).raiseIf (result != 0) 6 17

/-- REF_SEL_WRITE (R110): accepted with both directions in STANDBY, it runs SYN_C's lock sequence and then the others', also before
SYN_C's first lock. While the device wakes, no direction is in STANDBY yet (it reaches it at the end of step 4 of R65), so the write is
refused as busy (DEDUCED, log entry 66). -/
def refSelWrite (v : Word) (s : State) : State :=
  s.ifUp (fun s =>
    if s.power != .up || s.sys.dl.st != .standby || s.sys.ul.st != .standby then s.synWriteStatus 3 0
    else
      ((s.wrc Reg.SYN_REF_SEL v.toNat).synWriteStatus 0 0).relockAll)

def execRefSelWrite (v : Word) (s : State) : Host.Outcome State Fault Refusal := done s (refSelWrite v s)

/-- LO_FREQ_WRITE (R110). -/
def loFreqWrite (d : Dir) (v : Word) (s : State) : State :=
  s.ifUp (fun s =>
    let w := 1 + d.num
    let f := v.toNat % 2 ^ 23
    if f < 400000 ∨ 6000000 < f then s.synWriteStatus 1 w
    else if s.transmits d then s.synWriteStatus 3 w
    else if s.judgeEn && !s.loAllowed d f (bitAt (s.rd (loCtrlReg d)) 1) then
      (s.synWriteStatus 2 w).lockActs 1 0 (16 + d.num)
    else ((s.wrc (loFreqReg d) f).synWriteStatus 0 w).lockStart (dirSyn d))

def execLoFreqWrite (d : Dir) (v : Word) (s : State) : Host.Outcome State Fault Refusal := done s (loFreqWrite d v s)

/-- LO_CTRL_WRITE (R108, R110). -/
def loCtrlWrite (d : Dir) (v : Word) (s : State) : State :=
  s.ifUp (fun s =>
    let w := 3 + d.num
    let n := v.toNat % 16
    let o := s.rd (loCtrlReg d)
    if s.transmits d && n % 4 != o % 4 then s.synWriteStatus 3 w
    else if bitAt n 1 != bitAt o 1 && s.judgeEn && !s.loAllowed d (s.rd (loFreqReg d)) (bitAt n 1) then
      (s.synWriteStatus 2 w).lockActs 1 0 (16 + d.num)
    else
      let s := (s.wrc (loCtrlReg d) n).synWriteStatus 0 w
      if bitAt n 0 && !bitAt o 0 then s.lockStart (dirSyn d)
      else if !bitAt n 0 && bitAt o 0 then (s.synOff (dirSyn d)).locksChanged
      else s)

def execLoCtrlWrite (d : Dir) (v : Word) (s : State) : Host.Outcome State Fault Refusal := done s (loCtrlWrite d v s)

/-- CACHE_CLR (R123). -/
def cacheClr (v : Word) (s : State) : State :=
  s.ifUp (fun s => if bitAt v.toNat 0 then
      { s with syn := { s.syn with cacheC := [], cacheD := [], cacheU := [] } }.mramWrite (.cache .clear) else s)

def execCacheClr (v : Word) (s : State) : Host.Outcome State Fault Refusal := done s (cacheClr v s)

/-! ### The lock sequence (R120) -/

/-- A fenced synthesiser attempts no further lock (R121). -/
def State.synGiveUp (s : State) (y : Syn) : State := if s.isOut 6 (synNum y) then s.synOff y else s

/-- BAND_CALIBRATION_DONE (R120): step 2 ends and step 3 starts, which writes the entry at its end (log entry 47); or no band was
found and the calibration is retried. -/
def bandCalibrationDone (y : Syn) (found : Option BandCal) (s : State) : State :=
  let r := s.synRec y
  if !r.busy || !r.calibrating then s
  else match found with
    | some b => s.setSyn y { r with calibrating := false, band := some b, found := true }
    | none => (s.raise 6 (3 + synNum y)).synGiveUp y

def execBandCalibrationDone (y : Syn) (found : Option BandCal) (s : State) : Host.Outcome State Fault Refusal :=
  done s (bandCalibrationDone y found s)

/-- SYN_C's first lock has come (R121): device time starts from zero and the converters are calibrated, the LO synthesisers lock or
are locking, and service is requested with tag 0xFE where SERVICE_EN is 1. -/
def State.afterFirst (s : State) : State :=
  let s := s.locksChanged
  if s.sys.serviceEn then s.serviceRequest 0xFE 11 else s

/-- SYNTH_LOCKED (R120, R121). -/
def synthLocked (y : Syn) (us : Nat) (s : State) : State :=
  let r := s.synRec y
  if !r.busy || r.calibrating || !s.synCan y then s
  else if y = .c ∧ s.syn.startPending then
    ({ s with syn := { s.syn with startPending := false, timeRuns := true } }.calibrate 0).lockReached .c us |>.afterFirst
  else ((s.lockReached y us).realignDueNow).locksChanged

def execSynthLocked (y : Syn) (us : Nat) (s : State) : Host.Outcome State Fault Refusal := done s (synthLocked y us s)

/-- WARM_LOCK_TIMEOUT (R67): a warm lock missed 100 µs, so the synthesiser is calibrated in full. -/
def warmLockTimeout (y : Syn) (s : State) : State :=
  let r := s.synRec y
  if !r.busy || r.calibrating || r.found then s
  else (s.setSyn y { r with calibrating := true, band := none }).raise 6 (6 + synNum y)

def execWarmLockTimeout (y : Syn) (s : State) : Host.Outcome State Fault Refusal := done s (warmLockTimeout y s)

/-! ### Loss of lock and the reference (R121) -/

/-- LOSS_OF_LOCK (R121): of a locked synthesiser; of one that is relocking it merges into the running handling. -/
def lossOfLock (y : Syn) (s : State) : State :=
  let r := s.synRec y
  if !r.locked then (if r.busy then (s.raise 6 (synNum y)).synGiveUp y else s)
  else match y with
    | .c => s.loseC.lockStart .c
    | .d | .u =>
      let d := if y = .d then Dir.dl else .ul
      let s := ((s.synOff y).markDir d).raise 6 (synNum y)
      let s := if s.transmits d then s.muteDir d .lockedSynth else s
      s.lockStart y

def execLossOfLock (y : Syn) (s : State) : Host.Outcome State Fault Refusal := done s (lossOfLock y s)

/-- REFCLK fails (R121): SYN_C is lost until it returns, with SYN source 0, then source 9 or 10 (R352). Where SYN_C is unlocked and not
locking there is no lock to lose, and source 9 or 10 counts alone (DESIGN CHOICE, log entry 67). -/
def State.refFails (s : State) (source : Nat) : State :=
  (if s.syn.c.locked || s.syn.c.busy then s.loseC else s).raise 6 source

/-- REFCLK_ABSENT (R121). -/
def refclkAbsent (s : State) : State :=
  s.ifUp (fun s => { s with syn := { s.syn with refPresent := false } }.refFails 9)

def execRefclkAbsent (s : State) : Host.Outcome State Fault Refusal := done s (refclkAbsent s)

/-- REFCLK_FREQUENCY_WRONG (R121). -/
def refclkFrequencyWrong (s : State) : State :=
  s.ifUp (fun s => { s with syn := { s.syn with refOk := false } }.refFails 10)

def execRefclkFrequencyWrong (s : State) : Host.Outcome State Fault Refusal := done s (refclkFrequencyWrong s)

/-- REFCLK_RETURN (R121): present and correct for 10 µs, so a relock of SYN_C is attempted. -/
def refclkReturn (s : State) : State :=
  s.ifUp (fun s =>
    let s := { s with syn := { s.syn with refPresent := true, refOk := true } }
    if s.syn.c.locked || s.syn.c.busy || s.syn.startPending || s.power != .up then s else s.lockStart .c)

def execRefclkReturn (s : State) : Host.Outcome State Fault Refusal := done s (refclkReturn s)

/-! ### Converters (R114, R117, R118, R125) -/

/-- RECOVERING of a branch of every enabled slot (R151). -/
def State.recoverBranch (s : State) (d : Dir) (b : Nat) : State :=
  (s.enabled d).foldl (fun s n =>
    let r := s.slotRec d n
    s.setSlot d n { r with recovering := BitVec.ofNat 2 (putBits r.recovering.toNat b 1 1) }) s

/-- Samples in a row without OVR that end an episode (R114), in device time of two conversion clocks. -/
def episodeTail : Nat := 32

/-- A branch's slots are clean 2 × GD after the episode's last OVR sample, which is GD in device time (R150, R151). -/
def State.branchClean (s : State) (d : Dir) (b : Nat) : State :=
  (s.enabled d).foldl (fun s n =>
    let r := s.slotRec d n
    let at_ := s.now - episodeTail + s.slotGD d n
    s.setSlot d n { r with cleanAt := if b = 0 then (at_, r.cleanAt.2) else (r.cleanAt.1, at_) }) s

def State.setOvr (s : State) (l : Nat) (on : Bool) : State :=
  { s with conv := { s.conv with ovrNow := BitVec.ofNat 4 (putBits s.conv.ovrNow.toNat l 1 (ofBool on)) } }

/-- OVER_RANGE_EPISODE (R114, R151). -/
def overRangeEpisode (lane : Fin 4) (s : State) : State :=
  let l : Nat := lane
  if !s.isUp || !s.rxRuns l || s.conv.ovrNow.getLsbD l then s
  else
    let d := laneDir l
    let s := (((s.setOvr l true).markFlagged l).bump (Reg.RXC_OVR_EPISODES l) 1).raise 7 l
    let s := s.setStF (Reg.RXC_PEAK l) 14 1 1
    (s.recoverBranch d (l % 2)).raiseIf (!(s.enabled d).isEmpty) (12 + d.num) 24

def execOverRangeEpisode (lane : Fin 4) (s : State) : Host.Outcome State Fault Refusal := done s (overRangeEpisode lane s)

/-- OVER_RANGE_EPISODE_END (R114): 64 samples without OVR. A lane that stops converting inside an episode makes no sample that could
end it: OVR_NOW stays 1 until this command (DESIGN CHOICE, log entry 68). -/
def overRangeEpisodeEnd (lane : Fin 4) (s : State) : State :=
  let l : Nat := lane
  if !s.isUp || !s.conv.ovrNow.getLsbD l then s else (s.setOvr l false).branchClean (laneDir l) (l % 2)

def execOverRangeEpisodeEnd (lane : Fin 4) (s : State) : Host.Outcome State Fault Refusal := done s (overRangeEpisodeEnd lane s)

/-- PEAK_CLR (R125). -/
def peakClr (v : Word) (s : State) : State :=
  s.ifUp (fun s => laneNums.foldl (fun s l => if bitAt v.toNat l then s.setSt (Reg.RXC_PEAK l) 0 else s) s)

def execPeakClr (v : Word) (s : State) : Host.Outcome State Fault Refusal := done s (peakClr v s)

/-- LANE_RESTORE_COMPLETE (R117): the lane's record is loaded, it returns to service, and CORE realigns its direction. -/
def laneRestoreComplete (tx : Bool) (lane : Fin 4) (s : State) : State :=
  let l : Nat := lane
  let m := if tx then s.conv.txRestoring else s.conv.rxRestoring
  if !s.isUp || !m.getLsbD l then s
  else
    let m' := BitVec.ofNat 4 (putBits m.toNat l 1 0)
    let cal (x rec_ : BitVec 4) := BitVec.ofNat 4 (putBits x.toNat l 1 (ofBool (rec_.getLsbD l)))
    let c := if tx then { s.conv with txRestoring := m', txCal := cal s.conv.txCal s.conv.txRecords }
             else { s.conv with rxRestoring := m', rxCal := cal s.conv.rxCal s.conv.rxRecords }
    { s with conv := c }.realignStart (laneDir l)

def execLaneRestoreComplete (tx : Bool) (lane : Fin 4) (s : State) : Host.Outcome State Fault Refusal :=
  done s (laneRestoreComplete tx lane s)

/-- BACKGROUND_CAL_RECORD_REWRITE (R118): the converter's record is rewritten to the calibration cache. -/
def backgroundCalRecordRewrite (tx : Bool) (lane : Fin 4) (s : State) : State :=
  let l : Nat := lane
  if !(if tx then s.txRuns l else s.rxRuns l) then s else s.recordMade tx l

def execBackgroundCalRecordRewrite (tx : Bool) (lane : Fin 4) (s : State) : Host.Outcome State Fault Refusal :=
  done s (backgroundCalRecordRewrite tx lane s)

end Sys2Proof.Machine
end

