-- ==== Sys2Proof/Machine/Faults.lean ====
section
/-! DEFINITION. Meanings of the commands of "Faults, fencing and recovery": detections (R352–R358, R363, R364), the end of a window
(R355), the end of a quiet period (R359), and arming (R363, R450). -/

namespace Sys2Proof.Machine

/-! ### FAULT_DETECTED -/

/-- A control register takes its image value again (R30). -/
def State.mendReg (s : State) (a : Nat) : State :=
  if writable a then s.wrc a (NMap.get resetWord s.boot.imageCfg a).toNat else s

/-- What a real event does beside being counted: a state-register parity error forces STANDBY (R56), a parity error of the TWB queue
empties it (R396), one of LICHEN's state disables its receivers (R277), one of a control register is mended from its image value (R30); a
gate state that disagrees with its command holds the gate closed (R154); an uncorrectable entry of a calibration cache or of a cached
estimate is discarded (R119, R172); a frequency that a receiver cannot be tuned to is left out of its looks (R269); a codeword
that playback cannot correct is counted (R283) and an entry of the burst index whose parity fails reads as empty (R311); a transfer abandoned inside a byte counts in TARGET_STAT
(R396), and the endpoint's errors in AER_COUNT (R409); an overrun breaks the stream of the region that the detection names, or of
every region (R293). Which register, entry, slot, codeword, receiver and frequency or region that is, the detection's unit names (log entry 82). -/
def State.afterEvent (s : State) (e : Nat) (u : Option Nat) : State :=
  if e = 14 then dirs.foldl (fun s d => (s.abandonTrans d).enterStandby d 10) s
  else if e = 32 * 4 + 13 then { s with twb := { s.twb with queue := [] } }
  else if e = 32 * 10 + 11 then { s with lichen := { s.lichen with disabled := true } }
  else if e = 32 * 10 + 10 then
    u.elim s (fun x => { s with lichen := { s.lichen with untuned := BitVec.ofNat 32 (putBits s.lichen.untuned.toNat (x % 32) 1 1) } })
  else if 32 * 19 ≤ e ∧ e < 32 * 19 + 8 then
    u.elim s (fun cw => if bogChan (32 * cw) = e % 32 ∧ cw < 2 ^ 29 then s.cwLost cw else s)
  else if e = 32 * 20 + 3 then u.elim s (fun i => { s with bix := { s.bix with table := NMap.put (fun _ => {}) s.bix.table (i % 65536) {} } })
  else if e = 32 * 19 + 17 then s.breakStreams true (fun n => u = some n || u.isNone)
  else if e = 32 * 23 + 23 then u.elim s (fun a => s.mendReg a)
  else if e = 32 * 12 + 31 ∨ e = 32 * 13 + 31 then s.gateWait (dirOf (e / 32)) ((namedUnit (e / 32) 31 u).getD 0) 5
  else if e = 32 * 6 + 16 then u.elim s (fun i => s.cacheDrop (synOf (i / 16)) (i % 16))
  else if e = 32 * 14 + 20 then u.elim s (fun k => if k < 34 then s.echoSpoilt (keyDir k) (keySlot k) else s)
  else if e = 32 * 4 + 9 then s.bumpF Reg.TWB_TARGET_STAT 16 16 1
  else if e = 32 * 5 + 2 then s.bumpF Reg.PCIE_AER_COUNT 0 16 1
  else if e = 32 * 5 + 3 ∨ e = 32 * 5 + 4 then s.bumpF Reg.PCIE_AER_COUNT 16 16 1
  else s

/-- The cause of a direction mute that GOV source n reports (R199). -/
def muteOfSource (n : Nat) : Option MuteCause :=
  match n with
  | 16 => some .oscillation
  | 17 => some .lockedOutput
  | 18 => some .lockedSynth
  | 19 => some .lockedDuty
  | 20 => some .loopEngine
  | _ => none

/-- ρ of a detection that reaches the model as an event alone: above −6.00 dB (R171), else open. -/
def openRho (w : Word) : Int := ((w.toNat / 2 ^ 16 : Nat) : Int) - 599

/-- An event whose chapter gives the device an action of its own takes that action, the count within it: a slip or an underflow
(R29), a core voltage without updates (R30), an oscillation (R171: the slot, path and ρ of OSC_STAT are open), a lost lock or reference (R121), a mute (R192, R194), ten late ticks (R35), a sensor
without a reading, a thermal shutdown (R346). -/
def State.respond (s : State) (b n : Nat) : Option State :=
  if !s.isUp then none
  else if b = 23 ∧ n < 8 then
    let d := laneDir (Fin.ofNat 4 n)
    if (s.dirRec d).running && !s.isOut 23 n then some (s.fifoFault d n) else none
  else if b = 23 ∧ n = 25 then some (vcoreUpdateTimeout s)
  else if b = 6 ∧ n < 3 then
    let y := synOf n
    if (s.synRec y).locked then some (lossOfLock y s) else none
  else if b = 6 ∧ n = 9 then some (refclkAbsent s)
  else if b = 6 ∧ n = 10 then some (refclkFrequencyWrong s)
  else if b = 14 ∧ n < 4 then
    let d := dirOf (n % 2)
    let (w, t) := s.fresh
    if s.transmits d && !s.dirMuted d then some (t.oscillation d (w.toNat % 17) (n / 2) (w.toNat / 32 % 4) (openRho w)) else none
  else if b = 15 ∨ b = 16 then
    let d := dirOf (b - 15)
    match muteOfSource n with
    | some c => if s.transmits d then some (s.muteDir d c) else none
    | none => if n < 16 ∧ s.transmits d ∧ s.slotEn d (s.govSlot d n) then
        some (s.muteSlot d (s.govSlot d n) (if d = .dl then .donorLost else .noiseRise)) else none
  else if b = 2 ∧ n < 12 ∧ !s.isOut 2 (n % 6) then some (s.fenceSensor (Fin.ofNat 6 n) (6 ≤ n))
  else if b = 2 ∧ (n = 16 ∨ n = 17) ∧ s.power ≠ .shutdown then some (s.shutHot (n = 17))
  else if b = 17 ∧ n = 12 then some (loopAllLate10 s)
  else none

/-- Blocks that work in the present power state: LICHEN alone in SLEEP; in SHUTDOWN all but SYN, RXC and TXC, whose domains are off (R31,
R51). -/
def State.blockWorks (s : State) (b : Nat) : Bool :=
  (s.regsUp && !(s.power = .shutdown && (b = 6 || b = 7 || b = 8))) || (s.power = .sleep && b = 10)

/-- One detection: a real event, the check of an armed checker, or both (R363, R364). -/
def State.detect (s : State) (x : Detect) : State :=
  let b := x.event / 32
  let n := x.event % 32
  let armed := (s.flt.source b n).armed
  if !knownEvent x.event || !s.blockWorks b then s
  else match x.kind with
    | .check => if armed && injCap b n then s.inject b n else s
    | .checkDiffers => (s.raiseEvs [{ blk := b, src := n, unit := x.unit, usesArm := true }]).afterEvent x.event x.unit
    | .real => match s.respond b n with
      | some t => t
      | none => (s.raiseEvs [{ blk := b, src := n, unit := x.unit }]).afterEvent x.event x.unit

/-- Insert in ascending order of event ID, behind its equals (R352). -/
def insertDetect (x : Detect) : List Detect → List Detect
  | [] => [x]
  | y :: t => if x.event < y.event then x :: y :: t else y :: insertDetect x t

/-- The detections of one instant in the order in which they are handled. -/
def sortDetects : List Detect → List Detect
  | [] => []
  | x :: t => insertDetect x (sortDetects t)

/-- FAULT_DETECTED (R357): the detections of one instant. -/
def faultDetected (es : List Detect) (s : State) : State := (sortDetects es.reverse).foldl (fun s x => s.detect x) s

def execFaultDetected (es : List Detect) (s : State) : Host.Outcome State Fault Refusal := done s (faultDetected es s)

/-- A window or a quiet period has ended at device time t. Before device time starts the internal oscillator counts, and the command itself says
that it has (R356). -/
def State.reached (s : State) (t : Nat) : Bool := !s.syn.timeRuns || decide (t ≤ s.now)

/-- CLASS_WINDOW_EXPIRED (R355): the window closes; a severe state stands. -/
def classWindowExpired (event : Fin 1024) (s : State) : State :=
  let b := event.val / 32
  let n := event.val % 32
  if s.regsUp && s.reached (s.flt.source b n).winEnd then
    { s with flt := s.flt.setSource b n { s.flt.source b n with win := 0, windowOpen := false, winN := 0, winMs := 0, winEnd := 0 } }
  else s

def execClassWindowExpired (event : Fin 1024) (s : State) : Host.Outcome State Fault Refusal := done s (classWindowExpired event s)

/-! ### QUIET_PERIOD_EXPIRED -/

/-- The restore condition that a block's chapter sets: a mute's cause is absent (R194, R121). -/
def State.mayRestore (s : State) (b u : Nat) : Bool :=
  if b = 15 ∨ b = 16 then
    let d := dirOf (b - 15)
    match (if u = 16 then (s.govDir d).mute else (s.govRec d u).mute) with
    | some c => s.causeAbsent d (if u = 16 then 0 else s.govSlot d u) c
    | none => true
  else true

/-- Sources that a restored unit reports as recovered: those that fenced it (R362). -/
def Flt.fencedBy (f : Flt) (b : Nat) (r : UnitRec) : List Nat :=
  let l := (List.range 32).filter (fun n => bitAt r.cause n && (f.source b n).severe)
  if l.isEmpty then [r.first] else l

/-- A fenced unit is restored (R359). -/
def State.restoreUnit (s : State) (b u : Nat) : State :=
  let r := s.flt.unit b u
  let by_ := s.flt.fencedBy b r
  let s := (s.backInService b u ((s.peat.opsec :: r.restores).take 15)).restoreBlock b u
  let s := { s with flt := (s.flt.bump (hdr b 0x20) 16) }
  let s := by_.foldl (fun s n => s.recovered b n) s
  { s with flt := (s.flt.ended b r.cause).foldl (fun f n => f.endSevere b n) s.flt }

/-- QUIET_PERIOD_EXPIRED (R359): a fenced unit is restored, or its Q starts again while its cause is present; a severe source that
names no unit ends its severe state. -/
def quietPeriodExpired (blk : Fin 24) (q : QuietOf) (s : State) : State :=
  let b : Nat := blk
  if !s.regsUp then s
  else match q with
    | .unit u =>
      let r := s.flt.unit b u
      if r.st != .fenced || !s.reached r.qEnd then s
      else if s.mayRestore b u then s.restoreUnit b u
      else { s with flt := s.flt.setUnit b u { r with qEnd := s.now + r.qMs * msTime } }.raise b 28
    | .source n =>
      if (s.flt.source b n).severe && (sourceUnits b n).isEmpty && s.reached (s.flt.source b n).qEnd then
        { s.recovered b n with flt := (s.recovered b n).flt.endSevere b n }
      else s

def execQuietPeriodExpired (blk : Fin 24) (q : QuietOf) (s : State) : Host.Outcome State Fault Refusal :=
  done s (quietPeriodExpired blk q s)

/-! ### SRC_INJECT -/

/-- SRC_INJECT (R363): each bit set arms its source where injection reaches it. -/
def srcInject (blk : Fin 24) (v : Word) (s : State) : State :=
  let b : Nat := blk
  s.ifUp (fun s => if !s.blockWorks b then s else { s with flt := (List.range 32).foldl (fun f n =>
    if v.getLsbD n && injCap b n then f.setSource b n { f.source b n with armed := true } else f) s.flt })

def execSrcInject (blk : Fin 24) (v : Word) (s : State) : Host.Outcome State Fault Refusal := done s (srcInject blk v s)

end Sys2Proof.Machine
end

