-- ==== Sys2Proof/Machine/Govern.lean ====
section
/-! DEFINITION. Meanings of the governors' commands: register writes (R198), the donor (R190), mutes and their end (R192–R194), and
the fast cut (R188). -/

namespace Sys2Proof.Machine

/-! ### GOV_WRITE (R198) -/

def govRegAddr (d : Dir) (w : GovReg) (g : Nat) : Nat :=
  match w with
  | .target => Reg.GOV_SLOT_TARGET d g
  | .ctrl => Reg.GOV_CTRL d g
  | .profileVA => Reg.GOV_PROFILE_VA d g
  | .profileJ => Reg.GOV_PROFILE_J d g
  | .l2Limit => Reg.GOV_L2_LIMIT d g
  | .l3Cfg => Reg.GOV_L3_CFG d g
  | .rxChain => Reg.GOV_RX_CHAIN d
  | .muteCfg => Reg.GOV_MUTE_CFG d
  | .fastCfg => Reg.GOV_FAST_CFG d

/-- WHICH of WRITE_STATUS, and GOV: 0 for a register of the whole direction. -/
def govRegNum : GovReg → Nat
  | .target => 0
  | .ctrl => 1
  | .profileVA => 2
  | .profileJ => 3
  | .l2Limit => 4
  | .l3Cfg => 5
  | .rxChain => 6
  | .muteCfg => 7
  | .fastCfg => 8

def govRegShown (w : GovReg) (g : Nat) : Nat := if govRegNum w < 6 then g else 0

/-- RESULT of a write while SERVICE_EN is 1, v being its value without reserved bits. -/
def State.govJudge (s : State) (d : Dir) (w : GovReg) (g v old : Nat) : Nat :=
  match w with
  | .target =>
    let t := signedOf 16 v
    let n := s.govSlot d g
    if t < 0 ∨ 9500 < t then 1
    else if s.lock.gainMax d < t + s.trim d n 0 ∨ s.lock.gainMax d < t + s.trim d n 1 then 3 else 0
  | .ctrl =>
    if bitsAt v 16 16 < 1000 then 1
    else if bitsAt v 0 5 ≠ bitsAt old 0 5 ∨ bitsAt v 8 5 ≠ bitsAt old 8 5 then 2 else 0
  | .profileVA =>
    let ve := bitsAt v 0 16
    let ac := bitsAt v 16 16
    if 1 ≤ ve ∧ ve ≤ 10000 ∧ 1 ≤ ac ∧ ac ≤ 50000 then 0 else 1
  | .profileJ => if 1 ≤ bitsAt v 0 16 ∧ bitsAt v 0 16 ≤ 50000 then 0 else 1
  | .l2Limit => if (s.txBr d).any (fun t => decide (s.lock.outMax (laneOf d t) < signedOf 16 v)) then 3 else 0
  | .l3Cfg => if d = .ul ∧ bitsAt v 0 16 = 0 then 1 else 0
  | .rxChain => if v = old then 0 else 2
  | .muteCfg | .fastCfg => 0

/-- GOV_WRITE (R198). -/
def govWrite (d : Dir) (which : GovReg) (g : Fin 16) (v : Word) (s : State) : State :=
  s.ifUp (fun s =>
    let a := govRegAddr d which g
    let new := (s.wr a v.toNat).rd a
    let r := if s.judgeEn then s.govJudge d which g new (s.rd a) else 0
    let s := s.setSt (Reg.GOV_WRITE_STATUS d) (r + 4 * govRegShown which g + 256 * govRegNum which)
    if r = 0 then s.wrc a v.toNat
    else
      let s := s.raise (15 + d.num) 25
      if r = 3 ∧ which = .target then s.lockActs 2 d.num 3 else s)

def execGovWrite (d : Dir) (which : GovReg) (g : Fin 16) (v : Word) (s : State) : Host.Outcome State Fault Refusal :=
  done s (govWrite d which g v s)

/-! ### The donor (R190) -/

def State.setDonor (s : State) (n : Nat) (here : Bool) : State :=
  s.setGov .dl (govOf n) { s.govRec .dl (govOf n) with donorOk := here, means := [], lostAt := s.now }

/-- What the ticks have measured bears a loss out: no 1 ms mean of a running branch at or above DONOR_MIN, and no hit of a TDD slot's
reference, within DONOR_LOSS_MS (R190; log entry 79). -/
def State.donorSilent (s : State) (n : Nat) : Bool := sinceMs s.now (s.donorLossMs (govOf n)) (s.govRec .dl (govOf n)).donorHigh

/-- The 1 ms means since the loss bear a return out: their mean over the latest 1,000 is at least DONOR_MIN + 3.00 dB, and a TDD slot's
reference tracked throughout (R190; log entry 79). -/
def State.donorReturned (s : State) (n : Nat) : Bool :=
  let l := (s.govRec .dl (govOf n)).means
  l.isEmpty || (decide (s.donorMin (govOf n) + 300 ≤ Signal.meterDb ((l.map Prod.fst).foldl (· + ·) 0 / l.length)) && l.all Prod.snd)

/-- DONOR_LOST (R190): the slot and the uplink slots paired with it are muted; in a direction that does not transmit the mute
follows when it does. -/
def donorLost (slot : Fin 17) (s : State) : State :=
  let n : Nat := slot
  if !s.isUp || !s.slotEn .dl n || !s.donorHere n || !s.donorSilent n then s else (s.setDonor n false).donorMutes n true

def execDonorLost (slot : Fin 17) (s : State) : Host.Outcome State Fault Refusal := done s (donorLost slot s)

/-- DONOR_PRESENT (R190): the mute itself ends by R194. -/
def donorPresent (slot : Fin 17) (s : State) : State :=
  if !s.isUp || !s.slotEn .dl slot || !s.donorReturned slot then s else s.setDonor slot true

def execDonorPresent (slot : Fin 17) (s : State) : Host.Outcome State Fault Refusal := done s (donorPresent slot s)

/-! ### Mutes (R192–R194) -/

/-- The rise has stood at its limit with L3 at its lower output limit for MUTE_HOLD_MS (R192). -/
def State.riseHeld (s : State) (n : Nat) : Bool :=
  let r := s.govRec .ul (govOf n)
  r.floorLimit && decide (r.floorAt + s.holdMs .ul * msTime ≤ s.now)

/-- NOISE_RISE_MUTE (R192): an uplink slot. -/
def noiseRiseMute (slot : Fin 17) (s : State) : State :=
  if s.isUp && s.slotEn .ul slot && s.transmits .ul && s.riseHeld slot then s.muteSlot .ul slot .noiseRise else s

def execNoiseRiseMute (slot : Fin 17) (s : State) : Host.Outcome State Fault Refusal := done s (noiseRiseMute slot s)

/-- Transmit branches whose predicted output has been above the locked maximum by more than 1.00 dB for 5 ticks in a row (R192). -/
def State.outputOver (s : State) (d : Dir) : List Nat :=
  (s.txBr d).filter (fun t => decide (5 ≤ if t = 0 then (s.govDir d).over0 else (s.govDir d).over1))

/-- LANE_OUTPUT_MUTE (R192). -/
def laneOutputMute (d : Dir) (s : State) : State :=
  if s.isUp && s.transmits d && !(s.outputOver d).isEmpty then
    ((s.outputOver d).foldl (fun s t => s.lockActs 3 (laneOf d t) 5) s).muteDir d .lockedOutput
  else s

def execLaneOutputMute (d : Dir) (s : State) : Host.Outcome State Fault Refusal := done s (laneOutputMute d s)

/-- The cause of a mute is absent, and no tick within RETRY_MS found it present (R194; log entry 79). -/
def State.retryOver (s : State) (d : Dir) (n : Nat) (c : MuteCause) (causeAt : Option Nat) : Bool :=
  s.causeAbsent d n c && sinceMs s.now (s.retryMs d) causeAt

/-- MUTE_RETRY_EXPIRED (R194): the cause of a transient mute has been absent for RETRY_MS, so the mute ends. A mute whose unit is
fenced or retired waits for Q instead. -/
def muteRetryExpired (d : Dir) (slot : Option (Fin 17)) (s : State) : State :=
  s.ifUp (fun s => match slot with
    | none => match (s.govDir d).mute with
      | some c => if s.isOut (15 + d.num) 16 || !s.retryOver d 0 c (s.govDir d).causeAt then s else s.unmuteDir d
      | none => s
    | some n => match (s.govRec d (govOf n)).mute with
      | some c => if s.isOut (15 + d.num) (govOf n) || !s.retryOver d n c (s.govRec d (govOf n)).causeAt then s else s.unmuteSlot d n
      | none => s)

def execMuteRetryExpired (d : Dir) (slot : Option (Fin 17)) (s : State) : Host.Outcome State Fault Refusal :=
  done s (muteRetryExpired d slot s)

/-! ### The fast cut (R188) -/

/-- A completed block of one branch: PIN, taken as 0 dBFS where the slot over-range flag counts. -/
def blockPin (pin : Int) (flagged : Bool) : Int := if flagged && decide (-600 < pin) then 0 else pin

/-- The ramp that a cut at slot sample i0 puts in place of one of a tick of ns samples: to the tick's end, or through the next tick where
less than an eighth of it is left (R188). -/
def Ramp.cutTo (r : Ramp) (i0 : Int) (ns : Nat) (cut : Int) : Ramp :=
  { base := r.at_ i0, start := i0, goal := cut, stop := if (ns : Int) ≤ 8 * (ns - i0) then (ns : Int) - 1 else 2 * (ns : Int) - 1 }

/-- The cut itself: CHAN replaces the ramp, and a gain that it takes out of the multiplier's range counts once per tick (R147, R188). -/
def State.cutTo (s : State) (d : Dir) (n : Nat) (i0 : Int) (cut : Int) : State :=
  let r := s.slotRec d n
  let ns := s.tickLen d n
  let s := s.setSlot d n { r with ramp := r.ramp.cutTo i0 ns cut, cut := some cut }
  let s := s.setGov d (govOf n) { s.govRec d (govOf n) with fastCut := true }
  let counted := (s.enabled d).any (fun m => (s.slotRec d m).clamped)
  if s.gainClamps d n [i0, (ns : Int) - 1] then
    let s := s.setSlot d n { s.slotRec d n with clamped := true }
    if counted then s else s.clampNote d
  else s

/-- FAST_CUT (R188): a completed 12.5 µs block, critical or not; i0 is the first sample after it, and D_cur the gain that the ramp in force gives
there. A flag is a branch's own, and the trims are those of the latest boundary, since a later one is ramped from the next (R147). -/
def fastCut (d : Dir) (slot : Fin 17) (i0 : Nat) (pin0 pin1 : Int) (flagged : BitVec 2) (s : State) : State :=
  let n : Nat := slot
  let g := govOf n
  let c := s.rd (Reg.GOV_FAST_CFG d)
  if !s.isUp || !s.slotEn d n || !bitAt c 16 then s
  else
    let ts := s.txBr d
    let r := s.slotRec d n
    let at0 : Int := min i0 (s.tickLen d n - 1)
    let raw (t : Nat) : Int := if t = 0 then pin0 else pin1
    let pin (t : Nat) : Int := blockPin (raw t) (flagged.getLsbD t)
    let trim (t : Nat) : Int := if t = 0 then r.trimNow.1 else r.trimNow.2
    let critical := ts.any (fun t =>
      decide ((s.l2Eff d g t + bitsAt c 0 16 - pin t - trim t - s.gTx d t) * gainUnit < r.ramp.at_ at0) ||
        (flagged.getLsbD t && decide (-600 < raw t)))
    let cut := minOver ts (fun t => s.l2Eff d g t - pin t - trim t - s.gTx d t) 0
    if critical && decide (cut < r.ramp.goal) then s.cutTo d n at0 cut else s

def execFastCut (d : Dir) (slot : Fin 17) (i0 : Nat) (pin0 pin1 : Int) (flagged : BitVec 2) (s : State) :
    Host.Outcome State Fault Refusal := done s (fastCut d slot i0 pin0 pin1 flagged s)

end Sys2Proof.Machine
end

