-- ==== Sys2Proof/Machine/Hk.lean ====
section
/-! DEFINITION. Meanings of the commands of "Housekeeping converters" (R312–R329). A pass starts and a conversion ends by a command;
a converter operand names the converter whose sequence it is (R326). -/

namespace Sys2Proof.Machine

def convNum : HkConv → Nat
  | .a => 0
  | .b => 1

/-! ### Passes (R314) -/

/-- The first entry from i on whose channel exists; an entry whose channel exceeds 39 is skipped (R314). -/
def validFrom (seq : List Nat) (i : Nat) : Option Nat := ((List.range seq.length).drop i).find? (fun e => decide (bitsAt (seq.getD e 63) 0 6 ≤ 39))

/-- The injected sequence of converter c (R316). -/
def State.injSeq (s : State) (c : Nat) : List Nat :=
  (List.range (s.injLen c)).map (fun e => s.rd (if c = 0 then Reg.HK_INJ_A e else Reg.HK_INJ_B e))

/-- Entries that are skipped count source 19 (R314). -/
def State.hkSkip (s : State) (seq : List Nat) : State :=
  s.raiseEvs ((seq.filter (fun w => decide (39 < bitsAt w 0 6))).map (fun _ => { blk := 18, src := 19 }))

/-- The pass of converter c starts: it takes LEN and every entry; a changed entry's filter restarts. -/
def State.passStart (s : State) (c : Nat) : State :=
  let r := s.hkRec c
  let seq := (List.range (seqLen (s.rd (hkCtrlReg c)))).map (fun e => s.rd (hkSeqReg c e))
  let filt := r.filt.filter (fun f => r.seq[f.1]? = seq[f.1]?)
  let s := s.setHk c { r with
    passOpen := (validFrom seq 0).isSome, seq := seq, filt := filt, used := 0, ovrPass := false, due := false, next := 0 }
  s.hkSkip seq

/-- HK_PASS_START (R314): a paced pass that is due while its predecessor runs is an overrun, and starts as that one ends. -/
def hkPassStart (c : HkConv) (s : State) : State :=
  let k := convNum c
  let m := s.fld (hkCtrlReg k) 0 2
  if !s.hkOn || seqLen (s.rd (hkCtrlReg k)) = 0 then s
  else if (s.hkRec k).passOpen then
    (if m = 2 then (s.setHk k { s.hkRec k with due := true }).raise 18 (2 + k) else s)
  else s.passStart k

def execHkPassStart (c : HkConv) (s : State) : Host.Outcome State Fault Refusal := done s (hkPassStart c s)

/-- The pass ends: PASS_TIME in nominal conversion times, and a successor that is due, or that the continuous mode gives, starts. -/
def State.passEnd (s : State) (c : Nat) : State :=
  let r := s.hkRec c
  let s := (s.setHk c { r with passOpen := false }).setStF Reg.HK_PASS_TIME (16 * c) 16 (min 65535 r.used)
  if (r.due || s.fld (hkCtrlReg c) 0 2 = 1) && seqLen (s.rd (hkCtrlReg c)) != 0 then s.passStart c else s

/-! ### Results (R321–R324) -/

/-- Tick index modulo 256, 0 before device time starts. -/
def State.hkTick (s : State) : Nat := if s.syn.timeRuns then s.now / tickTime % 256 else 0

/-- The DAC's target channel (R324): HK_IN(TARGET), or channel 38. -/
def State.dacTarget (s : State) : Nat := let t := s.fld Reg.HK_TDAC 10 6; if t < 24 then t else 38

/-- Conversions of the channel carry TEST: the DAC drives its input path. -/
def State.dacDrives (s : State) (ch : Nat) : Bool := bitAt (s.rd Reg.HK_TDAC) 16 && decide (ch < 24) && s.fld Reg.HK_TDAC 10 6 = ch

/-- Whether a transmit lane's detector was converted inside a transmit window of its lane (R221). -/
def State.detWindow (s : State) (ch : Nat) : BitVec 4 :=
  BitVec.ofNat 4 (packBits 4 (fun l => if s.detInput l = ch then s.winOpen (laneDir l) else s.hk.inWin.getLsbD l))

/-- A result of a channel: RES_c, and the consumers where nothing holds it back (R321, R340). -/
def State.hkResult (s : State) (ch word : Nat) : State :=
  let s := { s with hk := { s.hk with inWin := s.detWindow ch } }.setSt (Reg.HK_RES ch) word
  if bitAt word 17 || bitAt word 18 || bitAt word 22 then s
  else
    let s := { s with hk := { s.hk with delivered := NMap.put (fun _ => 0) s.hk.delivered ch word } }
    if 24 ≤ ch ∧ ch < 30 ∧ !bitAt word 16 then
      let k := ch - 24
      let t := Config.sensorTemp k (bitsAt word 0 16)
      let hot := if 14500 ≤ t then NMap.get (fun _ => 0) s.therm.hotReads k + 1 else 0
      { s with therm := { s.therm with
          sensors := NMap.ins s.therm.sensors k t
          hotReads := NMap.put (fun _ => 0) s.therm.hotReads k (min 2 hot)
          fresh := BitVec.ofNat 6 (putBits s.therm.fresh.toNat k 1 1) } }
    else s

/-- A word of RES_c. -/
def resWord (value : Nat) (ovr ns settling filt : Bool) (conv : Nat) (inj test : Bool) (tick : Nat) : Nat :=
  value % 65536 + ofBool ovr * 2 ^ 16 + ofBool ns * 2 ^ 17 + ofBool settling * 2 ^ 18 + ofBool filt * 2 ^ 19 + conv * 2 ^ 20
    + ofBool inj * 2 ^ 21 + ofBool test * 2 ^ 22 + tick * 2 ^ 24

/-- What a converter of sequence c converts next: the entry's number and word, and whether the injected run has it (R314, R317). -/
def State.hkDue (s : State) (c : Nat) : Option (Nat × Nat × Bool) :=
  let r := s.hkRec c
  if r.injRun then (validFrom (s.injSeq c) r.injNext).map (fun e => (e, (s.injSeq c).getD e 0, true))
  else if r.passOpen then (validFrom r.seq r.next).map (fun e => (e, r.seq.getD e 0, false))
  else none

/-- The input is outside the reference's range by more than 1 LSB (R322). -/
def convOvr (x : ConvIn) : Bool := decide (4096 * x.v < -(x.vref : Int)) || decide (4097 * (x.vref : Int) < 4096 * x.v)

/-- A conversion as converter p makes it of a channel: a fenced test DAC leaves channel 38 at 0 V (R326). -/
def State.hkSees (s : State) (ch : Nat) (x : ConvIn) : ConvIn := if ch = 38 && s.isOut 18 2 then { x with v := 0 } else x

/-- HK_VREF is outside 0.90–1.90 V while converter p uses it (R320). -/
def State.vrefBad (s : State) (p : Nat) (x : ConvIn) : Bool := s.hkRefSel p = 1 && !(decide (900000 ≤ x.vref) && decide (x.vref ≤ 1900000))

/-- A conversion that ends: over-range counts and the excursion of HK_VREF (R320, R322). -/
def State.hkCounts (s : State) (c p : Nat) (x : ConvIn) : State :=
  let s := s.setHk p { s.hkRec p with ovrLast := convOvr x }
  let s := if s.vrefBad p x then { s with hk := { s.hk with vrefOut := true } }.raiseIf (!s.hk.vrefOut) 18 23
    else if s.hkRefSel p = 1 then { s with hk := { s.hk with vrefOut := false } } else s
  let r := s.hkRec c
  let s := s.setHk c { r with used := if r.passOpen then r.used + 1 else r.used, ovrPass := r.ovrPass || ((convOvr x) && r.passOpen) }
  if convOvr x then (s.bumpF Reg.HK_OVR_COUNT (16 * p) 16 1).raiseIf (r.passOpen && !r.ovrPass) 18 p else s

/-- RES_c as converter p fills it: 1/16 codes and their flags (R321–R324); `ns`: neighbour-suspect. -/
def State.hkWord (s : State) (p ch : Nat) (x : ConvIn) (ns inj : Bool) : Nat :=
  let settling := !(s.hkRec p).refOk || s.vrefBad p x || (x.dacMoving && ch = s.dacTarget && bitAt (s.rd Reg.HK_TDAC) 16)
  resWord (16 * Signal.hkCode x.v x.vref) (convOvr x) ns settling false p inj (s.dacDrives ch) s.hkTick

/-- A conversion of a filtered entry: fed to the filter, or, while flagged, standing as a missing input (R315). -/
def State.hkFilter (s : State) (c p e w : Nat) (code : Nat × Bool) (held : Bool) : State :=
  let r := s.hkRec c
  let f := NMap.get (fun _ => {}) r.filt e
  match (if held then f.xs.head? else some code) with
  | none => s
  | some i =>
    let (f', out) := f.feed (seqOrder w) (seqDec w) i
    let s := s.setHk c { r with filt := NMap.put (fun _ => {}) r.filt e f' }
    match out with
    | some (v, o) => s.hkResult (bitsAt w 0 6) (resWord v o false false true p false false s.hkTick)
    | none => s

/-- The run or the pass goes on behind entry e. -/
def State.hkAdvance (s : State) (c e : Nat) (inj : Bool) : State :=
  let r := { s.hkRec c with again := false }
  if inj then s.setHk c { r with injNext := e + 1, injRun := (validFrom (s.injSeq c) (e + 1)).isSome }
  else
    let s := s.setHk c { r with next := e + 1 }
    if (validFrom r.seq (e + 1)).isNone then s.passEnd c else s

/-- HK_CONVERSION_END (R321–R324): the conversion of the entry that is due. A neighbour-suspect result goes to RES_c only, and its entry is
converted again. -/
def hkConversionEnd (c : HkConv) (x : ConvIn) (s : State) : State :=
  let k := convNum c
  let p := s.hkBy k
  match s.hkDue k with
  | none => s
  | some (e, w, inj) =>
    if !s.hkOn then s
    else
      let ch := bitsAt w 0 6
      let x := s.hkSees ch x
      let ns := (s.hkRec p).ovrLast && x.soonAfterOvr && !(s.hkRec k).again
      let word := s.hkWord p ch x ns inj
      let s := s.hkCounts k p x
      if ns then ((s.setHk k { s.hkRec k with again := true }).bumpF Reg.HK_REPEAT_COUNT (16 * p) 16 1).hkResult ch word
      else
        let code := (Signal.hkCode x.v x.vref, (convOvr x))
        let s :=
          if inj || seqOrder w = 0 then s.hkResult ch word
          else if bitAt word 18 || bitAt word 22 then (s.hkResult ch word).hkFilter k p e w code true
          else s.hkFilter k p e w code false
        s.hkAdvance k e inj

def execHkConversionEnd (c : HkConv) (x : ConvIn) (s : State) : Host.Outcome State Fault Refusal := done s (hkConversionEnd c x s)

/-! ### Triggers (R316–R319) -/

/-- HK_TRIG_EDGE (R318). -/
def hkTrigEdge (t : Nat) (s : State) : State :=
  if !s.hkOn || !bitAt (s.rd Reg.HK_HK_TRIG_CFG) 0 || s.hk.trigStuck then s
  else
    let hold := usTime (s.fld Reg.HK_HK_TRIG_HOLD 0 16)
    let near := match s.hk.trigLast with
      | some e => decide (t < e + hold)
      | none => false
    if near then s.raise 18 6
    else
      let s := { s with hk := { s.hk with trigLast := some t } }.hkTrigger 16
      { s with bog := fireWhere s s.bog t (fun n => s.trigKind n = 6) }

def execHkTrigEdge (t : Nat) (s : State) : Host.Outcome State Fault Refusal := done s (hkTrigEdge t s)

/-- HK_TRIG_STUCK (R318). -/
def hkTrigStuck (s : State) : State :=
  if !s.hkOn || !bitAt (s.rd Reg.HK_HK_TRIG_CFG) 0 || s.hk.trigStuck then s
  else { s with hk := { s.hk with trigStuck := true } }.raise 18 7

def execHkTrigStuck (s : State) : Host.Outcome State Fault Refusal := done s (hkTrigStuck s)

/-- HK_TRIG_INACTIVE_LEVEL (R318). -/
def hkTrigInactiveLevel (s : State) : State := { s with hk := { s.hk with trigStuck := false } }

def execHkTrigInactiveLevel (s : State) : Host.Outcome State Fault Refusal := done s (hkTrigInactiveLevel s)

def State.setOvd (s : State) (l : Nat) (on : Bool) : State :=
  { s with hk := { s.hk with ovd := BitVec.ofNat 4 (putBits s.hk.ovd.toNat l 1 (ofBool on)) } }

/-- The pin level v in µV lies above OVD_THR less h codes of the internal reference (R319). -/
def State.ovdAbove (s : State) (l h v : Nat) : Bool :=
  decide (((s.fld (Reg.HK_OVD_THR l) 0 12 : Int) - h) * 1200000 < 4096 * (v : Int))

/-- OVERDRIVE_TRIP (R319): the pin of an enabled comparator, named by its lane's PA table, crosses the threshold upwards. -/
def overdriveTrip (x : OvdIn) (s : State) : State :=
  let l : Nat := x.lane
  if !s.isUp || !bitAt (s.rd Reg.HK_OVD_CFG) l || !s.hasTable l || s.hk.ovd.getLsbD l || !s.ovdAbove l 0 x.v then s
  else ((s.setOvd l true).raise 18 (15 + l)).hkTrigger (19 + l)

def execOverdriveTrip (x : OvdIn) (s : State) : Host.Outcome State Fault Refusal := done s (overdriveTrip x s)

/-- OVERDRIVE_REARM (R319): the pin has fallen below the threshold less the hysteresis. -/
def overdriveRearm (x : OvdIn) (s : State) : State := if s.ovdAbove x.lane 32 x.v then s else s.setOvd x.lane false

def execOverdriveRearm (x : OvdIn) (s : State) : Host.Outcome State Fault Refusal := done s (overdriveRearm x s)

/-- HK_INJECTED_RUN (R317): a pending run starts; one without entries is over at once. -/
def hkInjectedRun (c : HkConv) (s : State) : State :=
  let k := convNum c
  let r := s.hkRec k
  if !s.hkOn || !r.injPending then s
  else (s.setHk k { r with
    injPending := false, injRun := (validFrom (s.injSeq k) 0).isSome, injNext := 0, again := false }).hkSkip (s.injSeq k)

def execHkInjectedRun (c : HkConv) (s : State) : Host.Outcome State Fault Refusal := done s (hkInjectedRun c s)

/-! ### References and the cross-check (R320, R325) -/

/-- HK_REFERENCE_SETTLED (R320): REF_OK, or the source that fences the converter. -/
def hkReferenceSettled (c : HkConv) (settled : Bool) (s : State) : State :=
  let k := convNum c
  if !s.isUp || (s.hkRec k).refOk then s
  else if settled then s.setHk k { s.hkRec k with refOk := true }
  else (s.raise 18 (8 + k) (some k)).fenceNow 18 k (8 + k)

def execHkReferenceSettled (c : HkConv) (settled : Bool) (s : State) : Host.Outcome State Fault Refusal :=
  done s (hkReferenceSettled c settled s)

/-- TOL in mV; 0 acts as 1. -/
def State.crossTol (s : State) : Nat := max 1 (s.fld Reg.HK_CROSS_CFG 8 8)

/-- A code in units of 1/4,096 mV at the converter input (R321). -/
def State.hkMv (s : State) (c code : Nat) : Int := ((code * s.hkVref c : Nat) : Int)

/-- The arbitration on channel 38 at 600.0 mV: who misses it. -/
def State.arbitrateWith (s : State) (codeA codeB : Nat) : State :=
  let miss (c code : Nat) : Bool := decide (s.crossTol * 4096 < (s.hkMv c code - 600 * 4096).natAbs)
  let s0 := { s with hk := { s.hk with arbitrate := false, crossRun := 0 } }
  match miss 0 codeA, miss 1 codeB with
  | false, false => s0.setStF Reg.HK_CROSS_STAT 20 2 1
  | true, false => ((s0.setStF Reg.HK_CROSS_STAT 20 2 2).raise 18 13 (some 0)).fenceNow 18 0 13
  | false, true => ((s0.setStF Reg.HK_CROSS_STAT 20 2 3).raise 18 14 (some 1)).fenceNow 18 1 14
  | true, true => (s0.raise 18 22 (some 2)).fenceNow 18 2 22

/-- The comparison of channel CH: DIFF, the run of mismatches, and the arbitration that it starts. -/
def State.crossCompare (s : State) (codeA codeB : Nat) : State :=
  let diff := s.hkMv 0 codeA - s.hkMv 1 codeB
  let bad := decide (s.crossTol * 4096 < diff.natAbs)
  let run := if bad then s.hk.crossRun + 1 else 0
  let count := max 1 (s.fld Reg.HK_CROSS_CFG 24 4)
  let start := run = count
  let s := { s with hk := { s.hk with crossRun := run, arbitrate := s.hk.arbitrate || start } }
  ((s.setStF Reg.HK_CROSS_STAT 0 16 (bitsOf 16 (sat16 (rneDiv diff 4096)))).setStF Reg.HK_CROSS_STAT 16 4 (min 15 run)).raiseIf start 18 12

/-- An EVERY-th tick boundary has passed since the latest insertion; EVERY 0 acts as 1 (R325). -/
def State.crossDue (s : State) : Bool :=
  let every := max 1 (s.fld Reg.HK_CROSS_CFG 16 8)
  decide (s.hk.crossAt < s.now / tickTime / every * every)

/-- An inserted conversion of converter p: its result as any other, and whether a comparison may use it (R325). -/
def State.hkInserted (s : State) (p ch : Nat) (x : ConvIn) : State × Bool :=
  let ns := (s.hkRec p).ovrLast && x.soonAfterOvr
  let word := s.hkWord p ch x ns false
  ((s.hkCounts p p x).hkResult ch word, !(bitAt word 16 || ns || bitAt word 18 || bitAt word 22))

/-- HK_CROSS_CHECK (R325): both converters convert channel CH or, in an arbitration, the test DAC. A CH above 39 is no insertion
(log entry 85). `ended`: both conversions were completed (R329). -/
def hkCrossCheck (a b : ConvIn) (ended : Bool) (s : State) : State :=
  if !s.isUp || !bitAt (s.rd Reg.HK_CROSS_CFG) 28 || s.hk.takeover || (s.isOut 18 0 && s.isOut 18 1) || !s.crossDue then s
  else
    let arb := s.hk.arbitrate && !bitAt (s.rd Reg.HK_TDAC) 16 && !s.isOut 18 2
    let ch := if arb then 38 else s.fld Reg.HK_CROSS_CFG 0 6
    if 39 < ch then s
    else
      let aimed := bitAt (s.rd Reg.HK_TDAC) 16 && s.dacTarget = ch
      let xa := s.hkSees ch a
      let xb := s.hkSees ch b
      let s := if s.hk.arbitrate && !arb then s.setStF Reg.HK_CROSS_STAT 20 2 0 else s
      let (s, okA) := { s with hk := { s.hk with crossAt := s.now / tickTime } }.hkInserted 0 ch xa
      let (s, okB) := s.hkInserted 1 ch xb
      let codeA := Signal.hkCode xa.v xa.vref
      let codeB := Signal.hkCode xb.v xb.vref
      if !okA || !okB || aimed || !ended then s
      else if arb then s.arbitrateWith codeA codeB
      else s.crossCompare codeA codeB

def execHkCrossCheck (a b : ConvIn) (ended : Bool) (s : State) : Host.Outcome State Fault Refusal := done s (hkCrossCheck a b ended s)

/-! ### HK_WRITE (R320, R328) -/

/-- A write would take the detector of a lane with a PA table out of both regular sequences. -/
def State.losesDetector (s t : State) : Bool :=
  laneNums.any (fun l => s.hasTable l && s.regularChannels.contains (s.detInput l) && !t.regularChannels.contains (s.detInput l))

/-- What a write of CTRL does at once: a changed reference settles anew, a sequence that goes on or off restarts its filters. -/
def State.hkCtrlChanged (s t : State) (c : Nat) : State :=
  let r := t.hkRec c
  let ref := s.hkRefSel c != t.hkRefSel c
  let onOff := (seqLen (s.rd (hkCtrlReg c)) = 0) != (seqLen (t.rd (hkCtrlReg c)) = 0)
  t.setHk c { r with refOk := r.refOk && !ref, filt := if ref || onOff then [] else r.filt }

/-- HK_WRITE (R328). -/
def hkWrite (off : Fin 2048) (v : Word) (s : State) : State :=
  let a := 0x9000 + off.val
  match rowAt a with
  | none => s
  | some row =>
    if !s.regsUp || row.acc != .rw || decide (off.val < 0x40) then s
    else
      let t := s.wrc a v.toNat
      if s.judgeEn && s.losesDetector t then s.raise 18 19
      else if a = Reg.HK_CTRL_A then s.hkCtrlChanged t 0
      else if a = Reg.HK_CTRL_B then s.hkCtrlChanged t 1
      else t

def execHkWrite (off : Fin 2048) (v : Word) (s : State) : Host.Outcome State Fault Refusal := done s (hkWrite off v s)

end Sys2Proof.Machine
end

