-- ==== Sys2Proof/Machine/Peat.lean ====
section
/-! DEFINITION. Meanings of the commands of "The Peat service recorder" (R368–R382). -/

namespace Sys2Proof.Machine

/-- The latest repeat is taken back (R380): its count, and OPSEC_LAST as before it. -/
def PeatState.unrepeat (p : PeatState) (seq before : Nat) : PeatState :=
  let (n, _) := p.pending seq
  if 0 < n then { p with pend := NMap.put (fun _ => (0, 0)) p.pend seq (if n = 1 then (0, 0) else (n - 1, before)), lastRepeat := none }
  else match p.slots.find? (fun e => e.2.seq = seq && e.2.kind != 0) with
    | some (i, r) =>
      { p with slots := NMap.put (fun _ => {}) p.slots i { r with rep := r.rep - 1, opsecLast := before }, lastRepeat := none }
    | none => { p with lastRepeat := none }

/-- A repeat of the tick that closes by TIMER is folded into the interval instead (R380). -/
def State.foldRepeat (s : State) : State :=
  match s.peat.lastRepeat with
  | some [t, seq, cause, detail, before] =>
    if t = s.now then
      let p := s.peat.unrepeat seq before
      { s with peat := { p with openI := { p.openI with folded := foldCause p.openI.folded cause detail } } }
    else s
  | _ => s

/-- INTERVAL seconds have passed since the open interval opened (R373). -/
def State.timerDue (s : State) : Bool := decide (s.peat.openI.openedAt + s.peat.openI.limit ≤ s.peat.opsec)

/-- PEAT_TIMER (R373): the interval closes, unless another cause closed it in this tick (R380). -/
def peatTimer (s : State) : State :=
  if !s.isUp || !s.timerDue || s.peat.openI.born = some s.now then s else s.foldRepeat.peatClose 1 0

def execPeatTimer (s : State) : Host.Outcome State Fault Refusal := done s (peatTimer s)

/-- PEAT_FLUSH (R368): one more operating second, and the flush to the buffer that the latest valid one does not use. -/
def peatFlush (s : State) : State :=
  if !s.regsUp then s
  else
    let op := satAdd 4294967295 s.peat.opsec 1
    let full := decide (op = 4294967295 ∧ s.peat.opsec ≠ op)
    let s := { s with peat := { s.peat with opsec := op } }.raiseIf full 21 15
    let busy := s.peat.flushNext.isSome
    let s := { s with peat := { s.peat with flushNext := some (s.peat.openI, s.peat.opsec, s.peat.pcc) } }
    if busy then s else s.mramWrite .flush

def execPeatFlush (s : State) : Host.Outcome State Fault Refusal := done s (peatFlush s)

/-- PEAT_COMMIT_COMPLETE (R375): a commit or a rewrite ends, with all its codewords, and the queue drains. -/
def peatCommitComplete (s : State) : State := if s.mram.inFlight = some .peat then s.recorder Rec.complete else s

def execPeatCommitComplete (s : State) : Host.Outcome State Fault Refusal := done s (peatCommitComplete s)

/-- PEAT_AUDIT (R377): FAILED, sources 4 and 2; a torn slot is left out. -/
def peatAudit (f : AuditIn) (s : State) : State :=
  if !s.isUp then s
  else
    let bad := f.failed.eraseDups.filter (fun i => decide (i < 21504) && s.peat.tornSlot != some i)
    let fixed := f.corr.eraseDups.filter (fun i => decide (i < 21504))
    let hurt := (f.ue.filter (fun e => decide (e.1 < 21504) && (s.peat.slot e.1).kind != 0)).foldl (fun m e =>
      NMap.put (fun _ => {}) m e.1 { s.peat.slot e.1 with ue := e.2 % 256 }) s.peat.slots
    { s with peat := { s.peat with failed := min 65535 bad.length, auditRunning := false, slots := hurt } }.raiseEvs
      (bad.map (fun _ => ({ blk := 21, src := 4 } : Ev)) ++ fixed.map (fun _ => ({ blk := 21, src := 2 } : Ev)))

def execPeatAudit (f : AuditIn) (s : State) : Host.Outcome State Fault Refusal := done s (peatAudit f s)

/-- PEAT_FREEZE (R379). -/
def peatFreeze (s : State) : State :=
  if !s.isUp || s.peat.out || s.peat.freezePending then s
  else if s.peat.frozen then { s with peat := { s.peat with frozenN := 0 } }
  else if !s.peat.hold.isEmpty then s.raise 21 8
  else if s.peat.writing.isSome then { s with peat := { s.peat with freezePending := true } }
  else { s with peat := { s.peat with frozen := true, frozenN := 0 } }

def execPeatFreeze (s : State) : Host.Outcome State Fault Refusal := done s (peatFreeze s)

/-- The freeze ends: the queue drains, then pending repeats apply. -/
def State.thaw (s : State) : State :=
  { s with peat := { s.peat with frozen := false, freezePending := false } }.recorder Rec.drain

/-- PEAT_THAW (R379). -/
def peatThaw (s : State) : State := s.ifUp (fun s => s.thaw)
def execPeatThaw (s : State) : Host.Outcome State Fault Refusal := done s (peatThaw s)

/-- PEAT_CLOSE (R379). -/
def peatCloseCmd (s : State) : State := s.ifUp (fun s => s.peatClose 2 0)
def execPeatClose (s : State) : Host.Outcome State Fault Refusal := done s (peatCloseCmd s)

/-- FREEZE_TIMEOUT (R379): 10 s since FROZEN was set. -/
def freezeTimeout (s : State) : State := if s.isUp && s.peat.frozen && decide (100000 ≤ s.peat.frozenN) then s.thaw.raise 21 7 else s
def execFreezeTimeout (s : State) : Host.Outcome State Fault Refusal := done s (freezeTimeout s)

end Sys2Proof.Machine
end

