-- ==== Sys2Proof/Machine/Sync.lean ====
section
/-! DEFINITION. Meanings of the commands of "Sync detection, diversity and noise floor" (R251–R267). -/

namespace Sys2Proof.Machine

/-! ### Markers and hits (R253, R256–R258, R260) -/

/-- A marker of reference r at time t with power p (R256, R257): it sets t0 while searching, or is kept for the next occurrence,
the stronger of two. The answer says whether it lay inside the window. -/
def State.marker (s : State) (r : Nat) (t p : Int) : State × Bool :=
  let k := s.trk r
  if s.perTime r = 0 then (s, true)
  else if k.st = 0 then
    (s.setTrk r { st := 1, t0 := t - s.offTime r }, true)
  else if s.inTrack r t then
    let keep := match k.marker with
      | some (_, q) => if q < p then (t, p) else k.marker.getD (t, p)
      | none => (t, p)
    (s.setTrk r { k with marker := some keep }, true)
  else (s, false)

/-- A hit outside the window in state 2 or 3 (R258; one candidate is held for each reference, DEDUCED, log entry 37): of the held candidate, or of a stronger cell elsewhere. -/
def State.candidate (s : State) (r : Nat) (t p : Int) : State :=
  let k := s.trk r
  match k.cand with
  | none => s.setTrk r { k with cand := some (t, p), candHit := true, candCount := 0, candMissed := 0 }
  | some (c, q) =>
    if s.inCand r c t then s.setTrk r { k with cand := some (t, if k.candHit then maxI p q else p), candHit := true }
    else if q < p then s.setTrk r { k with cand := some (t, p), candHit := true, candCount := 0, candMissed := 0, switching := false }
    else s

/-- Diversity (R260): the direction's present branch gives way to the other where that branch's P is higher by HYST. -/
def State.diversity (s : State) (d : Dir) (h : HitIn) : State :=
  let lanesIn := !s.rxOut (laneOf d 0) && !s.rxOut (laneOf d 1)
  if s.branchMode d ≠ 1 ∨ s.divRef d ≠ some h.ref.val ∨ !lanesIn then s
  else
    let now := match d with | .dl => s.sync.branchDl | .ul => s.sync.branchUl
    let hyst : Int := s.fld Reg.SYNC_DIV_CFG 16 16
    let onOne := decide (h.lane.val % 2 = 1)
    let moves :=
      if onOne = now then (match h.other with | some q => decide (h.p + hyst ≤ q) | none => false)
      else (match h.other with | some q => decide (q + hyst ≤ h.p) | none => true)
    if moves then
      let y := match d with
        | .dl => { s.sync with branchDl := !now }
        | .ul => { s.sync with branchUl := !now }
      { s with sync := y }.raise 11 (5 + d.num)
    else s

/-- Regions that a hit triggers (R290): KIND 2, the reference, the flag and the power. -/
def State.trigHit (s : State) (h : HitIn) (flag n : Nat) : Bool :=
  let t := s.rd (Reg.BOG_REG_TRIG n)
  s.trigKind n = 2 && bitsAt t 9 4 = h.ref.val && bitAt (bitsAt t 13 3) flag &&
    decide (s.fldS (Reg.BOG_REG_TRIG_VAL n) 0 16 ≤ h.p)

/-- The search channel of a hit runs (R251, R252, R265). -/
def State.searches (s : State) (h : HitIn) : Bool :=
  let d := keyDir h.slot
  let n := keySlot h.slot
  s.isUp && laneDir h.lane = d && s.rxRuns h.lane && s.slotEn d n && s.slotRef d n = some h.ref.val &&
    decide (128 ≤ s.refLen h.ref) && !s.isOut 11 d.num

/-- A hit of a TDD downlink slot's reference keeps the donors of the slots that name it from counting as lost (R190). -/
def State.hitHeard (s : State) (r : Nat) : State :=
  (s.enabled .dl).foldl (fun s n =>
    let g := govOf n
    if s.slotTdd .dl n && s.slotRef .dl n = some r then s.setGov .dl g { s.govRec .dl g with donorHigh := some s.now } else s) s

/-- SYNC_HIT (R253). -/
def syncHit (h : HitIn) (s : State) : State :=
  let d := keyDir h.slot
  let r : Nat := h.ref
  if !s.searches h then s
  else if h.excluded then s.raise 11 7
  else
    let s := s.bumpF Reg.SYNC_HIT_COUNT (16 * d.num) 16 1
    let timed := s.refPeriod r != 0
    let st := (s.trk r).st
    let inside := !timed || s.inTrack r h.t
    let flag := if !timed then 0 else if st < 2 then 2 else if inside then 0 else 1
    let s := if d = .dl && s.refTsrc r = 0 && timed then
        let (s, ok) := s.marker r h.t h.p
        if !ok && decide (2 ≤ st) then s.candidate r h.t h.p else s
      else s
    let s := (if flag = 0 then s.diversity d h else s).hitHeard r
    let e : BixEntry := { t := h.t, kind := 2, flag := flag, lane := h.lane, slot := h.slot, ref := r, p := h.p, rho := h.rho }
    let s := { s with bog := fireWhere s s.bog h.t (s.trigHit h flag) }
    s.bixReport e

def execSyncHit (h : HitIn) (s : State) : Host.Outcome State Fault Refusal := done s (syncHit h s)

/-! ### Occurrences (R257, R258) -/

/-- The held candidate at an occurrence (R258). -/
def State.judgeCand (s : State) (r : Nat) (cur : Option (Int × Int)) : State :=
  let k := s.trk r
  match k.cand with
  | none => s
  | some (_, p) =>
    let delta : Int := s.fld Reg.SYNC_CAND_CFG 0 16
    let better := k.candHit && (match cur with | some (_, q) => decide (q + delta ≤ p) | none => true)
    let missed := if k.candHit then 0 else k.candMissed + 1
    if s.lossN ≤ missed then s.setTrk r { k with cand := none, candHit := false, candCount := 0, candMissed := 0, switching := false }
    else
      let m := max 1 (s.fld Reg.SYNC_CAND_CFG 16 8)
      let c := if better then k.candCount + 1 else 0
      (s.setTrk r { k with candHit := false, candCount := c, candMissed := missed, switching := decide (m ≤ c) }).raiseIf (c = 1) 11 4

/-- SYNC_OCCURRENCE (R257): the window of the next occurrence of a schedule has passed. -/
def syncOccurrence (ref : Fin 16) (s : State) : State :=
  let r : Nat := ref
  let k := s.trk r
  if s.power != .up || k.st = 0 || s.perTime r = 0 then s
  else
    let occ := s.nextOcc r
    let hit := k.marker
    let base := k.t0 + s.occTime r
    let corr := match hit with
      | some (t, _) => base + rneDiv (t - occ) 8
      | none => base
    let missed := if hit.isSome then 0 else min 255 (k.missed + 1)
    let k1 := { k with marker := none, missed := missed }
    match k.st with
    | 1 =>
      if hit.isNone then s.setTrk r {}
      else if s.acq ≤ k.run + 1 then (s.setTrk r { k1 with st := 2, t0 := base, run := 0, opens := s.frameFrom r base (s.now + 1) }).raise 11 0
      else s.setTrk r { k1 with t0 := base, run := k.run + 1 }
    | 2 =>
      let s := if s.lossN ≤ missed then (s.setTrk r { k1 with st := 3, t0 := corr, run := 0 }).raise 11 1
               else s.setTrk r { k1 with t0 := corr }
      s.judgeCand r hit
    | _ =>
      if hit.isSome then (s.setTrk r { k1 with st := 2, t0 := corr, run := 0 }).judgeCand r hit
      else if s.holdN ≤ k.run + 1 then ((s.setTrk r {}).closeWindows r).raise 11 2
      else (s.setTrk r { k1 with t0 := base, run := k.run + 1 }).judgeCand r hit

def execSyncOccurrence (ref : Fin 16) (s : State) : Host.Outcome State Fault Refusal := done s (syncOccurrence ref s)

/-- TIMING_SWITCH (R258, R265): at the present frame boundary the candidate becomes the timing; its frames start at its next frame start. -/
def timingSwitch (ref : Fin 16) (s : State) : State :=
  let r : Nat := ref
  let k := s.trk r
  match k.cand with
  | some (t, _) =>
    if !s.isUp || !k.switching then s
    else ((s.setTrk r { st := 2, t0 := t - s.offTime r, opens := s.frameFrom r (t - s.offTime r) s.now }).closeWindows r).raise 11 3
  | none => s

def execTimingSwitch (ref : Fin 16) (s : State) : Host.Outcome State Fault Refusal := done s (timingSwitch ref s)

/-! ### Transmit windows (R233, R259) -/

/-- TRANSMIT_WINDOW_EDGE (R259): at device time t the gate of a TDD slot and the window of its direction stand as the schedules
give; a guard shorter than TR_LEAD + TR_LAG counts FRONT source 20. -/
def transmitWindowEdge (d : Dir) (slot : Fin 17) (t : Nat) (s : State) : State :=
  let n : Nat := slot
  if !s.isUp || !s.slotEn d n || !s.slotTdd d n then s
  else
    let was := (s.slotRec d n).tddOpen
    let now := s.windowAt d n 0 0 t
    let s := s.setSlot d n { s.slotRec d n with tddOpen := now }
    let s := s.setWin d (s.dirWindow d t)
    s.raiseIf (!was && now && s.shortGuard d n t) 9 20

def execTransmitWindowEdge (d : Dir) (slot : Fin 17) (t : Nat) (s : State) : Host.Outcome State Fault Refusal :=
  done s (transmitWindowEdge d slot t s)

/-! ### Timing pins (R264) -/

def State.tpin (s : State) (p : TPin) : PinRec := match p with | .tdd => s.sync.tdd | .pps => s.sync.pps

def State.setPin (s : State) (p : TPin) (x : PinRec) : State :=
  match p with
  | .tdd => { s with sync := { s.sync with tdd := x } }
  | .pps => { s with sync := { s.sync with pps := x } }

def pinCfg (p : TPin) : Nat := match p with | .tdd => Reg.SYNC_TDD_IN_CFG | .pps => Reg.SYNC_PPS_CFG
def pinHold (p : TPin) : Nat := match p with | .tdd => Reg.SYNC_TDD_IN_HOLD | .pps => Reg.SYNC_PPS_HOLD
def pinNum (p : TPin) : Nat := match p with | .tdd => 0 | .pps => 1

/-- The pin is enabled, and recognised at all: while device time runs (R264); sync is stopped in SHUTDOWN (R51). -/
def State.pinOn (s : State) (p : TPin) : Bool := s.power = .up && s.syn.timeRuns && bitAt (s.rd (pinCfg p)) 0

/-- The active level: high for a rising edge. -/
def State.activeLevel (s : State) (p : TPin) : Bool := !bitAt (s.rd (pinCfg p)) 1

def pinNums : List Nat := [0, 1, 2, 3, 4, 5, 6, 7, 8, 9, 10, 11, 12, 13, 14, 15]

/-- TIMING_PIN_EDGE (R264): an active edge at device time t. -/
def timingPinEdge (p : TPin) (t : Nat) (s : State) : State :=
  let x := s.tpin p
  if !s.pinOn p || x.stuck then s
  else
    let hold := s.fld (pinHold p) 0 16 * tickTime
    let s := s.setPin p { x with level := s.activeLevel p }
    let near := match x.lastEdge with
      | some e => decide (t < e + hold)
      | none => false
    if near then (s.bumpF Reg.SYNC_PIN_IGNORED (16 * pinNum p) 16 1).raise 11 (12 + 3 * pinNum p)
    else
      let s := s.setPin p { s.tpin p with lastEdge := some t, missing := false }
      let s := s.setWide (match p with | .tdd => Reg.SYNC_TDD_EDGE_LO | .pps => Reg.SYNC_PPS_EDGE_LO) t
      let s := { s with bog := fireWhere s s.bog t (fun n => s.trigKind n = 4 + pinNum p) }
      pinNums.foldl (fun s r => if s.refTsrc r = 1 + pinNum p then (s.marker r t 0).1 else s) s

def execTimingPinEdge (p : TPin) (t : Nat) (s : State) : Host.Outcome State Fault Refusal := done s (timingPinEdge p t s)

/-- TIMING_PIN_STUCK (R264): the active level was held beyond TIMEOUT. -/
def timingPinStuck (p : TPin) (s : State) : State :=
  if !s.pinOn p || (s.tpin p).stuck then s
  else (s.setPin p { s.tpin p with stuck := true, level := s.activeLevel p }).raise 11 (13 + 3 * pinNum p)

def execTimingPinStuck (p : TPin) (s : State) : Host.Outcome State Fault Refusal := done s (timingPinStuck p s)

/-- TIMING_PIN_MISSING (R264): no accepted active edge for MISSING, once per gap. -/
def timingPinMissing (p : TPin) (s : State) : State :=
  if !s.pinOn p || (s.tpin p).missing then s
  else (s.setPin p { s.tpin p with missing := true }).raise 11 (14 + 3 * pinNum p)

def execTimingPinMissing (p : TPin) (s : State) : Host.Outcome State Fault Refusal := done s (timingPinMissing p s)

/-- TIMING_PIN_INACTIVE_LEVEL (R264): the inactive level is recognised, so a stuck pin is recognised again. -/
def timingPinInactiveLevel (p : TPin) (s : State) : State :=
  if !s.pinOn p then s else s.setPin p { s.tpin p with stuck := false, level := !s.activeLevel p }

def execTimingPinInactiveLevel (p : TPin) (s : State) : Host.Outcome State Fault Refusal := done s (timingPinInactiveLevel p s)

/-! ### Noise floor (R262) -/

def NfRec.put (r : NfRec) (b v t : Nat) : NfRec :=
  if b = 0 then { r with n0 := some v, at0 := t } else { r with n1 := some v, at1 := t }

/-- NOISE_FLOOR_UPDATE (R262): an idle interval ended with K counted samples of mean power P in 0.01 dBFS. -/
def noiseFloorUpdate (slot : Fin 34) (branch : Fin 2) (p : Int) (k : Nat) (s : State) : State :=
  let d := keyDir slot
  let n := keySlot slot
  if !s.isUp || !s.slotEn d n || (d = .dl && !s.slotTdd d n) || decide (k < s.fld Reg.SYNC_NF_CFG 16 16) then s
  else
    let r := s.nfRec slot
    let b : Nat := branch
    let now := linOfDb (qOfCenti p)
    let at_ := if b = 0 then r.at0 else r.at1
    let old := if decide (at_ + 60000 * msTime ≤ s.now) then none else if b = 0 then r.n0 else r.n1
    let den := 983040 * max 1 (s.fld Reg.SYNC_NF_CFG 0 16)
    let w := min den (k * 2 ^ s.slotK d n)
    let new := match old with
      | none => now
      | some o => ((o : Int) + rneDiv ((w : Int) * ((now : Int) - o)) den).toNat
    let rose := match (if b = 0 then r.n0 else r.n1) with
      | some o => decide (10 * o < new)
      | none => false
    let s := { s with sync := { s.sync with nf := NMap.put (fun _ => {}) s.sync.nf slot (r.put b new s.now) } }
    -- the noise-floor record of R287
    let v := leBytes 8 s.now ++ leBytes 1 slot.val ++ leBytes 1 b ++ leBytes 2 0 ++ leBytes 4 (bitsOf 32 (dbOfLin new))
      ++ leBytes 4 (bitsOf 32 (qOfCenti p)) ++ leBytes 4 k ++ leBytes 8 0
    (s.recordTo 6 (fun _ => true) v).1.raiseIf rose 11 11

def execNoiseFloorUpdate (slot : Fin 34) (branch : Fin 2) (p : Int) (k : Nat) (s : State) : Host.Outcome State Fault Refusal :=
  done s (noiseFloorUpdate slot branch p k s)

/-- NOISE_FLOOR_STALE (R262): a TDD or uplink slot had no update for 1 s. -/
def noiseFloorStale (slot : Fin 34) (s : State) : State :=
  let d := keyDir slot
  let n := keySlot slot
  s.raiseIf (s.isUp && s.slotEn d n && (d = .ul || s.slotTdd d n)) 11 10

def execNoiseFloorStale (slot : Fin 34) (s : State) : Host.Outcome State Fault Refusal := done s (noiseFloorStale slot s)

/-! ### Bursts (R263) -/

def State.burstBits (s : State) (k : Nat) : Nat := NMap.get (fun _ => 0) s.sync.burst k

def State.setBurst (s : State) (k b : Nat) (on : Bool) : State :=
  { s with sync := { s.sync with burst := NMap.put (fun _ => 0) s.sync.burst k (putBits (s.burstBits k) b 1 (ofBool on)) } }

/-- BURST_START (R263): the first block at or above N_in + THR. -/
def burstStart (slot : Fin 34) (branch : Fin 2) (_t : Nat) (s : State) : State :=
  if s.isUp && s.slotEn (keyDir slot) (keySlot slot) then s.setBurst slot branch true else s

def execBurstStart (slot : Fin 34) (branch : Fin 2) (t : Nat) (s : State) : Host.Outcome State Fault Refusal :=
  done s (burstStart slot branch t s)

/-- Regions that a burst report triggers (R290): KIND 1, its slot or any, and the power. -/
def State.trigBurst (s : State) (b : BurstIn) (n : Nat) : Bool :=
  let x := s.fld (Reg.BOG_REG_TRIG n) 3 6
  s.trigKind n = 1 && (x = 0x3F || x = b.slot.val) && decide (s.fldS (Reg.BOG_REG_TRIG_VAL n) 0 16 ≤ b.peak)

/-- A burst is reported (R263): counted, to the index, and to the capture triggers. An uplink burst is what the false-wake check
waits for (R275). -/
def State.burstReport (s : State) (b : BurstIn) (continues : Bool) : State :=
  let d := keyDir b.slot
  let s := s.bumpF Reg.SYNC_BURST_COUNT (16 * d.num) 16 1
  let s := if d = .ul then { s with lichen := { s.lichen with burstSeen := true, ulBurstAt := s.now } } else s
  let s := { s with bog := fireWhere s s.bog b.t (s.trigBurst b) }
  s.bixReport { t := b.t, kind := 1, continues := continues, flagSeen := b.flagSeen, lane := laneOf d b.branch,
                slot := b.slot, ref := 255, len := b.len, p := b.peak }

/-- BURST_END (R263). -/
def burstEnd (b : BurstIn) (s : State) : State :=
  if !s.isUp || !bitAt (s.burstBits b.slot) b.branch then s
  else
    let s := s.setBurst b.slot b.branch false
    if b.blocks < s.fld Reg.SYNC_BD_CFG 20 4 then s.raise 11 9 else s.burstReport b false

def execBurstEnd (b : BurstIn) (s : State) : Host.Outcome State Fault Refusal := done s (burstEnd b s)

/-- BURST_CONTINUES (R263): a burst of 1 s is reported, and a new one starts from the next block. -/
def burstContinues (b : BurstIn) (s : State) : State :=
  if !s.isUp || !bitAt (s.burstBits b.slot) b.branch then s else s.burstReport b true

def execBurstContinues (b : BurstIn) (s : State) : Host.Outcome State Fault Refusal := done s (burstContinues b s)

/-! ### Register writes (R265, R266) -/

/-- Registers that SERVICE_EN = 1 protects: SLOT_REF, SCHED, PAT1, PAT2, REF, FOFF and the reference samples. -/
def syncProtected (o : Nat) : Bool :=
  o = 0x90 || (decide (0xA0 ≤ o) && decide (o ≤ 0xB0)) || (decide (0xC0 ≤ o) && decide (o ≤ 0xD0)) ||
    (decide (0x100 ≤ o) && decide (o < 0x500) && decide ((o - 0x100) % 0x40 ≤ 0x14) && (o - 0x100) % 0x40 != 0x10)

/-- Registers of SYNC that a write reaches. -/
def syncWritable (o : Nat) : Bool :=
  syncProtected o || (decide (0x44 ≤ o) && decide (o ≤ 0x68)) || o = 0x8C ||
    (decide (0x100 ≤ o) && decide (o < 0x500) && (o - 0x100) % 0x40 = 0x10)

/-- The reference sample that REF_ADDR names: 2,048 a reference. -/
def State.refSel (s : State) : Nat := 2048 * s.fld Reg.SYNC_REF_ADDR 0 4 + s.fld Reg.SYNC_REF_ADDR 4 11

/-- Schedules that a write made malformed are reported (R255). -/
def State.schedNote (s : State) (was : Nat → Bool) : State :=
  pinNums.foldl (fun s r => s.raiseIf (!was r && s.malformed r) 11 8) s

/-- SYNC_WRITE (R265). -/
def State.syncWriteAt (s : State) (o : Nat) (v : Word) : State :=
  let a := 0x5800 + o
  if o % 4 ≠ 0 || !syncWritable o then s
  else if s.judgeEn && syncProtected o then s.raise 11 8
  else if o = 0x90 then
    { s with sync := { s.sync with refs := NMap.put (fun _ => (0 : Word)) s.sync.refs s.refSel v } }
  else if syncProtected o then (s.wrc a v.toNat).schedNote s.malformed
  else s.wrc a v.toNat

def syncWrite (off : Fin 2048) (v : Word) (s : State) : State := s.ifUp (fun s => s.syncWriteAt off v)

def execSyncWrite (off : Fin 2048) (v : Word) (s : State) : Host.Outcome State Fault Refusal := done s (syncWrite off v s)

end Sys2Proof.Machine
end

