-- ==== Sys2Proof/Machine/Chan.lean ====
section
/-! DEFINITION. Meaning of the channelizer's slot-register writes (R152, R153). -/

namespace Sys2Proof.Machine

/-- Register of a slot-register write; BRANCH_CFG is one per direction. -/
def slotRegAddr (d : Dir) (w : SlotReg) (n : Nat) : Nat :=
  match w with
  | .cfg => Reg.CHAN_SLOT_CFG d n
  | .nco => Reg.CHAN_SLOT_NCO d n
  | .trim => Reg.CHAN_SLOT_TRIM d n
  | .branch => Reg.CHAN_BRANCH_CFG d

/-- WHICH of WRITE_STATUS. -/
def slotRegNum : SlotReg → Nat
  | .cfg => 0
  | .nco => 1
  | .trim => 2
  | .branch => 3

/-- A trim outside −6.00 dB to +6.00 dB. -/
def trimOut (v b : Nat) : Bool :=
  let t := signedOf 16 (v / 2 ^ (16 * b))
  decide (t < -600) || decide (600 < t)

/-- TARGET of the slot's governor plus either trim exceeds the locked maximum gain. -/
def State.trimOver (s : State) (d : Dir) (n v : Nat) : Bool :=
  let t := s.target d (govOf n)
  let over_ (b : Nat) : Bool := decide (s.lock.gainMax d < t + signedOf 16 (v / 2 ^ (16 * b)))
  over_ 0 || over_ 1

/-- RESULT of a write while SERVICE_EN is 1 (R152). The row for slot 16's RESPONSE and NCO stands below the rows that refuse, so in service these are refused as any slot's (R13). -/
def State.slotJudge (s : State) (d : Dir) (w : SlotReg) (n v : Nat) : Nat :=
  match w with
  | .cfg =>
    let old := s.slotCfg d n
    let new := ((s.wr (Reg.CHAN_SLOT_CFG d n) v).slotCfg d n)
    let rest (x : Nat) : Nat := putBits x 4 4 0
    if rest old = rest new then 0 else 2
  | .nco => 2
  | .trim => if trimOut v 0 || trimOut v 1 then 1 else if s.trimOver d n v then 3 else 0
  | .branch => 2

/-- The slot number that WRITE_STATUS shows. -/
def slotRegShown (w : SlotReg) (n : Nat) : Nat := match w with | .branch => 0 | _ => n

/-- TAPS of a slot follow a write of its RESPONSE (R166, R174). -/
def State.setTaps (s : State) (d : Dir) (n : Nat) : State :=
  s.setSt (Reg.ECHO_TAPS (slotKey d n)) (s.echoTaps d n + 256 * s.echoD0 d n)

/-- A PRIORITY accepted in service acts from the next tick boundary (R152): until then the slot keeps the one it had. -/
def State.holdPrio (s : State) (d : Dir) (n : Nat) : State := s.setSlot d n { s.slotRec d n with prioHeld := some (s.slotPrio d n) }

/-- SLOT_REGISTER_WRITE (R152). -/
def slotRegisterWrite (d : Dir) (which : SlotReg) (slot : Fin 17) (v : Word) (s : State) : State :=
  s.ifUp (fun s =>
    let n : Nat := slot
    let r := if s.judgeEn then s.slotJudge d which n v.toNat else 0
    let s := s.setSt (Reg.CHAN_WRITE_STATUS d) (r + 4 * slotRegShown which n + 256 * slotRegNum which)
    if r = 0 then
      let s := if which = .cfg && s.judgeEn then s.holdPrio d n else s
      let s1 := (s.wrc (slotRegAddr d which n) v.toNat).schedNote s.malformed
      if which = .cfg then s1.setTaps d n else s1
    else
      let s := s.raise (12 + d.num) (if which = .trim then 21 else 20)
      if r = 3 then s.lockActs 2 d.num 2 else s)

def execSlotRegisterWrite (d : Dir) (which : SlotReg) (slot : Fin 17) (v : Word) (s : State) :
    Host.Outcome State Fault Refusal := done s (slotRegisterWrite d which slot v s)

end Sys2Proof.Machine
end

