-- ==== Sys2Proof/Machine/Lichen.lean ====
section
/-! DEFINITION. Meanings of the Lichen commands (R268–R277): looks, qualification, wakes, sleep policies, false wakes. -/

namespace Sys2Proof.Machine

/-! ### Receivers (R268–R271) -/

def State.lichenRx (s : State) (n : Nat) : LichenRx := NMap.get (fun _ => {}) s.lichen.rx n

def State.setLichenRx (s : State) (n : Nat) (r : LichenRx) : State :=
  { s with lichen := { s.lichen with rx := NMap.put (fun _ => {}) s.lichen.rx n r } }

/-- MODE of receiver n: 3 acts as 0. -/
def State.rxMode (s : State) (n : Nat) : Nat := let m := s.fld (Reg.LICHEN_RX_CFG n) 0 2; if m = 3 then 0 else m
def State.wakeEn (s : State) (n : Nat) : Bool := bitAt (s.rd (Reg.LICHEN_RX_CFG n)) 2
def State.fmask (s : State) (n : Nat) : Nat := s.fld (Reg.LICHEN_RX_CFG n) 8 8

/-- The receiver makes looks: enabled, in service, the block not disabled. -/
def State.rxLooks (s : State) (n : Nat) : Bool := s.rxMode n != 0 && !s.isOut 10 n && !s.lichen.disabled

/-- LOOKS and HITS: 0 acts as 1, HITS above LOOKS acts as LOOKS. -/
def State.looksN (s : State) : Nat := max 1 (s.fld Reg.LICHEN_CYCLE 20 4)
def State.hitsN (s : State) : Nat := min s.looksN (max 1 (s.fld Reg.LICHEN_CYCLE 16 4))

/-- CYCLE in µs. -/
def State.cycleUs (s : State) : Nat := clampN 100 10000 (s.fld Reg.LICHEN_CYCLE 0 16)

/-- Looks of a receiver in one CYCLE. -/
def State.looksPer (s : State) (n : Nat) : Nat := if s.rxMode n = 2 then max 1 (popcount 8 (s.fmask n)) else 1

/-- So many consecutive active looks span TIMEOUT. -/
def State.overTimeout (s : State) (n run : Nat) : Bool :=
  decide (max 1 (s.fld Reg.LICHEN_TIMING 16 16) * 1000000 * s.looksPer n ≤ (run - 1) * s.cycleUs)

/-- The receiver could wake the device (R272). -/
def State.couldWake (s : State) (n : Nat) : Bool := s.rxLooks n && s.wakeEn n && !(s.lichenRx n).timedOut

/-! ### Wakes (R275–R277) -/

/-- The donor mutes are cleared and every donor counts as present. -/
def State.clearDonors (s : State) : State :=
  dirs.foldl (fun s d => govNums.foldl (fun s g =>
    let r := s.govRec d g
    let mute := if r.mute = some .donorLost ∨ r.mute = some .pairedDonorLost then none else r.mute
    s.setGov d g { r with mute := mute, donorOk := true, donorHigh := some s.now, means := [] }) s) s

/-- A wake begins: step 1 of R65. The pointer and the shadows are at reset when the register domain answers (R386, R388), and the
times of the boot summary start again (R77). -/
def State.wakeBegin (s : State) (cause : Nat) (session : Bool) : State :=
  let s := [0, 1, 2].foldl (fun s k => s.setSt (measT k) 0) (s.setSt Reg.LICHEN_WAKE_STAT cause)
  -- how long SLEEP lasted is no operand: SLEEP_TIME advances by an open number of seconds (log entry 2), and the energy that VIN gives before
  -- the first tick is open too (R334, log entry 86)
  let (w, s) := s.fresh
  let s := s.bump Reg.LICHEN_SLEEP_TIME w.toNat
  let (w, s) := s.fresh
  { s with
    power := .waking
    twb := { s.twb with ptr := 0, shadow := [] }
    pcie := { s.pcie with shadow := [] }
    boot := { s.boot with cold := false, energy := w.toNat % 2 ^ 24 }
    sys := { s.sys with wakeSession := session, lingerOff := false }
    lichen := { s.lichen with holdoff := false, disabled := false, abandoned := false, burstSeen := false, wakeRx := none, ulBurstAt := s.now } }

/-- A Lichen wake of receiver n on frequency f: from SLEEP, or inside a wake session, which ends (R275, R277). -/
def State.lichenWake (s : State) (n f : Nat) : State :=
  let s := if s.power = .sleep then s.wakeBegin 0 false
    else { s with sys := { s.sys with wakeSession := false }, lichen := { s.lichen with burstSeen := false } }
  let s := s.setSt Reg.LICHEN_WAKE_STAT (4 * n + 16 * f)
  let s := s.bumpF Reg.LICHEN_WAKE_COUNT 0 16 1
  { s with lichen := { s.lichen with wakeRx := some n } }.clearDonors

/-! ### LICHEN_LOOK -/

/-- One look that counts (R270, R271): the timeout, then qualification. -/
def State.look (s : State) (n f : Nat) (active : Bool) : State :=
  let r := s.lichenRx n
  let run := if active then r.activeRun + 1 else 0
  let out := active && (r.timedOut || s.overTimeout n run)
  let newly := out && !r.timedOut
  let looks := (active :: NMap.get (fun _ => []) r.looks f).take s.looksN
  let m := NMap.put (fun _ => []) r.looks f looks
  let was := decide (s.hitsN ≤ ((NMap.get (fun _ => []) r.looks f).filter id).length)
  let qual := !out && m.any (fun e => decide (s.hitsN ≤ (e.2.filter id).length))
  let now := !out && decide (s.hitsN ≤ (looks.filter id).length)
  let s := s.setLichenRx n { r with looks := m, lastActive := active, activeRun := run, timedOut := out, qualified := qual }
  let s := s.raiseIf newly 10 (4 + n)
  if now && !(was && r.qualified) && s.wakeEn n && (s.power = .sleep || s.sys.wakeSession) then s.lichenWake n f else s

/-- LICHEN_LOOK (R270): a look of an enabled receiver; an active one in hold-off or during the entry to SLEEP is ignored. -/
def lichenLook (rx : Fin 4) (freq : Fin 8) (active : Bool) (s : State) : State :=
  let n : Nat := rx
  let f : Nat := if s.rxMode n = 1 then 0 else freq
  if s.power = .off || !s.rxLooks n || (s.rxMode n = 2 && (!bitAt (s.fmask n) f || s.lichen.untuned.getLsbD (8 * n + f))) then s
  else if active && ((s.power = .sleep && s.lichen.holdoff) || s.sys.entering.isSome) then
    let s := s.setLichenRx n { s.lichenRx n with lastActive := true }
    (s.bumpF Reg.LICHEN_IGNORED (8 * n) 8 1).raise 10 9
  else
    let sess := s.sys.wakeSession && s.power = .up
    let t := s.look n f active
    -- a Lichen wake in a session applies RETURN at once; in a wake it applies on reaching STANDBY
    if sess && !t.sys.wakeSession then t.applyReturn else t

def execLichenLook (rx : Fin 4) (freq : Fin 8) (active : Bool) (s : State) : Host.Outcome State Fault Refusal :=
  done s (lichenLook rx freq active s)

/-- LICHEN_HOLDOFF_EXPIRED (R271). -/
def lichenHoldoffExpired (s : State) : State := { s with lichen := { s.lichen with holdoff := false } }

def execLichenHoldoffExpired (s : State) : Host.Outcome State Fault Refusal := done s (lichenHoldoffExpired s)

/-! ### Policies (R272) -/

/-- Every enabled downlink slot is donor-lost, and there is one. -/
def State.donorGone (s : State) : Bool := !(s.enabled .dl).isEmpty && (s.enabled .dl).all (fun n => !s.donorHere n)

/-- A time of so many seconds has passed since device time t. -/
def State.sinceSec (s : State) (t sec : Nat) : Bool := decide (t + sec * 1000 * msTime ≤ s.now)

/-- The DONOR_SLEEP condition: that, without a break for SLEEP_AFTER. -/
def State.donorHold (s : State) : Bool :=
  s.donorGone && (s.enabled .dl).all (fun n => s.sinceSec (s.govRec .dl (govOf n)).lostAt (s.fld Reg.LICHEN_DELAYS 0 16))

/-- The IDLE_SLEEP condition: the uplink has enabled slots, and none has reported a burst for IDLE_AFTER. -/
def State.uplinkIdle (s : State) : Bool := !(s.enabled .ul).isEmpty && s.sinceSec s.lichen.ulBurstAt (s.fld Reg.LICHEN_DELAYS 16 16)

/-- A policy is enabled and its condition holds. -/
def State.policyHolds (s : State) (donor : Bool) : Bool :=
  bitAt (s.rd Reg.LICHEN_POLICY) (if donor then 0 else 1) && (if donor then s.donorHold else s.uplinkIdle)

/-- Receivers of a policy's row that can wake. -/
def State.policyRx (s : State) (donor : Bool) : Bool :=
  if donor then s.couldWake 0 || s.couldWake 1 else s.couldWake 2 || s.couldWake 3

/-- Nothing defers a policy sleep. -/
def State.policyFree (s : State) : Bool :=
  dirs.all (fun d => (s.dirRec d).trans.isNone && s.dirSt d != .listen && s.dirSt d != .playback) &&
    regionNums.all (fun n => !(s.bog.region n).active) && s.bog.pbDl.isNone && s.bog.pbUl.isNone &&
    s.sys.pendingReq.isNone && s.sys.behind.isNone && s.sys.check.isNone && !s.sys.wakeSession

/-- Both directions move to STANDBY, then the device enters SLEEP. -/
def State.sleepBy (s : State) (cause : Nat) : State :=
  let s := { s with sys := { s.sys with sleepNext := some (cause, 0, 0) } }
  (dirs.foldl (fun s d => s.enterStandby d cause) s).trySleep

/-- POLICY_SLEEP_TIMER (R272): the policy's delay has passed, or a second has since the last deferral. -/
def policySleepTimer (donor : Bool) (s : State) : State :=
  if s.power != .up || s.sys.entering.isSome || s.sys.sleepNext.isSome then s
  else if !s.policyHolds donor then { s with lichen := { s.lichen with deferred := false } }
  else if s.policyRx donor && s.policyFree then { s with lichen := { s.lichen with deferred := false } }.sleepBy 6
  else { s with lichen := { s.lichen with deferred := true } }.raiseIf (!s.lichen.deferred) 10 8

def execPolicySleepTimer (donor : Bool) (s : State) : Host.Outcome State Fault Refusal := done s (policySleepTimer donor s)

/-- FALSE_WAKE_CHECK (R275): judged within CONFIRM_S of CAUTIOUS, for a Lichen wake whose RETURN was service. -/
def falseWakeCheck (s : State) : State :=
  match s.lichen.wakeRx with
  | none => s
  | some n =>
    if s.power != .up || !bitAt (s.rd Reg.LICHEN_POLICY) 2 || s.fld Reg.SYS_WAKE_CTRL 0 4 != 3 then s
    else
      let bad := if n < 2 then s.donorGone else !s.lichen.burstSeen
      let s := { s with lichen := { s.lichen with wakeRx := none } }
      if bad then
        let s := (s.setStF Reg.LICHEN_WAKE_STAT 7 1 1).bumpF Reg.LICHEN_WAKE_COUNT 16 16 1
        (s.raise 10 n (some n)).sleepBy 6
      else s

def execFalseWakeCheck (s : State) : Host.Outcome State Fault Refusal := done s (falseWakeCheck s)

/-- TWO_WIRE_WAKE (R277, R384): an address match wakes the device from SLEEP with a session, or abandons the entry in its first two
steps. -/
def twoWireWake (s : State) : State :=
  if s.power = .sleep then
    let s := s.wakeBegin 1 true
    { s with twb := { s.twb with stretching := true, acking := true } }
  else if s.power = .up && s.sys.entering.isSome then s.sleepAbandon
  else s

def execTwoWireWake (s : State) : Host.Outcome State Fault Refusal := done s (twoWireWake s)

end Sys2Proof.Machine
end

