-- ==== Sys2Proof/Machine/RegView.lean ====
section
/-! DEFINITION. What each read-only register shows (R55, R77, R103, R123, R125, R127, R153, R174, R197, R225, R247, R249, R266, R278,
R308, R310, R328, R348, R350, R366, R367, R378, R381, R398, R409, R411, R416): the value of a 32-bit word of the register space.
A status register that the device writes as it goes is read from the status store; the rest is formed from the state here. -/

namespace Sys2Proof.Machine

/-! ### The block header (R366) -/

/-- The state of a unit as its own block shows it (R354, R357). -/
def State.unitCode (s : State) (b u : Nat) : Nat :=
  if s.isRetired b u then 3
  else if s.readsFenced b u then 2
  else if s.unitSt b u = .transient then 1 else 0

def unitsOf (b : Nat) : List Nat := List.range (unitCount b)

/-- BLK_STATE. -/
def State.blkState (s : State) (b : Nat) : Nat :=
  let codes := (unitsOf b).map (s.unitCode b)
  let fenced := (codes.filter (· = 2)).length
  ofBool (codes.contains 1) + 2 * ofBool (decide (0 < fenced)) + 4 * ofBool (codes.contains 3)
    + 8 * ofBool ((List.range 32).any (fun n => (s.flt.source b n).armed))
    + 16 * ofBool (s.twb.queue.any (fun m => m.blk = b)) + 256 * min 255 fenced

/-- A read-only header register, or one that the host clears. -/
def State.viewHeader (s : State) (b o : Nat) : Nat :=
  if o = 0x00 then b + 256 * sourceCount b + 65536
  else if o = 0x04 then s.blkState b
  else s.flt.word (hdr b o)

/-! ### SYS (R55, R367) -/

/-- Synthesisers that the pending request waits for. -/
def State.pendingOn (s : State) : Nat :=
  match s.sys.pendingReq with
  | some (q, .locks _) => s.reqAwaits q
  | _ => 0

/-- SRC_DATA0 or SRC_DATA1 of an event ID. -/
def State.viewSrc (s : State) (e k : Nat) : Nat :=
  if !knownEvent e then 0
  else
    let r := s.flt.source (e / 32) (e % 32)
    if k = 0 then
      r.total + 65536 * r.win + 2 ^ 24 * (if r.severe then 2 else if r.windowOpen then 1 else 0) + 2 ^ 26 * ofBool r.armed
        + 2 ^ 27 * ofBool (injCap (e / 32) (e % 32))
    else r.injTotal + 65536 * (r.detail % 65536)

/-- UNIT_DATA, UNIT_CAUSE or UNIT_Q of a unit. -/
def State.viewUnit (s : State) (b u k : Nat) : Nat :=
  if 24 ≤ b ∨ unitCount b ≤ u then 0
  else
    let r := s.flt.unit b u
    match k with
    | 0 => s.unitCode b u + 256 * r.first + 65536 * min 15 (recentRestores s.peat.opsec r)
    | 1 => r.cause
    | _ => if r.st = .fenced then (r.qEnd - s.now + msTime - 1) / msTime else 0

/-- Device time as it reads: zero until it has started. -/
def State.devTime (s : State) : Nat := if s.syn.timeRuns then s.now else 0

def State.viewSys (s : State) (o : Nat) : Nat :=
  match o with
  | 0x040 => s.devCode + 16 * (s.dirSt .dl).code + 256 * (s.dirSt .ul).code + 4096 * ofBool s.sys.wakeSession
  | 0x048 => s.sys.reqStatus + 8 * ofBool s.sys.check.isSome + 16 * s.pendingOn + 256 * s.sys.reqTag + 65536 * s.sys.supTag
  | 0x054 => s.slotMutedReg
  | 0x058 => s.restrictNow
  | 0x068 => s.devTime % 2 ^ 32
  | 0x06C => s.devTime / 2 ^ 32
  | 0x074 => s.viewSrc (s.fld Reg.SYS_SRC_SEL 0 10) 0
  | 0x078 => s.viewSrc (s.fld Reg.SYS_SRC_SEL 0 10) 1
  | 0x080 => s.viewUnit (s.fld Reg.SYS_UNIT_SEL 0 5) (s.fld Reg.SYS_UNIT_SEL 8 8) 0
  | 0x084 => s.viewUnit (s.fld Reg.SYS_UNIT_SEL 0 5) (s.fld Reg.SYS_UNIT_SEL 8 8) 1
  | 0x088 => s.viewUnit (s.fld Reg.SYS_UNIT_SEL 0 5) (s.fld Reg.SYS_UNIT_SEL 8 8) 2
  | _ => s.st o

/-! ### SUPPLY and THERM (R348, R350) -/

/-- REG_OK: a powered domain is in regulation, unless it is fenced (log entry 30); in SHUTDOWN VD_CONV and VD_SYN are off (R31). -/
def State.regOk (s : State) : Nat :=
  packBits 10 (fun i => !(s.power = .shutdown && decide (3 ≤ i) && decide (i ≤ 5)) && !(i = 7 && s.isOut 1 0) && !(i = 8 && s.isOut 1 1))

def State.viewSupply (s : State) (o : Nat) : Nat :=
  match o with
  | 0x040 =>
    let v := s.stF Reg.SUPPLY_VIN 0 16
    ofBool (v = 0 || decide (3100 ≤ v)) + 4 * ofBool s.holdupOk + 16 * s.regOk
  | 0x060 => Config.holdupTime s.now % 65536
  | _ => s.st (0x800 + o)

/-- Residual r_s of a sensor (R340), 0 before its first valid reading. -/
def State.residual (s : State) (k : Nat) : Int :=
  match s.sensorAt k with
  | some t => t - s.regionT (sensorRegion k)
  | none => 0

def State.viewTherm (s : State) (o : Nat) : Nat :=
  match o with
  | 0x040 =>
    (if s.bog.halving then 3 else if s.therm.dropped ≠ [] then 2 else if s.therm.throttling then 1 else 0)
      + 4 * ofBool (s.power = .shutdown) + 8 * ofBool (s.therm.margin != 0) + 16 * ofBool s.undoHeld + 32 * ofBool (s.isFenced 2 6)
      + 64 * packBits 6 (fun k => s.isFenced 2 k) + 4096 * packBits 6 (fun k => s.isRetired 2 k) + 2 ^ 18 * s.hottest regionTs
  | 0x044 => pack16 (sat16 s.tMax) (sat16 (rneDiv s.therm.tb 65536))
  | 0x098 => s.stF Reg.THERM_SHUT_STAT 0 17 + 2 ^ 24 * (s.therm.quiet / 10000)
  | 0x09C | 0x0A0 => s.st (0x1000 + o)
  | _ =>
    if o < 0x080 then
      let j := (o - 0x050) / 4
      pack16 (sat16 (s.regionT j)) ((min 65535 (NMap.get (fun _ => 0) s.therm.q j) : Nat) : Int)
    else
      let k := (o - 0x080) / 4
      pack16 (sat16 ((s.sensorAt k).getD 0)) (sat16 (s.residual k))

/-! ### TWB and PCIE (R398, R409) -/

def State.viewTwb (s : State) (f : Iface) (o : Nat) : Nat :=
  match o with
  | 0x044 => s.twb.addr + 128 * ofBool s.twb.acking + 256 * s.twb.strap
  | 0x04C =>
    s.twb.queue.length + 32 * ofBool s.twb.sending + 64 * ofBool (s.twb.waiting || s.twb.backoff.isSome)
      + 128 * s.twb.attempt + 512 * ofBool (s.isFenced 4 0) + 65536 * s.twb.nextSeq
  | 0x054 => s.twb.drops
  | 0x05C =>
    let own := f = .twoWire
    let lines := if own then Config.lineLevels s.now % 4 else ofBool (!s.twb.stretching) + 2 * ofBool (!s.twb.sdaLow)
    lines + 4 * ofBool (!own && !s.twb.sending && !s.twb.sdaLow && !s.twb.stretching) + 8 * ofBool own
      + 16 * ofBool s.twb.stretching + 32 * ofBool s.twb.clearing
  | _ => s.st (0x2000 + o)

def State.viewPcie (s : State) (o : Nat) : Nat :=
  match o with
  | 0x044 =>
    s.pcie.gen + 16 * s.pcie.width + 128 * ofBool s.pcie.up + 256 * ofBool s.pcie.d3 + 512 * ofBool s.pcie.perst
      + 65536 * s.stF Reg.PCIE_LINK_STAT 16 16
  | 0x050 => s.pcie.pending.toNat
  | 0x058 => min (2 ^ 32 - 1) (s.pcie.rdBytes / 2 ^ 20)
  | 0x05C => min (2 ^ 32 - 1) (s.pcie.wrBytes / 2 ^ 20)
  | _ => s.st (0x2800 + o)

/-! ### SYN, RXC, TXC (R123, R125, R127) -/

def State.viewSyn (s : State) (o : Nat) : Nat :=
  match o with
  | 0x044 => s.synStatus
  | 0x05C => planOf (s.fld Reg.SYN_LOD_FREQ 0 23)
  | 0x060 => planOf (s.fld Reg.SYN_LOU_FREQ 0 23)
  | 0x068 => s.cacheStat
  | _ => s.st (0x3000 + o)

def State.viewRxc (s : State) (o : Nat) : Nat :=
  if o = 0x040 then
    packBits 4 s.rxRuns + 16 * s.conv.rxCal.toNat + 256 * packBits 4 (fun l => s.readsFenced 7 l)
      + 4096 * packBits 4 (fun l => s.isRetired 7 l) + 65536 * s.conv.ovrNow.toNat
  else s.st (0x3800 + o)

/-- Transmit lane l is held at code 0 by SYN_C's loss of lock (R121), or by a lane out of service (R117). -/
def State.forcedZero (s : State) (l : Nat) : Bool :=
  (s.syn.timeRuns && !s.syn.c.locked) || s.txOut l ||
    ((s.dirRec (laneDir l)).running && (s.txBr (laneDir l)).contains (l % 2) && !(s.branchesUp (laneDir l)).contains (l % 2))

def State.viewTxc (s : State) (o : Nat) : Nat :=
  if o = 0x040 then
    packBits 4 s.txRuns + 16 * s.conv.txCal.toNat + 256 * packBits 4 (fun l => s.readsFenced 8 l)
      + 4096 * packBits 4 (fun l => s.isRetired 8 l) + 65536 * packBits 4 s.forcedZero
  else s.st (0x4000 + o)

/-! ### FRONT and LICHEN (R247, R278) -/

def State.viewFront (s : State) (o : Nat) : Nat :=
  if o = 0x040 then s.feStat
  else if 0x080 ≤ o ∧ o ≤ 0x08C then
    let l := (o - 0x080) / 4
    bitsOf 16 (sat16 (s.gtx l)) + 65536 * ofBool (s.front.outOfTable.getLsbD l)
  else s.st (0x4800 + o)

def State.viewLichen (s : State) (o : Nat) : Nat :=
  match o with
  | 0x040 => ofBool s.donorHold + 2 * ofBool s.uplinkIdle + 4 * ofBool s.lichen.deferred + 8 * ofBool s.lichen.abandoned
  | 0x088 =>
    packBits 4 (fun n => (s.lichenRx n).lastActive) + 16 * packBits 4 (fun n => (s.lichenRx n).qualified)
      + 256 * packBits 4 (fun n => (s.lichenRx n).timedOut) + 4096 * packBits 4 (fun n => s.isFenced 10 n)
  | _ => s.st (0x5000 + o)

/-! ### SYNC (R266) -/

/-- The detector of receive lane l runs (R251). -/
def State.detects (s : State) (l : Nat) : Bool :=
  let d := laneDir l
  s.isUp && s.rxRuns l && !s.isOut 11 d.num &&
    (s.enabled d).any (fun n => match s.slotRef d n with | some r => decide (128 ≤ s.refLen r) | none => false)

/-- N of a branch in 0.01 dBFS, 0x8000 for none. -/
def nfShown (v : Option Nat) : Int := match v with | some x => sat16 (centiOfQ (dbOfLin x)) | none => -32768

/-- Age of a branch's floor in 10 ms. -/
def State.nfAge (s : State) (v : Option Nat) (at_ : Nat) : Nat :=
  match v with
  | some _ => min 65535 ((s.now - at_) / (10 * msTime))
  | none => 65535

def State.viewNf (s : State) (x k : Nat) : Nat :=
  let r := s.nfRec x
  match k with
  | 0 => pack16 (nfShown r.n0) (nfShown r.n1)
  | 4 => s.nfAge r.n0 r.at0 + 65536 * s.nfAge r.n1 r.at1
  | 8 => s.burstBits x
  | _ => 0

def State.viewTrk (s : State) (r k : Nat) : Nat :=
  let t := s.trk r
  match k with
  | 0x18 =>
    t.st + 4 * ofBool t.cand.isSome + 8 * ofBool (s.malformed r) + 16 * min 255 t.candCount + 4096 * min 255 t.missed
  | 0x1C => bitsOf 64 (s.latestFrame r s.now) % 2 ^ 32
  | 0x20 => bitsOf 64 (s.latestFrame r s.now) / 2 ^ 32
  | _ => 0

def State.viewSync (s : State) (o : Nat) : Nat :=
  if o = 0x040 then
    packBits 4 s.detects + 16 * ofBool s.sync.branchDl + 32 * ofBool s.sync.branchUl
  else if o = 0x06C then
    ofBool s.sync.tdd.level + 2 * ofBool s.sync.tdd.stuck + 4 * ofBool s.sync.pps.level + 8 * ofBool s.sync.pps.stuck
  else if 0x100 ≤ o ∧ o < 0x500 then s.viewTrk ((o - 0x100) / 0x40) ((o - 0x100) % 0x40)
  else if 0x600 ≤ o then s.viewNf ((o - 0x600) / 0x10) (o % 0x10)
  else if 0x5C0 ≤ o then s.viewNf (32 + (o - 0x5C0) / 0x10) (o % 0x10)
  else s.st (0x5800 + o)

/-! ### CHAN and ECHO (R153, R174) -/

def State.viewChan (s : State) (d : Dir) (o : Nat) : Nat :=
  if o = 0x040 then s.dirStat d
  else if o < 0x100 then s.st (Reg.chanBase d + o)
  else
    let n := (o - 0x100) / 0x20
    match (o - 0x100) % 0x20 with
    | 0x0C => s.slotStat d n
    | 0x18 => bitsOf 16 (sat16 (s.slotRec d n).gain)
    | 0x1C => s.slotInfo d n
    | _ => s.st (Reg.chanBase d + o)

/-- One tap as it is loaded: scaled while its receive lane is bypassed (R236), in units of 2^-64. -/
def State.tapNow (s : State) (d : Dir) (n p : Nat) (x : Int) : Int :=
  if (s.echoRec d n).scaled.getLsbD (p % 2) then
    let step := s.fld (Reg.FRONT_LNA_CFG (laneOf d (p % 2))) 0 16
    rneDiv (x * (linOfDb (rneDiv (-((step : Int) * 65536)) 200) : Nat)) linOne
  else x

/-- The taps of a path as they are loaded. -/
def State.tapsNow (s : State) (d : Dir) (n p : Nat) : List (Int × Int) :=
  ((s.echoRec d n).path p).w.map (fun x => (s.tapNow d n p x.1, s.tapNow d n p x.2))

/-- E of a path (R167): the largest component of m = w · 2^E lies in [0.5, 1). -/
def tapExp (w : List (Int × Int)) : Nat :=
  let top := w.foldl (fun m x => max m (max x.1.natAbs x.2.natAbs)) 0
  if top = 0 then 0 else min 48 (63 - min 63 top.log2)

/-- The mantissa of a component in Q1.15. -/
def tapMant (e : Nat) (x : Int) : Int := sat16 (rneDiv (x * 2 ^ e) (2 ^ 49))

/-- Slot and path that TAP_SEL names. -/
def State.tapSel (s : State) : Nat × Nat := (s.fld Reg.ECHO_TAP_SEL 0 6, s.fld Reg.ECHO_TAP_SEL 6 2)

def State.viewTap (s : State) (k : Nat) : Nat :=
  let (x, p) := s.tapSel
  if 34 ≤ x then 0
  else
    let w := s.tapsNow (keyDir x) (keySlot x) p
    match w[k]? with
    | some c => pack16 (tapMant (tapExp w) c.1) (tapMant (tapExp w) c.2)
    | none => 0

def rhoShown (r : Option Int) : Int := match r with | some x => sat16 x | none => -32768

/-- A register of ECHO slot s′ at offset k of its group. -/
def State.viewEchoSlot (s : State) (x k : Nat) : Nat :=
  let d := keyDir x
  let n := keySlot x
  let r := s.echoRec d n
  match k with
  | 0x04 =>
    (match s.probeLevel d n with
     | some (l, src) => bitsOf 16 (sat16 l) + 65536 * src
     | none => 0x8000) + 2 ^ 18 * ofBool (s.slotEn d n && s.nfIsDefault d n) + 2 ^ 19 * ofBool r.onAir
  | 0x08 =>
    r.identified.toNat + 16 * r.okPaths.toNat + 256 * ofBool r.converged + 512 * ofBool r.warm + 1024 * ofBool (r.held || (s.slotEn d n && s.isOut 14 (34 + d.num)))
      + 2048 * ofBool (s.slotEn d n && s.echoCap d n) + 4096 * min 255 r.blocks
  | 0x0C => pack16 (sat16 (s.iEff d n)) (sat16 r.iAir)
  | 0x10 => bitsOf 16 (sat16 r.credit) + 65536 * (clampI 0 65535 r.sMax).toNat
  | 0x14 => pack16 (rhoShown r.rhoEst) (rhoShown r.rhoFast)
  | 0x1C => if s.slotEn d n then pack16 (sat16 (centiOfQ (s.nIn d n 0))) (sat16 (centiOfQ (s.nIn d n 1))) else 0
  | _ => s.st (Reg.ECHO_PROBE_CFG x + k)

def State.viewEcho (s : State) (o : Nat) : Nat :=
  let conv (d : Dir) : Nat := packBits 17 (fun n => s.slotEn d n && (s.echoRec d n).converged)
  match o with
  | 0x050 => pack16 (sat16 (s.dirIso .dl)) (sat16 (s.dirIso .ul))
  | 0x05C => conv .dl
  | 0x060 => conv .ul
  | 0x06C =>
    let (x, p) := s.tapSel
    if 34 ≤ x then 0 else tapExp (s.tapsNow (keyDir x) (keySlot x) p) + 256 * s.echoTaps (keyDir x) (keySlot x)
  | _ =>
    if 0x600 ≤ o then s.viewTap ((o - 0x600) / 4)
    else if 0x100 ≤ o ∧ o < 0x540 then s.viewEchoSlot ((o - 0x100) / 0x20) ((o - 0x100) % 0x20)
    else s.st (0x7000 + o)

/-! ### GOV (R197) -/

/-- A law's output as OUT shows it. -/
def State.outShown (s : State) (d : Dir) (g l : Nat) : Int :=
  if !s.lawEn d g l then 32767
  else match (s.govRec d g).outs.getD l none with
    | some x => clampI (-32767) 32766 (centiOfQ x)
    | none => -32768

def State.viewGovSlot (s : State) (d : Dir) (g k : Nat) : Nat :=
  let r := s.govRec d g
  match k with
  | 0x18 => s.selWord d g
  | 0x1C => pack16 (s.outShown d g 0) (s.outShown d g 1)
  | 0x20 => pack16 (s.outShown d g 2) (s.outShown d g 3)
  | 0x24 => pack16 (s.outShown d g 4) (sat16 (s.govDir d).gFix)
  | 0x28 => pack16 (sat16 (centiOfQ (F64.toQ16 r.p))) (sat16 (rneDiv (F64.toQ16 r.v * 10) 65536))
  | 0x2C => bitsOf 16 (sat16 r.meas) + 65536 * ofBool (d = .dl && s.govEn d g && r.donorOk)
  | _ => 0

def State.viewGov (s : State) (d : Dir) (o : Nat) : Nat :=
  let m := (s.govDir d).mute
  match o with
  | 0x04C =>
    ofBool m.isSome + (match m with | some c => 2 * c.code + 16 * c.limit | none => 0) + 65536 * (s.govDir d).count
  | 0x050 => min 65535 (rneDiv s.therm.rth 10).toNat
  | 0x054 => pack16 (sat16 (s.govDir d).red0) (sat16 (s.govDir d).red1)
  | _ => if 0x100 ≤ o then s.viewGovSlot d ((o - 0x100) / 0x40) ((o - 0x100) % 0x40) else s.st (Reg.govBase d + o)

/-! ### LOOP (R225) -/

/-- A value of a frozen or idle unit's buffer. -/
def TraceUnit.value (t : TraceUnit) (i node : Nat) : Nat :=
  if t.samples.length ≤ i then 0
  else match t.samples[t.samples.length - 1 - i]? with
    | some x => bitsOf 32 (x.getD (3 + node) 0)
    | none => 0

def State.viewTrace (s : State) (u k : Nat) : Nat :=
  let t := s.trace u
  match k with
  | 0x20 =>
    t.st + 4 * ofBool (s.trSpills u && (t.st = 1 || t.st = 2)) + 16 * t.samples.length
      + 2 ^ 17 * (if 2 ≤ t.st then t.samples.length - 1 - t.trigIdx else 0)
  | 0x24 => t.trigTime % 2 ^ 32
  | 0x28 => t.trigTime / 2 ^ 32
  | 0x38 => t.value (s.fld (Reg.LOOP_TR_RD_SEL u) 0 12) (s.fld (Reg.LOOP_TR_RD_SEL u) 12 3)
  | _ => s.st (0x8900 + 0x40 * u + k)

def State.viewLoop (s : State) (o : Nat) : Nat :=
  if o = 0x040 then
    (lawNums.filter (fun j => s.lawEnabled j)).length + 256 * ofBool (s.isFenced 17 192)
      + 512 * ofBool (s.loop.goodTicks = 0 && s.loop.lateTicks != 0) + 65536 * (lawNums.filter (fun j => (s.loop.law j).isOpen)).length
  else if 0x060 ≤ o ∧ o ≤ 0x074 then packBits 32 (fun i => (s.loop.law (8 * (o - 0x060) + i)).isOpen)
  else if 0x100 ≤ o then s.viewTrace ((o - 0x100) / 0x40) ((o - 0x100) % 0x40)
  else s.st (0x8800 + o)

/-! ### HK (R328) -/

/-- Converter c runs its own sequence, or the other's while it has taken that over. -/
def State.hkRunning (s : State) (c : Nat) : Bool :=
  let busy (k : Nat) : Bool := seqLen (s.rd (hkCtrlReg k)) != 0 || (s.hkRec k).injRun
  s.hkOn && !s.isOut 18 c && (busy c || (s.hk.takeover && busy (1 - c)))

def State.viewHk (s : State) (o : Nat) : Nat :=
  if o = 0x040 then
    packBits 2 s.hkRunning + 4 * packBits 2 (fun c => (s.hkRec c).refOk) + 16 * packBits 2 (fun c => s.isFenced 18 c)
      + 64 * packBits 2 (fun c => s.isRetired 18 c) + 256 * ofBool s.hk.takeover + 512 * ofBool (s.isFenced 18 2)
      + 1024 * s.hk.ovd.toNat + 16384 * ofBool s.hk.trigStuck
  else s.st (0x9000 + o)

/-! ### BOG and BIX (R308, R310) -/

def State.viewRegion (s : State) (n k : Nat) : Nat :=
  let s := s.regStream n s.now
  let r := s.bog.region n
  match k with
  | 0x24 =>
    let pre := if r.triggered then !bitAt r.flags 1 else decide (s.preBytes n ≤ r.held)
    r.st + 4 * ofBool (r.st != 0 && pre) + 8 * ofBool r.lostSamples
      + 65536 * (r.seg + ofBool (r.st = 3 && !bitAt r.flags 5))
  | 0x28 => if r.st = 0 then 0 else (s.dataStart n r.seg + r.wr) / 32
  | 0x2C => r.pass
  | 0x30 => r.corr + 65536 * r.uncorr
  | _ => 0

def State.viewPat (s : State) (p k : Nat) : Nat :=
  let x := s.bog.pat p
  match k with
  | 0x14 => ofBool x.loaded + 2 * ofBool (s.patPlays p) + 4 * ofBool x.preload + 8 * ofBool x.asReplace
  | 0x18 => x.corr + 65536 * x.uncorr
  | _ => 0

/-- Pattern slot and playing bit of a direction. -/
def playWord (x : Option Playing) : Nat := match x with | some y => y.pattern + 16 | none => 0

def State.viewBog (s : State) (o : Nat) : Nat :=
  match o with
  | 0x040 =>
    s.bog.trained.toNat + 256 * packBits 8 (fun c => s.readsFenced 19 c)
      + 65536 * ofBool (bitAt (s.rd Reg.BOG_SCRUB_CFG) 16 && s.bog.ready && Config.scrubRunning s.now) + 2 ^ 17 * ofBool s.bog.halving
  | 0x064 => playWord s.bog.pbDl + 256 * playWord s.bog.pbUl + 65536 * s.stF Reg.BOG_PB_STAT 16 16
  | _ =>
    if 0x300 ≤ o then s.viewPat ((o - 0x300) / 0x20) ((o - 0x300) % 0x20)
    else if 0x100 ≤ o then s.viewRegion ((o - 0x100) / 0x40) ((o - 0x100) % 0x40)
    else s.st (0x9800 + o)

def State.viewBix (s : State) (o : Nat) : Nat :=
  match o with
  | 0x044 => s.bix.wr
  | 0x048 => s.bix.count
  | _ =>
    if 0x058 ≤ o ∧ o ≤ 0x074 then fieldLe (s.bix.at (s.fld Reg.BIX_RD_IDX 0 16)).bytes (o - 0x058) 4
    else s.st (0xA000 + o)

/-! ### PEAT (R378, R381) -/

/-- The record that a window slot shows, and its codewords that cannot be corrected. -/
def State.windowRec (s : State) (x : Nat) : PeatRec :=
  if x < 21504 then s.peat.slot x
  else if x = 21504 then s.peat.emergency.getD {}
  else if x = 21505 then openRecord s { s.peat with openI := { s.peat.openI with folded := none } } 1 0 0
  else {}

/-- Slot index that window slot i shows. -/
def State.windowSlot (s : State) (i : Nat) : Nat := s.fld Reg.PEAT_WINDOW_BASE 0 15 + i

/-- Four bytes of a record from offset k, those of a damaged codeword as stored. -/
def recordWord (r : PeatRec) (k : Nat) : Nat :=
  let bs := r.bytes
  let at_ (j : Nat) : Byte := if bitAt r.ue (j / 32) then Config.damagedByte r.seq j else bs.getD j 0
  ofLe [at_ k, at_ (k + 1), at_ (k + 2), at_ (k + 3)]

/-- Byte offset y of the window, word-aligned. -/
def State.viewWindow (s : State) (y : Nat) : Nat := recordWord (s.windowRec (s.windowSlot (y / 256))) (y % 256)

def State.viewPeat (s : State) (o : Nat) : Nat :=
  let p := s.peat
  match o with
  | 0x040 =>
    ofBool p.frozen + 2 * ofBool p.freezePending + 4 * ofBool p.auditRunning + 8 * ofBool p.layout + 16 * ofBool p.firstFull
      + 32 * ofBool p.emergency.isSome + 64 * ofBool (s.isFenced 21 0)
  | 0x054 => packBits 32 (fun i => (s.windowRec (s.windowSlot i)).ue != 0)
  | 0x058 => p.nextSeq
  | 0x05C => p.newest.getD 0
  | 0x060 => p.opsec
  | 0x064 => p.pcc
  | 0x068 => (p.slots.filter (fun e => decide (e.1 < 1024) && e.2.kind != 0)).length + 65536 * p.wraps
  | 0x06C => p.hold.length + 65536 * min 65535 (p.pend.foldl (fun a e => a + e.2.1) 0)
  | 0x070 => p.failed + 65536 * p.torn
  | 0x074 => p.lost + 65536 * p.discarded
  | 0x078 => min 65535 (p.opsec - p.openI.openedAt)
  | _ => s.st (0xA800 + o)

/-! ### LOCK (R249) -/

def State.viewLock (s : State) (o : Nat) : Nat :=
  if o = 0x040 then
    ofBool s.lock.locked + 2 * ofBool s.lock.damaged + 4 * ofBool s.lock.commit.isSome + 256 * s.lock.logUsed
  else if 0x05C ≤ o ∧ o ≤ 0x078 then s.lock.raw (0x800 + 32 * s.fld Reg.LOCK_LOG_SEL 0 6 + (o - 0x05C))
  else s.st (0xB000 + o)

/-! ### The areas above 0xC000 (R411) -/

/-- The identity registers (R416). -/
def viewId (a : Nat) : Nat :=
  match a with
  | 0xE000 => 0x00014680
  | 0xE004 => 0x00001F5C
  | 0xE008 => Config.idSilicon.toNat
  | 0xE00C => 0x00010000
  | 0xE010 => 0x00010001
  | 0xE014 => (Config.idDie 0).toNat
  | 0xE018 => (Config.idDie 1).toNat
  | _ => 0

/-- Offset k of measurement entry n (R77). -/
def State.viewEntry (s : State) (n k : Nat) : Nat :=
  let (st, len, dig) := s.boot.entry n
  if k = 0 then st else if k = 4 then len
  else if 0x20 ≤ k then (if st = 0 then 0 else digestWord dig ((k - 0x20) / 4)) else 0

/-- The boot summary (R77). -/
def State.viewBoot (s : State) : Nat :=
  s.boot.slot + 4 * ofBool s.boot.cold + 8 * ofBool s.boot.preloadDone + 256 * s.boot.aFail + 65536 * s.boot.bFail

/-- A word at 0xC000 or above. -/
def State.viewHigh (s : State) (a : Nat) : Nat :=
  if a < 0xE000 then s.viewWindow (a - 0xC000)
  else if a < 0xE100 then viewId a
  else if a < 0xE120 then (if a = 0xE100 then s.viewBoot else if a ≤ 0xE110 then s.st a else 0)
  else if a < 0xE200 then 0
  else if a < 0xE400 then s.viewEntry ((a - 0xE200) / 0x40) (a % 0x40)
  else if a < 0xE440 then s.viewEntry 8 (a % 0x40)
  else if 0xE800 ≤ a ∧ a < 0xF000 then s.lock.raw (a - 0xE800)
  else 0

/-! ### Any word of the register space -/

/-- A read-only register of block b at window offset o. -/
def State.viewBlock (s : State) (f : Iface) (b o : Nat) : Nat :=
  match b with
  | 0 => s.viewSys o
  | 1 => s.viewSupply o
  | 2 => s.viewTherm o
  | 4 => s.viewTwb f o
  | 5 => s.viewPcie o
  | 6 => s.viewSyn o
  | 7 => s.viewRxc o
  | 8 => s.viewTxc o
  | 9 => s.viewFront o
  | 10 => s.viewLichen o
  | 11 => s.viewSync o
  | 12 => s.viewChan .dl o
  | 13 => s.viewChan .ul o
  | 14 => s.viewEcho o
  | 15 => s.viewGov .dl o
  | 16 => s.viewGov .ul o
  | 17 => s.viewLoop o
  | 18 => s.viewHk o
  | 19 => s.viewBog o
  | 20 => s.viewBix o
  | 21 => s.viewPeat o
  | 22 => s.viewLock o
  | 23 => if o = 0x040 then s.deviceMargin else s.st (0xB800 + o)
  | _ => s.st (0x800 * b + o)

/-- An RW register (R9): SERVICE_EN and the data windows read what they stand for. -/
def State.viewRw (s : State) (a : Nat) : Nat :=
  if a = Reg.SYS_SERVICE_EN then ofBool s.sys.serviceEn
  else if a = Reg.FRONT_PA_TBL_DATA then let (l, w) := s.tableSel; s.tableWord l w
  else if a = Reg.SYNC_REF_DATA then (NMap.get (fun _ => (0 : Word)) s.sync.refs s.refSel).toNat
  else s.rd a

/-- The live value of the aligned word at address a: in OFF a read-only register stands at its Reset column (R11); a reserved address and a WO register read zero (R9, R10, R412). -/
def State.live (s : State) (f : Iface) (a : Nat) : Nat :=
  if 0xC000 ≤ a then s.viewHigh a
  else match rowAt a with
    | none => 0
    | some r => match r.acc with
      | .wo => 0
      | .rw => s.viewRw a
      | .w1c => s.flt.word a
      | .ro =>
        if s.power = .off then (resetWord a).toNat
        else if a % 0x800 < 0x40 then s.viewHeader (a / 0x800) (a % 0x800) else s.viewBlock f (a / 0x800) (a % 0x800)

end Sys2Proof.Machine
end

