-- ==== Sys2Proof/Machine/RegRead.lean ====
section
/-! DEFINITION. Reads of the register space through an interface: register and wide-value snapshots (R388), and the uncorrectable
codewords that a read of the Peat window meets (R378). -/

namespace Sys2Proof.Machine

/-! ### Wide values (R388) -/

/-- A run of n words from address a. -/
def wordsFrom (a n : Nat) : List Nat := (List.range n).map (fun k => a + 4 * k)

/-- The snapshot register of the wide value that register a belongs to, a itself where it is the snapshot register (R55, R76, R103,
R174, R225, R249, R266, R307, R308, R367, R398, R416). -/
def groupLead (a : Nat) : Option Nat :=
  if a = 0x68 ∨ a = 0x6C then some 0x68
  else if a = 0x74 ∨ a = 0x78 then some 0x74
  else if 0x80 ≤ a ∧ a ≤ 0x88 then some 0x80
  else if 0x1868 ≤ a ∧ a ≤ 0x1884 then some 0x1868
  else if a = 0x2064 ∨ a = 0x2068 then some 0x2064
  else if a = 0x5874 ∨ a = 0x5878 then some 0x5874
  else if a = 0x587C ∨ a = 0x5880 then some 0x587C
  else if 0x5900 ≤ a ∧ a < 0x5D00 then
    let r := (a - 0x5900) / 0x40
    if a % 0x40 = 0x1C ∨ a % 0x40 = 0x20 then some (0x591C + 0x40 * r) else none
  else if a = 0x706C ∨ (0x7600 ≤ a ∧ a < 0x7800) then some 0x706C
  else if 0x8900 ≤ a ∧ a < 0x8A00 then
    let u := (a - 0x8900) / 0x40
    if a % 0x40 = 0x24 ∨ a % 0x40 = 0x28 then some (0x8924 + 0x40 * u) else none
  else if a = 0x9868 ∨ a = 0x986C then some 0x9868
  else if a = 0x9870 ∨ a = 0x9874 then some 0x9870
  else if 0xA058 ≤ a ∧ a ≤ 0xA074 then some 0xA058
  else if 0xB05C ≤ a ∧ a ≤ 0xB078 then some 0xB05C
  else if a = 0xE014 ∨ a = 0xE018 then some 0xE014
  else if 0xE200 ≤ a ∧ a < 0xE440 then some (a - a % 0x40)
  else none

/-- Registers of a wide value other than its snapshot register. -/
def groupRest (lead : Nat) : List Nat :=
  if lead = 0x80 then wordsFrom 0x84 2
  else if lead = 0x1868 ∨ lead = 0xA058 ∨ lead = 0xB05C then wordsFrom (lead + 4) 7
  else if lead = 0x706C then wordsFrom 0x7600 128
  else if 0xE200 ≤ lead then wordsFrom (lead + 4) 15
  else [lead + 4]

/-- The window address a shows the open interval (R378). -/
def State.openSlot (s : State) (a : Nat) : Bool :=
  decide (0xC000 ≤ a ∧ a < 0xE000) && s.windowSlot ((a - 0xC000) / 256) = 21505

/-- Key of a word of the open interval's shadow: beyond the register space, since any window slot may show it. -/
def openKey (a : Nat) : Nat := 0x10000 + a % 256

/-- What a shadow holds before the first snapshot: the group's reset values. -/
def shadowReset (a : Nat) : Word :=
  if a < 0xC000 then resetWord a else if a = 0xE018 then Config.idDie 1 else 0

def State.shadows (s : State) (f : Iface) : NMap Word := match f with | .twoWire => s.twb.shadow | .pcie => s.pcie.shadow

def State.withShadows (s : State) (f : Iface) (m : NMap Word) : State :=
  match f with
  | .twoWire => { s with twb := { s.twb with shadow := m } }
  | .pcie => { s with pcie := { s.pcie with shadow := m } }

/-- A word of an interface's shadow. -/
def State.shadowWord (s : State) (f : Iface) (k : Nat) : Nat := (NMap.get shadowReset (s.shadows f) k).toNat

def State.keepShadow (s : State) (f : Iface) (k v : Nat) : State :=
  s.withShadows f (NMap.put shadowReset (s.shadows f) k (Word.ofNat v))

/-- What a read of register a through interface f gives: its shadow where another register of its group carries the snapshot. -/
def State.regRead (s : State) (f : Iface) (a : Nat) : Nat :=
  if s.openSlot a then (if a % 256 = 0 then s.live f a else s.shadowWord f (openKey a))
  else match groupLead a with
    | some l => if l = a then s.live f a else s.shadowWord f a
    | none => s.live f a

/-- A read of byte 0 of register a: the snapshot of the wide value that it leads. -/
def State.snapshot (s : State) (f : Iface) (a : Nat) : State :=
  if s.openSlot a then
    if a % 256 = 0 then
      (wordsFrom (a + 4) 63).foldl (fun t k => t.keepShadow f (openKey k) (s.live f k)) s
    else s
  else if groupLead a = some a then
    (groupRest a).foldl (fun t k => t.keepShadow f k (s.live f k)) s
  else s

/-! ### Reading bytes -/

/-- A two-wire read of the window reaches a codeword that cannot be corrected: PEAT source 1, counted once for each codeword that
a transfer reads (R378); the mirror has no effect on a counter (R404). -/
def State.windowHit (s : State) (f : Iface) (first : Bool) (a : Nat) : State :=
  if f = .twoWire ∧ 0xC000 ≤ a ∧ a < 0xE000 ∧ (first ∨ a % 32 = 0) then
    s.raiseIf (bitAt (s.windowRec (s.windowSlot ((a - 0xC000) / 256))).ue (a % 256 / 32)) 21 1
  else s

/-- The register that a transfer has snapshotted, and its value. -/
abbrev BusShadow := Option (Nat × Nat)

/-- One byte at address a (R388): byte 0 fills the bus shadow, bytes 1 to 3 of the same register come from it, and a read that starts
inside a register returns live bytes. -/
def State.readByte (s : State) (f : Iface) (sh : BusShadow) (first : Bool) (a : Nat) : Byte × BusShadow × State :=
  let s := s.windowHit f first a
  let r := a - a % 4
  if a % 4 = 0 then
    let w := s.regRead f a
    (BitVec.ofNat 8 w, some (a, w), s.snapshot f a)
  else
    let w := match sh with
      | some (q, v) => if q = r then v else s.regRead f r
      | none => s.regRead f r
    (BitVec.ofNat 8 (w / 256 ^ (a % 4)), sh, s)

/-- n bytes from address a, going on across pages, and from 0xFFFF to 0 (R386). -/
def readBytes (f : Iface) : Nat → Bool → BusShadow → Nat → State → List Byte × State
  | 0, _, _, _, s => ([], s)
  | n + 1, first, sh, a, s =>
    let (b, sh', s') := s.readByte f sh first a
    let (bs, t) := readBytes f n false sh' ((a + 1) % 65536) s'
    (b :: bs, t)

end Sys2Proof.Machine
end

