-- ==== Sys2Proof/Machine/Service.lean ====
section
/-! DEFINITION. Meanings of the commands of "Device states and mode combinations" that the check does not own: requests, lock waits,
the end of a transition, promotion, and the end of a wake session (R45–R50, R70, R448, R449). -/

namespace Sys2Proof.Machine

/-- A host tag: 0xFD and 0xFE act as 0x00 (R55). -/
def hostTag (t : Nat) : Nat := if t = 0xFD ∨ t = 0xFE then 0 else t

/-- A host write of SYS.REQUEST (R45, R65, R448); the transfer that brings it abandons an entry to SLEEP (R277). -/
def State.hostRequest (s : State) (t : Target) (scope tag : Nat) (cause : Nat := 0) (db : Option Nat := none) : State :=
  s.sleepAbandon.request { target := t, scope := scope, tag := hostTag tag, cause := cause, doorbell := db }

/-- REQUEST_STANDBY (R45). -/
def requestStandby (scope : Fin 4) (tag : Fin 256) (s : State) : State := s.hostRequest .standby scope tag

def execRequestStandby (scope : Fin 4) (tag : Fin 256) (s : State) : Host.Outcome State Fault Refusal :=
  done s (requestStandby scope tag s)

/-- REQUEST_LISTEN (R45). -/
def requestListen (scope : Fin 4) (tag : Fin 256) (s : State) : State := s.hostRequest .listen scope tag

def execRequestListen (scope : Fin 4) (tag : Fin 256) (s : State) : Host.Outcome State Fault Refusal :=
  done s (requestListen scope tag s)

/-- REQUEST_SERVICE (R45): FULL acts as CAUTIOUS. -/
def requestService (full : Bool) (scope : Fin 4) (tag : Fin 256) (s : State) : State :=
  s.hostRequest (if full then .full else .cautious) scope tag

def execRequestService (full : Bool) (scope : Fin 4) (tag : Fin 256) (s : State) : Host.Outcome State Fault Refusal :=
  done s (requestService full scope tag s)

/-- REQUEST_PLAYBACK (R45, R297). -/
def requestPlayback (scope : Fin 4) (pattern : Fin 16) (tag : Fin 256) (s : State) : State :=
  s.hostRequest (.playback pattern) scope tag

def execRequestPlayback (scope : Fin 4) (pattern : Fin 16) (tag : Fin 256) (s : State) : Host.Outcome State Fault Refusal :=
  done s (requestPlayback scope pattern tag s)

/-- REQUEST_SLEEP (R45, R273). -/
def requestSleep (scope : Fin 4) (tag : Fin 256) (s : State) : State := s.hostRequest .sleep scope tag

def execRequestSleep (scope : Fin 4) (tag : Fin 256) (s : State) : Host.Outcome State Fault Refusal :=
  done s (requestSleep scope tag s)

/-- The target that a code of SYS.REQUEST names (R38, R45). -/
def targetOf (code pattern : Nat) : Target :=
  match code with
  | 1 => .sleep
  | 2 => .standby
  | 3 => .cautious
  | 4 => .full
  | 6 => .listen
  | 7 => .playback pattern
  | _ => .bad

/-- REQUEST_UNREQUESTABLE (R45): a code that names no requestable state; any other code is the request it spells. -/
def requestUnrequestable (target : Fin 16) (scope : Fin 4) (tag : Fin 256) (s : State) : State :=
  s.hostRequest (targetOf target 0) scope tag

def execRequestUnrequestable (target : Fin 16) (scope : Fin 4) (tag : Fin 256) (s : State) :
    Host.Outcome State Fault Refusal := done s (requestUnrequestable target scope tag s)

/-- SYS source of the first synthesiser still unlocked, in order SYN_C, SYN_D, SYN_U. -/
def firstAwaited (bits : Nat) : Nat := if bitAt bits 0 then 2 else if bitAt bits 1 then 3 else 4

/-- LOCK_WAIT_EXPIRED (R45): 2 ms without lock refuse the pending request with 0x0A01. -/
def lockWaitExpired (s : State) : State :=
  match s.sys.pendingReq with
  | some (q, .locks _) =>
    ({ s with sys := { s.sys with pendingReq := none } }.refuse q 0x0A01 (firstAwaited (s.reqAwaits q))).unbehind
  | _ => s

def execLockWaitExpired (s : State) : Host.Outcome State Fault Refusal := done s (lockWaitExpired s)

/-- TRANSITION_END (R50). -/
def transitionEnd (d : Dir) (s : State) : State := s.ifUp (fun s => s.finishTrans d)

def execTransitionEnd (d : Dir) (s : State) : Host.Outcome State Fault Refusal := done s (transitionEnd d s)

/-- PROMOTION_TO_FULL (R70): at the first tick boundary after the FULL condition of R38 holds. -/
def promotionToFull (d : Dir) (s : State) : State :=
  if s.power = .up ∧ s.dirSt d = .cautious ∧ (s.dirRec d).trans = none ∧ s.fullCondition d then s.promote d else s

def execPromotionToFull (d : Dir) (s : State) : Host.Outcome State Fault Refusal := done s (promotionToFull d s)

/-- WAKE_SESSION_LINGER_EXPIRED (R47): the session ends in SLEEP, SYS source 10. -/
def wakeSessionLingerExpired (s : State) : State :=
  if s.power = .up ∧ s.sys.wakeSession ∧ !s.sys.lingerOff then
    let s := { s with sys := { s.sys with wakeSession := false, sleepNext := some (6, 0, 0) } }.raise 0 10
    (dirs.foldl (fun s d => s.enterStandby d 6) s).trySleep
  else s

def execWakeSessionLingerExpired (s : State) : Host.Outcome State Fault Refusal := done s (wakeSessionLingerExpired s)

end Sys2Proof.Machine
end

