-- ==== Sys2Proof/Machine/TwbOps.lean ====
section
/-! DEFINITION. Operations on the attention queue and the bus that commands and register writes share (R391–R394, R398). -/

namespace Sys2Proof.Machine

/-- CMD.FLUSH (R391): every queued message that is not being sent is discarded, in no count. -/
def State.attnFlushNow (s : State) : State :=
  if s.twb.sending then { s with twb := { s.twb with queue := s.twb.queue.take 1 } }
  else { s with twb := { s.twb with queue := [], waiting := false, backoff := none, attempt := 0 } }

/-- CMD.BUS_CLEAR (R394): the 9-pulse sequence runs where the data line is held low; its outcome comes as a command of its own. -/
def State.busClearNow (s : State) : State := { s with twb := { s.twb with clearing := s.twb.sdaLow } }

/-- The outcome of the 9-pulse sequence (R394): freed, or the controller role is fenced and its waits stop (R396). -/
def State.busCleared (s : State) (freed : Bool) : State :=
  if freed then { s with twb := { s.twb with clearing := false, sdaLow := false } }
  else { s with twb := { s.twb with clearing := false, sdaLow := true } }.raise 4 5 |>.fenceNow 4 0 5

/-- The 16-bit count at bit lo of TARGET_STAT advances (R398). -/
def State.targetStat (s : State) (lo : Nat) : State := s.bumpF Reg.TWB_TARGET_STAT lo 16 1

end Sys2Proof.Machine
end

