-- ==== Sys2Proof/Machine/RegWrite.lean ====
section
/-! DEFINITION. A write of one assembled register (R387): the register's own effect, by block, each the effect of the block's own
command; a reserved or read-only address is ignored (R9, R10, R412). -/

namespace Sys2Proof.Machine

/-! ### Indices -/

/-- A number brought into the range of an index. -/
def ix (k : Nat) [NeZero k] (n : Nat) : Fin k := Fin.ofNat k n

/-! ### Header (R366) -/

/-- A W1C header register, SRC_INJECT, or a plain register of the header. -/
def State.writeHeader (s : State) (b o : Nat) (v : Word) : State :=
  let a := hdr b o
  if o = 0x08 ∨ o = 0x0C then { s with flt := s.flt.setWord a (NMap.get (fun _ => (0 : Word)) s.flt.hdr a &&& ~~~v).toNat }
  else if o = 0x14 then srcInject (ix 24 b) v s
  else s.wrc a v.toNat

/-! ### The blocks with commands or refusals of their own -/

/-- SYS (R55): a request, SERVICE_EN, or a plain register. -/
def State.writeSys (s : State) (o : Nat) (v : Word) : State :=
  let n := v.toNat
  if o = 0x44 then s.hostRequest (targetOf (bitsAt n 0 4) (bitsAt n 8 4)) (bitsAt n 4 2) (bitsAt n 16 8)
  else if o = 0x4C then (if bitAt n 0 then s.enableService .host else serviceEnClear s)
  else s.wrc o n

/-- SUPPLY and THERM (R348, R350). -/
def State.writeSupply (s : State) (o : Nat) (v : Word) : State :=
  if o = 0x48 then vinClr v s else if o = 0x58 then pClr v s else s.wrc (0x800 + o) v.toNat

def State.writeTherm (s : State) (o : Nat) (v : Word) : State :=
  if o = 0xA4 then thermPeakClr v s else s.wrc (0x1000 + o) v.toNat

/-- TWB (R398): CMD's bits in their order. -/
def State.writeTwb (s : State) (o : Nat) (v : Word) : State :=
  if o = 0x60 then
    let s := if v.getLsbD 0 then s.attnFlushNow else s
    if v.getLsbD 1 then s.busClearNow else s
  else s.wrc (0x2000 + o) v.toNat

/-- SYN (R123). -/
def State.writeSyn (s : State) (o : Nat) (v : Word) : State :=
  match o with
  | 0x40 => refSelWrite v s
  | 0x48 => loFreqWrite .dl v s
  | 0x4C => loCtrlWrite .dl v s
  | 0x50 => loFreqWrite .ul v s
  | 0x54 => loCtrlWrite .ul v s
  | 0x6C => cacheClr v s
  | _ => s.wrc (0x3000 + o) v.toNat

def State.writeRxc (s : State) (o : Nat) (v : Word) : State := if o = 0x78 then peakClr v s else s.wrc (0x3800 + o) v.toNat

/-- CHAN (R152, R153). -/
def State.writeChan (s : State) (d : Dir) (o : Nat) (v : Word) : State :=
  if o = 0x60 then slotRegisterWrite d .branch 0 v s
  else if o < 0x100 then s.wrc (Reg.chanBase d + o) v.toNat
  else
    let n := ix 17 ((o - 0x100) / 0x20)
    match (o - 0x100) % 0x20 with
    | 0 => slotRegisterWrite d .cfg n v s
    | 4 => slotRegisterWrite d .nco n v s
    | _ => slotRegisterWrite d .trim n v s

/-- ECHO (R174): a probe switched on while its slot is on the air starts a warm run (R173). -/
def State.writeEcho (s : State) (o : Nat) (v : Word) : State :=
  if o = 0x64 then estClr v s
  else
    let t := s.wrc (0x7000 + o) v.toNat
    if o < 0x100 then t
    else
      let x := (o - 0x100) / 0x20
      let d := keyDir x
      let n := keySlot x
      if s.probeOff d n && !t.probeOff d n && t.slotEn d n && t.onAir d then t.echoStartSlot d n false else t

/-- GOV (R198). -/
def State.writeGov (s : State) (d : Dir) (o : Nat) (v : Word) : State :=
  if o = 0x40 then govWrite d .rxChain 0 v s
  else if o = 0x44 then govWrite d .muteCfg 0 v s
  else if o = 0x58 then govWrite d .fastCfg 0 v s
  else if o < 0x100 then s.wrc (Reg.govBase d + o) v.toNat
  else
    let g := ix 16 ((o - 0x100) / 0x40)
    match (o - 0x100) % 0x40 with
    | 0x00 => govWrite d .target g v s
    | 0x04 => govWrite d .ctrl g v s
    | 0x08 => govWrite d .profileVA g v s
    | 0x0C => govWrite d .profileJ g v s
    | 0x10 => govWrite d .l2Limit g v s
    | _ => govWrite d .l3Cfg g v s

/-- LAW_CMD (R225). -/
def State.lawCommand (s : State) (c : Nat) : State :=
  match c with
  | 1 => lawWrite s
  | 2 => lawRead s
  | 3 => lawOpen s
  | 4 => lawClose s
  | 5 => lawDiscardQueue s
  | _ => s

/-- LOOP (R225): the bits of TR_CMD in their order. -/
def State.writeLoop (s : State) (o : Nat) (v : Word) : State :=
  if o = 0x48 then timingClr v s
  else if o = 0x58 then s.lawCommand (bitsAt v.toNat 0 3)
  else if o < 0x100 then s.wrc (0x8800 + o) v.toNat
  else
    let u := ix 4 ((o - 0x100) / 0x40)
    match (o - 0x100) % 0x40 with
    | 0x00 => traceArm u v s
    | 0x30 =>
      let s := if v.getLsbD 0 then traceForce u s else s
      let s := if v.getLsbD 1 then traceRearm u s else s
      if v.getLsbD 2 then traceDump u s else s
    | _ => s.wrc (0x8800 + o) v.toNat

/-- BIX (R310): the bits of CMD in their order. -/
def State.writeBix (s : State) (o : Nat) (v : Word) : State :=
  if o = 0x78 then
    let s := if v.getLsbD 0 then bixClear s else s
    if v.getLsbD 1 then bixDump (ix 8 (bitsAt v.toNat 4 3)) s else s
  else s.wrc (0xA000 + o) v.toNat

/-- PEAT (R381). -/
def State.writePeat (s : State) (o : Nat) (v : Word) : State :=
  if o = 0x4C then
    match bitsAt v.toNat 0 3 with
    | 1 => peatFreeze s
    | 2 => peatThaw s
    | 3 => peatCloseCmd s
    | _ => s
  else s.wrc (0xA800 + o) v.toNat

def State.writeLock (s : State) (o : Nat) (v : Word) : State := if o = 0x50 then lockCommit v s else s.wrc (0xB000 + o) v.toNat

def State.writeCore (s : State) (o : Nat) (v : Word) : State := if o = 0x48 then marginClr v s else s.wrc (0xB800 + o) v.toNat

/-- LICHEN (R278): a FREQ outside 600,000–3,800,000 kHz keeps its previous value (R269). -/
def State.writeLichen (s : State) (o : Nat) (v : Word) : State :=
  let f := v.toNat % 2 ^ 23
  if 0x64 ≤ o ∧ o ≤ 0x80 ∧ (f < 600000 ∨ 3800000 < f) then s.raise 10 10 else s.wrc (0x5000 + o) v.toNat

/-- A writable register of block b at window offset o. -/
def State.writeBlock (s : State) (b o : Nat) (v : Word) : State :=
  match b with
  | 0 => s.writeSys o v
  | 1 => s.writeSupply o v
  | 2 => s.writeTherm o v
  | 4 => s.writeTwb o v
  | 6 => s.writeSyn o v
  | 7 => s.writeRxc o v
  | 9 => frontWrite (ix 2048 o) v s
  | 10 => s.writeLichen o v
  | 11 => syncWrite (ix 2048 o) v s
  | 12 => s.writeChan .dl o v
  | 13 => s.writeChan .ul o v
  | 14 => s.writeEcho o v
  | 15 => s.writeGov .dl o v
  | 16 => s.writeGov .ul o v
  | 17 => s.writeLoop o v
  | 18 => hkWrite (ix 2048 o) v s
  | 19 => bogRegisterWrite (ix 2048 o) v s
  | 20 => s.writeBix o v
  | 21 => s.writePeat o v
  | 22 => s.writeLock o v
  | 23 => s.writeCore o v
  | _ => s.wrc (0x800 * b + o) v.toNat

/-- The register at the aligned address a is written once (R387); a reserved or read-only one is not (TWB source 10, R412). -/
def State.writeReg (s : State) (a : Nat) (v : Word) : State :=
  if !writable a then s.raise 4 10
  else if a % 0x800 < 0x40 then s.writeHeader (a / 0x800) (a % 0x800) v
  else s.writeBlock (a / 0x800) (a % 0x800) v

end Sys2Proof.Machine
end

