-- ==== Sys2Proof/Machine/Image.lean ====
section
/-! DEFINITION. The Stois image: flash discovery (R79–R81), the integrity checks of a slot (R84–R87), its records (R88–R95) and the
pattern preload (R97, R98, R296). -/

namespace Sys2Proof.Machine

/-! ### The flash (R58, R79–R81) -/

/-- A little-endian field of a slot. -/
def flashField (l : List Byte) (off n : Nat) : Nat := ofLe (flashBytes l off n)

/-- Density of the flash, and the space of a slot. -/
def flashSize (f : Flash) : Nat := 2 ^ f.densityLog2
def slotBBase (f : Flash) : Nat := min (flashSize f / 2) (2 ^ 26)
def slotSpace (f : Flash) (b : Bool) : Nat := if b then min (flashSize f - slotBBase f) (2 ^ 26) else slotBBase f
def slotBytes (f : Flash) (b : Bool) : List Byte := if b then f.slotB else f.slotA

/-- 4-byte addresses are needed above 16 MiB. -/
def needs4 (f : Flash) : Bool := decide (2 ^ 24 < flashSize f)

/-- The parameter tables are accepted: JESD216 or one of its revisions A to F (R79). -/
def tablesValid (f : Flash) : Bool := f.basicOk && decide (f.revision ≤ 6)

/-- A declared quad-enable bit reads clear: the quad modes count as not declared (R79). -/
def quadDeclined (f : Flash) : Bool := f.qeDeclared && !f.qeSet

/-- A usable 4-byte addressing method: the read instructions of the 4-byte table, or, without it, an enter method that needs no write
enable (R79). -/
def addr4Ok (f : Flash) : Bool := f.table4 || f.enter4 = some false

/-- Failure 0x02 (R71, R79). -/
def flashBad (f : Flash) : Bool := !tablesValid f || decide (f.densityLog2 < 19) || (needs4 f && !addr4Ok f)

/-- MODE of FLASH_INFO (R58): 3 1-4-4, 2 1-1-4, 1 1-1-1. -/
def flashMode (f : Flash) : Nat := if quadDeclined f then 1 else if f.mode144 then 3 else if f.mode114 then 2 else 1

/-- FLASH_INFO (R103). -/
def flashInfo (f : Flash) : Nat :=
  f.densityLog2 % 256 + 256 * flashMode f + 1024 * ofBool f.clk50 + 2048 * ofBool (needs4 f) + 4096 * ofBool (quadDeclined f)

/-! ### The checks of a slot (R84–R87) -/

/-- One record: offset of its header, type code, SKIPPABLE, body. -/
structure ImgRec where
  off : Nat
  ty : Nat
  skip : Bool
  body : List Byte
  deriving DecidableEq, Repr

/-- The entries of a body, n bytes each. -/
def entriesOf (n : Nat) (body : List Byte) : List (List Byte) :=
  (List.range (body.length / n)).map (fun i => (body.drop (n * i)).take n)

def byteAt (l : List Byte) (i : Nat) : Nat := (l.getD i 0).toNat

/-- An entry of a fixed-size record holds what no register can represent (R89–R92, R95). -/
def entryBad (ty : Nat) (e : List Byte) : Bool :=
  match ty with
  | 1 => let a := fieldLe e 0 2
         a % 4 != 0 || decide (0xC000 ≤ a) || (decide (0xB040 ≤ a) && decide (a < 0xB800))
  | 2 => decide (1 < byteAt e 0) || decide (16 < byteAt e 1) || bitsAt (byteAt e 2) 3 2 = 3 ||
         (decide (15 < byteAt e 12) && byteAt e 12 != 255)
  | 3 => decide (1 < byteAt e 0) || decide (16 < byteAt e 1)
  | 4 => decide (1 < byteAt e 0) || decide (15 < byteAt e 1)
  | 7 => lockMalformed (fieldLe e 0 2) (fieldLe e 2 2) (fieldLe e 4 4) (fieldLe e 8 4)
  | _ => false

/-- Bytes of an entry of a record type, 0 for a record of one body. -/
def entrySize (ty : Nat) : Nat :=
  match ty with
  | 1 => 12
  | 2 => 16
  | 3 => 24
  | 4 => 4
  | 7 => 12
  | _ => 0

/-- The record makes the configuration part malformed (R87, R93, R94). -/
def recordBad (r : ImgRec) : Bool :=
  let n := entrySize r.ty
  if n ≠ 0 then r.body.length % n != 0 || (entriesOf n r.body).any (entryBad r.ty)
  else if r.ty = 5 then
    decide (r.body.length < 4) || decide (15 < byteAt r.body 0) || byteAt r.body 1 != 0 || decide (2048 < fieldLe r.body 2 2) ||
      r.body.length != 4 + 4 * fieldLe r.body 2 2
  else if r.ty = 6 then
    r.body.length != 80 || decide (3 < byteAt r.body 0) || byteAt r.body 1 != 16 || decide (23 < byteAt r.body 76)
  else if r.ty = 8 then true
  else !r.skip

/-- The records of a configuration part of `len` bytes from offset `off` on, or the offset of the failure (R85–R87); `last` is the
header of the record before, `count` is RECORD_COUNT less the records read. A record has at least 8 bytes, so fuel len is enough. -/
def parseRecords (part : List Byte) (len : Nat) : Nat → Nat → Nat → Int → List ImgRec → Except Nat (List ImgRec)
  | 0, off, _, _, _ => .error off
  | k + 1, off, last, count, acc =>
    if len ≤ off then .error last
    else if len < off + 8 then .error off
    else
      let h := flashField part off 2
      let n := flashField part (off + 4) 4
      let end_ := off + 8 + (n + 3) / 4 * 4
      if len < end_ then .error off
      else if h % 32768 = 0xFF then
        if n = 4 ∧ end_ = len ∧ count = 1 then .ok acc.reverse else .error off
      else
        let r : ImgRec := { off := off, ty := h % 32768, skip := decide (32768 ≤ h), body := flashBytes part (off + 8) n }
        if recordBad r then .error off else parseRecords part len k end_ off (count - 1) (r :: acc)

/-- A slot as its checks leave it: the failure code with FAIL_OFFSET and the bytes read, or its records. -/
structure SlotRead where
  code : Nat
  off : Nat := 0
  nread : Nat := 64
  recs : List ImgRec := []
  deriving DecidableEq, Repr

/-- CONFIG_LEN, IMAGE_LEN and RELEASE of a slot's header (R84). -/
def hdrConfigLen (l : List Byte) : Nat := flashField l 8 4
def hdrImageLen (l : List Byte) : Nat := flashField l 12 4
def hdrRelease (l : List Byte) : Nat := flashField l 0x18 4

/-- The checks of a slot in the order of R85. How far "to the point of failure" reaches for entry 6 is the model's choice (DESIGN CHOICE,
log entry 70): the bytes that the checks have read, which are the 64 of the header for 0x03, 0x04, 0x05 and 0x08 and all of CONFIG_LEN for
0x06 and 0x07. -/
def readSlot (f : Flash) (b : Bool) : SlotRead :=
  let l := slotBytes f b
  let n := hdrConfigLen l
  if flashBytes l 0 4 ≠ [0x53, 0x54, 0x4F, 0x49] then { code := 3 }
  else if flashField l 5 1 ≠ 1 ∨ flashField l 6 2 ≠ 0x40 then { code := 4 }
  else if 2 ^ 21 < n then { code := 8 }
  else if slotSpace f b < hdrImageLen l then { code := 5 }
  else
    let part := flashBytes l 0 n
    if n < 4 ∨ crc32c (part.take (n - 4)) ≠ flashField part (n - 4) 4 then { code := 6, off := n - 4, nread := n }
    else match parseRecords part n n 64 64 (flashField l 0x10 4) [] with
      | .error o => { code := 7, off := o, nread := n }
      | .ok rs => { code := 0, nread := n, recs := rs }

/-! ### Applying records (R88–R95) -/

/-- (old AND NOT MASK) OR (VALUE AND MASK). -/
def mixMask (old v mask : Nat) : Nat := (old &&& (mask ^^^ 0xFFFFFFFF)) ||| (v &&& mask)

/-- The bits of `mask` of a register are written. -/
def State.wrMask (s : State) (a v mask : Nat) : State := s.wr a (mixMask (s.rd a) v mask)

/-- CHAN's status, and TAPS, after the image's write at offset o. -/
def State.imageChan (s : State) (d : Dir) (o : Nat) : State :=
  let n := (o - 0x100) / 0x20
  let st (w : SlotReg) : State := s.setSt (Reg.CHAN_WRITE_STATUS d) (4 * slotRegShown w n + 256 * slotRegNum w)
  if o = 0x60 then st .branch
  else if o < 0x100 then s
  else match (o - 0x100) % 0x20 with
    | 0 => (st .cfg).setTaps d n
    | 4 => st .nco
    | 8 => st .trim
    | _ => s

/-- GOV's status after the image's write at offset o. -/
def State.imageGovStat (s : State) (d : Dir) (o : Nat) : State :=
  let g := (o - 0x100) / 0x40
  let st (w : GovReg) : State := s.setSt (Reg.GOV_WRITE_STATUS d) (4 * govRegShown w g + 256 * govRegNum w)
  if o = 0x40 then st .rxChain
  else if o = 0x44 then st .muteCfg
  else if o = 0x58 then st .fastCfg
  else if o < 0x100 then s
  else match (o - 0x100) % 0x40 with
    | 0x00 => st .target
    | 0x04 => st .ctrl
    | 0x08 => st .profileVA
    | 0x0C => st .profileJ
    | 0x10 => st .l2Limit
    | 0x14 => st .l3Cfg
    | _ => s

/-- The status register in which a block shows its latest write (R110, R152, R198, R247) shows the image's too; SERVICE_EN is 0 then and
both directions are in STANDBY, so a write in range is accepted. A write of SLOT_CFG writes RESPONSE, which sets TAPS (R174). -/
def State.imageStatus (s : State) (a : Nat) : State :=
  let o := a % 0x800
  match a / 0x800 with
  | 6 =>
    match o with
    | 0x40 => s.synWriteStatus 0 0
    | 0x48 => s.synWriteStatus 0 1
    | 0x50 => s.synWriteStatus 0 2
    | 0x4C => s.synWriteStatus 0 3
    | 0x54 => s.synWriteStatus 0 4
    | _ => s
  | 9 => if frontWritable o then s.setSt Reg.FRONT_WRITE_STATUS (o / 4 * 256) else s
  | 12 => s.imageChan .dl o
  | 13 => s.imageChan .ul o
  | 15 => s.imageGovStat .dl o
  | 16 => s.imageGovStat .ul o
  | _ => s

/-- Bits of a configuration register are set by the image. -/
def State.imagePut (s : State) (a v mask : Nat) : State := (s.wrMask a v mask).imageStatus a

/-- One REG_WRITE entry (R89, R412). An RW register is set as given, whatever a host's write would be told: a value out of range is applied
for the check to judge (R87). A command, a W1C register and a data window act as a write of VALUE under MASK; a read-only register and a
reserved offset keep their value and count CFG source 5. -/
def State.imageWrite (s : State) (a v mask : Nat) : State :=
  let given := Word.ofNat (v &&& mask)
  if a = Reg.SYS_SERVICE_EN then
    (if bitAt mask 0 then { s with sys := { s.sys with imageHeld := s.sys.imageHeld ++ [(true, given)] } } else s)
  else if a = Reg.SYS_REQUEST then { s with sys := { s.sys with imageHeld := s.sys.imageHeld ++ [(false, given)] } }
  else if !writable a then s.raise 3 5
  else
    let mix (old : Nat) : Word := Word.ofNat (mixMask old v mask)
    match rowAt a with
    | none => s
    | some r =>
      if r.acc != .rw then s.writeReg a given
      else if a = Reg.FRONT_PA_TBL_DATA then
        let (l, w) := s.tableSel
        { s with front := { s.front with tables := NMap.put (fun _ => (0 : Word)) s.front.tables (tableKey l w) (mix (s.tableWord l w)) } }.imageStatus a
      else if a = Reg.SYNC_REF_DATA then
        { s with sync := { s.sync with refs := NMap.put (fun _ => (0 : Word)) s.sync.refs s.refSel (mix (s.viewRw a)) } }
      else if (0x8900 ≤ a ∧ a < 0x8A00) ∨ (0x9840 ≤ a ∧ a < 0xA000) ∨ (0x5064 ≤ a ∧ a ≤ 0x5080) then s.writeReg a (mix (s.rd a))
      else s.imagePut a v mask

/-- Fields of an entry. -/
def entryDir (e : List Byte) : Dir := dirOf (byteAt e 0)

/-- A SLOT_SETUP entry (R90): RESPONSE stays, NCO too on the bypass slot. -/
def State.imageSlot (s : State) (e : List Byte) : State :=
  let d := entryDir e
  let n := byteAt e 1
  let f := byteAt e 2
  let s := s.imagePut (Reg.CHAN_SLOT_CFG d n) (bitsAt f 0 3 + 16 * bitsAt (byteAt e 3) 0 4) 0xF7
  let s := if n = 16 then s else s.imagePut (Reg.CHAN_SLOT_NCO d n) (fieldLe e 4 4) 0xFFFFFFFF
  let s := s.imagePut (Reg.CHAN_SLOT_TRIM d n) (fieldLe e 8 4) 0xFFFFFFFF
  let s := s.imagePut (Reg.ECHO_PROBE_CFG (slotKey d n)) (bitsAt f 3 2 + 256 * byteAt e 13) 0xFF03
  let a := match d with | .dl => Reg.SYNC_SLOT_REF_DL (n / 4) | .ul => Reg.SYNC_SLOT_REF_UL (n / 4)
  s.imagePut a (byteAt e 12 * 256 ^ (n % 4)) (255 * 256 ^ (n % 4))

/-- A GOV_SETUP entry (R91): the bypass slot is governor 0's; L3_LIMIT is the uplink's. -/
def State.imageGov (s : State) (e : List Byte) : State :=
  let d := entryDir e
  let g := govOf (byteAt e 1)
  let s := s.imagePut (Reg.GOV_CTRL d g) (bitsAt (byteAt e 2) 0 5 + 65536 * fieldLe e 6 2) 0xFFFF001F
  let s := s.imagePut (Reg.GOV_SLOT_TARGET d g) (fieldLe e 4 2) 0xFFFF
  let s := s.imagePut (Reg.GOV_PROFILE_VA d g) (fieldLe e 8 4) 0xFFFFFFFF
  let s := s.imagePut (Reg.GOV_PROFILE_J d g) (fieldLe e 12 2) 0xFFFF
  let s := s.imagePut (Reg.GOV_L2_LIMIT d g) (fieldLe e 14 2) 0xFFFF
  if d = .ul then s.imagePut (Reg.GOV_L3_CFG d g) (fieldLe e 16 2) 0xFFFF else s

/-- A FROND_SELECT entry (R92). -/
def State.imageFrond (s : State) (e : List Byte) : State :=
  s.imagePut (Reg.CHAN_SLOT_CFG (entryDir e) (byteAt e 1)) (256 * byteAt e 2) 0xFF00

/-- A SYNC_REF body (R93, R252): the samples, and LEN of the reference. -/
def State.imageRef (s : State) (b : List Byte) : State :=
  let r := byteAt b 0
  let n := fieldLe b 2 2
  let refs := (List.range n).foldl (fun m k =>
    NMap.put (fun _ => (0 : Word)) m (2048 * r + k) (Word.ofNat (fieldLe b (4 + 4 * k) 4))) s.sync.refs
  { s with sync := { s.sync with refs := refs } }.wrMask (Reg.SYNC_REF r) (n * 2 ^ 20) 0xFFF00000

/-- A PA_TABLE body (R94): its words are the lane's table. -/
def State.imageTable (s : State) (b : List Byte) : State :=
  let l := byteAt b 0
  { s with front := { s.front with tables := (List.range 20).foldl (fun m w =>
      NMap.put (fun _ => (0 : Word)) m (tableKey l w) (Word.ofNat (fieldLe b (4 * w) 4))) s.front.tables } }

/-- Writes on the MRAM port end one after another: those of a start are complete before it goes on. -/
def State.mramDrain : Nat → State → State
  | 0, s => s
  | k + 1, s => if s.mram.inFlight.isSome then State.mramDrain k (mramWriteComplete s) else s

def State.mramIdle (s : State) : State := State.mramDrain 1024 s

/-- A LOCK_VALUES entry (R95, R241): committed, kept where it would loosen a locked value. -/
def State.imageLock (s : State) (e : List Byte) : State :=
  let item := fieldLe e 0 2
  let index := fieldLe e 2 2
  let a := fieldLe e 4 4
  let b := fieldLe e 8 4
  let r := s.lockJudge item index a b
  if r = 0 then (s.lockApply { item := item, index := index, a := Word.ofNat a, b := Word.ofNat b, image := true }).1.mramIdle
  else match lockSource r true with
    | some n => s.raise 22 n
    | none => s

/-- One record is applied; an unknown one is skipped (R88). -/
def State.applyRecord (s : State) (r : ImgRec) : State :=
  let es := entriesOf (entrySize r.ty) r.body
  match r.ty with
  | 1 => es.foldl (fun s e => s.imageWrite (fieldLe e 0 2) (fieldLe e 4 4) (fieldLe e 8 4)) s
  | 2 => es.foldl (fun s e => s.imageSlot e) s
  | 3 => es.foldl (fun s e => s.imageGov e) s
  | 4 => es.foldl (fun s e => s.imageFrond e) s
  | 5 => s.imageRef r.body
  | 6 => s.imageTable r.body
  | 7 => es.foldl (fun s e => s.imageLock e) s
  | _ => (s.bumpF Reg.CFG_SKIPPED 0 16 1).raise 3 4

/-- Step 5 of R57: the records in image order; a schedule they leave malformed is reported (R255). -/
def State.applyImage (s : State) (rs : List ImgRec) : State :=
  let was := s.malformed
  (rs.foldl (fun s r => s.applyRecord r) s).schedNote was

/-- The held writes, in image order, at STANDBY (R89). -/
def State.heldWrite (s : State) (w : Bool × Word) : State :=
  let n := w.2.toNat
  if w.1 then (if bitAt n 0 then s.enableService .image else serviceEnClear s)
  else s.request { target := targetOf (bitsAt n 0 4) (bitsAt n 8 4), scope := bitsAt n 4 2, tag := hostTag (bitsAt n 16 8), cause := 1 }

def State.releaseHeld (s : State) : State :=
  let ws := s.sys.imageHeld
  ws.foldl (fun s w => s.heldWrite w) { s with sys := { s.sys with imageHeld := [] } }

/-! ### The pattern preload (R98, R296) -/

/-- A payload: pattern, its data, and whether its own checks pass (R97). -/
structure Payload where
  pattern : Nat
  samples : Nat
  data : List Byte
  ok : Bool
  deriving DecidableEq, Repr

/-- The payload records from offset `off` up to IMAGE_LEN, and where a malformed record stops the walk (R98). Which bytes count as read at
that stop is the model's choice (DESIGN CHOICE, log entry 71): those through the record's header of 8 bytes, or all of IMAGE_LEN where it
leaves fewer than 8. -/
def payloads (l : List Byte) (len : Nat) : Nat → Nat → List Payload × Option Nat
  | 0, _ => ([], none)
  | k + 1, off =>
    if len ≤ off then ([], none)
    else if len < off + 8 then ([], some len)
    else
      let h := flashField l off 2
      let n := flashField l (off + 4) 4
      let m := flashField l (off + 12) 4
      if h % 32768 ≠ 8 ∨ len < off + 8 + n ∨ n ≠ 12 + 4 * m ∨ 15 < flashField l (off + 8) 1 then ([], some (off + 8))
      else
        let body := flashBytes l (off + 8) n
        let p : Payload :=
          { pattern := byteAt body 0, samples := m, data := (body.drop 8).take (4 * m)
            ok := byteAt body 1 = 0 && crc32c (body.take (n - 4)) = fieldLe body (n - 4) 4 }
        let (ps, stop) := payloads l len k (off + 8 + (n + 3) / 4 * 4)
        (p :: ps, stop)

/-- Bit p of one half of CFG.PRELOAD is set: pattern slot p loaded in the lower half, its payload failed in the upper (R98's failed bit;
DEDUCED, log entry 72). -/
def State.preloadBit (s : State) (half p : Nat) : State := s.setSt Reg.CFG_PRELOAD (s.st Reg.CFG_PRELOAD ||| 2 ^ (16 * half + p))

/-- One payload is placed below `top` and loaded, or left out (R98, R296); the answer gives the new top and the slots loaded. -/
def State.placePayload (x : State × Nat × List Nat) (p : Payload) : State × Nat × List Nat :=
  let (s, top, done_) := x
  let units := (4 * p.samples + 4095) / 4096
  if !p.ok || decide (top < 2 ^ 33 + 4096 * units) then
    ((s.raise 3 6).preloadBit 1 p.pattern, top, done_)
  else
    let base := top - 4096 * units
    let again := done_.contains p.pattern
    let done_ := if again then done_ else p.pattern :: done_
    let s := s.raiseIf again 3 9
    let s := ((s.wr (Reg.BOG_PAT_BASE p.pattern) (base / 4096)).wr (Reg.BOG_PAT_SIZE p.pattern) units).wr
      (Reg.BOG_PAT_LEN p.pattern) p.samples
    let b := s.bog.write base p.data
    let s := { s with bog := b.setPat p.pattern { b.pat p.pattern with loaded := s.patFits p.pattern, preload := true } }
    (s.preloadBit 0 p.pattern, base, done_)

/-- A measurement that the SHA-256 engine makes: with its self-test failed it reads partial, with an open digest (R104 source 11). -/
def State.measure (s : State) (n st len dig : Nat) : State :=
  if (s.boot.entry 0).1 = 3 then
    let (w, s) := State.freshWide 8 s
    { s with boot := s.boot.setEntry n 3 len w }
  else { s with boot := s.boot.setEntry n st len dig }

/-- PATTERN_PRELOAD (R98, R296): the payload part of the applied slot goes into its pattern slots; entry 3 ends. -/
def patternPreload (s : State) : State :=
  match s.appliedSlot with
  | none => s
  | some l =>
    if !s.boot.preloading || !s.bog.ready || !s.isUp then s
    else
      let len := hdrImageLen l
      let start := hdrConfigLen l
      let (ps, stop) := payloads l len (len / 8 + 1) start
      let (s, _, _) := ps.foldl State.placePayload (s, 2 ^ 34, [])
      let s := { s with boot := { s.boot with preloading := false, preloadDone := true } }
      let upTo := match stop with | some o => min o len | none => max start len
      (s.raiseIf stop.isSome 3 7).measure 3 (if stop.isSome then 3 else 2) upTo (sha256 (flashBytes l 0 upTo))

def execPatternPreload (s : State) : Host.Outcome State Fault Refusal := done s (patternPreload s)

/-- COMPOSITE_DIGEST (R75): entries 0, 1, 2 and 4 are valid and entry 3 has ended; the composite is formed once. -/
def compositeDigest (s : State) : State :=
  let e := s.boot.entry
  let ended := decide (2 ≤ (e 3).1)
  if (e 8).1 != 0 || !ended || [0, 1, 2, 4].any (fun n => (e n).1 != 2) then s
  else
    let bytes := [0, 1, 2, 3, 4].flatMap (fun n => digestBytes (e n).2.2)
    { s with boot := s.boot.setEntry 8 (e 3).1 160 (sha256 bytes) }

def execCompositeDigest (s : State) : Host.Outcome State Fault Refusal := done s (compositeDigest s)

end Sys2Proof.Machine
end

