-- ==== Sys2Proof/Machine/TwoWire.lean ====
section
/-! DEFINITION. Meanings of the two-wire commands: transfers as a target (R384–R389, R395), and attention messages as a controller
(R390–R394, R396). -/

namespace Sys2Proof.Machine

/-! ### Transfers as a target -/

/-- A STOP (R384, R389): the address in use follows ADDR_CFG.BASE and the straps, and nothing is stretched. -/
def State.busStop (s : State) : State :=
  { s with twb := { s.twb with addr := bitsAt (s.rd Reg.TWB_ADDR_CFG) 3 4 * 8 + s.twb.strap % 8, stretching := false } }

/-- A transfer addressed to the device (R384): not acknowledged before STANDBY, held through a wake, served in full. -/
def State.busServe (s : State) (f : State → State) : State :=
  match s.power with
  | .off | .discovery _ => s
  | _ => (f ((twoWireWake s).targetStat 0)).busStop

/-- The register being assembled (R387): its address, the bytes received as a mask, and their values. -/
structure Assembly where
  reg : Nat
  mask : Nat
  val : Nat
  deriving DecidableEq, Repr

/-- The assembled register is written: a byte that was not received keeps its present value in an RW register and is zero otherwise. -/
def State.assembled (s : State) (x : Assembly) : State :=
  let old := match rowAt x.reg with
    | some r => if r.acc = .rw then s.viewRw x.reg else 0
    | none => 0
  let byte_ (i : Nat) : Nat := if bitAt x.mask i then bitsAt x.val (8 * i) 8 else bitsAt old (8 * i) 8
  (s.writeReg x.reg (Word.ofNat (byte_ 0 + 256 * byte_ 1 + 65536 * byte_ 2 + 16777216 * byte_ 3))).settle

/-- A byte joins the register at its address. -/
def joinByte (x : Option Assembly) (a : Nat) (b : Byte) : Assembly :=
  let r := a - a % 4
  let one : Assembly := { reg := r, mask := 2 ^ (a % 4), val := b.toNat * 256 ^ (a % 4) }
  match x with
  | some y => if y.reg = r then { y with mask := y.mask + one.mask, val := y.val + one.val } else one
  | none => one

/-- The pointer after a byte written: it stays in its 64-byte page (R386). -/
def pageNext (a : Nat) : Nat := a - a % 64 + (a % 64 + 1) % 64

/-- Data bytes of a write from the pointer on (R386, R387). -/
def State.writeBytes (s : State) (x : Option Assembly) : List Byte → State
  | [] => match x with
    | some y => s.assembled y
    | none => s
  | b :: t =>
    let a := s.twb.ptr
    let y := joinByte x a b
    let s := { s with twb := { s.twb with ptr := pageNext a } }
    if a % 4 = 3 then State.writeBytes (s.assembled y) none t else State.writeBytes s (some y) t

/-- TWO_WIRE_WRITE (R385): two pointer bytes and data; one byte alone changes nothing and counts source 9. -/
def twoWireWrite (bytes : List Byte) (s : State) : State :=
  s.busServe (fun s => match bytes with
    | [] => s
    | [_] => s.raise 4 9
    | hi :: lo :: data =>
      State.writeBytes { s with twb := { s.twb with ptr := hi.toNat * 256 + lo.toNat } } none data)

def execTwoWireWrite (bytes : List Byte) (s : State) : Host.Outcome State Fault Refusal := done s (twoWireWrite bytes s)

/-- n bytes read from the pointer on (R385, R386): the first reads 0xFF where its data are not there in time (R389). -/
def State.busRead (s : State) (n : Nat) (ready : Bool) : State :=
  let a := s.twb.ptr
  let late := !ready && n != 0
  let s := s.raiseIf late 4 11
  let (bs, t) := if late then
      let (bs, t) := readBytes .twoWire (n - 1) true none ((a + 1) % 65536) s
      ((0xFF : Byte) :: bs, t)
    else readBytes .twoWire n true none a s
  { t with twb := { t.twb with lastRead := bs, ptr := (a + n) % 65536 } }

/-- SET_POINTER_READ (R385). -/
def setPointerRead (hi lo : Byte) (n : Nat) (ready : Bool) (s : State) : State :=
  s.busServe (fun s => { s with twb := { s.twb with ptr := hi.toNat * 256 + lo.toNat } }.busRead n ready)

def execSetPointerRead (hi lo : Byte) (n : Nat) (ready : Bool) (s : State) : Host.Outcome State Fault Refusal :=
  done s (setPointerRead hi lo n ready s)

/-- CURRENT_POINTER_READ (R385). -/
def currentPointerRead (n : Nat) (ready : Bool) (s : State) : State := s.busServe (fun s => s.busRead n ready)

def execCurrentPointerRead (n : Nat) (ready : Bool) (s : State) : Host.Outcome State Fault Refusal :=
  done s (currentPointerRead n ready s)

/-- REGISTER_WRITE (R387): one assembled register, written once; the transfer that brings it abandons an entry to SLEEP (R277). -/
def registerWrite (addr : Fin 65536) (v : Word) (s : State) : State :=
  s.ifUp (fun s => (s.sleepAbandon.writeReg (addr.val - addr.val % 4) v).busStop)

def execRegisterWrite (addr : Fin 65536) (v : Word) (s : State) : Host.Outcome State Fault Refusal :=
  done s (registerWrite addr v s)

/-- WAKE_STRETCH_TIMEOUT (R389): the line is released, and the transfer is answered no further. -/
def wakeStretchTimeout (s : State) : State :=
  if s.twb.stretching then { s with twb := { s.twb with stretching := false, lastRead := [] } }.raise 4 8 else s

def execWakeStretchTimeout (s : State) : Host.Outcome State Fault Refusal := done s (wakeStretchTimeout s)

/-- TARGET_TIMEOUT (R395): the transfer is abandoned; registers already written stand. -/
def targetTimeout (s : State) : State := s.ifUp (fun s => (s.raise 4 7).targetStat 16)

def execTargetTimeout (s : State) : Host.Outcome State Fault Refusal := done s (targetTimeout s)

/-! ### Attention messages as a controller -/

/-- A message is due: one is queued, the role is in service, HOST enables attention. -/
def State.attnDue (s : State) : Bool :=
  s.isUp && !s.twb.queue.isEmpty && !s.isOut 4 0 && !hostDisables (s.fld Reg.TWB_ADDR_CFG 8 7)

/-- An attempt may start: no retry wait and no back-off runs. -/
def State.attnReady (s : State) : Bool := s.attnDue && !s.twb.waiting && s.twb.backoff.isNone

/-- The six data bytes of a message (R390). -/
def Msg.bytes (m : Msg) (strap : Nat) : List Byte :=
  [0xA5, BitVec.ofNat 8 (m.blk % 32 + 32 * (m.cls % 4) + 128 * ofBool m.inj), BitVec.ofNat 8 (m.source % 32 + 32 * (strap % 8))]
    ++ leBytes 2 m.total ++ leBytes 1 m.seq

/-- Count an event while the head message is on the bus. -/
def State.raiseSending (s : State) (src : Nat) : State :=
  let t := { s with twb := { s.twb with sending := true } }.raise 4 src
  { t with twb := { t.twb with sending := false } }

/-- The head message leaves the queue. -/
def State.popMsg (s : State) : State := { s with twb := { s.twb with queue := s.twb.queue.drop 1, attempt := 0, waiting := false } }

/-- The host acknowledged the head message in full (R392). -/
def State.attnSent (s : State) : State :=
  match s.twb.queue with
  | [] => s
  | m :: _ =>
    let b := m.bytes s.twb.strap
    (((s.bump Reg.TWB_ATTN_SENT 1).setSt Reg.TWB_LAST_MSG_LO (ofLe (b.take 4))).setSt Reg.TWB_LAST_MSG_HI (ofLe (b.drop 4))).popMsg

/-- A failed attempt (R392): a retry wait of 1, 2 or 4 ms, or after the fourth the message is dropped. -/
def State.attnNacked (s : State) : State :=
  let s := s.raiseSending 0
  if 3 ≤ s.twb.attempt then
    let s := s.raiseSending 1
    { s with
      twb := { s.twb with drops := putBits s.twb.drops 0 16 (satAdd 65535 (bitsAt s.twb.drops 0 16) 1) }
      peat := { s.peat with openI := { s.peat.openI with attnDrops := satAdd 65535 s.peat.openI.attnDrops 1 } } }.popMsg
  else { s with twb := { s.twb with attempt := s.twb.attempt + 1, waiting := true, waitEnd := s.now + 2 ^ s.twb.attempt * msTime } }

/-- A back-off of 50–200 µs is drawn (R393). -/
def State.drawBackoff (s : State) : State :=
  { s with twb := { s.twb with backoff := some (50 + Config.backoffDraw s.free % 151) }, free := s.free + 1 }

/-- ATTENTION_ATTEMPT (R392–R394) with its outcome. -/
def attentionAttempt (o : AttnOutcome) (s : State) : State :=
  if !s.attnReady then s
  else match o with
    | .acked => s.attnSent
    | .nacked => s.attnNacked
    | .arbLost => ((s.raiseSending 3).bumpF Reg.TWB_ARB_LOST 0 16 1).drawBackoff
    | .arbLostToSelf => ((s.raiseSending 3).raiseSending 4).bumpF Reg.TWB_ARB_LOST 16 16 1
    | .sclTimeout => s.raiseSending 6

def execAttentionAttempt (o : AttnOutcome) (s : State) : Host.Outcome State Fault Refusal := done s (attentionAttempt o s)

/-- ATTENTION_RETRY_WAIT_END (R392). -/
def attentionRetryWaitEnd (s : State) : State :=
  if s.isUp && (!s.syn.timeRuns || decide (s.twb.waitEnd ≤ s.now)) then { s with twb := { s.twb with waiting := false } } else s

def execAttentionRetryWaitEnd (s : State) : Host.Outcome State Fault Refusal := done s (attentionRetryWaitEnd s)

/-- ARBITRATION_BACKOFF_END (R393). -/
def arbitrationBackoffEnd (s : State) : State := if s.isUp then { s with twb := { s.twb with backoff := none } } else s

def execArbitrationBackoffEnd (s : State) : Host.Outcome State Fault Refusal := done s (arbitrationBackoffEnd s)

/-- BUS_START_DURING_BACKOFF (R393). -/
def busStartDuringBackoff (s : State) : State := if s.isUp && s.twb.backoff.isSome then s.drawBackoff else s

def execBusStartDuringBackoff (s : State) : Host.Outcome State Fault Refusal := done s (busStartDuringBackoff s)

/-- STUCK_BUS_DETECTED (R394): the 9-pulse sequence of a message that is due, with its outcome. -/
def stuckBusDetected (freedAfter : Option (Fin 10)) (s : State) : State :=
  if s.attnReady then s.busCleared freedAfter.isSome else s

def execStuckBusDetected (freedAfter : Option (Fin 10)) (s : State) : Host.Outcome State Fault Refusal :=
  done s (stuckBusDetected freedAfter s)

/-- CONTROLLER_SCL_TIMEOUT (R394): the transfer of the head message is abandoned; it was no attempt (R392). -/
def controllerSclTimeout (s : State) : State := if s.attnReady then s.raiseSending 6 else s

def execControllerSclTimeout (s : State) : Host.Outcome State Fault Refusal := done s (controllerSclTimeout s)

/-- ATTN_FLUSH (R391). -/
def attnFlush (s : State) : State := s.ifUp State.attnFlushNow

def execAttnFlush (s : State) : Host.Outcome State Fault Refusal := done s (attnFlush s)

/-- BUS_CLEAR (R394): the 9-pulse sequence by command, with its outcome. -/
def busClear (freedAfter : Option (Fin 10)) (s : State) : State := s.ifUp (fun s => s.busCleared freedAfter.isSome)

def execBusClear (freedAfter : Option (Fin 10)) (s : State) : Host.Outcome State Fault Refusal := done s (busClear freedAfter s)

end Sys2Proof.Machine
end

