-- ==== Sys2Proof/Machine/Pcie.lean ====
section
/-! DEFINITION. Meanings of the PCIe commands (R400–R410): the Bog window, the register mirror, doorbells, MSI-X, configuration
requests, reset and link; and a read of one register through either interface (R388). -/

namespace Sys2Proof.Machine

/-! ### Requests -/

/-- A request completes with Unsupported Request (R408: source 6; R402: source 15). -/
def State.pcieUr (s : State) (src : Nat) : State :=
  { s with pcie := { s.pcie with lastStatus := 1, lastRead := [] } }.raise 5 src

/-- A request completes. -/
def State.pcieOk (s : State) (v : List Byte) : State := { s with pcie := { s.pcie with lastStatus := 0, lastRead := v } }

/-- Memory requests are accepted: memory space is enabled, the function is in D0, the device is up and not entering SLEEP. -/
def State.memOpen (s : State) : Bool := s.pcie.memEnable && !s.pcie.d3 && s.isUp && s.sys.entering.isNone

/-- A memory request that reaches the endpoint. -/
def State.memRequest (s : State) (f : State → State) : State :=
  if !s.pcie.up then s else if !s.memOpen then s.pcieUr 6 else f s

/-! ### The Bog window (R402) -/

/-- Channels under a request. -/
def accessChans (a : BogAccess) (n : Nat) : List Nat := chansOf a.addr n

/-- The request cannot be served: Bog initialisation has not ended, or a channel under it is out of service. -/
def State.bogClosed (s : State) (cs : List Nat) : Bool := !s.bog.ready || cs.any (fun c => s.readsFenced 19 c || s.isRetired 19 c)

/-- In SHUTDOWN the request takes its channels out of self-refresh. -/
def State.bogWake (s : State) (cs : List Nat) : State :=
  { s with bog := { s.bog with awake := BitVec.ofNat 8 (cs.foldl (fun m c => putBits m c 1 1) s.bog.awake.toNat) } }

/-- Codewords that n bytes from address a touch. -/
def cwOf (a n : Nat) : List Nat := if n = 0 then [] else (List.range ((a + n - 1) / 32 - a / 32 + 1)).map (fun k => a / 32 + k)

/-- The 32 bytes of an uncorrectable codeword as stored: open values (log entry 2). -/
def damagedBytes (cw stamp : Nat) : List Byte := (List.range 32).map (fun k => Config.damagedStore (32 * cw + k) stamp)

/-- The bytes of a read, those of uncorrectable codewords as stored. -/
def State.bogBytes (s : State) (ue : List Nat) (a n : Nat) : List Byte :=
  (List.range n).map (fun k =>
    if ue.contains ((a + k) / 32) then Config.damagedStore (a + k) s.free else s.bog.byte (a + k))

/-- BAR0_READ (R402, R283). -/
def bar0Read (a : BogAccess) (s : State) : State :=
  s.memRequest (fun s =>
    let n := min a.len 4096
    let cs := accessChans a n
    if s.bogClosed cs then s.pcieUr 15
    else
      let cws := cwOf a.addr n
      let ue := a.ue.filter (fun c => cws.contains c)
      let s := s.bogWake cs
      let s := (s.pcieOk (s.bogBytes ue a.addr n))
      let s := { s with pcie := { s.pcie with rdBytes := s.pcie.rdBytes + n }, free := s.free + 1 }
      let s := (a.corr.filter (fun c => cws.contains c)).foldl (fun s c => s.cwCorr c) s
      ue.foldl (fun s c => s.cwUe c) s)

def execBar0Read (a : BogAccess) (s : State) : Host.Outcome State Fault Refusal := done s (bar0Read a s)

/-- The write touches a codeword in part. -/
def partWrite (a n cw : Nat) : Bool := decide (32 * cw < a) || decide (a + n < 32 * cw + 32)

/-- The range lies in an active region or in the space of a playing pattern slot (R294, R296). -/
def State.writeBarred (s : State) (a n : Nat) : Bool :=
  regionNums.any (fun r => (s.bog.region r).active && overlap (s.regBase r) (s.regSize r) a n) ||
    patNums.any (fun p => s.patPlays p && overlap (s.patBase p) (s.patBytes p) a n)

/-- Pattern slots under a write lose LOADED (R296). -/
def State.patSpoil (s : State) (a n : Nat) : State :=
  { s with bog := patNums.foldl (fun b p =>
      if overlap (s.patBase p) (s.patBytes p) a n then b.setPat p { b.pat p with loaded := false } else b) s.bog }

/-- A posted write that is carried out: codewords written in part are read, corrected and merged (R402). -/
def State.bogStore (s : State) (a : BogAccess) : State :=
  let n := a.data.length
  let part := (cwOf a.addr n).filter (fun c => partWrite a.addr n c)
  let bad := part.filter (fun c => a.ue.contains c)
  let b := bad.foldl (fun b c => b.write (32 * c) (damagedBytes c s.free)) s.bog
  let s := { s with bog := b.write a.addr a.data, free := s.free + 1
                    pcie := { s.pcie with wrBytes := s.pcie.wrBytes + n, lastStatus := 0 } }
  let s := (part.filter (fun c => a.corr.contains c)).foldl (fun s c => s.cwCorr c) s
  (bad.foldl (fun s _ => s.raise 5 11) s).patSpoil a.addr n

/-- BAR0_WRITE (R402). -/
def bar0Write (a : BogAccess) (s : State) : State :=
  s.memRequest (fun s =>
    let n := a.data.length
    let cs := accessChans a n
    if a.poisoned then s.raise 5 5
    else if s.bogClosed cs then s.pcieUr 15
    else
      let s := s.bogWake cs
      if s.writeBarred a.addr n then s.raise 19 20
      else s.bogStore a)

def execBar0Write (a : BogAccess) (s : State) : Host.Outcome State Fault Refusal := done s (bar0Write a s)

/-- SELF_REFRESH_IDLE_TIMEOUT (R402): in SHUTDOWN the channel returns to self-refresh. -/
def selfRefreshIdleTimeout (channel : Fin 8) (s : State) : State :=
  if s.power = .shutdown then
    { s with bog := { s.bog with awake := BitVec.ofNat 8 (putBits s.bog.awake.toNat channel 1 0) } }
  else s

def execSelfRefreshIdleTimeout (channel : Fin 8) (s : State) : Host.Outcome State Fault Refusal :=
  done s (selfRefreshIdleTimeout channel s)

/-! ### Doorbells (R405, R406) -/

/-- ARM of a capture doorbell. -/
def State.doorArm (s : State) (n tag : Nat) : State :=
  let (t, c) := s.armRegion n
  (t.dbStat (captDb n) (if c = 0 then 1 else if c = 1 then 2 else 3) 1 tag 0).raiseIf (c != 0) 5 8

/-- START of a playback doorbell: a request whose outcome DB_STAT follows. -/
def State.doorPlay (s : State) (p tag : Nat) : State :=
  (s.dbStat (playDb p) 4 1 tag 0).hostRequest (.playback p) (s.patDir p).bit tag 0 (some (playDb p))

/-- STOP of a playback doorbell: STOP_PLAYBACK in every direction in which the pattern plays. -/
def State.doorStop (s : State) (p tag : Nat) : State :=
  if !s.patPlays p then (s.dbStat (playDb p) 3 2 tag 0).raise 5 8
  else
    let t := dirs.foldl (fun t d =>
      if (match s.playing d with | some x => decide (x.pattern = p) | none => false) then (t.patReturnNow d).cmdStatus 0 d.num else t) s
    t.dbStat (playDb p) 1 2 tag 0

/-- A write of DB of a capture doorbell. -/
def State.captDoor (s : State) (n op tag : Nat) : State :=
  match op with
  | 1 => s.doorArm n tag
  | 2 => (s.triggerRegion n).dbStat (captDb n) 1 2 tag 0
  | 3 => (s.stopRegion n).dbStat (captDb n) 1 3 tag 0
  | 4 => (s.clearRegion n).dbStat (captDb n) 1 4 tag 0
  | _ => s.raise 5 7

/-- A write of DB of a playback doorbell. -/
def State.playDoor (s : State) (p op tag : Nat) : State :=
  match op with
  | 1 => s.doorPlay p tag
  | 2 => s.doorStop p tag
  | _ => s.raise 5 7

/-- CAPTURE_DOORBELL_ARM (R406). -/
def captureDoorbellArm (r : Fin 8) (tag : Fin 256) (s : State) : State := s.memRequest (fun s => s.captDoor r 1 tag)
def execCaptureDoorbellArm (r : Fin 8) (tag : Fin 256) (s : State) : Host.Outcome State Fault Refusal :=
  done s (captureDoorbellArm r tag s)

/-- CAPTURE_DOORBELL_TRIGGER (R406). -/
def captureDoorbellTrigger (r : Fin 8) (tag : Fin 256) (s : State) : State := s.memRequest (fun s => s.captDoor r 2 tag)
def execCaptureDoorbellTrigger (r : Fin 8) (tag : Fin 256) (s : State) : Host.Outcome State Fault Refusal :=
  done s (captureDoorbellTrigger r tag s)

/-- CAPTURE_DOORBELL_STOP (R406). -/
def captureDoorbellStop (r : Fin 8) (tag : Fin 256) (s : State) : State := s.memRequest (fun s => s.captDoor r 3 tag)
def execCaptureDoorbellStop (r : Fin 8) (tag : Fin 256) (s : State) : Host.Outcome State Fault Refusal :=
  done s (captureDoorbellStop r tag s)

/-- CAPTURE_DOORBELL_CLEAR (R406). -/
def captureDoorbellClear (r : Fin 8) (tag : Fin 256) (s : State) : State := s.memRequest (fun s => s.captDoor r 4 tag)
def execCaptureDoorbellClear (r : Fin 8) (tag : Fin 256) (s : State) : Host.Outcome State Fault Refusal :=
  done s (captureDoorbellClear r tag s)

/-- PLAYBACK_DOORBELL_START (R406). -/
def playbackDoorbellStart (p : Fin 16) (tag : Fin 256) (s : State) : State := s.memRequest (fun s => s.playDoor p 1 tag)
def execPlaybackDoorbellStart (p : Fin 16) (tag : Fin 256) (s : State) : Host.Outcome State Fault Refusal :=
  done s (playbackDoorbellStart p tag s)

/-- PLAYBACK_DOORBELL_STOP (R406). -/
def playbackDoorbellStop (p : Fin 16) (tag : Fin 256) (s : State) : State := s.memRequest (fun s => s.playDoor p 2 tag)
def execPlaybackDoorbellStop (p : Fin 16) (tag : Fin 256) (s : State) : Host.Outcome State Fault Refusal :=
  done s (playbackDoorbellStop p tag s)

/-- DOORBELL_MALFORMED (R406): a reserved OP, or a write that is not one aligned DWORD, changes nothing. -/
def doorbellMalformed (_off : Fin 65536) (_v : Word) (s : State) : State := s.memRequest (fun s => s.raise 5 7)

def execDoorbellMalformed (off : Fin 65536) (v : Word) (s : State) : Host.Outcome State Fault Refusal :=
  done s (doorbellMalformed off v s)

/-! ### MSI-X and BAR 2 (R404, R407) -/

/-- A write of the MSI-X table: address, data, or the vector's mask bit. -/
def State.msixWrite (s : State) (k : Nat) (v : Word) : State :=
  if k % 4 = 3 then
    { s with pcie := { s.pcie with vecMask := BitVec.ofNat 16 (putBits s.pcie.vecMask.toNat (k / 4) 1 (v.toNat % 2)) } }.msixFlush
  else { s with pcie := { s.pcie with msix := NMap.put (fun _ => (0 : Word)) s.pcie.msix k v } }

/-- A write through BAR 2 of one DWORD at an offset: the mirror is read-only (source 9), the doorbells and the MSI-X table take
theirs, the rest discards it. -/
def State.bar2Write (s : State) (o : Nat) (v : Word) : State :=
  let n := v.toNat
  if o < 0xF000 then s.raise 5 9
  else if o < 0xF200 ∧ o % 4 ≠ 0 then s.raise 5 7
  else if o < 0xF080 then (if o % 16 = 0 then s.captDoor ((o - 0xF000) / 16) (bitsAt n 0 4) (bitsAt n 8 8) else s)
  else if o < 0xF100 then s
  else if o < 0xF200 then (if o % 16 = 0 then s.playDoor ((o - 0xF100) / 16) (bitsAt n 0 4) (bitsAt n 8 8) else s)
  else if 0xF800 ≤ o ∧ o < 0xF900 then s.msixWrite ((o - 0xF800) / 4) v
  else s

/-- MIRROR_WRITE (R404). -/
def mirrorWrite (addr : Fin 65536) (v : Word) (s : State) : State := s.memRequest (fun s => s.bar2Write addr v)

def execMirrorWrite (addr : Fin 65536) (v : Word) (s : State) : Host.Outcome State Fault Refusal := done s (mirrorWrite addr v s)

/-- A word of BAR 2 at 0xF000 or above. -/
def State.bar2Word (s : State) (o : Nat) : Nat :=
  if o < 0xF080 ∨ (0xF100 ≤ o ∧ o < 0xF200) then
    let db := o - o % 16
    if o % 16 = 4 then (NMap.get (fun _ => (0 : Word)) s.pcie.dbStat db).toNat
    else if o % 16 = 8 then NMap.get (fun _ => 0) s.pcie.done db else 0
  else if 0xF800 ≤ o ∧ o < 0xF900 then
    let k := (o - 0xF800) / 4
    if k % 4 = 3 then ofBool (s.pcie.vecMask.getLsbD (k / 4)) else (NMap.get (fun _ => (0 : Word)) s.pcie.msix k).toNat
  else if o = 0xF900 then s.pcie.pending.toNat
  else 0

/-- MSIX_UNMASK (R407): a vector, or the function, is unmasked, and what was pending follows. -/
def msixUnmask (vector : Option (Fin 16)) (s : State) : State :=
  match vector with
  | some v => s.memRequest (fun s => s.msixWrite (4 * v.val + 3) 0)
  | none =>
    if !s.pcie.up || !s.isUp then s
    else { s with pcie := { s.pcie with funcMask := false } }.msixFlush

def execMsixUnmask (vector : Option (Fin 16)) (s : State) : Host.Outcome State Fault Refusal := done s (msixUnmask vector s)

/-! ### Reset, configuration and link (R408, R409) -/

/-- Configuration space, BARs and the MSI-X table at their reset values; the subsystem IDs are taken from SUBSYS. -/
def State.pcieReset (s : State) : State :=
  { s with pcie := { s.pcie with
      d3 := false, bar0 := 0, bar2 := 0, memEnable := false, busMaster := false, msixEnable := false, funcMask := false
      vecMask := 0xFFFF, pending := 0, msix := [], subsys := Word.ofNat (s.rd Reg.PCIE_SUBSYS) } }

/-- PERST (R408): assertion of PERST_N, or a function-level reset; the link goes down. -/
def perst (flr : Bool) (s : State) : State :=
  if flr then (if s.pcie.up then s.linkDown.pcieReset else s)
  else { s.linkDown.pcieReset with pcie := { s.linkDown.pcieReset.pcie with perst := true } }

def execPerst (flr : Bool) (s : State) : Host.Outcome State Fault Refusal := done s (perst flr s)

/-- PERST_N_DEASSERTION (R408). -/
def perstNDeassertion (s : State) : State := { s with pcie := { s.pcie with perst := false } }

def execPerstNDeassertion (s : State) : Host.Outcome State Fault Refusal := done s (perstNDeassertion s)

/-- A DWORD of configuration space: identity, command, BARs and subsystem at the places of the standard's type 0 header
(log entry 61); the rest is left to the standard. -/
def State.configWord (s : State) (o : Nat) : Word :=
  let free := (Config.configSpace (o / 4)).toNat
  match o / 4 with
  | 0 => Word.ofNat (s.st Reg.PCIE_IDS)
  | 1 => Word.ofNat (2 * ofBool s.pcie.memEnable + 4 * ofBool s.pcie.busMaster + free / 65536 * 65536)
  | 2 => Word.ofNat (0x118000 * 256 + free % 256)
  | 4 => Word.ofNat (s.pcie.bar0 % 2 ^ 32 + 0xC)
  | 5 => Word.ofNat (s.pcie.bar0 / 2 ^ 32)
  | 6 => Word.ofNat s.pcie.bar2
  | 7 | 8 | 9 => 0
  | 11 => s.pcie.subsys
  | _ => Word.ofNat free

/-- CONFIG_REQUEST (R408): retried until step 5 of a start ends, unsupported while SLEEP is being entered. -/
def configRequest (op : ConfigOp) (s : State) : State :=
  if !s.pcie.up then s
  else if s.sys.entering.isSome then s.pcieUr 6
  else if !s.isUp then { s with pcie := { s.pcie with lastStatus := 2, lastRead := [] } }
  else
    let ok := s.pcieOk []
    match op with
    | .read o => s.pcieOk (leBytes 4 (s.configWord o).toNat)
    | .setBar0 base => { ok with pcie := { ok.pcie with bar0 := base % 2 ^ 64 / 2 ^ 34 * 2 ^ 34 } }
    | .setBar2 base => { ok with pcie := { ok.pcie with bar2 := base % 2 ^ 32 / 2 ^ 16 * 2 ^ 16 } }
    | .command mem bus => { ok with pcie := { ok.pcie with memEnable := mem, busMaster := bus } }.msixFlush
    | .power d3hot => { ok with pcie := { ok.pcie with d3 := d3hot } }.msixFlush
    | .msixControl enable mask => { ok with pcie := { ok.pcie with msixEnable := enable, funcMask := mask } }.msixFlush
    | .flr => perst true ok

def execConfigRequest (op : ConfigOp) (s : State) : Host.Outcome State Fault Refusal := done s (configRequest op s)

/-- Limits of LINK_CFG: other rates act as 4, width 3 acts as 2. -/
def State.maxGen (s : State) : Nat := let g := s.fld Reg.PCIE_LINK_CFG 0 3; if 1 ≤ g ∧ g ≤ 4 then g else 4
def State.maxWidth (s : State) : Nat := 2 ^ min 2 (s.fld Reg.PCIE_LINK_CFG 3 2)

/-- The link may train: powered from step 1 of a start on, PERST_N deasserted, not held idle, the endpoint in service. -/
def State.mayTrain (s : State) : Bool :=
  !s.pcie.perst && !bitAt (s.rd Reg.PCIE_LINK_CFG) 8 && !s.readsFenced 5 0 && !s.isRetired 5 0 &&
    (match s.power with | .up | .shutdown | .waking | .discovery _ => true | _ => false)

/-- PCIE_LINK_UP (R408): the link has trained, within LINK_CFG's limits; below them source 1 counts. -/
def pcieLinkUp (gen width : Nat) (s : State) : State :=
  if !s.mayTrain then s
  else
    let g := clampN 1 s.maxGen gen
    let w := if s.maxWidth ≤ width then s.maxWidth else if 2 ≤ width then 2 else 1
    { s with pcie := { s.pcie with up := true, gen := g, width := w } }.raiseIf
      (decide (g < s.maxGen) || decide (w < s.maxWidth)) 5 1

def execPcieLinkUp (gen width : Nat) (s : State) : Host.Outcome State Fault Refusal := done s (pcieLinkUp gen width s)

/-- PCIE_LINK_DOWN (R409, R410). -/
def pcieLinkDown (s : State) : State := if s.pcie.up then s.linkDown.raise 5 0 else s

def execPcieLinkDown (s : State) : Host.Outcome State Fault Refusal := done s (pcieLinkDown s)

/-! ### A read of one register (R388) -/

/-- The register at the aligned address a, read from byte 0 through interface f. -/
def State.readReg (s : State) (f : Iface) (a : Nat) : List Byte × State :=
  if f = .pcie ∧ 0xF000 ≤ a then (leBytes 4 (s.bar2Word a), s) else readBytes f 4 true none a s

/-- SNAPSHOT_READ (R388): its bytes come back, and the wide value that it leads is snapshotted. -/
def snapshotRead (f : Iface) (addr : Fin 65536) (s : State) : State :=
  let a := addr.val - addr.val % 4
  match f with
  | .twoWire => s.ifUp (fun s =>
      let (v, t) := s.sleepAbandon.readReg .twoWire a
      { t with twb := { t.twb with lastRead := v } })
  | .pcie => s.memRequest (fun s => let (v, t) := s.readReg .pcie a; t.pcieOk v)

def execSnapshotRead (f : Iface) (addr : Fin 65536) (s : State) : Host.Outcome State Fault Refusal :=
  done s (snapshotRead f addr s)

end Sys2Proof.Machine
end

