-- ==== Sys2Proof/Machine/BringUp.lean ====
section
/-! DEFINITION. Meanings of the bring-up commands: the cold start (R57–R62, R71–R78), its flash retries (R59), SYN_C's late first lock
(R121), RESET_N (R276, R426), and the end of a wake (R65–R67). -/

namespace Sys2Proof.Machine

/-! ### The start scan of Peat (R368, R372, R377) -/

/-- The record of highest SEQ: its slot and its SEQ. -/
def newestOf : NMap PeatRec → Option (Nat × PeatRec)
  | [] => none
  | (k, r) :: t =>
    match newestOf t with
    | some (k', q) => if r.seq < q.seq ∨ r.kind = 0 then some (k', q) else some (k, r)
    | none => if r.kind = 0 then none else some (k, r)

/-- Where the flush buffer shows an interval that no record has closed. -/
def PeatState.unclosed (p : PeatState) : Bool :=
  match p.flush with
  | none => false
  | some (_, o, _) => match newestOf p.slots with
    | none => true
    | some (_, r) => decide (r.opsecLast < o)

/-- The rebuilt record's part of the flush: body, duration, and whether there was one (R372). -/
def flushPart (f : Option (Interval × Nat × Nat)) : List Byte × Nat × Bool :=
  match f with
  | some (i, o, _) => (bodyBytes i (fun _ => true) (byteBins i 69 8) 0, min 65535 (o - i.openedAt), true)
  | none => ([], 0, false)

/-- The record rebuilt at a cold start, if one is due (R372). -/
def PeatState.rebuilt (p : PeatState) : Option PeatRec :=
  let (body, dur, had) := flushPart p.flush
  let base (cause o pcc detail flags : Nat) : PeatRec :=
    { kind := 1, format := 1 + 16 * causeSeverity cause + 128, cause := cause, cflags := flags, seq := p.nextSeq, opsecClose := o
      pcc := pcc, opsecLast := o, duration := dur, detail := detail, body := body }
  match p.emergency with
  | some e => some (base e.cause e.opsecClose e.pcc e.detail (e.cflags ||| (if had then 0 else 4)))
  | none =>
    if p.unclosed then
      match p.flush with
      | some (_, o, c) => some (base 0x0A o c 0 0)
      | none => none
    else none

/-- OPSEC after a power loss: the larger of the flushed value and the emergency record's (R368). -/
def PeatState.opsecMram (p : PeatState) : Nat :=
  max (match p.flush with | some (_, o, _) => o | none => 0) (match p.emergency with | some e => e.opsecClose | none => 0)

/-- What MRAM keeps of the recorder, scanned (R377), with the power-cycle count advanced (R368). -/
def PeatState.scanned (p : PeatState) : PeatState :=
  let top := newestOf p.slots
  { slots := p.slots, newest := top.map Prod.fst, nextSeq := match top with | some (_, r) => r.seq + 1 | none => 0
    firstFull := p.firstFull, tornSlot := p.tornSlot, torn := satAdd 65535 p.torn (ofBool p.tornSlot.isSome)
    emergency := p.emergency, flush := p.flush, flushA := p.flushA, opsec := p.opsecMram
    pcc := satAdd 16777215 p.pcc 1, openI := { openedAt := p.opsecMram } }

/-- The start scan, its reports, and the rebuilt record (R372, R377). -/
def State.peatScan (s : State) (old : PeatState) : State :=
  let p := old.scanned
  let s := { s with peat := p }
  let s := s.raiseIf (old.pcc = 16777214) 21 15
  let s := s.raiseIf p.tornSlot.isSome 21 3
  let s := s.raiseIf (p.emergency.isSome && p.flush.isNone) 21 5
  match p.rebuilt with
  | none => s
  | some r =>
    let s := s.recorder (fun c => Rec.drain { c with p := { c.p with hold := c.p.hold ++ [r], nextSeq := c.p.nextSeq + 1 } })
    let s := s.mramIdle
    { s with peat := { s.peat with emergency := none } }

/-! ### Steps 1 and 2 (R57) -/

/-- What a start from OFF finds of the state before it: MRAM, the levels at its pins, the model's counter and the queue. -/
def State.cold (s : State) : State :=
  { power := .up, lev := s.lev, free := s.free, pending := s.pending
    lock := { page := s.lock.mram, mram := s.lock.mram }
    syn := { cacheC := s.syn.savedC, cacheD := s.syn.savedD, cacheU := s.syn.savedU
             savedC := s.syn.savedC, savedD := s.syn.savedD, savedU := s.syn.savedU }
    conv := { rxRecords := s.conv.rxSaved, txRecords := s.conv.txSaved, rxSaved := s.conv.rxSaved, txSaved := s.conv.txSaved }
    pcie := { perst := s.pcie.perst }
    boot := { cold := true } }

/-- Uncorrectable codewords that the start finds in the lock page (R244, R245). -/
def State.lockFound (s : State) (ue : List Nat) : State :=
  (ue.filter (fun c => decide (c < 128))).foldl (fun s c =>
    if s.lock.ue.contains c then s
    else { s with lock := { s.lock with ue := c :: s.lock.ue } }.raise 22 (if c < 64 then 7 else 8)) s

/-- The ROM measurements, or the failed self-test of their engine (R75, R104). -/
def State.measureRoms (s : State) (ok : Bool) : State :=
  if ok then
    { s with boot := (s.boot.setEntry 0 2 (Config.romLength 0) Config.frondRomDigest).setEntry 1 2 (Config.romLength 1) Config.loopRomDigest }
  else
    let (a, s) := State.freshWide 8 s
    let (b, s) := State.freshWide 8 s
    { s with boot := (s.boot.setEntry 0 3 (Config.romLength 0) a).setEntry 1 3 (Config.romLength 1) b }.raise 3 11

/-- Steps 1 and 2, the hold-up check (R336), the straps (R383) and the ROM measurement. -/
def State.startMram (s : State) (b : Boot) : State :=
  let t := { s.cold with twb := { strap := b.straps }, syn := { s.cold.syn with refPresent := b.refPresent, refOk := b.refFreqOk } }
  let t := (t.setStF Reg.SUPPLY_STAT 2 1 (ofBool b.holdupOk)).raiseIf (!b.holdupOk) 1 16
  let t := (t.measureRoms b.shaOk).lockFound b.lockUe
  let t := t.measure 2 2 4096 (sha256 t.lock.all)
  t.peatScan s.peat

/-! ### Steps 3 and 4 (R59, R71–R73, R85) -/

/-- Both slots fail at once (R72). -/
def State.failBoth (s : State) (code : Nat) : State :=
  ({ s with boot := { s.boot with aFail := code, bFail := code } }.setSt Reg.CFG_FAIL_OFFSET 0).raise 3 0 |>.raise 3 1

/-- A slot fails (R71, R85, R104). -/
def State.slotFails (s : State) (b : Bool) (r : SlotRead) : State :=
  let s := { s with boot := if b then { s.boot with bFail := r.code } else { s.boot with aFail := r.code } }
  (s.setSt Reg.CFG_FAIL_OFFSET r.off).raise 3 (ofBool b)

/-- The slot applied: CFG's copies of its header, entry 3 begun, and its records (R57 step 5, R75, R103). -/
def State.takeSlot (s : State) (f : Flash) (b : Bool) (r : SlotRead) : State :=
  let l := slotBytes f b
  let s := ((s.setSt Reg.CFG_CONFIG_LEN (hdrConfigLen l)).setSt Reg.CFG_IMAGE_LEN (hdrImageLen l)).setSt Reg.CFG_RELEASE (hdrRelease l)
  let s := { s with boot := { s.boot with slot := if b then 2 else 1, preloading := true } }
  let s := s.measure 3 1 (hdrConfigLen l) 0
  let s := s.applyImage r.recs
  let s := { s with boot := { s.boot with imageCfg := s.cfg } }
  s.measure 4 2 4096 (sha256 s.lock.all)

/-- Slot A, or slot B where A fails (R71). -/
def State.chooseSlot (s : State) (f : Flash) : State :=
  let a := readSlot f false
  if a.code = 0 then s.takeSlot f false a
  else
    let s := s.slotFails false a
    let s := s.measure 6 3 a.nread (sha256 (flashBytes f.slotA 0 a.nread))
    let b := readSlot f true
    if b.code = 0 then s.takeSlot f true b else s.slotFails true b

/-- Discovery and the configuration read (R79). -/
def State.startFlash (s : State) (f : Flash) : State :=
  let s := s.raiseIf (tablesValid f && decide (19 ≤ f.densityLog2) && quadDeclined f) 3 3
  if flashBad f then s.failBoth 2
  else
    let s := (s.setSt Reg.CFG_FLASH_INFO (flashInfo f)).setSt Reg.CFG_SLOTB_BASE (slotBBase f)
    { s with boot := { s.boot with flash := some f } }.chooseSlot f

/-! ### From the pins to STANDBY (R442, R57 steps 6 and 7, R73) -/

/-- A released pin of bit j reads asserted under PIN_POL. -/
def State.pulledWrong (s : State) (v : BitVec 26) (j : Nat) : Bool := v.getLsbD j != bitAt (s.rd Reg.FRONT_PIN_POL) j

/-- The readback of the released pins (R442): PA_EN, PA_BIAS and TRSW of each transmit lane, which is then fenced. -/
def State.readback (s : State) (v : BitVec 26) : State :=
  [(4, 4), (0, 8), (12, 12)].foldl (fun s p =>
    laneNums.foldl (fun s l =>
      if s.pulledWrong v (p.1 + l) then (s.raise 9 (p.2 + l) (some l)).fenceNow 9 l (p.2 + l) else s) s) s

/-- A band calibration with its lock, as a cold start runs it, cache or not (R62, R120). -/
def State.lockCold (s : State) (y : Syn) (l : LockUs) : State :=
  if !s.synCan y then s.synOff y
  else match l with
    | none => s.setSyn y { s.synRec y with locked := false, busy := true, calibrating := true, band := none }
    | some us =>
      let (w, s) := s.fresh
      let band : BandCal := { band := w.toNat % 256, cap := w.toNat / 256 % 256, trim := w.toNat / 65536 }
      (s.setSyn y { s.synRec y with band := some band, found := true }).lockEnd y us

/-- Step 7: device time runs, the converters calibrate, SYN_D and SYN_U lock. What VIN gave before the first tick is open (R334; log entry 86). -/
def State.startConverters (s : State) (fail : BitVec 8) (lockD lockU : LockUs) : State :=
  let (w, s) := s.fresh
  ({ s with boot := { s.boot with energy := s.boot.energy + w.toNat % 2 ^ 24 }, syn := { s.syn with startPending := false, timeRuns := true } }.calibrate fail).lockCold .d lockD |>.lockCold .u lockU

/-- Step 6 and 7, or SYN_C unlocked at its limit (R121). -/
def State.startSynth (s : State) (b : Boot) : State :=
  let s := s.lockCold .c b.lockC
  if s.syn.c.locked then
    let s := s.startConverters b.calFail b.lockD b.lockU
    { s with now := b.step7Us * 98304 / 100 }
  else
    let s := { s with syn := { s.syn with startPending := true } }
    let s := s.raiseIf (!s.syn.refPresent) 6 9
    (s.raiseIf (s.syn.refPresent && !s.syn.refOk) 6 10).raise 0 2

/-- The Bog after its initialisation: trained channels, the others fenced by their sources (R284, R309). -/
def State.startBog (s : State) (bad : BitVec 8) : State :=
  let s := { s with bog := { s.bog with trained := ~~~bad, awake := 255, ready := true } }
  (List.range 8).foldl (fun s c => s.raiseIf (bad.getLsbD c) 19 (8 + c) (some c)) s

/-- STANDBY is reached (R57, R61, R77): the device acknowledges its address, the audit starts, the image's held writes are performed. -/
def State.standby (s : State) (tStandby : Nat) : State :=
  let s := s.setSt (measT 0) (max 1 tStandby)
  let s := s.mramIdle
  let s := { s with
    power := .up
    boot := { s.boot with standbyAt := s.now }
    peat := { s.peat with auditRunning := true, layout := bitAt (s.rd Reg.PEAT_CFG) 0 }
    twb := { s.twb with acking := true } }
  s.busStop.releaseHeld

/-- Everything after discovery, with the flash or without one (R71: 0x01). A LINK_CFG that the image changed retrains the link (R408). -/
def State.startRest (s : State) (b : Boot) (f : Option Flash) : State :=
  let cfg := s.rd Reg.PCIE_LINK_CFG
  let s := { s with power := .up, boot := { s.boot with pending := none } }
  let s := match f with
    | some f => s.startFlash f
    | none => s.failBoth 1
  let s := s.readback b.released
  let s := (s.startSynth b).startBog b.bogUntrained
  let s := if s.rd Reg.PCIE_LINK_CFG = cfg then s else s.linkDown
  s.standby b.tStandby

/-- A start from OFF (R57): the first discovery read either answers, or is repeated (R59). -/
def State.coldStart (s : State) (b : Boot) : State :=
  let s := s.startMram b
  match b.flash with
  | some f => s.startRest b (some f)
  | none => { s with power := .discovery 1, boot := { s.boot with pending := some b } }

/-- VIN_VALID (R57): the device starts where RESET_N is high. -/
def vinValid (b : Boot) (s : State) : State :=
  let s := { s with lev := { s.lev with vinValid := true } }
  if s.power = .off ∧ !s.lev.resetLow then s.coldStart b else s

def execVinValid (b : Boot) (s : State) : Host.Outcome State Fault Refusal := done s (vinValid b s)

/-- FLASH_DISCOVERY_RETRY (R59): two repeats, then the start goes on without a flash. -/
def flashDiscoveryRetry (answer : Option Flash) (s : State) : State :=
  match s.power, s.boot.pending with
  | .discovery n, some b =>
    let s := s.raise 3 2
    match answer with
    | some f => s.startRest b (some f)
    | none => if 2 ≤ n then s.startRest b none else { s with power := .discovery (n + 1) }
  | _, _ => s

def execFlashDiscoveryRetry (answer : Option Flash) (s : State) : Host.Outcome State Fault Refusal :=
  done s (flashDiscoveryRetry answer s)

/-- SYN_C_START_RETRY (R121): every 10 ms until the first lock; then device time starts, step 7 runs, and service is requested where
SERVICE_EN is 1. -/
def synCStartRetry (lockC lockD lockU : LockUs) (calFail : BitVec 8) (s : State) : State :=
  if !s.syn.startPending || s.power != .up || s.sys.entering.isSome then s
  else
    let s := { s with boot := { s.boot with waitUs := s.boot.waitUs + 10000 } }.lockCold .c lockC
    if !s.syn.c.locked then s else (s.startConverters calFail lockD lockU).afterFirst

def execSynCStartRetry (lockC lockD lockU : LockUs) (calFail : BitVec 8) (s : State) : Host.Outcome State Fault Refusal :=
  done s (synCStartRetry lockC lockD lockU calFail s)

/-! ### RESET_N (R78, R276, R426) -/

/-- A low of so many ns acts: from 100 ns on; between 50 and 100 ns it may. -/
def resetSeen (ns : Nat) (recognised : Bool) : Bool := decide (100 ≤ ns) || (decide (50 < ns) && recognised)

/-- RESET_N_LOW (R78, R276): the write in flight ends and the device is OFF; in SLEEP that takes 1 ms, a shorter low wakes on release. -/
def resetNLow (ns : Nat) (recognised : Bool) (s : State) : State :=
  if !resetSeen ns recognised then s
  else
    let s := { s with lev := { s.lev with resetLow := true } }
    match s.power with
    | .off => s
    | .sleep => if 1000000 ≤ ns then s.cutOff.powerOff else { s with sys := { s.sys with shortLow := true } }
    | _ => s.cutOff.powerOff

def execResetNLow (ns : Nat) (recognised : Bool) (s : State) : Host.Outcome State Fault Refusal := done s (resetNLow ns recognised s)

/-- RESET_N_RELEASE (R57, R276): a start where VIN is valid, a wake after a short low in SLEEP. -/
def resetNRelease (b : Boot) (s : State) : State :=
  let s := { s with lev := { s.lev with resetLow := false } }
  match s.power with
  | .off => if s.lev.vinValid then s.coldStart b else s
  | .sleep => if s.sys.shortLow then { s with sys := { s.sys with shortLow := false } }.wakeBegin 2 false else s
  | _ => s

def execResetNRelease (b : Boot) (s : State) : Host.Outcome State Fault Refusal := done s (resetNRelease b s)

/-! ### The end of a wake (R65–R67) -/

/-- Steps 2 to 4 of a wake: run state restored, the endpoint's too unless PERST_N was asserted (R408), pins read back (R442), the
synthesisers warm from the cache. -/
def State.wakeRestore (s : State) (w : WakeInfo) : State :=
  let s := { s with power := .up }.echoForget
  let s := if w.perstSeen || s.pcie.perst then s.pcieReset else s
  let s := s.readback w.released
  let (x, s) := State.freshWide 1 s
  let found : BandCal := { band := x % 256, cap := x / 256 % 256, trim := x / 65536 }
  let s := s.lockAtStart .c w.lockC found
  let s := (s.lockAtStart .d w.lockD found).lockAtStart .u w.lockU found
  let s := s.calRestore w.calFail
  { s with bog := { s.bog with ready := true, awake := 255 } }

/-- One SERVICE_EN write held through the wake is handled: a 0 is a reconfiguration, SERVICE_EN having read 0 since; a 1 starts the full
check, which carries the number under which REQ_STATUS shows the write. -/
def State.heldEnable (s : State) (v : Bool) : State :=
  let no := s.sys.wakeHeldNo
  if v then
    let s := s.enableService .host
    match s.sys.check with
    | some c => { s with sys := { s.sys with check := some { c with no := no } } }
    | none => s.reqEnd no 0 2
  else (s.reconfigure).reqEnd no 0 2

/-- The SERVICE_EN writes held through the wake, in their order (R65). -/
def State.wakeHeld (s : State) : State :=
  let held := s.sys.wakeHeldEn
  held.foldl (fun s v => s.heldEnable v) { s with sys := { s.sys with wakeHeldEn := [] } }

/-- WAKE_COMPLETE (R65): STANDBY; WAKE_CTRL.RETURN applies unless the host woke the device (R47), then what was held. -/
def wakeComplete (w : WakeInfo) (s : State) : State :=
  if s.power != .waking then s
  else
    let s := (s.wakeRestore w).record 1 2 3 6
    let s := s.setSt (measT 0) (max 1 w.tStandby)
    let s := { s with
      boot := { s.boot with standbyAt := s.now, waitUs := 0 }
      peat := { s.peat with openI := { openedAt := s.peat.opsec, limit := s.interval, born := some s.now } } }
    let s := if s.sys.wakeSession then s else s.applyReturn
    s.wakeHeld.retry (fun x => x = Wait.wake)

def execWakeComplete (w : WakeInfo) (s : State) : Host.Outcome State Fault Refusal := done s (wakeComplete w s)

end Sys2Proof.Machine
end

