-- ==== Sys2Proof/Machine/Dispatch.lean ====
section
/-! DEFINITION. Dispatch: one arm per command, each a direct call of its meaning. -/

namespace Sys2Proof.Machine

def exec (i : Instr) (s : State) : Host.Outcome State Fault Refusal :=
  match i with
  | .vinValid b => Sys2Proof.Machine.execVinValid b s
  | .flashDiscoveryRetry answer => Sys2Proof.Machine.execFlashDiscoveryRetry answer s
  | .patternPreload => Sys2Proof.Machine.execPatternPreload s
  | .compositeDigest => Sys2Proof.Machine.execCompositeDigest s
  | .synCStartRetry lockC lockD lockU calFail => Sys2Proof.Machine.execSynCStartRetry lockC lockD lockU calFail s
  | .resetNLow ns recognised => Sys2Proof.Machine.execResetNLow ns recognised s
  | .vinWarning lowestMv => Sys2Proof.Machine.execVinWarning lowestMv s
  | .vinLow => Sys2Proof.Machine.execVinLow s
  | .vinHigh absMax => Sys2Proof.Machine.execVinHigh absMax s
  | .mramWriteComplete => Sys2Proof.Machine.execMramWriteComplete s
  | .serviceEnSet o => Sys2Proof.Machine.execServiceEnSet o s
  | .checkComplete us => Sys2Proof.Machine.execCheckComplete us s
  | .checkTimeout found => Sys2Proof.Machine.execCheckTimeout found s
  | .serviceEnClear => Sys2Proof.Machine.execServiceEnClear s
  | .requestStandby scope tag => Sys2Proof.Machine.execRequestStandby scope tag s
  | .requestListen scope tag => Sys2Proof.Machine.execRequestListen scope tag s
  | .requestService full scope tag => Sys2Proof.Machine.execRequestService full scope tag s
  | .requestPlayback scope pattern tag => Sys2Proof.Machine.execRequestPlayback scope pattern tag s
  | .requestSleep scope tag => Sys2Proof.Machine.execRequestSleep scope tag s
  | .requestUnrequestable target scope tag => Sys2Proof.Machine.execRequestUnrequestable target scope tag s
  | .lockWaitExpired => Sys2Proof.Machine.execLockWaitExpired s
  | .transitionEnd d => Sys2Proof.Machine.execTransitionEnd d s
  | .promotionToFull d => Sys2Proof.Machine.execPromotionToFull d s
  | .wakeSessionLingerExpired => Sys2Proof.Machine.execWakeSessionLingerExpired s
  | .rxFifoSlip lane => Sys2Proof.Machine.execRxFifoSlip lane s
  | .txFifoUnderflow lane => Sys2Proof.Machine.execTxFifoUnderflow lane s
  | .realignmentComplete d => Sys2Proof.Machine.execRealignmentComplete d s
  | .marginLowTimeout => Sys2Proof.Machine.execMarginLowTimeout s
  | .stageStall d => Sys2Proof.Machine.execStageStall d s
  | .vcoreUpdateTimeout => Sys2Proof.Machine.execVcoreUpdateTimeout s
  | .marginClr v => Sys2Proof.Machine.execMarginClr v s
  | .refSelWrite v => Sys2Proof.Machine.execRefSelWrite v s
  | .loFreqWrite d v => Sys2Proof.Machine.execLoFreqWrite d v s
  | .loCtrlWrite d v => Sys2Proof.Machine.execLoCtrlWrite d v s
  | .cacheClr v => Sys2Proof.Machine.execCacheClr v s
  | .bandCalibrationDone y found => Sys2Proof.Machine.execBandCalibrationDone y found s
  | .synthLocked y us => Sys2Proof.Machine.execSynthLocked y us s
  | .warmLockTimeout y => Sys2Proof.Machine.execWarmLockTimeout y s
  | .lossOfLock y => Sys2Proof.Machine.execLossOfLock y s
  | .refclkAbsent => Sys2Proof.Machine.execRefclkAbsent s
  | .refclkFrequencyWrong => Sys2Proof.Machine.execRefclkFrequencyWrong s
  | .refclkReturn => Sys2Proof.Machine.execRefclkReturn s
  | .overRangeEpisode lane => Sys2Proof.Machine.execOverRangeEpisode lane s
  | .overRangeEpisodeEnd lane => Sys2Proof.Machine.execOverRangeEpisodeEnd lane s
  | .peakClr v => Sys2Proof.Machine.execPeakClr v s
  | .slotRegisterWrite d which slot v => Sys2Proof.Machine.execSlotRegisterWrite d which slot v s
  | .loopTick x => Sys2Proof.Machine.execLoopTick x s
  | .plausibilityRunComplete lane high => Sys2Proof.Machine.execPlausibilityRunComplete lane high s
  | .loopDeadline late => Sys2Proof.Machine.execLoopDeadline late s
  | .loopAllLate10 => Sys2Proof.Machine.execLoopAllLate10 s
  | .lawWrite => Sys2Proof.Machine.execLawWrite s
  | .lawRead => Sys2Proof.Machine.execLawRead s
  | .lawOpen => Sys2Proof.Machine.execLawOpen s
  | .lawClose => Sys2Proof.Machine.execLawClose s
  | .lawDiscardQueue => Sys2Proof.Machine.execLawDiscardQueue s
  | .timingClr v => Sys2Proof.Machine.execTimingClr v s
  | .vcoreEmergencyStep => Sys2Proof.Machine.execVcoreEmergencyStep s
  | .vcoreEmergencyRepeat => Sys2Proof.Machine.execVcoreEmergencyRepeat s
  | .vcoreSlewTimeout => Sys2Proof.Machine.execVcoreSlewTimeout s
  | .traceArm u v => Sys2Proof.Machine.execTraceArm u v s
  | .tracePostComplete u => Sys2Proof.Machine.execTracePostComplete u s
  | .traceForce u => Sys2Proof.Machine.execTraceForce u s
  | .traceRearm u => Sys2Proof.Machine.execTraceRearm u s
  | .traceDump u => Sys2Proof.Machine.execTraceDump u s
  | .fastCut d slot i0 pin0 pin1 flagged => Sys2Proof.Machine.execFastCut d slot i0 pin0 pin1 flagged s
  | .govWrite d which g v => Sys2Proof.Machine.execGovWrite d which g v s
  | .donorLost slot => Sys2Proof.Machine.execDonorLost slot s
  | .donorPresent slot => Sys2Proof.Machine.execDonorPresent slot s
  | .noiseRiseMute slot => Sys2Proof.Machine.execNoiseRiseMute slot s
  | .laneOutputMute d => Sys2Proof.Machine.execLaneOutputMute d s
  | .muteRetryExpired d slot => Sys2Proof.Machine.execMuteRetryExpired d slot s
  | .correlatorBlockEnd slot b => Sys2Proof.Machine.execCorrelatorBlockEnd slot b s
  | .oscFastEval slot b => Sys2Proof.Machine.execOscFastEval slot b s
  | .estClr v => Sys2Proof.Machine.execEstClr v s
  | .lockCommit v => Sys2Proof.Machine.execLockCommit v s
  | .lockCommitComplete => Sys2Proof.Machine.execLockCommitComplete s
  | .lockPageScrub f => Sys2Proof.Machine.execLockPageScrub f s
  | .frontWrite off v => Sys2Proof.Machine.execFrontWrite off v s
  | .transmitWindowEdge d slot t => Sys2Proof.Machine.execTransmitWindowEdge d slot t s
  | .dutyWindowEnd dl ul => Sys2Proof.Machine.execDutyWindowEnd dl ul s
  | .lnaBypassRelease lane => Sys2Proof.Machine.execLnaBypassRelease lane s
  | .syncHit h => Sys2Proof.Machine.execSyncHit h s
  | .syncOccurrence ref => Sys2Proof.Machine.execSyncOccurrence ref s
  | .timingSwitch ref => Sys2Proof.Machine.execTimingSwitch ref s
  | .timingPinEdge p t => Sys2Proof.Machine.execTimingPinEdge p t s
  | .timingPinStuck p => Sys2Proof.Machine.execTimingPinStuck p s
  | .timingPinMissing p => Sys2Proof.Machine.execTimingPinMissing p s
  | .noiseFloorUpdate slot branch p k => Sys2Proof.Machine.execNoiseFloorUpdate slot branch p k s
  | .noiseFloorStale slot => Sys2Proof.Machine.execNoiseFloorStale slot s
  | .burstStart slot branch t => Sys2Proof.Machine.execBurstStart slot branch t s
  | .burstEnd b => Sys2Proof.Machine.execBurstEnd b s
  | .burstContinues b => Sys2Proof.Machine.execBurstContinues b s
  | .syncWrite off v => Sys2Proof.Machine.execSyncWrite off v s
  | .lichenLook rx freq active => Sys2Proof.Machine.execLichenLook rx freq active s
  | .lichenHoldoffExpired => Sys2Proof.Machine.execLichenHoldoffExpired s
  | .policySleepTimer donor => Sys2Proof.Machine.execPolicySleepTimer donor s
  | .twoWireWake => Sys2Proof.Machine.execTwoWireWake s
  | .wakeComplete w => Sys2Proof.Machine.execWakeComplete w s
  | .falseWakeCheck => Sys2Proof.Machine.execFalseWakeCheck s
  | .bogArm r => Sys2Proof.Machine.execBogArm r s
  | .bogTrigger r => Sys2Proof.Machine.execBogTrigger r s
  | .bogStop r => Sys2Proof.Machine.execBogStop r s
  | .bogClear r => Sys2Proof.Machine.execBogClear r s
  | .stopPlayback d => Sys2Proof.Machine.execStopPlayback d s
  | .segmentEnd r => Sys2Proof.Machine.execSegmentEnd r s
  | .regionEnd r => Sys2Proof.Machine.execRegionEnd r s
  | .scrubPass f => Sys2Proof.Machine.execScrubPass f s
  | .patLenWrite p v => Sys2Proof.Machine.execPatLenWrite p v s
  | .patPlacementWrite p size v => Sys2Proof.Machine.execPatPlacementWrite p size v s
  | .patternEnd d => Sys2Proof.Machine.execPatternEnd d s
  | .bogRegisterWrite off v => Sys2Proof.Machine.execBogRegisterWrite off v s
  | .bixQueueDrain => Sys2Proof.Machine.execBixQueueDrain s
  | .bixClear => Sys2Proof.Machine.execBixClear s
  | .bixDump r => Sys2Proof.Machine.execBixDump r s
  | .bixDumpComplete => Sys2Proof.Machine.execBixDumpComplete s
  | .hkPassStart c => Sys2Proof.Machine.execHkPassStart c s
  | .hkConversionEnd c x => Sys2Proof.Machine.execHkConversionEnd c x s
  | .hkTrigEdge t => Sys2Proof.Machine.execHkTrigEdge t s
  | .hkTrigStuck => Sys2Proof.Machine.execHkTrigStuck s
  | .overdriveTrip lane => Sys2Proof.Machine.execOverdriveTrip lane s
  | .hkInjectedRun c => Sys2Proof.Machine.execHkInjectedRun c s
  | .hkReferenceSettled c settled => Sys2Proof.Machine.execHkReferenceSettled c settled s
  | .hkCrossCheck a b ended => Sys2Proof.Machine.execHkCrossCheck a b ended s
  | .hkWrite off v => Sys2Proof.Machine.execHkWrite off v s
  | .slotDrop => Sys2Proof.Machine.execSlotDrop s
  | .throttleUndo => Sys2Proof.Machine.execThrottleUndo s
  | .sensorFence k noReading => Sys2Proof.Machine.execSensorFence k noReading s
  | .thermalShutdown sensed => Sys2Proof.Machine.execThermalShutdown sensed s
  | .shutdownResume lockC lockD lockU => Sys2Proof.Machine.execShutdownResume lockC lockD lockU s
  | .vinClr v => Sys2Proof.Machine.execVinClr v s
  | .pClr v => Sys2Proof.Machine.execPClr v s
  | .thermPeakClr v => Sys2Proof.Machine.execThermPeakClr v s
  | .faultDetected es => Sys2Proof.Machine.execFaultDetected es s
  | .classWindowExpired event => Sys2Proof.Machine.execClassWindowExpired event s
  | .quietPeriodExpired blk q => Sys2Proof.Machine.execQuietPeriodExpired blk q s
  | .srcInject blk v => Sys2Proof.Machine.execSrcInject blk v s
  | .peatTimer => Sys2Proof.Machine.execPeatTimer s
  | .peatFlush => Sys2Proof.Machine.execPeatFlush s
  | .peatCommitComplete => Sys2Proof.Machine.execPeatCommitComplete s
  | .peatAudit f => Sys2Proof.Machine.execPeatAudit f s
  | .peatFreeze => Sys2Proof.Machine.execPeatFreeze s
  | .peatThaw => Sys2Proof.Machine.execPeatThaw s
  | .peatClose => Sys2Proof.Machine.execPeatClose s
  | .freezeTimeout => Sys2Proof.Machine.execFreezeTimeout s
  | .twoWireWrite bytes => Sys2Proof.Machine.execTwoWireWrite bytes s
  | .setPointerRead hi lo n ready => Sys2Proof.Machine.execSetPointerRead hi lo n ready s
  | .currentPointerRead n ready => Sys2Proof.Machine.execCurrentPointerRead n ready s
  | .snapshotRead f addr => Sys2Proof.Machine.execSnapshotRead f addr s
  | .registerWrite addr v => Sys2Proof.Machine.execRegisterWrite addr v s
  | .wakeStretchTimeout => Sys2Proof.Machine.execWakeStretchTimeout s
  | .targetTimeout => Sys2Proof.Machine.execTargetTimeout s
  | .attentionAttempt o => Sys2Proof.Machine.execAttentionAttempt o s
  | .attentionRetryWaitEnd => Sys2Proof.Machine.execAttentionRetryWaitEnd s
  | .arbitrationBackoffEnd => Sys2Proof.Machine.execArbitrationBackoffEnd s
  | .stuckBusDetected freedAfter => Sys2Proof.Machine.execStuckBusDetected freedAfter s
  | .controllerSclTimeout => Sys2Proof.Machine.execControllerSclTimeout s
  | .attnFlush => Sys2Proof.Machine.execAttnFlush s
  | .busClear freedAfter => Sys2Proof.Machine.execBusClear freedAfter s
  | .bar0Read a => Sys2Proof.Machine.execBar0Read a s
  | .bar0Write a => Sys2Proof.Machine.execBar0Write a s
  | .mirrorWrite addr v => Sys2Proof.Machine.execMirrorWrite addr v s
  | .captureDoorbellArm r tag => Sys2Proof.Machine.execCaptureDoorbellArm r tag s
  | .captureDoorbellTrigger r tag => Sys2Proof.Machine.execCaptureDoorbellTrigger r tag s
  | .captureDoorbellStop r tag => Sys2Proof.Machine.execCaptureDoorbellStop r tag s
  | .captureDoorbellClear r tag => Sys2Proof.Machine.execCaptureDoorbellClear r tag s
  | .playbackDoorbellStart p tag => Sys2Proof.Machine.execPlaybackDoorbellStart p tag s
  | .playbackDoorbellStop p tag => Sys2Proof.Machine.execPlaybackDoorbellStop p tag s
  | .doorbellMalformed off v => Sys2Proof.Machine.execDoorbellMalformed off v s
  | .msixUnmask vector => Sys2Proof.Machine.execMsixUnmask vector s
  | .perst flr => Sys2Proof.Machine.execPerst flr s
  | .configRequest op => Sys2Proof.Machine.execConfigRequest op s
  | .nearOverRange lane => Sys2Proof.Machine.execNearOverRange lane s
  | .resetNRelease b => Sys2Proof.Machine.execResetNRelease b s
  | .laneRestoreComplete tx lane => Sys2Proof.Machine.execLaneRestoreComplete tx lane s
  | .backgroundCalRecordRewrite tx lane => Sys2Proof.Machine.execBackgroundCalRecordRewrite tx lane s
  | .timingPinInactiveLevel p => Sys2Proof.Machine.execTimingPinInactiveLevel p s
  | .hkTrigInactiveLevel => Sys2Proof.Machine.execHkTrigInactiveLevel s
  | .overdriveRearm lane => Sys2Proof.Machine.execOverdriveRearm lane s
  | .busStartDuringBackoff => Sys2Proof.Machine.execBusStartDuringBackoff s
  | .perstNDeassertion => Sys2Proof.Machine.execPerstNDeassertion s
  | .pcieLinkUp gen width => Sys2Proof.Machine.execPcieLinkUp gen width s
  | .pcieLinkDown => Sys2Proof.Machine.execPcieLinkDown s
  | .selfRefreshIdleTimeout channel => Sys2Proof.Machine.execSelfRefreshIdleTimeout channel s

end Sys2Proof.Machine
end

