-- ==== Sys2Proof/Safety.lean ====
section
/-! DEFINITION. The words in which the statements speak: a safe run, what a command does, what counts an event, and what a command
leaves as it was. -/

namespace Sys2Proof

/-- The machine has not stopped: the outcome is a next state. -/
def Running {σ φ ρ : Type} (o : Host.Outcome σ φ ρ) : Prop := ∃ t, o = .next t

/-- k steps from s all give a next state. -/
def SafeRun : Nat → Machine.State → Prop
  | 0, _ => True
  | k + 1, s => ∃ t, Machine.step s = .next t ∧ SafeRun k t

open Machine

/-- Command c answers a next state in s: its own effect forms a state t with P t, and `State.after` takes t through the end of the
instant, with the queue as it was (what that leaves alone is the statement EndOfInstantKeeps). -/
def Does (c : Instr) (s : State) (P : State → Prop) : Prop := ∃ t, exec c s = .next (s.after t) ∧ P t

/-- Command c answers a next state u in s, with P u. -/
def Answers (c : Instr) (s : State) (P : State → Prop) : Prop := ∃ u, exec c s = .next u ∧ P u

/-- One event of source n of block b has been counted between s and t: its TOTAL, saturating at 65,535 (R355). -/
def Counts (b n : Nat) (s t : State) : Prop := (t.flt.source b n).total = satAdd 65535 (s.flt.source b n).total 1

/-- Event IDs that counting another event can raise in its turn (R375, R391, R392): TWB sources 2 and 12, PEAT sources 6 and 9. -/
def chained (e : Nat) : Prop := e = 130 ∨ e = 140 ∨ e = 678 ∨ e = 681

/-- Events that make the device do more than count them: their chapter's own action is FAULT_DETECTED's too (R30, R56, R119, R154, R172, R269,
R277, R283, R293, R311, R396, R409). -/
def ownAction : List Nat :=
  [14, 137, 141, 162, 163, 164, 208, 330, 331, 415, 447, 468, 608, 609, 610, 611, 612, 613, 614, 615, 625, 643, 759]

/-- The device is up, no transition and no check runs, no request waits and no entry to SLEEP is on its way. -/
def Calm (s : State) : Prop :=
  s.power = .up ∧ s.sys.dl.trans = none ∧ s.sys.ul.trans = none ∧ s.sys.check = none ∧ s.sys.pendingReq = none ∧
    s.sys.behind = none ∧ s.sys.entering = none ∧ s.sys.sleepNext = none

/-- What counting an event changes of the two-wire bus and of the Bog: the attention queue, and the regions' triggers; every byte of the
store stays. -/
def CountParts (s t : State) : Prop :=
  t.bog = { s.bog with regions := t.bog.regions } ∧
    t.twb = { s.twb with queue := t.twb.queue, waiting := t.twb.waiting, attempt := t.twb.attempt, nextSeq := t.twb.nextSeq,
                         backoff := t.twb.backoff, drops := t.twb.drops }

/-- Nothing has changed between s and t but what counting an event changes: fault state, attention queue, recorder, MRAM port and
capture triggers (R355–R364). -/
def OnlyCounts (s t : State) : Prop :=
  t = { s with flt := t.flt, twb := t.twb, peat := t.peat, mram := t.mram, bog := t.bog } ∧ CountParts s t

/-- Nothing has changed between s and t but the status registers A. -/
def OnlyStatus (A : List Nat) (s t : State) : Prop := t = { s with sts := t.sts } ∧ ∀ a, a ∉ A → t.st a = s.st a

/-- Nothing has changed between s and t but the status registers A and what counting an event changes. -/
def OnlyStatusCounts (A : List Nat) (s t : State) : Prop :=
  t = { s with sts := t.sts, flt := t.flt, twb := t.twb, peat := t.peat, mram := t.mram, bog := t.bog } ∧ CountParts s t ∧
    ∀ a, a ∉ A → t.st a = s.st a

/-- An accepted register write: the register at a takes v, its reserved bits reading zero, a running check hears of it (R101), and nothing
else has changed but the status registers A. -/
def Stores (a : Nat) (v : Word) (A : List Nat) (s t : State) : Prop :=
  t = { s with cfg := (s.wr a v.toNat).cfg, sts := t.sts, sys := { s.sys with check := t.sys.check } } ∧ ∀ b, b ∉ A → t.st b = s.st b

/-- The word w is no frequency that the Lichen register at a, FREQ_0 to FREQ_7, may take (R269, R278). -/
def noBand (a w : Nat) : Bool :=
  decide (0x5064 ≤ a) && decide (a ≤ 0x5080) && (decide (w % 2 ^ 23 < 600000) || decide (3800000 < w % 2 ^ 23))

/-- The status registers that the end of an instant may write (R55, R56, R153, R225, R299, R328, R405, R409): LAST_TRANSITION,
TRANSITION_COUNT, REFUSE_CODE, LAW_STATUS, TRIG_COUNT, LINK_STAT, MSG_COUNT, and DIR_STAT and GATE_COUNT of both directions. -/
def instantRegs : List Nat :=
  [Reg.SYS_LAST_TRANSITION, Reg.SYS_TRANSITION_COUNT, Reg.SYS_REFUSE_CODE, Reg.LOOP_LAW_STATUS, Reg.HK_TRIG_COUNT, Reg.PCIE_LINK_STAT,
    Reg.PCIE_MSG_COUNT, Reg.CHAN_DIR_STAT .dl, Reg.CHAN_DIR_STAT .ul, Reg.CHAN_GATE_COUNT .dl, Reg.CHAN_GATE_COUNT .ul]

/-- A unit stands in transient handling only while its retry is under way (R357). -/
def RetryInv (s : State) : Prop :=
  ∀ b u : Nat, u < 256 → (s.flt.unit b u).st = .transient → s.retrying b u = true

/-- While the device is up, DIR_STAT of each direction shows the direction as it is (R153); so GATE_OPEN reads 1 only in a direction
that repeats to the air, without a network-protection mute, without a realignment, with its units and a branch in service. -/
def GateInv (s : State) : Prop :=
  s.isUp = true → ∀ d, s.st (Reg.CHAN_DIR_STAT d) = s.dirStat d ∧
    (bitAt (s.st (Reg.CHAN_DIR_STAT d)) 0 = true →
      s.power = .up ∧ s.onAir d = true ∧ s.dirMuted d = false ∧ (s.dirRec d).realign = false ∧ s.dirOut d = false ∧ s.branchesUp d ≠ [])

end Sys2Proof
end

