-- ==== Sys2Proof/Certificates/Slice0/Obligations.lean ====
section
/-! DEFINITION. The statements for the provers. `Does c s P` is Safety.lean's: command c, run in s, answers the next state that its own
effect t, with P t, gives at the end of the instant; EndOfInstantKeeps says what that end leaves as it is. Where a statement names
OnlyStatus, OnlyStatusCounts or an equation `t = with fields`, that is its frame: nothing else of the state has changed. -/

open Sys2Proof Sys2Proof.Machine

/-! ### The machine as a block -/

/-- A step takes the command at the front of the queue and runs it with the queue's rest.
On an empty queue the block idles (the model's choice, log entry 6). -/
def Obligations.StepRunsFront : Prop :=
  (∀ (c : Instr) (s : State) (rest : List Instr),
     s.pending = c :: rest → step s = exec c { s with pending := rest }) ∧
  (∀ s : State, s.pending = [] → step s = .next s)

/-- Every command answers a next state in every state, and leaves the queue to step. -/
def Obligations.EveryCommandAnswers : Prop :=
  ∀ (c : Instr) (s : State), Answers c s (fun u => u.pending = s.pending)

/-- The end of an instant leaves alone the power state, the levels at the pins, device time, the configuration registers, the boot
log, the converters, the slots' gains, the lock page, sync, Lichen, the burst index and the thermal model, and every status register
but those that R55, R56, R153, R225, R299, R328, R405 and R409 let it write. -/
def Obligations.EndOfInstantKeeps : Prop :=
  ∀ s t : State,
    (s.after t).power = t.power ∧ (s.after t).lev = t.lev ∧ (s.after t).now = t.now ∧ (s.after t).cfg = t.cfg ∧
    (s.after t).boot = t.boot ∧ (s.after t).conv = t.conv ∧ (s.after t).slots = t.slots ∧ (s.after t).lock = t.lock ∧
    (s.after t).sync = t.sync ∧ (s.after t).lichen = t.lichen ∧ (s.after t).bix = t.bix ∧ (s.after t).therm = t.therm ∧
    ∀ a, a ∉ instantRegs → (s.after t).st a = t.st a

/-! ### Reset -/

/-- Right after reset the device is OFF, VIN is not valid, RESET_N is high, device time is 0, nothing waits, both directions stand in
STANDBY without a transition, every unit is in service, and no fault is counted.
Registers at reset read their Reset column: some of each kind (R55, R108, R197, R366, R381). -/
def Obligations.ResetState : Prop :=
  (State.reset.power = .off ∧ State.reset.lev.vinValid = false ∧ State.reset.lev.resetLow = false ∧ State.reset.now = 0 ∧
   State.reset.pending = [] ∧ (∀ d, State.reset.dirSt d = .standby ∧ (State.reset.dirRec d).trans = none) ∧
   (∀ b u, State.reset.unitSt b u = .inService) ∧ (∀ b n, (State.reset.flt.source b n).total = 0)) ∧
  (State.reset.rd (hdr 7 0x18) = 0x03E80003 ∧ State.reset.rd (hdr 7 0x1C) = 0x2710 ∧ State.reset.rd (hdr 7 0x30) = 3 ∧
   State.reset.rd (hdr 7 0x10) = 0 ∧ State.reset.st Reg.CORE_MARGIN_NOW = 0xFF40 ∧ State.reset.st Reg.CORE_MARGIN_MIN = 0x40)

/-! ### Invariants of every step -/

/-- From every state that meets RetryInv, a step gives a state that meets it (R357). -/
def Obligations.RetryInvKept : Prop :=
  ∀ s t : State, RetryInv s → step s = .next t → RetryInv t

/-- From every state that meets GateInv, a step gives a state that meets it (R153). -/
def Obligations.GateInvKept : Prop :=
  ∀ s t : State, GateInv s → step s = .next t → GateInv t

/-- Both invariants hold right after reset. -/
def Obligations.InvariantsAtReset : Prop := RetryInv State.reset ∧ GateInv State.reset

/-! ### Counting and fencing (R355, R357, R358, R360) -/

/-- One event of a source (R355): TOTAL and the window count it, a closed window opens with the N and W that CLASS_N then holds and
ends W after this event, every event starts the source's quiet period again, the event that brings the count to N makes the source severe, and with N = 1 every event does. Nothing but what counting changes is
changed, and every other source keeps its record, but for the sources that a count can itself raise. -/
def Obligations.EventCounts : Prop :=
  ∀ (s : State) (b n : Nat) (u : Option Nat), ¬chained (32 * b + n) → suppressed s.flt b n (namedUnit b n u) = false →
    let r := s.flt.source b n
    let q := (s.raise b n u).flt.source b n
    q.total = (if r.total < 65535 then r.total + 1 else 65535) ∧ q.windowOpen = true ∧
    (r.windowOpen = false → q.win = 1 ∧ q.winN = (s.classN b).1 ∧ q.winMs = (s.classN b).2 ∧ q.winEnd = s.now + (s.classN b).2 * msTime) ∧
    (r.windowOpen = true → q.win = (if r.win < 255 then r.win + 1 else 255) ∧ q.winN = r.winN ∧ q.winMs = r.winMs ∧ q.winEnd = r.winEnd) ∧
    q.qEnd = s.now + s.quietMs b * msTime ∧
    (q.severe = true ↔ r.severe = true ∨ q.win = q.winN ∨ q.winN = 1) ∧
    OnlyCounts s (s.raise b n u) ∧
    ∀ b' n', ¬chained (32 * b' + n') → 32 * b' + n' ≠ 32 * b + n → (s.raise b n u).flt.source b' n' = s.flt.source b' n'

/-- An event that names a unit (R357, R358, R360), its source then being severe or not. In service: a handling opens, or the unit is
fenced with its quiet period, or retired where K restores lie within 86,400 operating seconds. In transient handling: it joins, and a
severe source fences or retires. Fenced: it joins, and the quiet period restarts. Retired: nothing changes. -/
def Obligations.EventActsOnItsUnit : Prop :=
  ∀ (s : State) (b n u : Nat) (w : Option Nat), n < 32 → ¬chained (32 * b + n) → namedUnit b n w = some u →
    suppressed s.flt b n (some u) = false →
    let r := s.flt.unit b u
    let q := (s.raise b n w).flt.unit b u
    let severe := ((s.raise b n w).flt.source b n).severe
    let full := decide (s.retireK b ≤ recentRestores s.peat.opsec r)
    (r.st = .inService → severe = false → q.st = .transient ∧ q.first = n ∧ q.cause = 2 ^ n) ∧
    (r.st = .inService ∨ r.st = .transient → severe = true → full = false →
      q.st = .fenced ∧ q.qMs = s.quietMs b ∧ q.qEnd = s.now + s.quietMs b * msTime) ∧
    (r.st = .inService ∨ r.st = .transient → severe = true → full = true → q.st = .retired) ∧
    (r.st = .transient → severe = false → q.st = .transient ∧ q.cause = r.cause ||| 2 ^ n) ∧
    (r.st = .fenced → q.st = .fenced ∧ q.cause = r.cause ||| 2 ^ n ∧ q.qEnd = s.now + r.qMs * msTime) ∧
    (r.st = .retired → q = r) ∧ q.restores = r.restores

/-! ### Faults, fencing and recovery: the commands -/

/-- FAULT_DETECTED, of one real event for which the chapter gives the device no action of its own (R355, R357): it is counted, and
nothing else happens. Of some that have one: a parity error of a control register gives it its image value again (R30), one of a state
register sends both directions toward STANDBY (R56), one of the attention queue empties it (R396), one of LICHEN's state disables its
receivers (R277), one of a burst index entry makes it empty (R311). Of a check of an armed source whose outcome the inverted bits alone give (R363): INJ_TOTAL counts, the source is
disarmed, TOTAL, window, units and attention queue stay; however an injected event comes, it fences no unit, mutes nothing and changes
no state but its counts and the Bog's triggers (R52). Of an armed check that met a real fault (R364): it counts as real, and the
injection is used up. -/
def Obligations.FaultDetectedCounts : Prop :=
  (∀ (s : State) (b n : Nat), s.inject b n = { s with flt := (s.inject b n).flt, bog := (s.inject b n).bog } ∧
    CountParts s (s.inject b n) ∧ (s.inject b n).flt.units = s.flt.units) ∧
  ∀ (s : State) (e : Nat) (u : Option Nat), knownEvent e = true → s.blockWorks (e / 32) = true →
    (s.respond (e / 32) (e % 32) = none → ¬chained e → e ∉ ownAction →
      suppressed s.flt (e / 32) (e % 32) (namedUnit (e / 32) (e % 32) u) = false →
      Does (.faultDetected [{ event := e, kind := .real, unit := u }]) s (fun t =>
        Counts (e / 32) (e % 32) s t ∧ OnlyCounts s t ∧
          (t.flt.source (e / 32) (e % 32)).armed = (s.flt.source (e / 32) (e % 32)).armed)) ∧
    (∀ a, e = 759 → u = some a → writable a = true → Does (.faultDetected [{ event := e, kind := .real, unit := u }]) s (fun t =>
      t.rd a = (State.rd { s with cfg := s.boot.imageCfg } a) ∧ ∀ b, b ≠ a → t.rd b = s.rd b)) ∧
    (e = 14 → s.power ≠ .shutdown → Does (.faultDetected [{ event := e, kind := .real, unit := u }]) s (fun t =>
      ∀ d, t.dirSt d = .standby ∨ ∃ x, (t.dirRec d).trans = some x ∧ x.target = .standby ∧ x.cause = 10)) ∧
    (e = 141 → Does (.faultDetected [{ event := e, kind := .real, unit := u }]) s (fun t => t.twb.queue = [])) ∧
    (e = 331 → Does (.faultDetected [{ event := e, kind := .real, unit := u }]) s (fun t => t.lichen.disabled = true)) ∧
    (∀ i, e = 643 → u = some i → i < 65536 → Does (.faultDetected [{ event := e, kind := .real, unit := u }]) s (fun t =>
      NMap.get (fun _ => {}) t.bix.table i = {} ∧
        ∀ j, j ≠ i → NMap.get (fun _ => {}) t.bix.table j = NMap.get (fun _ => {}) s.bix.table j)) ∧
    ((s.flt.source (e / 32) (e % 32)).armed = true → injCap (e / 32) (e % 32) = true →
      Does (.faultDetected [{ event := e, kind := .check, unit := u }]) s (fun t =>
        t = { s with flt := t.flt, bog := t.bog } ∧ CountParts s t ∧ t.flt.units = s.flt.units ∧
        t.flt.source (e / 32) (e % 32) = { s.flt.source (e / 32) (e % 32) with
          armed := false, injTotal := satAdd 65535 (s.flt.source (e / 32) (e % 32)).injTotal 1 } ∧
        ∀ b n, 32 * b + n ≠ e → t.flt.source b n = s.flt.source b n)) ∧
    (¬chained e → e ∉ ownAction →
      suppressed s.flt (e / 32) (e % 32) (namedUnit (e / 32) (e % 32) u) = false →
      Does (.faultDetected [{ event := e, kind := .checkDiffers, unit := u }]) s (fun t =>
        Counts (e / 32) (e % 32) s t ∧ OnlyCounts s t ∧ (t.flt.source (e / 32) (e % 32)).armed = false))

/-- CLASS_WINDOW_EXPIRED (R355): once W is over (`reached`: in device time, or before device time starts when the command says so), the
source's window closes; its TOTAL and its severe state stand, and nothing else changes.
SRC_INJECT (R363): each bit set arms its source where injection reaches it and the block is powered (R51), and no other.
QUIET_PERIOD_EXPIRED (R359, R194): a fenced unit whose restore condition holds is in service again with the restore stamped in its
history of fifteen, and so is one of any block; while a mute's cause is present it stays fenced, Q starts again and source 28 counts; a
severe source that names no unit ends its severe state. A unit that is not fenced, or whose Q is not over, stays. -/
def Obligations.WindowsArmingAndRestores : Prop :=
  (∀ s : State, s.regsUp = true →
     (∀ e : Fin 1024, s.reached (s.flt.source (e / 32) (e % 32)).winEnd = true → Does (.classWindowExpired e) s (fun t =>
       t = { s with flt := { s.flt with src := t.flt.src } } ∧
       t.flt.source (e / 32) (e % 32) =
         { s.flt.source (e / 32) (e % 32) with win := 0, windowOpen := false, winN := 0, winMs := 0, winEnd := 0 } ∧
       ∀ b n, 32 * b + n ≠ e.val → t.flt.source b n = s.flt.source b n)) ∧
     (∀ e : Fin 1024, s.reached (s.flt.source (e / 32) (e % 32)).winEnd = false → Does (.classWindowExpired e) s (fun t => t = s)) ∧
     (∀ (blk : Fin 24) (v : Word), s.blockWorks blk = false → Does (.srcInject blk v) s (fun t => t = s)) ∧
     (∀ (blk : Fin 24) (v : Word), s.blockWorks blk = true → Does (.srcInject blk v) s (fun t =>
       t = { s with flt := { s.flt with src := t.flt.src } } ∧
       (∀ n, n < 32 → t.flt.source blk n = { s.flt.source blk n with
         armed := (s.flt.source blk n).armed || (v.getLsbD n && injCap blk n) }) ∧
       ∀ b n, n < 32 → b ≠ blk.val → t.flt.source b n = s.flt.source b n))) ∧
  (∀ (s : State) (b : Fin 24), s.regsUp = true →
     (∀ u : Fin 256, (s.flt.unit b u).st = .fenced → s.reached (s.flt.unit b u).qEnd = true → s.mayRestore b u = true →
       Does (.quietPeriodExpired b (.unit u)) s (fun t =>
         (t.flt.unit b u).st = .inService ∧ (t.flt.unit b u).restores = (s.peat.opsec :: (s.flt.unit b u).restores).take 15)) ∧
     (∀ u : Fin 256, (s.flt.unit b u).st = .fenced → s.reached (s.flt.unit b u).qEnd = true → s.mayRestore b u = false →
       Does (.quietPeriodExpired b (.unit u)) s (fun t =>
         OnlyCounts s t ∧ Counts b 28 s t ∧ (t.flt.unit b u).st = .fenced ∧
         (t.flt.unit b u).qEnd = s.now + (s.flt.unit b u).qMs * msTime)) ∧
     (∀ u : Fin 256, (s.flt.unit b u).st ≠ .fenced ∨ s.reached (s.flt.unit b u).qEnd = false →
       Does (.quietPeriodExpired b (.unit u)) s (fun t => t = s)) ∧
     (∀ n : Fin 32, ¬chained (32 * b + n) → (s.flt.source b n).severe = true → sourceUnits b n = [] →
       s.reached (s.flt.source b n).qEnd = true →
       Does (.quietPeriodExpired b (.source n)) s (fun t =>
         OnlyCounts s t ∧ (t.flt.source b n).severe = false ∧ (t.flt.source b n).total = (s.flt.source b n).total)))

/-! ### Bring-up, reset and the supply -/

/-- VIN_VALID and RESET_N_RELEASE from OFF (R57, R59): with VIN valid and RESET_N high the device starts. Where the flash does not answer,
discovery is to be repeated; where it answers, the start reaches STANDBY's power state, and device time has been stamped. The lock
page that MRAM held is still in MRAM before any image is read.
FLASH_DISCOVERY_RETRY (R59): each repeat counts CFG source 2; the second one without an answer, or one with an answer, ends discovery
and the start goes on; the first without an answer leaves everything but the count as it was. -/
def Obligations.ColdStarts : Prop :=
  (∀ (s : State) (b : Boot), s.power = .off →
     (s.lev.resetLow = false → b.flash = none →
       Answers (.vinValid b) s (fun u => u.power = .discovery 1 ∧ u.boot.pending = some b ∧ u.lev = { s.lev with vinValid := true } ∧
         u.boot.cold = true ∧ u.lock.mram = s.lock.mram)) ∧
     (s.lev.resetLow = false → b.flash ≠ none →
       Answers (.vinValid b) s (fun u => u.power = .up ∧ u.lev = { s.lev with vinValid := true })) ∧
     (s.lev.resetLow = true → Answers (.vinValid b) s (fun u => u.power = .off ∧ u.lev = { s.lev with vinValid := true })) ∧
     (s.lev.vinValid = true → b.flash = none →
       Answers (.resetNRelease b) s (fun u => u.power = .discovery 1 ∧ u.boot.pending = some b ∧ u.lev = { s.lev with resetLow := false })) ∧
     (s.lev.vinValid = true → b.flash ≠ none →
       Answers (.resetNRelease b) s (fun u => u.power = .up ∧ u.lev = { s.lev with resetLow := false })) ∧
     (s.lev.vinValid = false →
       Answers (.resetNRelease b) s (fun u => u.power = .off ∧ u.lev = { s.lev with resetLow := false }))) ∧
  (∀ (s : State) (b : Boot) (n : Nat), s.power = .discovery n → s.boot.pending = some b →
     (n < 2 → Does (.flashDiscoveryRetry none) s (fun t =>
       t.power = .discovery (n + 1) ∧ OnlyCounts { s with power := .discovery (n + 1) } t ∧ Counts 3 2 s t)) ∧
     (2 ≤ n → Answers (.flashDiscoveryRetry none) s (fun u => u.power = .up)) ∧
     ∀ f : Flash, Answers (.flashDiscoveryRetry (some f)) s (fun u => u.power = .up))

/-- PATTERN_PRELOAD (R98) ends the preload, and entry 3 then reads valid or partial. COMPOSITE_DIGEST (R75) forms entry 8, in the state of
entry 3, as the SHA-256 digest over the five digests, and changes nothing else.
SYN_C_START_RETRY (R121): where SYN_C then locks, device time runs, nothing is pending of the start, and SYN_C stands locked;
where it does not, device time still stands at zero. -/
def Obligations.PreloadAndSynC : Prop :=
  ((∀ s : State, s.appliedSlot ≠ none → s.boot.preloading = true → s.bog.ready = true → s.isUp = true →
     Answers .patternPreload s (fun u => u.boot.preloading = false ∧ u.boot.preloadDone = true ∧ u.power = s.power ∧
       ((u.boot.entry 3).1 = 2 ∨ (u.boot.entry 3).1 = 3))) ∧
   (∀ s : State, (s.boot.entry 8).1 = 0 → 2 ≤ (s.boot.entry 3).1 → (∀ n, n ∈ [0, 1, 2, 4] → (s.boot.entry n).1 = 2) →
     Does .compositeDigest s (fun t =>
       t = { s with boot := { s.boot with entries := t.boot.entries } } ∧
       t.boot.entry 8 = ((s.boot.entry 3).1, 160, sha256 ([0, 1, 2, 3, 4].flatMap (fun n => digestBytes (s.boot.entry n).2.2))) ∧
       ∀ n, n ≠ 8 → t.boot.entry n = s.boot.entry n))) ∧
  (∀ (s : State) (us : Nat) (lockD lockU : LockUs) (fail : BitVec 8),
     s.syn.startPending = true → s.power = .up → s.sys.entering = none → s.synCan .c = true →
     (s.sys.serviceEn = false → s.sys.pendingReq = none → s.sys.behind = none →
       Does (.synCStartRetry (some us) lockD lockU fail) s (fun t =>
         t.syn.startPending = false ∧ t.syn.timeRuns = true ∧ t.syn.c.locked = true ∧ t.power = .up ∧ t.now = s.now)) ∧
     Does (.synCStartRetry none lockD lockU fail) s (fun t =>
       t.syn.startPending = true ∧ t.syn.timeRuns = s.syn.timeRuns ∧ t.syn.c.locked = false ∧ t.syn.c.busy = true ∧
       t.sys = s.sys ∧ t.cfg = s.cfg ∧ t.now = s.now))

/-- RESET_N_LOW (R78, R276, R426): a low that acts takes the device to OFF, in SLEEP only from 1 ms on; a shorter low in SLEEP is
remembered; a low that does not act changes nothing. VIN_WARNING (R336): the device is OFF.
VIN_LOW, VIN_HIGH (R335, R422) count SUPPLY sources 1, 2 and 3 and do nothing else; VIN_CLR and P_CLR (R348) set the least VIN to the
present one and the largest P_IN to zero, and write no other register. -/
def Obligations.SupplyCommands : Prop :=
  (∀ s : State,
     (∀ (ns : Nat) (r : Bool), resetSeen ns r = true → (s.power ≠ .sleep ∨ 1000000 ≤ ns) →
       Answers (.resetNLow ns r) s (fun u => u.power = .off ∧ u.lev = { s.lev with resetLow := true })) ∧
     (∀ (ns : Nat) (r : Bool), resetSeen ns r = true → s.power = .sleep → ns < 1000000 →
       Does (.resetNLow ns r) s (fun t =>
         t = { s with lev := { s.lev with resetLow := true }, sys := { s.sys with shortLow := true } })) ∧
     (∀ (ns : Nat) (r : Bool), resetSeen ns r = false → Does (.resetNLow ns r) s (fun t => t = s)) ∧
     (∀ mv : Nat, Answers (.vinWarning mv) s (fun u => u.power = .off ∧ u.lev = { s.lev with vinValid := false })) ∧
     (∀ mv : Nat, s.power = .up → s.sys.entering = none → s.holdupOk = true → s.peat.emergency = none → s.peat.emergencyNext = none →
       Does (.vinWarning mv) s (fun t => t.mram = {} ∧ ∃ r, t.peat.emergency = some r ∧ r.cause = 5 ∧ r.detail = mv % 65536 ∧
         r.opsecClose = s.peat.opsec ∧ r.pcc = s.peat.pcc))) ∧
  (∀ s : State, s.regsUp = true →
     Does .vinLow s (fun t => Counts 1 1 s t ∧ OnlyCounts s t) ∧
     Does (.vinHigh false) s (fun t => Counts 1 2 s t ∧ OnlyCounts s t) ∧
     Does (.vinHigh true) s (fun t => Counts 1 3 s t ∧ OnlyCounts s t) ∧
     (∀ v : Word, v.getLsbD 0 = true →
       Does (.vinClr v) s (fun t => OnlyStatus [Reg.SUPPLY_VIN] s t ∧
         t.stF Reg.SUPPLY_VIN 16 16 = s.stF Reg.SUPPLY_VIN 0 16 ∧ t.stF Reg.SUPPLY_VIN 0 16 = s.stF Reg.SUPPLY_VIN 0 16) ∧
       Does (.pClr v) s (fun t => OnlyStatus [Reg.SUPPLY_P_IN] s t ∧
         t.stF Reg.SUPPLY_P_IN 16 16 = 0 ∧ t.stF Reg.SUPPLY_P_IN 0 16 = s.stF Reg.SUPPLY_P_IN 0 16)) ∧
     (∀ v : Word, v.getLsbD 0 = false → Does (.vinClr v) s (fun t => t = s) ∧ Does (.pClr v) s (fun t => t = s)))

/-- THERMAL_SHUTDOWN (R44, R49, R346), with a cause of R346 (T_max of 140 °C, or two readings of 145 °C of one sensor): the device and both directions stand in SHUTDOWN, not running, with the states of R44 to resume
to; the synthesisers are unlocked, and SHUT_STAT counts. SHUTDOWN_RESUME takes the device up again once 60 seconds have been quiet. Without the cause, or before, each leaves the state as it was. -/
def Obligations.ShutdownAndResume : Prop :=
  ∀ s : State,
    (∀ sensed : Bool, s.tooHot sensed = true → s.regsUp = true → s.power ≠ .shutdown → s.sys.pendingReq = none → s.sys.behind = none →
      Does (.thermalShutdown sensed) s (fun t => t.power = .shutdown ∧ t.cfg = s.cfg ∧ t.now = s.now ∧
        (∀ d, t.dirSt d = .shutdown ∧ (t.dirRec d).trans = none ∧ (t.dirRec d).running = false ∧ (t.dirRec d).realign = false ∧
          (s.dirSt d = .cautious ∨ s.dirSt d = .full ∨ s.dirSt d = .muted → (t.dirRec d).resume = .cautious) ∧
          (s.dirSt d = .listen → (t.dirRec d).resume = .listen) ∧ (s.dirSt d = .standby → (t.dirRec d).resume = .standby)) ∧
        t.syn.c.locked = false ∧ t.syn.d.locked = false ∧ t.syn.u.locked = false ∧
        t.stF Reg.THERM_SHUT_STAT 0 16 = satAdd 65535 (s.stF Reg.THERM_SHUT_STAT 0 16) 1)) ∧
    (∀ sensed : Bool, s.tooHot sensed = false → Does (.thermalShutdown sensed) s (fun t => t = s)) ∧
    (∀ lc ld lu : LockUs, s.therm.quiet < 600000 → Does (.shutdownResume lc ld lu) s (fun t => t = s)) ∧
    (∀ lc ld lu : LockUs, s.power = .shutdown → 600000 ≤ s.therm.quiet → Answers (.shutdownResume lc ld lu) s (fun u => u.power = .up ∧ u.cfg = s.cfg))

/-- MRAM_WRITE_COMPLETE (R36, R337): the write in flight ends and the port takes the next; a flush stands in the other buffer, a cache
write saves its own entry or record alone, run state takes the device to SLEEP, a codeword of a record goes on with the next, and the last
one makes the record stand in its slot. With none in flight nothing changes. -/
def Obligations.MramWriteEnds : Prop :=
  ∀ s : State,
    (s.mram.inFlight = none → Does .mramWriteComplete s (fun t => t = s)) ∧
    (s.mram.inFlight = some .flush → Does .mramWriteComplete s (fun t =>
      t = { s with mram := s.mram.next, peat := { s.peat with flush := s.peat.flushNext, flushNext := none, flushA := !s.peat.flushA } })) ∧
    (∀ e, s.mram.inFlight = some (.cache (.entry .c e)) → Does .mramWriteComplete s (fun t =>
      t = { s with mram := s.mram.next, syn := { s.syn with savedC := addEntry e s.syn.savedC } })) ∧
    (s.mram.inFlight = some (.cache .clear) → Does .mramWriteComplete s (fun t =>
      t = { s with mram := s.mram.next, syn := { s.syn with savedC := [], savedD := [], savedU := [] } })) ∧
    (∀ l, l < 4 → s.mram.inFlight = some (.cache (.record l)) → Does .mramWriteComplete s (fun t =>
      t = { s with mram := s.mram.next, conv := { s.conv with rxSaved := t.conv.rxSaved } } ∧
        ∀ k, t.conv.rxSaved.getLsbD k = (s.conv.rxSaved.getLsbD k || decide (k = l)))) ∧
    (s.mram.inFlight = some .runState → s.sys.entering ≠ none →
      Answers .mramWriteComplete s (fun u => u.power = .sleep ∧ u.cfg = s.cfg ∧ u.now = s.now)) ∧
    (s.mram.inFlight = some .peat → 1 < s.peat.left → Does .mramWriteComplete s (fun t =>
      t = { s with mram := { s.mram with queue := MramJob.peat.insert s.mram.queue }.next, peat := { s.peat with left := s.peat.left - 1 } })) ∧
    (∀ (r : PeatRec) (i : Nat), s.mram.inFlight = some .peat → s.peat.left ≤ 1 → s.peat.writing = some (some r) → s.peat.place r = some i →
      s.peat.hold = [] → s.peat.pend = [] →
      Does .mramWriteComplete s (fun t => t.peat.slot i = r ∧ t.peat.newest = some i ∧ t.peat.writing = none ∧
        (∀ j, j ≠ i → t.peat.slot j = s.peat.slot j) ∧ t = { s with flt := t.flt, twb := t.twb, peat := t.peat, mram := t.mram, bog := t.bog }))

/-! ### Requests and transitions (R43, R45, R47, R50, R70, R448, R449) -/

/-- Refusals at the top of R45: a target that cannot be requested or an empty scope gives 0x0A02, service without SERVICE_EN 0x0A04,
service of a direction without an enabled, unretired slot 0x0A07. Each shows REFUSED with the request's tag, counts SYS source 0, and
leaves both directions and everything else as they were. -/
def Obligations.RequestsRefused : Prop :=
  ∀ (s : State) (scope : Fin 4) (tag : Fin 256), Calm s →
    let refused (code : Nat) (t : State) : Prop :=
      OnlyStatusCounts [Reg.SYS_REFUSE_CODE] s { t with sys := s.sys } ∧ t.st Reg.SYS_REFUSE_CODE = code + 65536 * hostTag tag ∧
      t.sys.reqStatus = 3 ∧ t.sys.reqTag = hostTag tag ∧ Counts 0 0 s t ∧ t.sys.dl = s.sys.dl ∧ t.sys.ul = s.sys.ul ∧
      t.sys.pendingReq = none
    (∀ target : Fin 16, targetOf target 0 = .bad ∨ scope.val = 0 →
      Does (.requestUnrequestable target scope tag) s (refused 0x0A02)) ∧
    (∀ full : Bool, scope.val ≠ 0 → s.sys.serviceEn = false → Does (.requestService full scope tag) s (refused 0x0A04)) ∧
    (∀ (full : Bool) (d : Dir), bitAt scope.val d.num = true → s.sys.serviceEn = true → s.liveSlots d = [] →
      Does (.requestService full scope tag) s (refused 0x0A07))

/-- A request for STANDBY, LISTEN or service that nothing holds or refuses (R45): each direction that it names and that does not stand
there yet starts its transition with the request's tag and CAUSE 0, keeping its state until the transition ends; every other
direction stays as it is. It shows PENDING while a transition runs, else DONE. A request for FULL acts as one for CAUTIOUS, which
leaves CAUTIOUS, FULL and MUTED as they are. -/
def Obligations.RequestsStartTransitions : Prop :=
  ∀ (s : State) (scope : Fin 4) (tag : Fin 256), Calm s → scope.val ≠ 0 →
    let tr (x : DirState) : Trans := { target := x, cause := 0, no := s.sys.serial + 1, tag := hostTag tag, start := s.now }
    let begun (x : DirState) (there : DirState → Bool) (t : State) : Prop :=
      (∀ d, (bitAt scope.val d.num = false ∨ there (s.dirSt d) = true → t.dirRec d = s.dirRec d) ∧
        (bitAt scope.val d.num = true → there (s.dirSt d) = false → (t.dirRec d).trans = some (tr x) ∧ t.dirSt d = s.dirSt d)) ∧
      t.sys.reqTag = hostTag tag ∧
      t.sys.reqStatus = (if dirs.any (fun d => bitAt scope.val d.num && !there (s.dirSt d)) then 1 else 2) ∧
      t.power = .up ∧ t.cfg = s.cfg ∧ t.now = s.now
    Does (.requestStandby scope tag) s (begun .standby (fun x => x = .standby)) ∧
    Does (.requestListen scope tag) s (begun .listen (fun x => x = .listen)) ∧
    (∀ full : Bool, s.sys.serviceEn = true → (∀ d, bitAt scope.val d.num = true → s.liveSlots d ≠ []) → s.awaited scope.val = 0 →
      Does (.requestService full scope tag) s (begun .cautious (fun x => x = .cautious || x = .full || x = .muted)))

/-- A request for PLAYBACK (R45, R297): to a receive point of a direction that is not MUTED, or to a transmit point that the lock page
allows, in service's conditions and out of CAUTIOUS, MUTED and the way to service: with the pattern loaded, the pattern's direction starts
its transition.
A request for SLEEP (R45, R273): with both directions in STANDBY the entry begins, the recorder's interval closes, and run state is
on its way to MRAM; a direction that is not there starts its transition to STANDBY first. -/
def Obligations.PlaybackAndSleepRequests : Prop :=
  (∀ (s : State) (scope : Fin 4) (p : Fin 16) (tag : Fin 256), Calm s → scope.val ≠ 0 → (s.bog.pat p).loaded = true →
     let d := s.patDir p
     let begun (t : State) : Prop :=
       (t.dirRec d).trans = some { target := .playback, cause := 0, no := s.sys.serial + 1, tag := hostTag tag, pattern := some p, start := s.now } ∧
       t.dirSt d = s.dirSt d ∧ t.dirRec d.other = s.dirRec d.other ∧ t.sys.reqStatus = 1 ∧ t.sys.reqTag = hostTag tag ∧ t.cfg = s.cfg
     (s.patTransmit p = false → s.dirSt d ≠ .muted → Does (.requestPlayback scope p tag) s begun) ∧
     (s.patTransmit p = true → s.sys.serviceEn = true → s.liveSlots d ≠ [] → s.lock.playAir = true → s.awaited d.bit = 0 →
       s.dirSt d ≠ .cautious → s.dirSt d ≠ .muted → Does (.requestPlayback scope p tag) s begun)) ∧
  (∀ (s : State) (scope : Fin 4) (tag : Fin 256), Calm s → scope.val ≠ 0 →
     (s.sys.dl.st = .standby → s.sys.ul.st = .standby →
       Does (.requestSleep scope tag) s (fun t => t.sys.entering = some (0, s.sys.serial + 1, hostTag tag) ∧ t.sys.sleepNext = none ∧
         t.sys.wakeSession = false ∧ t.sys.reqStatus = 1 ∧ t.power = .up ∧ t.cfg = s.cfg ∧
         (t.mram.inFlight = some .runState ∨ .runState ∈ t.mram.queue))) ∧
     (∀ d, s.dirSt d ≠ .standby →
       Does (.requestSleep scope tag) s (fun t => t.sys.sleepNext = some (0, s.sys.serial + 1, hostTag tag) ∧
         (t.dirRec d).trans = some { target := .standby, cause := 0, start := s.now } ∧ t.sys.entering = none ∧ t.power = .up)))

/-- LOCK_WAIT_EXPIRED (R45): the pending request is refused with 0x0A01, the first synthesiser still unlocked counts SYS source 2, 3 or
4, and both directions stay.
PROMOTION_TO_FULL (R70, R449): a CAUTIOUS direction without a transition whose FULL condition holds stands in FULL, with CAUSE 2; one
whose condition does not hold stays.
WAKE_SESSION_LINGER_EXPIRED (R47, R449): a two-wire wake session without another request ends: SYS source 10, and the entry to SLEEP
begins with CAUSE 6 and no request's tag. -/
def Obligations.WaitsEnd : Prop :=
  (∀ (s : State) (q : Req) (deadline : Nat), s.sys.pendingReq = some (q, .locks deadline) → q.tag ≠ 0xFD → q.isResume = false →
     s.sys.behind = none → q.doorbell = none →
     Does .lockWaitExpired s (fun t => t.sys.pendingReq = none ∧ t.st Reg.SYS_REFUSE_CODE = 0x0A01 + 65536 * (q.tag % 65536) ∧
       Counts 0 (firstAwaited (s.reqAwaits q)) s t ∧ t.sys.dl = s.sys.dl ∧ t.sys.ul = s.sys.ul ∧
       OnlyStatusCounts [Reg.SYS_REFUSE_CODE] s { t with sys := s.sys })) ∧
  (∀ (s : State) (d : Dir), s.power = .up → s.dirSt d = .cautious → (s.dirRec d).trans = none →
     (s.fullCondition d = true → Does (.promotionToFull d) s (fun t =>
       t.dirRec d = { s.dirRec d with st := .full } ∧ t.dirRec d.other = s.dirRec d.other ∧
       t.st Reg.SYS_LAST_TRANSITION = 3 + 16 * 4 + 256 * d.bit + 4096 * 2 ∧ t.cfg = s.cfg ∧ t.now = s.now ∧ t.front = s.front)) ∧
     (s.fullCondition d = false → Does (.promotionToFull d) s (fun t => t = s))) ∧
  (∀ s : State, Calm s → s.sys.wakeSession = true → s.sys.lingerOff = false → s.sys.dl.st = .standby → s.sys.ul.st = .standby →
     Does .wakeSessionLingerExpired s (fun t => t.sys.entering = some (6, 0, 0) ∧ t.sys.wakeSession = false ∧ Counts 0 10 s t ∧
       t.sys.dl = s.sys.dl ∧ t.sys.ul = s.sys.ul ∧ t.cfg = s.cfg ∧ t.now = s.now))

/-- TRANSITION_END (R43, R449): the direction stands in the target, or in MUTED where the target is CAUTIOUS and network protection
mutes it or every slot of it (R40); it runs in every state but STANDBY; LAST_TRANSITION shows where it came from, where it went, its direction and its cause
(one pattern that follows another is no transition); the other direction stays. Without a transition, nothing changes. -/
def Obligations.TransitionEnds : Prop :=
  ∀ (s : State) (d : Dir), s.regsUp = true →
    ((s.dirRec d).trans = none → Does (.transitionEnd d) s (fun t => t = s)) ∧
    (∀ tr : Trans, (s.dirRec d).trans = some tr → (s.dirRec d).after = none → s.sys.pendingReq = none → s.sys.behind = none →
      s.sys.sleepNext = none →
      let target := if tr.target = .cautious ∧ s.protMuted d = true then DirState.muted else tr.target
      Does (.transitionEnd d) s (fun t => t.dirSt d = target ∧ (t.dirRec d).trans = none ∧
        (t.dirRec d).running = decide (tr.target ≠ .standby) ∧ t.dirRec d.other = s.dirRec d.other ∧
        t.cfg = s.cfg ∧ t.now = s.now ∧
        (¬(s.dirSt d = .playback ∧ tr.target = .playback) →
          t.st Reg.SYS_LAST_TRANSITION = ((s.dirSt d).code + 16 * target.code + 256 * d.bit + 4096 * tr.cause) % 2 ^ 32 ∧
          t.st Reg.SYS_TRANSITION_COUNT = satAdd (2 ^ 32 - 1) (s.st Reg.SYS_TRANSITION_COUNT) 1)))

/-! ### The consistency check and SERVICE_EN (R46, R50, R65, R99–R101, R361) -/

/-- SERVICE_EN_SET (R46, R65, R100, R101): SERVICE_EN reads 1 at once and the full check starts on a snapshot of the check set; while it
reads 1 the write does nothing; during a wake a write that changes it is held, REQ_STATUS reads PENDING, and a held 0 reads at once
(R50). Nothing else changes.
WAKE_COMPLETE (R65): the device is up, in STANDBY, its registers and what MRAM kept as they were; out of a wake it does nothing. -/
def Obligations.CheckStartsAndWakeEnds : Prop :=
  (∀ (s : State) (o : Origin),
     (s.power = .up → s.sys.serviceEn = false → s.sys.entering = none →
       Does (.serviceEnSet o) s (fun t => t = { s with sys := { s.sys with serviceEn := true, check := t.sys.check } } ∧
         ∃ c, t.sys.check = some c ∧ c.origin = o ∧ c.short = false ∧ c.second = false ∧ c.snap = s.checkSet ∧ c.touched = false ∧
           c.codes = s.checkCodes ∧ c.tag = originTag o ∧ c.cause = originCause o)) ∧
     (s.power = .up → s.sys.serviceEn = true → Does (.serviceEnSet o) s (fun t => t = s)) ∧
     (s.power = .waking → s.sys.wakeHeldEn = [] →
       let held (v : Bool) (t : State) : Prop :=
         t = { s with sys := { s.sys with
           wakeHeldEn := [v], serviceEn := false, serial := s.sys.serial + 1, shown := s.sys.serial + 1, shadow := none
           wakeHeldNo := s.sys.serial + 1, reqTag := 0, reqStatus := 1 } }
       Does (.serviceEnSet o) s (if s.sys.serviceEn then fun t => t = s else held true) ∧
       Does .serviceEnClear s (if s.sys.serviceEn then held false else fun t => t = s))) ∧
  (∀ (s : State) (w : WakeInfo),
     (s.power = .waking → Answers (.wakeComplete w) s (fun u => u.power = .up ∧ u.cfg = s.cfg ∧ u.lev = s.lev ∧ u.now = s.now ∧
       u.boot.standbyAt = s.now)) ∧
     (s.power ≠ .waking → Does (.wakeComplete w) s (fun t => t = s)))

/-- CHECK_COMPLETE (R100): the full form passes where no code fails and the check set is as the snapshot took it; it stores the digest
and shows PASS. Where a code fails, or the set has changed, it refuses: SERVICE_EN reads 0, REFUSE_CODE shows the lowest code with
the check's tag, SYS source 5 counts with that code as its DETAIL, and a direction out of STANDBY goes there with CAUSE 9 (R449).
CHECK_COMPLETE of the short form (R46, R100): the stored digest passes it; another digest counts CFG source 10 and starts the full
check. CHECK_TIMEOUT (R101): 0x0F02 joins the codes found, SYS source 6 counts, and the check refuses. -/
def Obligations.CheckOutcomes : Prop :=
  (∀ (s : State) (c : Check) (us : Nat), s.sys.check = some c → c.short = false → c.second = false →
     (c.codes = [] → c.touched = false → c.snap = s.checkSet →
       Does (.checkComplete us) s (fun t => t.sys.check = none ∧ t.sys.serviceEn = s.sys.serviceEn ∧ t.boot.passed = true ∧
         t.boot.digest = s.configDigest ∧ t.st Reg.CFG_CHECK_STATUS = 1 ∧ t.st Reg.CFG_CHECK_TIME = us % 2 ^ 32 ∧ t.cfg = s.cfg)) ∧
     (c.codes ≠ [] ∨ c.touched = true ∨ c.snap ≠ s.checkSet → s.sys.pendingReq = none → c.tag ≠ 0xFD → s.power = .up →
       let codes := c.codes.eraseDups ++ (if c.touched = true ∨ c.snap ≠ s.checkSet then [0x0F01] else [])
       Does (.checkComplete us) s (fun t => t.sys.check = none ∧ t.sys.serviceEn = false ∧ t.boot = s.boot ∧
         t.st Reg.SYS_REFUSE_CODE = (lowestCode codes + 65536 * c.tag) % 2 ^ 32 ∧ bitsAt (t.st Reg.CFG_CHECK_STATUS) 0 2 = 2 ∧
         Counts 0 5 s t ∧ (t.flt.source 0 5).detail = lowestCode codes ∧
         (∀ d, s.dirSt d ≠ .standby → (t.dirRec d).trans = some { target := .standby, cause := 9, start := s.now }) ∧
         (∀ d, s.dirSt d = .standby → (s.dirRec d).trans = none → t.dirRec d = s.dirRec d) ∧
         ((∀ d, s.dirSt d = .standby ∧ (s.dirRec d).trans = none) →
           t = { s with sys := t.sys, sts := t.sts, flt := t.flt, twb := t.twb, peat := t.peat, mram := t.mram, bog := t.bog })))) ∧
  (∀ (s : State) (c : Check), s.sys.check = some c →
     (∀ us : Nat, c.short = true → c.second = false → c.touched = false → s.boot.passed = true → s.configDigest = s.boot.digest →
       Does (.checkComplete us) s (fun t => t.sys.check = none ∧ t.boot = s.boot ∧ t.st Reg.CFG_CHECK_STATUS = 5)) ∧
     (∀ us : Nat, c.short = true → s.configDigest ≠ s.boot.digest →
       Does (.checkComplete us) s (fun t => Counts 3 10 s t ∧ t.sys.serviceEn = true ∧ t.cfg = s.cfg ∧
         ∃ n, t.sys.check = some n ∧ n.short = false ∧ n.second = true ∧ n.touched = c.touched ∧ n.tag = c.tag ∧ n.cause = c.cause)) ∧
     (∀ found : List Nat, s.sys.pendingReq = none → c.tag ≠ 0xFD →
       let codes := (c.codes.filter (fun x => found.contains x)).eraseDups ++ [0x0F02]
       Does (.checkTimeout found) s (fun t => t.sys.check = none ∧ t.sys.serviceEn = false ∧ Counts 0 5 s t ∧ Counts 0 6 s t ∧
         t.st Reg.SYS_REFUSE_CODE = (lowestCode codes + 65536 * c.tag) % 2 ^ 32 ∧ t.boot = s.boot ∧ t.cfg = s.cfg)))

/-- SERVICE_EN_CLEAR (R50, R361, R376): a reconfiguration. SERVICE_EN reads 0; a direction out of STANDBY without a transition starts one
to it with CAUSE 0; no unit is retired any more, fenced ones stay fenced; Peat thaws and takes its layout. While SERVICE_EN reads 0
it does nothing. -/
def Obligations.Reconfiguration : Prop :=
  ∀ s : State,
    (s.power = .up → s.sys.serviceEn = true → s.sys.check = none →
      Does .serviceEnClear s (fun t => t.sys.serviceEn = false ∧ t.power = s.power ∧ t.cfg = s.cfg ∧ t.now = s.now ∧
        (∀ d, s.dirSt d ≠ .standby → (s.dirRec d).trans = none → (t.dirRec d).trans = some { target := .standby, cause := 0, start := s.now }) ∧
        (∀ d, s.dirSt d = .standby → (s.dirRec d).trans = none → t.dirRec d = s.dirRec d) ∧
        (∀ b u, u < 256 → t.unitSt b u ≠ .retired) ∧
        (∀ b u, u < 256 → s.unitSt b u = .fenced → t.unitSt b u = .fenced) ∧
        t.peat.frozen = false ∧ t.peat.layout = bitAt (s.rd Reg.PEAT_CFG) 0)) ∧
    (s.isUp = true → s.sys.serviceEn = false → Does .serviceEnClear s (fun t => t = s))

/-! ### CORE (R28–R30) -/

/-- RX_FIFO_SLIP and TX_FIFO_UNDERFLOW (R29, R30): in a running direction, of a lane in service, the lane's CORE source counts and the
direction realigns, ALIGN_COUNT counting one realignment; a second cause merges into a running one.
REALIGNMENT_COMPLETE, MARGIN_LOW_TIMEOUT, STAGE_STALL, VCORE_UPDATE_TIMEOUT and MARGIN_CLR (R29, R30): each has its one effect. -/
def Obligations.ClockCommands : Prop :=
  (∀ (s : State) (l : Fin 4), s.isUp = true → (s.dirRec (laneDir l)).running = true →
     let d := laneDir l
     let realigns (n : Nat) (t : State) : Prop :=
       Counts 23 n s t ∧ t.dirRec d = { s.dirRec d with realign := true, realignDue := (t.dirRec d).realignDue } ∧
       t.dirRec d.other = s.dirRec d.other ∧
       t.stF Reg.CORE_ALIGN_COUNT (16 * d.num) 16 =
         (if (s.dirRec d).realign = true then s.stF Reg.CORE_ALIGN_COUNT (16 * d.num) 16
          else satAdd 65535 (s.stF Reg.CORE_ALIGN_COUNT (16 * d.num) 16) 1) ∧
       t = { s with sys := { s.sys with dl := t.sys.dl, ul := t.sys.ul }, sts := t.sts, flt := t.flt, twb := t.twb, peat := t.peat
                    mram := t.mram, bog := t.bog, free := t.free } ∧
       ∀ a, a ≠ Reg.CORE_ALIGN_COUNT → t.st a = s.st a
     (s.isOut 23 l = false → Does (.rxFifoSlip l) s (realigns l)) ∧
     (s.isOut 23 (4 + l) = false → Does (.txFifoUnderflow l) s (realigns (4 + l)))) ∧
  (∀ (s : State) (d : Dir), s.isUp = true →
     Does (.realignmentComplete d) s (fun t => t.dirRec d = { s.dirRec d with realign := false } ∧ t.dirRec d.other = s.dirRec d.other ∧
       t = { s with sys := { s.sys with dl := t.sys.dl, ul := t.sys.ul } }) ∧
     ((s.dirRec d).running = true → Does .marginLowTimeout s (fun t => Counts 23 8 s t ∧ OnlyCounts s t)) ∧
     Does (.stageStall d) s (fun t => Counts 23 20 s t ∧ OnlyCounts s t) ∧
     Does .vcoreUpdateTimeout s (fun t => Counts 23 25 s t ∧ t.loop = { s.loop with hold085 := true, cmdFrac := 0 } ∧ t.vcoreCmd = 850 ∧
       OnlyStatusCounts [Reg.LOOP_VCORE_STAT] s { t with loop := s.loop }) ∧
     ∀ v : Word, Does (.marginClr v) s (fun t => OnlyStatus [Reg.CORE_MARGIN_MIN] s t ∧
       t.st Reg.CORE_MARGIN_MIN = if v.getLsbD 0 then s.deviceMargin % 128 else s.st Reg.CORE_MARGIN_MIN))

/-! ### Converters and synthesisers (R105–R128) -/

/-- OVER_RANGE_EPISODE and its end (R114, R151): on a running lane out of an episode, OVR_EPISODES counts, RXC source n counts, the lane
is in an episode and each enabled slot of its direction recovers on its branch; at the end the episode is over, and each such slot's
branch is clean 2 × GD after the last OVR sample (R150, R151), which was 64 clocks before (32 units of device time).
PEAK_CLR, LANE_RESTORE_COMPLETE and BACKGROUND_CAL_RECORD_REWRITE (R117, R118, R125). -/
def Obligations.ConverterCommands : Prop :=
  (∀ (s : State) (l : Fin 4), s.isUp = true →
     (s.rxRuns l = true → s.conv.ovrNow.getLsbD l = false →
       Does (.overRangeEpisode l) s (fun t => Counts 7 l s t ∧ t.conv.ovrNow.getLsbD l = true ∧
         (∀ j : Fin 4, j ≠ l → t.conv.ovrNow.getLsbD j = s.conv.ovrNow.getLsbD j) ∧
         t.st (Reg.RXC_OVR_EPISODES l) = satAdd (2 ^ 32 - 1) (s.st (Reg.RXC_OVR_EPISODES l)) 1 ∧ bitAt (t.st (Reg.RXC_PEAK l)) 14 = true ∧
         (∀ n, n ∈ s.enabled (laneDir l) → (t.slotRec (laneDir l) n).recovering.getLsbD (l % 2) = true) ∧
         (∀ a, a ≠ Reg.RXC_OVR_EPISODES l → a ≠ Reg.RXC_PEAK l → t.st a = s.st a) ∧
         t = { s with conv := t.conv, slots := t.slots, sts := t.sts, flt := t.flt, twb := t.twb, peat := t.peat, mram := t.mram
                      bog := t.bog })) ∧
     (s.conv.ovrNow.getLsbD l = true →
       Does (.overRangeEpisodeEnd l) s (fun t => t.conv.ovrNow.getLsbD l = false ∧
         (∀ n, n ∈ s.enabled (laneDir l) → t.slotRec (laneDir l) n = { s.slotRec (laneDir l) n with cleanAt :=
           let c := (s.slotRec (laneDir l) n).cleanAt
           let e := s.now - 32 + s.slotGD (laneDir l) n
           if l % 2 = 0 then (e, c.2) else (c.1, e) }) ∧
         t = { s with conv := { s.conv with ovrNow := t.conv.ovrNow }, slots := t.slots }))) ∧
  (∀ (s : State) (l : Fin 4), s.isUp = true →
     (∀ v : Word, Does (.peakClr v) s (fun t =>
       OnlyStatus [Reg.RXC_PEAK 0, Reg.RXC_PEAK 1, Reg.RXC_PEAK 2, Reg.RXC_PEAK 3] s t ∧
       t.st (Reg.RXC_PEAK l) = if v.getLsbD l then 0 else s.st (Reg.RXC_PEAK l))) ∧
     (s.conv.rxRestoring.getLsbD l = true → (s.dirRec (laneDir l)).running = true →
       Does (.laneRestoreComplete false l) s (fun t => t.conv.rxRestoring.getLsbD l = false ∧ t.conv.rxCal.getLsbD l = s.conv.rxRecords.getLsbD l ∧
         (t.dirRec (laneDir l)).realign = true ∧ t.conv.txRestoring = s.conv.txRestoring ∧ t.cfg = s.cfg ∧ t.flt = s.flt)) ∧
     (s.conv.txRestoring.getLsbD l = true → (s.dirRec (laneDir l)).running = true →
       Does (.laneRestoreComplete true l) s (fun t => t.conv.txRestoring.getLsbD l = false ∧ t.conv.txCal.getLsbD l = s.conv.txRecords.getLsbD l ∧
         (t.dirRec (laneDir l)).realign = true ∧ t.conv.rxRestoring = s.conv.rxRestoring ∧ t.cfg = s.cfg ∧ t.flt = s.flt)) ∧
     (s.rxRuns l = true → Does (.backgroundCalRecordRewrite false l) s (fun t => t.conv.rxRecords.getLsbD l = true ∧
       t = { s with conv := { s.conv with rxRecords := t.conv.rxRecords }, mram := s.mram.submit (.cache (.record l)) })) ∧
     (s.txRuns l = true → Does (.backgroundCalRecordRewrite true l) s (fun t => t.conv.txRecords.getLsbD l = true ∧
       t = { s with conv := { s.conv with txRecords := t.conv.txRecords }, mram := s.mram.submit (.cache (.record (l + 4))) })))

/-- REF_SEL_WRITE, LO_FREQ_WRITE and LO_CTRL_WRITE (R110): refused with their result in WRITE_STATUS, SYN source 17 and nothing else
changed: the register keeps its value.
The same writes accepted (R108, R110, R120): the register takes the value, WRITE_STATUS shows 0, and the synthesiser starts its lock
sequence, or goes off where LO_EN goes to 0. CACHE_CLR (R123) empties the three caches and asks for the MRAM write. -/
def Obligations.SynWrites : Prop :=
  (∀ (s : State) (d : Dir) (v : Word), s.regsUp = true →
     let refused (result which : Nat) (t : State) : Prop :=
       OnlyStatusCounts [Reg.SYN_WRITE_STATUS] s t ∧ t.st Reg.SYN_WRITE_STATUS = result + 4 * which ∧ Counts 6 17 s t
     (s.power ≠ .up ∨ s.sys.dl.st ≠ .standby ∨ s.sys.ul.st ≠ .standby → Does (.refSelWrite v) s (refused 3 0)) ∧
     (v.toNat % 2 ^ 23 < 400000 ∨ 6000000 < v.toNat % 2 ^ 23 → Does (.loFreqWrite d v) s (refused 1 (1 + d.num))) ∧
     (400000 ≤ v.toNat % 2 ^ 23 → v.toNat % 2 ^ 23 ≤ 6000000 → s.transmits d = true →
       Does (.loFreqWrite d v) s (refused 3 (1 + d.num))) ∧
     (s.transmits d = true → v.toNat % 4 ≠ s.rd (loCtrlReg d) % 4 → Does (.loCtrlWrite d v) s (refused 3 (3 + d.num)))) ∧
  (∀ (s : State) (d : Dir) (v : Word), s.power = .up → s.sys.check = none →
     (s.sys.dl.st = .standby → s.sys.ul.st = .standby → s.synCan .c = true →
       Does (.refSelWrite v) s (fun t => t.rd Reg.SYN_REF_SEL = v.toNat % 4 ∧ t.st Reg.SYN_WRITE_STATUS = 0 ∧ t.syn.c.locked = false ∧
         t.syn.c.busy = true ∧ t.syn.d.locked = false ∧ t.syn.u.locked = false ∧ (∀ a, a ≠ Reg.SYN_REF_SEL → t.rd a = s.rd a))) ∧
     (400000 ≤ v.toNat % 2 ^ 23 → v.toNat % 2 ^ 23 ≤ 6000000 → s.transmits d = false → s.sys.serviceEn = false →
       Does (.loFreqWrite d v) s (fun t => t.rd (loFreqReg d) = v.toNat % 2 ^ 23 ∧ t.st Reg.SYN_WRITE_STATUS = 4 * (1 + d.num) ∧
         (t.synRec (dirSyn d)).locked = false ∧ (t.synRec (dirSyn d)).busy = s.synCan (dirSyn d) ∧
         t.synRec (dirSyn d.other) = s.synRec (dirSyn d.other) ∧ t.syn.c = s.syn.c ∧ (∀ a, a ≠ loFreqReg d → t.rd a = s.rd a))) ∧
     (s.sys.pendingReq = none → s.sys.behind = none → s.transmits d = false → s.sys.serviceEn = false →
       Does (.loCtrlWrite d v) s (fun t => t.rd (loCtrlReg d) = v.toNat % 16 ∧ t.st Reg.SYN_WRITE_STATUS = 4 * (3 + d.num) ∧
         (v.getLsbD 0 = false → bitAt (s.rd (loCtrlReg d)) 0 = true → (t.synRec (dirSyn d)).locked = false ∧ (t.synRec (dirSyn d)).busy = false) ∧
         (v.getLsbD 0 = bitAt (s.rd (loCtrlReg d)) 0 → t.syn = s.syn) ∧ (∀ a, a ≠ loCtrlReg d → t.rd a = s.rd a))) ∧
     Does (.cacheClr v) s (fun t => t = if v.getLsbD 0 then
       { s with syn := { s.syn with cacheC := [], cacheD := [], cacheU := [] }, mram := s.mram.submit (.cache .clear) } else s))

/-- The lock sequence (R67, R120): a calibration found takes its band, and the lock follows; one not found counts its source and goes on; a
warm lock that misses calibrates in full; a lock reached is shown with its time, behind a calibration its cache entry is made, the most
recent of at most sixteen, and SYN_C's first starts device time (R121).
LOSS_OF_LOCK, REFCLK_ABSENT, REFCLK_FREQUENCY_WRONG and REFCLK_RETURN (R121): a lost lock counts its source, the output is off, and a
direction that transmits on it is muted; the reference's failure counts its source and SYN_C stays unlocked; its return starts the
lock sequence. -/
def Obligations.SynLocks : Prop :=
  (∀ (s : State) (y : Syn), (s.synRec y).busy = true →
     (∀ b : BandCal, (s.synRec y).calibrating = true →
       Does (.bandCalibrationDone y (some b)) s (fun t => t.synRec y = { s.synRec y with calibrating := false, band := some b, found := true } ∧
         (∀ z, z ≠ y → t.synRec z = s.synRec z) ∧ t.cache y = s.cache y ∧ t = { s with syn := t.syn })) ∧
     ((s.synRec y).calibrating = true → s.isOut 6 (synNum y) = false →
       Does (.bandCalibrationDone y none) s (fun t => Counts 6 (3 + synNum y) s t ∧
         (t.isOut 6 (synNum y) = false → t.synRec y = s.synRec y) ∧ OnlyCounts s { t with syn := s.syn })) ∧
     ((s.synRec y).calibrating = false → (s.synRec y).found = false →
       Does (.warmLockTimeout y) s (fun t => t.synRec y = { s.synRec y with calibrating := true, band := none } ∧
         Counts 6 (6 + synNum y) s t ∧ OnlyCounts s { t with syn := s.syn })) ∧
     (∀ us : Nat, (s.synRec y).calibrating = false → s.synCan y = true → s.sys.pendingReq = none → s.sys.behind = none →
       Does (.synthLocked y us) s (fun t => t.synRec y = { s.synRec y with locked := true, busy := false, calibrating := false, found := false } ∧
         (∀ b, (s.synRec y).band = some b → (s.synRec y).found = true →
           (t.cache y).head? = some { key := s.synKey y, cal := b, temp := s.synTemp } ∧ (t.cache y).length ≤ 16) ∧
         (y = .c → t.syn.startPending = false ∧ (s.syn.startPending = true → t.syn.timeRuns = true)) ∧
         t.stF Reg.SYN_LOCK_TIME (10 * synNum y) 10 = min 1023 us ∧ t.cfg = s.cfg ∧ t.now = s.now))) ∧
  (∀ s : State, s.power = .up →
     (∀ y : Syn, (s.synRec y).locked = true → Does (.lossOfLock y) s (fun t => Counts 6 (synNum y) s t ∧ (t.synRec y).locked = false ∧
       t.cfg = s.cfg ∧ t.now = s.now)) ∧
     (∀ d : Dir, (s.synRec (dirSyn d)).locked = true → s.transmits d = true →
       Does (.lossOfLock (dirSyn d)) s (fun t => t.dirMuted d = true ∧ (s.dirMuted d = false → t.dirSt d = .muted))) ∧
     Does .refclkAbsent s (fun t => Counts 6 9 s t ∧ t.syn.refPresent = false ∧ t.syn.c.locked = false ∧ t.cfg = s.cfg) ∧
     Does .refclkFrequencyWrong s (fun t => Counts 6 10 s t ∧ t.syn.refOk = false ∧ t.syn.c.locked = false ∧ t.cfg = s.cfg) ∧
     (s.syn.c.locked = false → s.syn.c.busy = false → s.syn.startPending = false → s.isOut 6 0 = false →
       Does .refclkReturn s (fun t => t.syn.refPresent = true ∧ t.syn.refOk = true ∧ t.syn.c.busy = true ∧ t.syn.c.locked = false ∧
         t.cfg = s.cfg ∧ t.flt = s.flt)))

/-! ### Channelizer and loop engine (R152, R202–R225, R332) -/

/-- SLOT_REGISTER_WRITE (R152): a write is stored, or refused with its result in WRITE_STATUS, its CHAN source counted and the register as
it was. With SERVICE_EN 0, or while a check runs, every write is stored. In service NCO and BRANCH_CFG are refused, slot 16's too, a
change of ENABLE is, one of PRIORITY alone is not, which acts from the next tick boundary (until then the slot keeps what it had); a trim is refused outside −6.00 dB to +6.00 dB, or where TARGET plus it
exceeds the locked maximum gain. -/
def Obligations.SlotRegisterWrites : Prop :=
  ∀ (s : State) (d : Dir) (slot : Fin 17) (v : Word), s.regsUp = true →
    let n := slot.val
    let tr (b : Nat) : Int := signedOf 16 (v.toNat / 2 ^ (16 * b))
    let status (w : SlotReg) (r : Nat) : Nat := r + 4 * slotRegShown w n + 256 * slotRegNum w
    let stored (w : SlotReg) : Prop := Does (.slotRegisterWrite d w slot v) s (fun t =>
      t.cfg = (s.wr (slotRegAddr d w n) v.toNat).cfg ∧ t.st (Reg.CHAN_WRITE_STATUS d) = status w 0 ∧
      t.slots = (if w = .cfg ∧ s.judgeEn = true then (s.holdPrio d n).slots else s.slots) ∧
      OnlyStatusCounts [Reg.CHAN_WRITE_STATUS d, Reg.ECHO_TAPS (slotKey d n)] s
        { t with cfg := s.cfg, slots := s.slots, sys := { t.sys with check := s.sys.check } })
    let refused (w : SlotReg) (r src : Nat) : Prop := Does (.slotRegisterWrite d w slot v) s (fun t =>
      t.st (Reg.CHAN_WRITE_STATUS d) = status w r ∧ Counts (12 + d.num) src s t ∧
      OnlyStatusCounts [Reg.CHAN_WRITE_STATUS d] s { t with lock := s.lock })
    (s.judgeEn = false → ∀ w, stored w) ∧
    (s.judgeEn = true →
      refused .nco 2 20 ∧ refused .branch 2 20 ∧
      (v.getLsbD 0 ≠ s.slotEn d n → refused .cfg 2 20) ∧
      (putBits ((s.wr (Reg.CHAN_SLOT_CFG d n) v.toNat).slotCfg d n) 4 4 0 = putBits (s.slotCfg d n) 4 4 0 → stored .cfg) ∧
      ((∃ b, b < 2 ∧ (tr b < -600 ∨ 600 < tr b)) → refused .trim 1 21) ∧
      ((∀ b, b < 2 → -600 ≤ tr b ∧ tr b ≤ 600) →
        ((∃ b, b < 2 ∧ s.lock.gainMax d < s.target d (govOf n) + tr b) → refused .trim 3 21) ∧
        ((∀ b, b < 2 → s.target d (govOf n) + tr b ≤ s.lock.gainMax d) → stored .trim)))

/-- LOOP_TICK (R26, R206, R348): device time reaches the next multiple of 98,304, VIN and P_IN show HK's reading and the tick's, and power
state, pin levels and configuration stand; while device time does not run nothing happens.
LOOP_DEADLINE (R206, R208): the first of the named instances that the engine was to compute, and every later one in its order, is late,
LATE_COUNT counts the tick, TIMING shows 65,535, and power state, time and configuration stand. LOOP_ALL_LATE_10 (R35): LOOP source 12,
VD_CORE at 0.85 V, both directions muted.
PLAUSIBILITY_RUN_COMPLETE (R221): where the lane's run of one sign has reached TICKS, its LOOP source counts and the run restarts. -/
def Obligations.LoopTicks : Prop :=
  (∀ (s : State) (i : TickIn),
     (s.isUp = true → s.syn.timeRuns = true → Does (.loopTick i) s (fun t =>
       t.now = (s.now / 98304 + 1) * 98304 ∧ t.power = s.power ∧ t.lev = s.lev ∧ t.cfg = s.cfg ∧
       t.stF Reg.SUPPLY_VIN 0 16 = s.vinMv ∧ t.stF Reg.SUPPLY_P_IN 0 16 = min 65535 i.pIn)) ∧
     (s.isUp = false ∨ s.syn.timeRuns = false → Does (.loopTick i) s (fun t => t = s))) ∧
  (∀ s : State,
     (∀ late : List (Fin 192), s.isUp = true → s.syn.timeRuns = true → s.engineOut = false →
       let js := s.computed.dropWhile (fun j => !(late.map Fin.val).contains j)
       (js ≠ [] → Does (.loopDeadline late) s (fun t => (∀ j, j ∈ js → (t.loop.law j).late = true) ∧
         t.stF Reg.LOOP_LATE_COUNT 0 16 = satAdd 65535 (s.stF Reg.LOOP_LATE_COUNT 0 16) 1 ∧ t.st Reg.LOOP_TIMING = 0xFFFFFFFF ∧
         t.power = s.power ∧ t.now = s.now ∧ t.cfg = s.cfg)) ∧
       (js = [] → Does (.loopDeadline late) s (fun t => t = s))) ∧
     (s.regsUp = true → Does .loopAllLate10 s (fun t => Counts 17 12 s t ∧ t.loop.hold085 = true ∧
       t.stF Reg.LOOP_VCORE_STAT 0 12 = 850 ∧ (∀ d, t.dirMuted d = true) ∧ t.power = s.power ∧ t.now = s.now ∧ t.cfg = s.cfg)) ∧
     (∀ (lane : Fin 4) (high : Bool), s.isUp = true →
       (s.plausFull lane high = true → Does (.plausibilityRunComplete lane high) s (fun t =>
         Counts 17 (if high = true then lane.val else 4 + lane.val) s t ∧
         t.loop = { s.loop with plaus := NMap.put (fun _ => 0) s.loop.plaus lane 0 } ∧ OnlyCounts s { t with loop := s.loop })) ∧
       (s.plausFull lane high = false → Does (.plausibilityRunComplete lane high) s (fun t => t = s))))

/-- One computation of a law (R203), x its instance, i, df, out and e_prev what it commits: the pseudocode's values, the integrator by its
mode, output and integrator within their limits (a re-seat of R214 included); fields, queue and open flag stay. LOOP_DEADLINE: an
instance whose computation is abandoned commits none of the four, and keeps the fields, the queue and the commands that it has. -/
def Obligations.LawForm : Prop :=
  (∀ (x : Law) (j : Nat) (m : IMode) (e xin xacc : Int),
     let y := (x.compute j m e xin xacc).1
     let mul (c : Nat) (v : Int) : Int := sat32 (rneDiv (x.fieldOf j c * v) (2 ^ (16 + x.shift j c)))
     let pe : Int := if x.pmode j = 1 then min e 0 else if x.pmode j = 2 then max e 0 else e
     let ff : Int := sat32 (mul 4 xin + mul 5 xacc)
     let ic : Int := clampI (x.fieldOf j 7) (x.fieldOf j 8) (sat32 (x.i + mul 1 e))
     let i : Int := match m with
       | .free => ic
       | .noRise => min x.i ic
       | .hold => x.i
     let df : Int := sat32 (x.df + mul 3 (sat32 (e - x.ePrev) - x.df))
     (x.reseat = false → y.i = i ∧ y.df = df ∧
       y.out = clampI (x.fieldOf j 9) (x.fieldOf j 10) (sat32 (mul 0 pe + i + mul 2 df + ff))) ∧
     (x.reseat = false → x.fieldOf j 3 = 0 → x.df = 0 → y.df = 0) ∧
     y.ePrev = e ∧ y.fields = x.fields ∧ y.queue = x.queue ∧ y.isOpen = x.isOpen ∧ y.reseat = false ∧ y.late = false ∧
     (x.inverted j = false → x.fieldOf j 9 ≤ y.out ∧ y.out ≤ x.fieldOf j 10 ∧
       (m = .free ∨ x.reseat = true → x.fieldOf j 7 ≤ y.i ∧ y.i ≤ x.fieldOf j 8))) ∧
  (∀ (s : State) (late : List (Fin 192)) (j : Fin 192), s.isUp = true → s.syn.timeRuns = true → s.engineOut = false →
     j ∈ late → j.val ∈ s.computed →
     let old := NMap.get (fun _ => {}) s.loop.lawsAtLatch j
     Does (.loopDeadline late) s (fun t => (t.loop.law j).i = old.i ∧ (t.loop.law j).df = old.df ∧ (t.loop.law j).out = old.out ∧
       (t.loop.law j).ePrev = old.ePrev ∧ (t.loop.law j).fields = (s.loop.law j).fields ∧ (t.loop.law j).queue = (s.loop.law j).queue ∧
       (t.loop.law j).isOpen = (s.loop.law j).isOpen ∧ (t.loop.law j).pendOpen = (s.loop.law j).pendOpen))

/-- VCORE_EMERGENCY_STEP and its repeat (R219, R332): while a direction runs the command (vcoreQ, in 2^-16 mV) rises by STEP_MV up to 850 mV and the step is
counted; at 850 mV SUPPLY source 15 and CORE source 9 count in its place. VCORE_SLEW_TIMEOUT counts SUPPLY source 14, and TIMING_CLR
clears the longest time alone (R225). -/
def Obligations.CoreVoltageCommands : Prop :=
  ∀ s : State, s.isUp = true →
    let raised (t : State) : Prop := OnlyStatus [Reg.LOOP_VCORE_STAT] s { t with loop := s.loop } ∧
      t.loop = { s.loop with emergency := s.loop.emergency + (t.vcoreQ - s.vcoreQ), cmdFrac := t.loop.cmdFrac } ∧
      t.vcoreQ = min (850 * 65536) (s.vcoreQ + s.stepMv * 65536) ∧ t.stF Reg.LOOP_VCORE_STAT 23 1 = 1 ∧
      t.stF Reg.LOOP_VCORE_STAT 24 8 = satAdd 255 (s.stF Reg.LOOP_VCORE_STAT 24 8) 1
    let atTop (t : State) : Prop := Counts 1 15 s t ∧ Counts 23 9 s t ∧ OnlyCounts s { t with loop := s.loop } ∧
      t.loop = { s.loop with atTop := true }
    (s.anyRunning = true → s.vcoreQ < 850 * 65536 → Does .vcoreEmergencyStep s raised ∧ Does .vcoreEmergencyRepeat s raised) ∧
    (s.anyRunning = true → 850 * 65536 ≤ s.vcoreQ → Does .vcoreEmergencyStep s atTop ∧ Does .vcoreEmergencyRepeat s atTop) ∧
    (s.anyRunning = false → Does .vcoreEmergencyStep s (fun t => t = s) ∧ Does .vcoreEmergencyRepeat s (fun t => t = s)) ∧
    Does .vcoreSlewTimeout s (fun t => Counts 1 14 s t ∧ OnlyCounts s t) ∧
    ∀ v : Word, Does (.timingClr v) s (fun t => OnlyStatus [Reg.LOOP_TIMING] s t ∧
      t.stF Reg.LOOP_TIMING 0 16 = s.stF Reg.LOOP_TIMING 0 16 ∧
      t.stF Reg.LOOP_TIMING 16 16 = if v.getLsbD 0 then 0 else s.stF Reg.LOOP_TIMING 16 16)

/-- LAW_WRITE, LAW_READ, LAW_OPEN, LAW_CLOSE and LAW_DISCARD_QUEUE (R209–R214), on the instance j and field f that LAW_ADDR names: each
outcome's code in LAW_STATUS, its LOOP source, what it does to the instance, and every other instance as it was.
TRACE_ARM, TRACE_POST_COMPLETE, TRACE_FORCE, TRACE_REARM and TRACE_DUMP (R223–R225), on one unit; the other three stay. ARM from 0 to 1
starts an empty recording unless the unit is frozen, ARM 0 ends one; a triggered unit in a freeze mode freezes after its post samples;
a frozen buffer is dumped into REGION, byte for byte at the place that the region gives a record, and stays frozen; records that the
region does not take are counted in TR_DROPPED, and LOOP source 23 once. -/
def Obligations.LawAndTraceCommands : Prop :=
  (∀ s : State, s.regsUp = true →
     let j := s.lawAddr.1
     let f := s.lawAddr.2
     let x := s.loop.law j
     let shows (code : Nat) (t : State) : Prop :=
       t.st Reg.LOOP_LAW_STATUS = (code + 16 * j + 4096 * f + 65536 * (t.loop.law j).queue.length) % 2 ^ 32
     let refuses (c : Instr) (code src : Nat) : Prop := Does c s (fun t => shows code t ∧ Counts 17 src s t ∧
       OnlyStatusCounts [Reg.LOOP_LAW_STATUS] s t)
     let takes (c : Instr) (code : Nat) (y : Law) : Prop := Does c s (fun t => shows code t ∧ t.loop.law j = y ∧
       (∀ k, k ≠ j → t.loop.law k = s.loop.law k) ∧
       OnlyStatus [Reg.LOOP_LAW_STATUS] s { t with loop := s.loop, sys := { t.sys with check := s.sys.check } })
     let v := s.lawWord j f (s.rd Reg.LOOP_LAW_DATA)
     (191 < j → ∀ c, c ∈ [Instr.lawWrite, .lawRead, .lawOpen, .lawClose, .lawDiscardQueue] → refuses c 4 15) ∧
     (j ≤ 191 →
       (f = 13 ∨ f = 14 ∨ f = 15 ∨ (f = 12 ∧ j ≤ 160) → refuses .lawWrite 5 15) ∧
       (f < 12 ∨ (f = 12 ∧ 160 < j) →
         (x.isOpen = true → takes .lawWrite 0 (x.setField j f v)) ∧
         (x.isOpen = false → 6 ≤ f → f ≤ 11 → refuses .lawWrite 2 15) ∧
         (x.isOpen = false → f < 6 ∨ f = 12 → 8 ≤ x.queue.length → refuses .lawWrite 3 14) ∧
         (x.isOpen = false → f < 6 ∨ f = 12 → x.queue.length < 8 → takes .lawWrite 1 { x with queue := x.queue ++ [(f, v)] })) ∧
       Does .lawRead s (fun t => shows 0 t ∧ OnlyStatus [Reg.LOOP_LAW_STATUS] s { t with cfg := s.cfg } ∧
         (∀ a, a ≠ Reg.LOOP_LAW_DATA → t.rd a = s.rd a) ∧ (f < 11 → t.rd Reg.LOOP_LAW_DATA = x.fieldWord j f) ∧
         (f = 13 → t.rd Reg.LOOP_LAW_DATA = bitsOf 32 x.i) ∧ (f = 14 → t.rd Reg.LOOP_LAW_DATA = bitsOf 32 x.df) ∧
         (f = 15 → t.rd Reg.LOOP_LAW_DATA = bitsOf 32 x.out)) ∧
       (j < 160 → s.transmits (lawDir j) = true → refuses .lawOpen 6 15) ∧
       (160 ≤ j ∨ s.transmits (lawDir j) = false →
         (x.isOpen = true → x.pendClose = false → takes .lawOpen 0 x) ∧
         (x.isOpen = false ∨ x.pendClose = true → takes .lawOpen 8 { x with pendOpen := true, pendClose := false })) ∧
       (x.inverted j = true → refuses .lawClose 7 15) ∧
       (x.inverted j = false →
         (x.isOpen = false → x.pendOpen = false → takes .lawClose 0 x) ∧
         (x.isOpen = true ∨ x.pendOpen = true → takes .lawClose 8 { x with pendClose := true, pendOpen := false })) ∧
       takes .lawDiscardQueue 0 { x with queue := [] })) ∧
  (∀ (s : State) (u : Fin 4), s.isUp = true →
     let x := s.trace u
     let only (t : State) : Prop := t = { s with loop := { s.loop with units := t.loop.units } } ∧ ∀ k : Fin 4, k ≠ u → t.trace k = s.trace k
     (∀ v : Word, Does (.traceArm u v) s (fun t =>
       t.cfg = (s.wr (Reg.LOOP_TR_CTRL u) v.toNat).cfg ∧ only { t with cfg := s.cfg, sys := { t.sys with check := s.sys.check } } ∧
       (v.getLsbD 0 = true → bitAt (s.rd (Reg.LOOP_TR_CTRL u)) 0 = false → x.st ≠ 3 → (t.trace u).st = 1 ∧ (t.trace u).samples = []) ∧
       (v.getLsbD 0 = true → bitAt (s.rd (Reg.LOOP_TR_CTRL u)) 0 = true ∨ x.st = 3 → t.trace u = x) ∧
       (v.getLsbD 0 = false → x.st ≠ 3 → t.trace u = { x with st := 0 }) ∧ (v.getLsbD 0 = false → x.st = 3 → t.trace u = x))) ∧
     (x.st = 2 → s.trFreezes u = true → x.postLeft = 0 →
       Does (.tracePostComplete u) s (fun t => only t ∧ t.trace u = { x with st := 3 })) ∧
     (x.st ≠ 2 ∨ s.trFreezes u = false ∨ x.postLeft ≠ 0 → Does (.tracePostComplete u) s (fun t => t = s)) ∧
     (x.st = 1 → Does (.traceForce u) s (fun t => only t ∧ t.trace u = { x with force := true })) ∧
     (x.st ≠ 1 → Does (.traceForce u) s (fun t => t = s)) ∧
     Does (.traceRearm u) s (fun t => only t ∧ (t.trace u).st = 1 ∧ (t.trace u).samples = []) ∧
     (x.st ≠ 3 → Does (.traceDump u) s (fun t => t = s)) ∧
     (x.st = 3 → Does (.traceDump u) s (fun t => t.loop = s.loop ∧ t.cfg = s.cfg ∧ t.now = s.now ∧
       ∀ a, a ≠ Reg.LOOP_TR_DROPPED u → t.st a = s.st a)) ∧
     (let n := s.trRegion u
      let r := s.bog.region n
      let base := s.dataStart n r.seg + r.wr % s.dataBytes n
      x.st = 3 → x.samples.length = 1 → s.regKind n = 4 → r.active = true → 64 ≤ s.regRoom n r 64 → 64 ≤ s.dataBytes n →
        Does (.traceDump u) s (fun t => t = { s with bog := t.bog } ∧
          t.bog.read base 64 = traceRecord u (decide (x.trigIdx = 0)) (x.samples.headD []) ∧
          ∀ a, a < base ∨ base + 64 ≤ a → t.bog.byte a = s.bog.byte a)) ∧
     (x.st = 3 → x.samples ≠ [] → s.regKind (s.trRegion u) ≠ 4 ∨ (s.bog.region (s.trRegion u)).active = false →
       Does (.traceDump u) s (fun t => OnlyStatusCounts [Reg.LOOP_TR_DROPPED u] s t ∧ Counts 17 23 s t ∧
         t.st (Reg.LOOP_TR_DROPPED u) = satAdd (2 ^ 32 - 1) (s.st (Reg.LOOP_TR_DROPPED u)) x.samples.length)))

/-! ### Governors (R188–R198) -/

/-- GOV_WRITE (R198): a write is stored, or refused with its result in WRITE_STATUS and GOV source 25, the register as it was. In service a
target outside 0 dB to 95 dB, or above the locked maximum gain with either trim, is refused; so are RETRY_MS below 1,000, a change of the
enables or of the pair in CTRL, a profile value out of range, an L2 limit above the locked maximum output, an uplink L3 limit of 0, and a change of
RX_CHAIN. -/
def Obligations.GovernorWrites : Prop :=
  ∀ (s : State) (d : Dir) (g : Fin 16) (v : Word), s.regsUp = true →
    let a (w : GovReg) : Nat := govRegAddr d w g
    let new (w : GovReg) : Nat := (s.wr (a w) v.toNat).rd (a w)
    let status (w : GovReg) (r : Nat) : Nat := r + 4 * govRegShown w g + 256 * govRegNum w
    let stored (w : GovReg) : Prop := Does (.govWrite d w g v) s (fun t =>
      Stores (a w) v [Reg.GOV_WRITE_STATUS d] s t ∧ t.st (Reg.GOV_WRITE_STATUS d) = status w 0)
    let refused (w : GovReg) (r : Nat) : Prop := Does (.govWrite d w g v) s (fun t =>
      t.st (Reg.GOV_WRITE_STATUS d) = status w r ∧ Counts (15 + d.num) 25 s t ∧
      OnlyStatusCounts [Reg.GOV_WRITE_STATUS d] s { t with lock := s.lock })
    let target : Int := signedOf 16 (new .target)
    let high (b : Nat) : Prop := s.lock.gainMax d < target + s.trim d (s.govSlot d g) b
    (s.judgeEn = false → ∀ w, stored w) ∧ stored .muteCfg ∧ stored .fastCfg ∧
    (s.judgeEn = true →
      (target < 0 ∨ 9500 < target → refused .target 1) ∧
      (0 ≤ target → target ≤ 9500 → (high 0 ∨ high 1 → refused .target 3) ∧ (¬high 0 → ¬high 1 → stored .target)) ∧
      (bitsAt (new .ctrl) 16 16 < 1000 → refused .ctrl 1) ∧
      (1000 ≤ bitsAt (new .ctrl) 16 16 →
        (bitsAt (new .ctrl) 0 5 ≠ bitsAt (s.rd (a .ctrl)) 0 5 ∨ bitsAt (new .ctrl) 8 5 ≠ bitsAt (s.rd (a .ctrl)) 8 5 → refused .ctrl 2) ∧
        (bitsAt (new .ctrl) 0 5 = bitsAt (s.rd (a .ctrl)) 0 5 → bitsAt (new .ctrl) 8 5 = bitsAt (s.rd (a .ctrl)) 8 5 → stored .ctrl)) ∧
      (bitsAt (new .profileVA) 0 16 = 0 ∨ 10000 < bitsAt (new .profileVA) 0 16 ∨ bitsAt (new .profileVA) 16 16 = 0 ∨
        50000 < bitsAt (new .profileVA) 16 16 → refused .profileVA 1) ∧
      (1 ≤ bitsAt (new .profileVA) 0 16 → bitsAt (new .profileVA) 0 16 ≤ 10000 → 1 ≤ bitsAt (new .profileVA) 16 16 →
        bitsAt (new .profileVA) 16 16 ≤ 50000 → stored .profileVA) ∧
      (bitsAt (new .profileJ) 0 16 = 0 ∨ 50000 < bitsAt (new .profileJ) 0 16 → refused .profileJ 1) ∧
      (1 ≤ bitsAt (new .profileJ) 0 16 → bitsAt (new .profileJ) 0 16 ≤ 50000 → stored .profileJ) ∧
      ((∃ t, t ∈ s.txBr d ∧ s.lock.outMax (laneOf d t) < signedOf 16 (new .l2Limit)) → refused .l2Limit 3) ∧
      ((∀ t, t ∈ s.txBr d → signedOf 16 (new .l2Limit) ≤ s.lock.outMax (laneOf d t)) → stored .l2Limit) ∧
      (d = .ul → bitsAt (new .l3Cfg) 0 16 = 0 → refused .l3Cfg 1) ∧
      (d = .dl ∨ bitsAt (new .l3Cfg) 0 16 ≠ 0 → stored .l3Cfg) ∧
      (new .rxChain ≠ s.rd (a .rxChain) → refused .rxChain 2) ∧ (new .rxChain = s.rd (a .rxChain) → stored .rxChain))

/-- The mutes of R190 and R192: DONOR_LOST, DONOR_PRESENT, NOISE_RISE_MUTE and LANE_OUTPUT_MUTE, each where what the ticks have measured
bears it out (`donorSilent`, `donorReturned`, `riseHeld`, `outputOver`). A mute event counts its GOV source and
mutes the slot or the direction, an unmuted direction going to MUTED; where the command's condition does not hold nothing changes.
MUTE_RETRY_EXPIRED (R194, R40): a mute whose cause has been absent for RETRY_MS ends, unless its unit is fenced or retired; a MUTED direction that nothing
mutes any more starts its transition to CAUTIOUS with CAUSE 8. Else nothing changes. -/
def Obligations.Mutes : Prop :=
  (∀ (s : State) (n : Fin 17), s.isUp = true →
     (s.slotEn .dl n = true → s.donorHere n = true → s.donorSilent n = true → s.transmits .dl = true → s.slotMuted .dl n = false →
       Does (.donorLost n) s (fun t => t.donorHere n = false ∧ t.slotMuted .dl n = true ∧ Counts 15 (govOf n) s t ∧
         t.power = s.power ∧ t.cfg = s.cfg ∧ t.now = s.now)) ∧
     (s.slotEn .dl n = true → s.donorHere n = true → s.donorSilent n = true → s.transmits .dl = false → s.transmits .ul = false →
       Does (.donorLost n) s (fun t => t = { s with gov := t.gov } ∧
         t.govRec .dl (govOf n) = { s.govRec .dl (govOf n) with donorOk := false, means := [], lostAt := s.now })) ∧
     (s.slotEn .dl n = false ∨ s.donorHere n = false ∨ s.donorSilent n = false → Does (.donorLost n) s (fun t => t = s)) ∧
     (s.slotEn .dl n = true → s.donorReturned n = true → Does (.donorPresent n) s (fun t => t = { s with gov := t.gov } ∧ t.donorHere n = true)) ∧
     (s.slotEn .dl n = false ∨ s.donorReturned n = false → Does (.donorPresent n) s (fun t => t = s)) ∧
     (s.slotEn .ul n = true → s.transmits .ul = true → s.riseHeld n = true →
       Does (.noiseRiseMute n) s (fun t => t.slotMuted .ul n = true ∧ Counts 16 (govOf n) s t ∧ t.power = s.power ∧ t.cfg = s.cfg ∧
         t.now = s.now)) ∧
     (s.slotEn .ul n = false ∨ s.transmits .ul = false ∨ s.riseHeld n = false → Does (.noiseRiseMute n) s (fun t => t = s)) ∧
     ∀ d : Dir,
       (s.transmits d = true → s.outputOver d ≠ [] → Does (.laneOutputMute d) s (fun t => t.dirMuted d = true ∧ Counts (15 + d.num) 17 s t ∧
         (s.dirMuted d = false → t.dirSt d = .muted ∧ (t.govDir d).mute = some .lockedOutput) ∧ t.power = s.power ∧ t.cfg = s.cfg ∧
         t.now = s.now)) ∧
       (s.transmits d = false ∨ s.outputOver d = [] → Does (.laneOutputMute d) s (fun t => t = s))) ∧
  (∀ (s : State) (d : Dir) (c : MuteCause), s.regsUp = true →
     let back : Option Trans := some { target := .cautious, cause := 8, start := s.now }
     let since : Option Nat := (s.govDir d).causeAt
     ((s.govDir d).mute = some c → s.isOut (15 + d.num) 16 = false → s.retryOver d 0 c since = true →
       Does (.muteRetryExpired d none) s (fun t => t.dirMuted d = false ∧ t.power = s.power ∧ t.cfg = s.cfg ∧ t.now = s.now ∧
         (s.dirSt d = .muted → s.allSlotsMuted d = false → (s.dirRec d).trans = none → (t.dirRec d).trans = back))) ∧
     ((s.govDir d).mute = some c → s.isOut (15 + d.num) 16 = true ∨ s.retryOver d 0 c since = false →
       Does (.muteRetryExpired d none) s (fun t => t = s)) ∧
     ∀ n : Fin 17, (s.govRec d (govOf n)).mute = some c →
       let at_ : Option Nat := (s.govRec d (govOf n)).causeAt
       (s.isOut (15 + d.num) (govOf n) = false → s.retryOver d n c at_ = true →
         Does (.muteRetryExpired d (some n)) s (fun t => (t.govRec d (govOf n)).mute = none ∧ t.power = s.power ∧ t.cfg = s.cfg ∧
           t.now = s.now ∧ (s.dirSt d = .muted → s.dirMuted d = false → n.val ∈ s.liveSlots d → (s.dirRec d).trans = none →
             (t.dirRec d).trans = back))) ∧
       (s.isOut (15 + d.num) (govOf n) = true ∨ s.retryOver d n c at_ = false →
         Does (.muteRetryExpired d (some n)) s (fun t => t = s)))

/-- FAST_CUT (R188): a critical block, one whose PIN with the ramp's present gain passes L2_eff by more than the critical margin in some
transmit branch, or a flagged one above −6 dBFS (its PIN then 0 dBFS), cuts the ramp in force to the largest gain that keeps every branch
at L2_eff, where that is below the ramp's goal: the ramp starts at the gain that it had, and ends with the tick, or with the next one where
less than an eighth of this one is left. Any other block, and any while the fast cut is not enabled, leaves everything as it is. -/
def Obligations.FastCutActs : Prop :=
  ∀ (s : State) (d : Dir) (n : Fin 17) (i0 : Nat) (pin0 pin1 : Int) (flagged : BitVec 2), s.isUp = true →
    let on : Prop := s.slotEn d n = true ∧ bitAt (s.rd (Reg.GOV_FAST_CFG d)) 16 = true
    let ns : Int := s.tickLen d n
    let now : Int := min i0 (ns - 1)
    let r := s.slotRec d n
    let raw (t : Nat) : Int := if t = 0 then pin0 else pin1
    let pin (t : Nat) : Int := if flagged.getLsbD t = true ∧ -600 < raw t then 0 else raw t
    let trim (t : Nat) : Int := if t = 0 then r.trimNow.1 else r.trimNow.2
    let top (t : Nat) : Int := s.l2Eff d (govOf n) t - pin t - trim t - s.gTx d t
    let margin : Int := bitsAt (s.rd (Reg.GOV_FAST_CFG d)) 0 16
    let critical : Prop := ∃ t, t ∈ s.txBr d ∧
      ((top t + margin) * gainUnit < r.ramp.at_ now ∨ (flagged.getLsbD t = true ∧ -600 < raw t))
    let tooHigh : Prop := ∃ t, t ∈ s.txBr d ∧ top t < r.ramp.goal
    (on → critical → tooHigh → Does (.fastCut d n i0 pin0 pin1 flagged) s (fun u =>
      let q := (u.slotRec d n).ramp
      (∀ t, t ∈ s.txBr d → q.goal ≤ top t) ∧ (∃ t, t ∈ s.txBr d ∧ q.goal = top t) ∧ (u.slotRec d n).cut = some q.goal ∧
      q.base = r.ramp.at_ now ∧ q.start = now ∧ q.stop = (if ns ≤ 8 * (ns - now) then ns - 1 else 2 * ns - 1) ∧
      (u.govRec d (govOf n)).fastCut = true ∧ (∀ m : Fin 17, m ≠ n → u.slotRec d m = s.slotRec d m) ∧
      OnlyStatusCounts [Reg.CHAN_GAIN_CLAMP_COUNT d] s { u with slots := s.slots, gov := s.gov })) ∧
    (¬on ∨ ¬critical ∨ ¬tooHigh → Does (.fastCut d n i0 pin0 pin1 flagged) s (fun u => u = s))

/-! ### Estimation and oscillation (R163–R174) -/

/-- CORRELATOR_BLOCK_END and OSC_FAST_EVAL (R163, R170, R171): a block below 25 % of its nominal count changes nothing but ECHO source 10 or 11;
any other waits for the next tick boundary, where its result stands (`blockEffect`). The estimate criterion there (`estTest`) and a fast
window leave either a ρ that does not exceed −6 dB, or a muted direction with its estimates discarded and the ECHO source counted. A slot
whose correlators do not run changes nothing. EST_CLR (R174) discards the cached estimates of a direction alone. -/
def Obligations.EstimationCommands : Prop :=
  ∀ (s : State) (k : Fin 34),
    let d := keyDir k
    let n := keySlot k
    let discarded (src : Nat) (t : State) : Prop := Counts 14 (src + d.num) s t ∧ t.dirSt d = .muted ∧
      ∀ m : Fin 17, (t.echoRec d m).paths = [] ∧ (t.echoRec d m).cached = none
    (∀ b : BlockIn, s.correlates d n = true → 4 * b.k < s.nominal d n → Does (.correlatorBlockEnd k b) s (fun t =>
      Counts 14 (10 + d.num) s t ∧ OnlyCounts s t)) ∧
    (∀ b : BlockIn, s.correlates d n = true → s.nominal d n ≤ 4 * b.k → Does (.correlatorBlockEnd k b) s (fun t =>
      t = { s with echo := t.echo } ∧ t.echoRec d n = { s.echoRec d n with due := some b } ∧
      ∀ (c : Dir) (m : Nat), slotKey c m ≠ slotKey d n → t.echoRec c m = s.echoRec c m)) ∧
    ((s.echoRec d n).due ≠ none → ((s.blockEffect d n).echoRec d n).result = true ∧ ((s.blockEffect d n).echoRec d n).due = none) ∧
    ((s.echoRec d n).result = true → s.onAir d = true → s.transmits d = true → s.dirMuted d = false →
      let t := s.estTest d n
      (t.dirMuted d = false → ∃ rho : Int, t.echoRec d n = { s.echoRec d n with rhoEst := some rho } ∧ rho ≤ -600) ∧
      (t.dirMuted d = true → discarded 2 t)) ∧
    (∀ b : FastIn, s.correlates d n = true → s.oscWin ≤ 2 * b.included → Does (.oscFastEval k b) s (fun t =>
      t.power = s.power ∧ t.cfg = s.cfg ∧ t.now = s.now ∧ t.dirRec d.other = s.dirRec d.other ∧
      (t.dirMuted d = false → ∃ rho : Int, t.echoRec d n = { s.echoRec d n with rhoFast := some rho } ∧ rho ≤ -600) ∧
      (t.dirMuted d = true → discarded 0 t))) ∧
    (∀ b : BlockIn, s.correlates d n = false → Does (.correlatorBlockEnd k b) s (fun t => t = s)) ∧
    (∀ b : FastIn, (s.correlates d n = false ∧ s.justOscillated d = false) ∨ 2 * b.included < s.oscWin → Does (.oscFastEval k b) s (fun t => t = s)) ∧
    (∀ v : Word, s.regsUp = true → Does (.estClr v) s (fun t => t = { s with echo := t.echo } ∧ ∀ (c : Dir) (m : Fin 17),
      t.echoRec c m = if v.getLsbD c.num then { s.echoRec c m with cached := none } else s.echoRec c m))

/-! ### The lock page and the front end (R233–R247, R259) -/

/-- LOCK_COMMIT (R241): WR_CMD with another word counts LOCK source 12; while a commit is in flight the result is 6; a malformed item is
refused with 3, any item of a damaged page with 5, a looser value of a locked page with 2; an unchanged value shows 1 and is no refusal;
anything else starts a commit through MRAM. No refusal touches the page.
LOCK_COMMIT_COMPLETE (R242, R246): the item reads as the value written, in the mirror, the log's next entry holds the change, WR_STATUS shows
result 0 with that entry's number, or 0xFF and LOCK source 10 where the log is full, every other byte of the page stands, and no
configuration register has changed; without a commit in flight nothing changes. LOCK_PAGE_SCRUB
(R244): the mirror's words that disagreed read as MRAM's, every other byte and MRAM itself stand, and uncorrectable codewords are kept. -/
def Obligations.LockPage : Prop :=
  (∀ (s : State) (v : Word), s.regsUp = true →
     let item := s.fld Reg.LOCK_WR_ITEM 0 16
     let index := s.fld Reg.LOCK_WR_ITEM 16 16
     let a := s.rd Reg.LOCK_WR_A
     let b := s.rd Reg.LOCK_WR_B
     let old := s.lock.present item index
     let new := lockValue item a b
     let bad : Prop := lockOffset item index = none ∨ (item = 1 ∧ b ≤ a)
     let breaks : Prop := item = 1 ∧ s.judgeEn = true ∧ s.rangeBreaks (s.lock.setItem item index new) = true
     let looser : Prop := s.lock.locked = true ∧ lockStricter item old new = false
     let refused (r : Nat) (src : Option Nat) : Prop := Does (.lockCommit v) s (fun t =>
       OnlyStatusCounts [Reg.LOCK_WR_STATUS, Reg.LOCK_REFUSED] s t ∧ t.st Reg.LOCK_WR_STATUS = r + 256 * 255 + 65536 * item ∧
       t.st Reg.LOCK_REFUSED = satAdd (2 ^ 32 - 1) (s.st Reg.LOCK_REFUSED) 1 ∧ ∀ n, src = some n → Counts 22 n s t)
     (v.toNat % 65536 ≠ 0x4C4B → Does (.lockCommit v) s (fun t => Counts 22 12 s t ∧ OnlyCounts s t)) ∧
     (v.toNat % 65536 = 0x4C4B →
       (s.lock.commit ≠ none → refused 6 none) ∧
       (s.lock.commit = none →
         (bad → refused 3 (some 2)) ∧
         (¬bad → s.lock.damaged = true → refused 5 none) ∧
         (¬bad → s.lock.damaged = false →
           (old = new → Does (.lockCommit v) s (fun t => OnlyStatus [Reg.LOCK_WR_STATUS] s t ∧
             t.st Reg.LOCK_WR_STATUS = 1 + 256 * 255 + 65536 * item)) ∧
           (old ≠ new → breaks → refused 4 (some 3)) ∧
           (old ≠ new → ¬breaks → looser → refused 2 (some 0)) ∧
           (old ≠ new → ¬breaks → ¬looser → Does (.lockCommit v) s (fun t =>
             t = { s with mram := s.mram.submit .lock, lock := { s.lock with commit := t.lock.commit } } ∧
             t.lock.commit = some { item := item, index := index, a := Word.ofNat a, b := Word.ofNat b, image := false })))))) ∧
  (∀ s : State,
     (∀ j : LockJob, s.lock.commit = some j → s.regsUp = true → s.mram.inFlight = some .lock → lockOffset j.item j.index ≠ none →
       let old := s.lock.present j.item j.index
       let new := lockValue j.item j.a.toNat j.b.toNat
       let log := 0x800 + 32 * s.lock.logUsed
       let spot := (lockOffset j.item j.index).getD 0
       Does .lockCommitComplete s (fun t => t.lock.commit = none ∧ t.lock.present j.item j.index = new ∧
         (s.lock.logUsed < 64 → (List.range 32).map (fun k => t.lock.byte (log + k)) =
           leBytes 2 j.item ++ leBytes 2 j.index ++ leBytes 4 old.1 ++ leBytes 4 old.2 ++ leBytes 4 new.1 ++ leBytes 4 new.2
             ++ leBytes 4 s.peat.opsec ++ leBytes 3 s.peat.pcc ++ leBytes 1 (ofBool (!j.image)) ++ leBytes 4 0) ∧
         (s.lock.logUsed = 64 → (t.flt.source 22 10).total = satAdd 65535 (s.flt.source 22 10).total 1) ∧
         (∀ k, k < spot ∨ spot + 8 ≤ k → k < log ∨ log + 32 ≤ k ∨ 64 ≤ s.lock.logUsed → t.lock.byte k = s.lock.byte k) ∧
         t.st Reg.LOCK_WR_STATUS = (256 * (if s.lock.logUsed < 64 then s.lock.logUsed else 255) + 65536 * j.item) % 2 ^ 32 ∧
         t.power = s.power ∧ t.cfg = s.cfg ∧ t.now = s.now)) ∧
     (s.lock.commit = none ∨ s.regsUp = false ∨ s.mram.inFlight ≠ some .lock → Does .lockCommitComplete s (fun t => t = s)) ∧
     (∀ f : LockScrubIn, s.regsUp = true → Does (.lockPageScrub f) s (fun t => t.lock.mram = s.lock.mram ∧
       (∀ k, k < 2048 → k / 4 ∈ f.mirror → t.lock.byte k = NMap.get lockDelivered s.lock.mram k) ∧
       (∀ k, 2048 ≤ k ∨ k / 4 ∉ f.mirror → t.lock.byte k = s.lock.byte k) ∧
       (∀ c, c ∈ f.ue → c < 128 → c ∈ t.lock.ue) ∧ (∀ c, c ∈ s.lock.ue → c ∈ t.lock.ue) ∧
       t.power = s.power ∧ t.cfg = s.cfg ∧ t.now = s.now)))

/-- FRONT_WRITE (R247): a writable register takes the value, WRITE_STATUS showing its offset in words; offset 0x9C writes the selected PA
table word; in service a write that would change a protected register is refused with FRONT source 21; an offset that no write reaches
changes nothing.
TRANSMIT_WINDOW_EDGE (R259), DUTY_WINDOW_END (R234), NEAR_OVER_RANGE and LNA_BYPASS_RELEASE (R236): the gate of a TDD slot and its
direction's window stand as the schedule gives them; DUTY shows both duties, 90 % of a maximum is reported and an excess mutes a direction
that transmits; a running lane with BYP_EN takes its bypass at the first signal and gives it back. -/
def Obligations.FrontEndCommands : Prop :=
  (∀ (s : State) (off : Fin 2048) (v : Word), s.regsUp = true →
     let o := off.val
     let a := 0x4800 + o
     (o % 4 ≠ 0 ∨ frontWritable o = false → Does (.frontWrite off v) s (fun t => t = s)) ∧
     (o % 4 = 0 → frontWritable o = true → o ≠ 0x9C → s.judgeEn = false ∨ frontProtected o = false ∨ (s.wr a v.toNat).rd a = s.rd a →
       Does (.frontWrite off v) s (fun t => Stores a v [Reg.FRONT_WRITE_STATUS] s t ∧ t.st Reg.FRONT_WRITE_STATUS = 64 * o)) ∧
     (o % 4 = 0 → o ≠ 0x9C → frontProtected o = true → s.judgeEn = true → (s.wr a v.toNat).rd a ≠ s.rd a →
       Does (.frontWrite off v) s (fun t => OnlyStatusCounts [Reg.FRONT_WRITE_STATUS] s t ∧ Counts 9 21 s t ∧
         t.st Reg.FRONT_WRITE_STATUS = 2 + 64 * o)) ∧
     (o = 0x9C → s.judgeEn = false ∨ s.tableWord s.tableSel.1 s.tableSel.2 = v.toNat → Does (.frontWrite off v) s (fun t =>
       t.tableWord s.tableSel.1 s.tableSel.2 = v.toNat ∧ t.st Reg.FRONT_WRITE_STATUS = 64 * o ∧
       (∀ l w, tableKey l w ≠ tableKey s.tableSel.1 s.tableSel.2 → t.tableWord l w = s.tableWord l w) ∧
       OnlyStatus [Reg.FRONT_WRITE_STATUS] s
         { t with front := { t.front with tables := s.front.tables }, sys := { t.sys with check := s.sys.check } })) ∧
     (o = 0x9C → s.judgeEn = true → s.tableWord s.tableSel.1 s.tableSel.2 ≠ v.toNat → Does (.frontWrite off v) s (fun t =>
       OnlyStatusCounts [Reg.FRONT_WRITE_STATUS] s t ∧ Counts 9 21 s t ∧ t.st Reg.FRONT_WRITE_STATUS = 2 + 64 * o))) ∧
  (∀ s : State, s.isUp = true →
     (∀ (d : Dir) (n : Fin 17) (w : Nat),
       (s.slotEn d n = true → s.slotTdd d n = true → Does (.transmitWindowEdge d n w) s (fun t =>
         (t.slotRec d n).tddOpen = s.windowAt d n 0 0 w ∧
         (∀ (c : Dir) (m : Nat), slotKey c m ≠ slotKey d n → t.slotRec c m = s.slotRec c m) ∧
         ((s.slotRec d n).tddOpen = false → s.windowAt d n 0 0 w = true → s.shortGuard d n w = true → Counts 9 20 s t) ∧
         (match d with | .dl => t.front.winDl | .ul => t.front.winUl) = s.dirWindow d w ∧
         OnlyCounts s { t with slots := s.slots, front := s.front })) ∧
       (s.slotEn d n = false ∨ s.slotTdd d n = false → Does (.transmitWindowEdge d n w) s (fun t => t = s))) ∧
     (∀ x y : Nat,
       let tdd (d : Dir) : Bool := (s.txBr d).any (fun t => s.laneTdd (laneOf d t))
       let a := if tdd .dl then min 10000 x else 0
       let b := if tdd .ul then min 10000 y else 0
       Does (.dutyWindowEnd x y) s (fun t => t.st Reg.FRONT_DUTY = a + 65536 * b ∧
       (9 * s.lock.dutyMax .dl < 10 * a → Counts 9 18 s t) ∧ (9 * s.lock.dutyMax .ul < 10 * b → Counts 9 19 s t) ∧
       (s.lock.dutyMax .dl < a → s.transmits .dl = true → t.dirMuted .dl = true) ∧
       (s.lock.dutyMax .ul < b → s.transmits .ul = true → t.dirMuted .ul = true) ∧
       (a ≤ s.lock.dutyMax .dl ∨ s.transmits .dl = false → b ≤ s.lock.dutyMax .ul ∨ s.transmits .ul = false →
         OnlyStatusCounts [Reg.FRONT_DUTY] s t) ∧
       t.power = s.power ∧ t.cfg = s.cfg ∧ t.now = s.now)) ∧
     ∀ l : Fin 4,
       let only (t : State) : Prop := ∀ k : Fin 4, k ≠ l → t.front.bypass.getLsbD k = s.front.bypass.getLsbD k
       let onTaps (on : Bool) (t : State) : Prop := ∀ n, n ∈ s.enabled (laneDir l) → (t.echoRec (laneDir l) n).scaled.getLsbD (l % 2) = on
       (s.rxRuns l = true → bitAt (s.rd (Reg.FRONT_LNA_CFG l)) 16 = true → s.front.bypass.getLsbD l = false →
         Does (.nearOverRange l) s (fun t => t.front.bypass.getLsbD l = true ∧ only t ∧ onTaps true t ∧ Counts 9 l s t ∧
           t.stF Reg.FRONT_BYP_COUNT (8 * l) 8 = satAdd 255 (s.stF Reg.FRONT_BYP_COUNT (8 * l) 8) 1 ∧
           OnlyStatusCounts [Reg.FRONT_BYP_COUNT] s { t with front := s.front, echo := s.echo })) ∧
       (s.rxRuns l = false ∨ bitAt (s.rd (Reg.FRONT_LNA_CFG l)) 16 = false ∨ s.front.bypass.getLsbD l = true →
         Does (.nearOverRange l) s (fun t => t = s)) ∧
       (s.front.bypass.getLsbD l = true → Does (.lnaBypassRelease l) s (fun t => t.front.bypass.getLsbD l = false ∧ only t ∧
         onTaps false t ∧ t = { s with front := t.front, echo := t.echo })) ∧
       (s.front.bypass.getLsbD l = false → Does (.lnaBypassRelease l) s (fun t => t = s)))

/-! ### Sync, timing pins, noise floor and bursts (R251–R266) -/

/-- SYNC_HIT (R253, R256): a hit of a search that does not run changes nothing; an excluded one counts SYNC source 7 alone; any other counts in
HIT_COUNT, and the first of a searched, timed downlink reference sets t0 less its offset and starts the acquisition.
SYNC_OCCURRENCE (R257): a marker inside the window keeps an acquisition going and, after ACQ of them, locks it (SYNC source 0); a missed one
ends it. A locked schedule follows its markers by an eighth of the difference, and after LOSS misses holds over (source 1); a held one
locks again at a marker, and after HOLD misses is lost with its windows closed (source 2). -/
def Obligations.SyncHits : Prop :=
  (∀ (s : State) (h : HitIn),
     let d := keyDir h.slot
     let r := h.ref.val
     (s.searches h = false → Does (.syncHit h) s (fun t => t = s)) ∧
     (s.searches h = true → h.excluded = true → Does (.syncHit h) s (fun t => Counts 11 7 s t ∧ OnlyCounts s t)) ∧
     (s.searches h = true → h.excluded = false → Does (.syncHit h) s (fun t =>
       t.stF Reg.SYNC_HIT_COUNT (16 * d.num) 16 = satAdd 65535 (s.stF Reg.SYNC_HIT_COUNT (16 * d.num) 16) 1 ∧
       OnlyStatusCounts [Reg.SYNC_HIT_COUNT, Reg.BIX_DROPPED] s { t with sync := s.sync, bix := s.bix, gov := s.gov } ∧
       (∀ n, n ∈ s.enabled .dl → s.slotTdd .dl n = true → s.slotRef .dl n = some r → (t.govRec .dl (govOf n)).donorHigh = some s.now) ∧
       (∀ (c : Dir) (g : Nat), t.govRec c g = { s.govRec c g with donorHigh := (t.govRec c g).donorHigh }) ∧
       (∀ k, k ≠ r → t.trk k = s.trk k) ∧
       (d = .dl → s.refTsrc r = 0 → s.refPeriod r ≠ 0 → (s.trk r).st = 0 → t.trk r = { st := 1, t0 := (h.t : Int) - s.offTime r }) ∧
       (d = .ul → t.trk r = s.trk r)))) ∧
  (∀ (s : State) (f : Fin 16),
     let r := f.val
     let k := s.trk r
     let base : Int := k.t0 + s.occTime r
     let runs : Prop := s.power = .up ∧ s.perTime r ≠ 0
     let gives (p : State → Prop) : Prop := Does (.syncOccurrence f) s (fun t => p t ∧ (∀ j, j ≠ r → t.trk j = s.trk j) ∧
       t.power = s.power ∧ t.now = s.now ∧ t.cfg = s.cfg ∧ t.sts = s.sts)
     (¬runs ∨ k.st = 0 → Does (.syncOccurrence f) s (fun t => t = s)) ∧
     (runs → k.st = 1 → k.marker = none → gives (fun t => t.trk r = {} ∧ t.flt = s.flt)) ∧
     (runs → k.st = 1 → k.marker ≠ none → s.acq ≤ k.run + 1 → gives (fun t => (t.trk r).st = 2 ∧ (t.trk r).t0 = base ∧ Counts 11 0 s t)) ∧
     (runs → k.st = 1 → k.marker ≠ none → k.run + 1 < s.acq → gives (fun t => (t.trk r).st = 1 ∧ (t.trk r).run = k.run + 1 ∧
       (t.trk r).t0 = base ∧ t.flt = s.flt)) ∧
     (∀ m p : Int, runs → k.st = 2 ∨ k.st = 3 → k.marker = some (m, p) → gives (fun t => (t.trk r).st = 2 ∧ (t.trk r).missed = 0 ∧
       (t.trk r).t0 = base + rneDiv (m - s.nextOcc r) 8)) ∧
     (runs → k.st = 2 → k.marker = none → k.missed + 1 < 256 →
       (s.lossN ≤ k.missed + 1 → gives (fun t => (t.trk r).st = 3 ∧ (t.trk r).run = 0 ∧ (t.trk r).t0 = base ∧ Counts 11 1 s t)) ∧
       (k.missed + 1 < s.lossN → gives (fun t => (t.trk r).st = 2 ∧ (t.trk r).missed = k.missed + 1 ∧ (t.trk r).t0 = base))) ∧
     (runs → k.st = 3 → k.marker = none →
       (s.holdN ≤ k.run + 1 → gives (fun t => t.trk r = {} ∧ Counts 11 2 s t ∧
         ∀ (d : Dir) (n : Nat), n ∈ s.tddSlots d → s.slotRef d n = some r → (t.slotRec d n).tddOpen = false)) ∧
       (k.run + 1 < s.holdN → gives (fun t => (t.trk r).st = 3 ∧ (t.trk r).run = k.run + 1 ∧ (t.trk r).t0 = base))))

/-- TIMING_SWITCH (R258) makes the held candidate the timing, with SYNC source 3, its reference's windows closed; without a candidate ready
to switch nothing changes. The timing pins (R264): an active edge is taken with its time, one inside HOLD of the last is ignored and
counted; stuck and missing are reported once; the inactive level is recognised again; a pin that is not enabled changes nothing. -/
def Obligations.TimingEvents : Prop :=
  ∀ s : State,
    (∀ (f : Fin 16) (c p : Int), s.isUp = true → (s.trk f).cand = some (c, p) → (s.trk f).switching = true →
      Does (.timingSwitch f) s (fun t => t.trk f = { st := 2, t0 := c - s.offTime f, opens := s.frameFrom f (c - s.offTime f) s.now } ∧ Counts 11 3 s t ∧
        (∀ j, j ≠ f.val → t.trk j = s.trk j) ∧ t.sts = s.sts ∧ t.cfg = s.cfg)) ∧
    (∀ f : Fin 16, s.isUp = false ∨ (s.trk f).cand = none ∨ (s.trk f).switching = false → Does (.timingSwitch f) s (fun t => t = s)) ∧
    (∀ (p : TPin) (e : Nat), s.pinOn p = true → (s.tpin p).stuck = false →
      let hold := s.fld (pinHold p) 0 16 * tickTime
      ((∀ l, (s.tpin p).lastEdge = some l → l + hold ≤ e) → Does (.timingPinEdge p e) s (fun t =>
        (t.tpin p).lastEdge = some e ∧ (t.tpin p).missing = false ∧ (t.tpin p).level = s.activeLevel p ∧
        t.st (match p with | .tdd => Reg.SYNC_TDD_EDGE_LO | .pps => Reg.SYNC_PPS_EDGE_LO) = e % 2 ^ 32 ∧
        t.flt = s.flt ∧ t.cfg = s.cfg ∧ t.now = s.now)) ∧
      (∀ l, (s.tpin p).lastEdge = some l → e < l + hold → Does (.timingPinEdge p e) s (fun t =>
        t.tpin p = { s.tpin p with level := s.activeLevel p } ∧ Counts 11 (12 + 3 * pinNum p) s t ∧
        t.stF Reg.SYNC_PIN_IGNORED (16 * pinNum p) 16 = satAdd 65535 (s.stF Reg.SYNC_PIN_IGNORED (16 * pinNum p) 16) 1 ∧
        OnlyStatusCounts [Reg.SYNC_PIN_IGNORED] s { t with sync := s.sync }))) ∧
    (∀ p : TPin,
      (∀ e, s.pinOn p = false ∨ (s.tpin p).stuck = true → Does (.timingPinEdge p e) s (fun t => t = s)) ∧
      (s.pinOn p = true → (s.tpin p).stuck = false → Does (.timingPinStuck p) s (fun t =>
        t.tpin p = { s.tpin p with stuck := true, level := s.activeLevel p } ∧ Counts 11 (13 + 3 * pinNum p) s t ∧
        OnlyCounts s { t with sync := s.sync })) ∧
      (s.pinOn p = false ∨ (s.tpin p).stuck = true → Does (.timingPinStuck p) s (fun t => t = s)) ∧
      (s.pinOn p = true → (s.tpin p).missing = false → Does (.timingPinMissing p) s (fun t =>
        t.tpin p = { s.tpin p with missing := true } ∧ Counts 11 (14 + 3 * pinNum p) s t ∧ OnlyCounts s { t with sync := s.sync })) ∧
      (s.pinOn p = false ∨ (s.tpin p).missing = true → Does (.timingPinMissing p) s (fun t => t = s)) ∧
      (s.pinOn p = true → Does (.timingPinInactiveLevel p) s (fun t =>
        t.tpin p = { s.tpin p with stuck := false, level := !s.activeLevel p } ∧ t = { s with sync := t.sync })) ∧
      (s.pinOn p = false → Does (.timingPinInactiveLevel p) s (fun t => t = s)))

/-- The noise floor and the bursts (R262, R263): an idle interval of enough samples updates its branch, the first value of one without a floor being
the measured one; a stale floor counts SYNC source 10; a burst runs from its start to its end, counts in BURST_COUNT where it was
long enough, and else counts SYNC source 9; a burst of 1 s counts and goes on.
SYNC_WRITE (R265): a writable register takes the value; in service a protected one is refused with SYNC source 8 and keeps its own; an
offset that no write reaches changes nothing. -/
def Obligations.NoiseBurstsAndSyncWrites : Prop :=
  (∀ (s : State) (k : Fin 34) (br : Fin 2), s.isUp = true →
     let d := keyDir k
     let on : Prop := s.slotEn d (keySlot k) = true
     let idle : Prop := d = .ul ∨ s.slotTdd d (keySlot k) = true
     let floor (r : NfRec) : Option Nat := if br = 0 then r.n0 else r.n1
     let at_ (r : NfRec) : Nat := if br = 0 then r.at0 else r.at1
     (∀ (p : Int) (n : Nat), on → idle → s.fld Reg.SYNC_NF_CFG 16 16 ≤ n → Does (.noiseFloorUpdate k br p n) s (fun t =>
       (∃ x, floor (t.nfRec k) = some x) ∧ at_ (t.nfRec k) = s.now ∧
       (floor (s.nfRec k) = none ∨ at_ (s.nfRec k) + 60000 * msTime ≤ s.now → floor (t.nfRec k) = some (linOfDb (qOfCenti p))) ∧
       (∀ j, j ≠ k.val → t.nfRec j = s.nfRec j) ∧ t.sts = s.sts ∧ t.cfg = s.cfg ∧ t.now = s.now)) ∧
     (∀ (p : Int) (n : Nat), ¬on ∨ ¬idle ∨ n < s.fld Reg.SYNC_NF_CFG 16 16 → Does (.noiseFloorUpdate k br p n) s (fun t => t = s)) ∧
     (on → idle → Does (.noiseFloorStale k) s (fun t => Counts 11 10 s t ∧ OnlyCounts s t)) ∧
     (¬on ∨ ¬idle → Does (.noiseFloorStale k) s (fun t => t = s)) ∧
     (∀ w : Nat, (on → Does (.burstStart k br w) s (fun t => bitAt (t.burstBits k) br = true ∧
       t = { s with sync := { s.sync with burst := t.sync.burst } })) ∧ (¬on → Does (.burstStart k br w) s (fun t => t = s))) ∧
     ∀ b : BurstIn, b.slot = k → b.branch = br →
       let reported (t : State) : Prop := t.stF Reg.SYNC_BURST_COUNT (16 * d.num) 16 =
         satAdd 65535 (s.stF Reg.SYNC_BURST_COUNT (16 * d.num) 16) 1 ∧ (d = .ul → t.lichen.burstSeen = true) ∧
         OnlyStatusCounts [Reg.SYNC_BURST_COUNT, Reg.BIX_DROPPED] s { t with sync := s.sync, bix := s.bix, lichen := s.lichen }
       (bitAt (s.burstBits k) br = true →
         (s.fld Reg.SYNC_BD_CFG 20 4 ≤ b.blocks → Does (.burstEnd b) s (fun t => reported t ∧ bitAt (t.burstBits k) br = false)) ∧
         (b.blocks < s.fld Reg.SYNC_BD_CFG 20 4 → Does (.burstEnd b) s (fun t => Counts 11 9 s t ∧ bitAt (t.burstBits k) br = false ∧
           OnlyCounts s { t with sync := s.sync })) ∧
         Does (.burstContinues b) s (fun t => reported t ∧ t.sync = s.sync)) ∧
       (bitAt (s.burstBits k) br = false → Does (.burstEnd b) s (fun t => t = s) ∧ Does (.burstContinues b) s (fun t => t = s))) ∧
  (∀ (s : State) (off : Fin 2048) (v : Word), s.regsUp = true →
     let o := off.val
     (o % 4 ≠ 0 ∨ syncWritable o = false → Does (.syncWrite off v) s (fun t => t = s)) ∧
     (o % 4 = 0 → syncProtected o = true → s.judgeEn = true → Does (.syncWrite off v) s (fun t => Counts 11 8 s t ∧ OnlyCounts s t)) ∧
     (o % 4 = 0 → syncWritable o = true → syncProtected o = false → Does (.syncWrite off v) s (fun t => Stores (0x5800 + o) v [] s t)) ∧
     (o % 4 = 0 → syncProtected o = true → o ≠ 0x90 → s.judgeEn = false → Does (.syncWrite off v) s (fun t =>
       t.cfg = (s.wr (0x5800 + o) v.toNat).cfg ∧ OnlyCounts s { t with cfg := s.cfg, sys := { t.sys with check := s.sys.check } })) ∧
     (o = 0x90 → s.judgeEn = false → Does (.syncWrite off v) s (fun t => t = { s with sync := { s.sync with refs := t.sync.refs } } ∧
       NMap.get (fun _ => (0 : Word)) t.sync.refs s.refSel = v ∧
       ∀ i, i ≠ s.refSel → NMap.get (fun _ => (0 : Word)) t.sync.refs i = NMap.get (fun _ => (0 : Word)) s.sync.refs i)))

/-! ### Lichen and sleep (R268–R277) -/

/-- LICHEN_LOOK (R270, R271, R275): a look of a receiver that does not look changes nothing; an active one in hold-off or during the entry to
SLEEP is counted as ignored, with LICHEN source 9; one that counts advances or clears the run of active looks, out of SLEEP and a wake
session it changes nothing else, and in SLEEP the look that brings the active ones of the last LOOKS to HITS wakes the device where
WAKE_EN is 1. LICHEN_HOLDOFF_EXPIRED ends the hold-off and changes nothing else. -/
def Obligations.LichenLooks : Prop :=
  ∀ (s : State) (n : Fin 4) (f : Fin 8),
    let looks : Prop := s.power ≠ .off ∧ s.rxLooks n = true ∧ (s.rxMode n = 2 → bitAt (s.fmask n) f = true ∧ s.lichen.untuned.getLsbD (8 * n + f) = false)
    let x := s.lichenRx n
    let g : Nat := if s.rxMode n = 1 then 0 else f
    let seen : List Bool := NMap.get (fun _ => []) x.looks g
    let ignored : Prop := (s.power = .sleep ∧ s.lichen.holdoff = true) ∨ s.sys.entering ≠ none
    let only (t : State) : Prop := (∀ k, k ≠ n.val → t.lichenRx k = s.lichenRx k) ∧
      OnlyCounts s { t with lichen := { t.lichen with rx := s.lichen.rx } }
    (∀ active, ¬looks → Does (.lichenLook n f active) s (fun t => t = s)) ∧
    (looks → ignored → Does (.lichenLook n f true) s (fun t => t.lichenRx n = { x with lastActive := true } ∧ Counts 10 9 s t ∧
      t.stF Reg.LICHEN_IGNORED (8 * n) 8 = satAdd 255 (s.stF Reg.LICHEN_IGNORED (8 * n) 8) 1 ∧
      OnlyStatusCounts [Reg.LICHEN_IGNORED] s { t with lichen := { t.lichen with rx := s.lichen.rx } })) ∧
    (looks → s.power ≠ .sleep → s.sys.wakeSession = false →
      Does (.lichenLook n f false) s (fun t => only t ∧ (t.lichenRx n).activeRun = 0 ∧ (t.lichenRx n).timedOut = false) ∧
      (¬ignored → Does (.lichenLook n f true) s (fun t => only t ∧ (t.lichenRx n).activeRun = x.activeRun + 1 ∧
        (s.overTimeout n (x.activeRun + 1) = true → x.timedOut = false → Counts 10 (4 + n) s t ∧ (t.lichenRx n).timedOut = true)))) ∧
    (looks → ¬ignored → s.power = .sleep → s.wakeEn n = true → x.timedOut = false → s.overTimeout n (x.activeRun + 1) = false →
      s.hitsN ≤ (((true :: seen).take s.looksN).filter id).length → (seen.filter id).length < s.hitsN →
      Does (.lichenLook n f true) s (fun t => t.power = .waking ∧ t.st Reg.LICHEN_WAKE_STAT = 4 * n + 16 * g ∧
        t.stF Reg.LICHEN_WAKE_COUNT 0 16 = satAdd 65535 (s.stF Reg.LICHEN_WAKE_COUNT 0 16) 1 ∧ t.lichen.wakeRx = some n.val ∧
        t.sys.wakeSession = false ∧ t.cfg = s.cfg ∧ t.now = s.now)) ∧
    Does .lichenHoldoffExpired s (fun t => t = { s with lichen := { s.lichen with holdoff := false } })

/-- POLICY_SLEEP_TIMER, FALSE_WAKE_CHECK and TWO_WIRE_WAKE (R272, R275, R277, R384). A policy that holds and is free moves both directions to
STANDBY with CAUSE 6 and then enters SLEEP; one that something defers counts LICHEN source 8 once; a false wake counts its receiver's
source and goes back to SLEEP; an address match wakes the device with a session, or abandons an entry under way. -/
def Obligations.SleepPolicies : Prop :=
  ∀ s : State,
    let toSleep (t : State) : Prop :=
      (s.sys.dl.st = .standby → s.sys.ul.st = .standby → t.sys.entering = some (6, 0, 0)) ∧
      ∀ d, s.dirSt d ≠ .standby → (t.dirRec d).trans = some { target := .standby, cause := 6, start := s.now } ∧ t.sys.sleepNext = some (6, 0, 0)
    let idle : Prop := s.power = .up ∧ s.sys.entering = none ∧ s.sys.sleepNext = none
    (∀ donor : Bool,
      (¬idle → Does (.policySleepTimer donor) s (fun t => t = s)) ∧
      (idle → s.policyHolds donor = false →
        Does (.policySleepTimer donor) s (fun t => t = { s with lichen := { s.lichen with deferred := false } })) ∧
      (idle → s.policyHolds donor = true → s.policyRx donor = true → s.policyFree = true →
        Does (.policySleepTimer donor) s (fun t => toSleep t ∧ t.power = .up ∧ t.cfg = s.cfg)) ∧
      (idle → s.policyHolds donor = true → s.policyRx donor = false ∨ s.policyFree = false →
        Does (.policySleepTimer donor) s (fun t => t.lichen = { s.lichen with deferred := true } ∧
          OnlyCounts s { t with lichen := s.lichen } ∧ (s.lichen.deferred = false → Counts 10 8 s t)))) ∧
    (∀ n : Nat, n < 4 → s.lichen.wakeRx = some n → idle → s.sys.dl.trans = none → s.sys.ul.trans = none →
      bitAt (s.rd Reg.LICHEN_POLICY) 2 = true → s.fld Reg.SYS_WAKE_CTRL 0 4 = 3 →
      let bad : Prop := if n < 2 then s.donorGone = true else s.lichen.burstSeen = false
      (bad → Does .falseWakeCheck s (fun t => toSleep t ∧ Counts 10 n s t ∧ t.stF Reg.LICHEN_WAKE_STAT 7 1 = 1 ∧
        t.lichen.wakeRx = none ∧ t.power = .up ∧ t.cfg = s.cfg)) ∧
      (¬bad → Does .falseWakeCheck s (fun t => t = { s with lichen := { s.lichen with wakeRx := none } }))) ∧
    (s.lichen.wakeRx = none ∨ s.power ≠ .up ∨ bitAt (s.rd Reg.LICHEN_POLICY) 2 = false ∨ s.fld Reg.SYS_WAKE_CTRL 0 4 ≠ 3 →
      Does .falseWakeCheck s (fun t => t = s)) ∧
    (s.power = .sleep → Does .twoWireWake s (fun t => t.power = .waking ∧ t.twb.stretching = true ∧ t.sys.wakeSession = true ∧
      t.st Reg.LICHEN_WAKE_STAT = 1 ∧ t.cfg = s.cfg ∧ t.now = s.now)) ∧
    (s.power = .up → s.sys.entering ≠ none → Does .twoWireWake s (fun t => t.power = .up ∧ t.sys.entering = none ∧
      t.lichen.abandoned = true ∧ t.cfg = s.cfg ∧ t.sys.dl = s.sys.dl ∧ t.sys.ul = s.sys.ul)) ∧
    (s.power ≠ .sleep → s.power ≠ .up ∨ s.sys.entering = none → Does .twoWireWake s (fun t => t = s))

/-! ### The Bog (R280–R301, R308) and the burst index (R302–R310) -/

/-- The region commands (R290–R294): each shows its outcome and region in CMD_STATUS. ARM is refused in an active region (2) and in a bad layout
(1), with BOG source 19; else the region is armed, its header pages read zero and no other byte has changed. TRIGGER triggers an armed
region and is ignored and counted by one that has triggered once. STOP stops an active region, and CLEAR empties its record, the data
untouched. -/
def Obligations.CaptureCommands : Prop :=
  ∀ (s : State) (n : Fin 8), s.regsUp = true →
    let x := s.bog.region n
    let shows (code : Nat) (t : State) : Prop := t.st Reg.BOG_CMD_STATUS = code + 16 * n ∧ ∀ a, a ≠ Reg.BOG_CMD_STATUS → t.st a = s.st a
    let others (t : State) : Prop := ∀ m, m ≠ n.val → t.bog.region m = s.bog.region m
    let kept (t : State) : Prop := t = { s with bog := { s.bog with regions := t.bog.regions }, sts := t.sts }
    let fires (t : State) : Prop := (t.bog.region n).st = 2 ∧ (t.bog.region n).triggered = true ∧ (t.bog.region n).trigTime = s.now
    let header (g : Nat) : Nat := s.regBase n + g * s.segBytes n
    (x.active = true → Does (.bogArm n) s (fun t => shows 2 t ∧ Counts 19 19 s t ∧ OnlyStatusCounts [Reg.BOG_CMD_STATUS] s t)) ∧
    (x.active = false → s.armLayout n = false → Does (.bogArm n) s (fun t => shows 1 t ∧ Counts 19 19 s t ∧
      OnlyStatusCounts [Reg.BOG_CMD_STATUS] s t)) ∧
    (x.active = false → s.armLayout n = true → Does (.bogArm n) s (fun t => shows 0 t ∧ others t ∧
      t = { s with bog := { s.bog with regions := t.bog.regions, mem := t.bog.mem, streams := t.bog.streams }, sts := t.sts } ∧
      (s.trigKind n ≠ 7 → t.bog.region n = { st := 1, upTo := s.now, corr := x.corr, uncorr := x.uncorr }) ∧
      (s.trigKind n = 7 → bitAt (s.rd (Reg.BOG_REG_RULE n)) 2 = false → fires t) ∧
      (∀ g i, g < s.regSegs n → i < 4096 → t.bog.byte (header g + i) = 0) ∧
      (∀ a, (∀ g, g < s.regSegs n → a < header g ∨ header g + 4096 ≤ a) → t.bog.byte a = s.bog.byte a))) ∧
    (x.st = 1 ∨ (x.st = 2 ∧ s.regOnce n = false) → bitAt (s.rd (Reg.BOG_REG_RULE n)) 2 = false ∨ s.regOnce n = false →
      Does (.bogTrigger n) s (fun t => shows 0 t ∧ others t ∧ kept t ∧ fires t)) ∧
    (x.st = 1 → bitAt (s.rd (Reg.BOG_REG_RULE n)) 2 = true → s.regOnce n = true →
      Does (.bogTrigger n) s (fun t => shows 0 t ∧ others t ∧ kept t ∧
        (fires t ∨ t.bog.region n = { x with ignored := satAdd 65535 x.ignored 1 }))) ∧
    (x.st = 2 → s.regOnce n = true → Does (.bogTrigger n) s (fun t => shows 0 t ∧ others t ∧ kept t ∧
      t.bog.region n = { x with ignored := satAdd 65535 x.ignored 1 })) ∧
    (x.active = false → Does (.bogTrigger n) s (fun t => shows 0 t ∧ kept t ∧ t.bog = s.bog) ∧
      Does (.bogStop n) s (fun t => shows 0 t ∧ kept t ∧ t.bog = s.bog)) ∧
    (x.active = true → x.wr ≤ s.dataBytes n → Does (.bogStop n) s (fun t => (t.bog.region n).st = 3 ∧
      t.st Reg.BOG_CMD_STATUS = 16 * n ∧ t.cfg = s.cfg ∧ t.now = s.now ∧
      ∀ a, a < s.dataStart n x.seg - 4096 ∨ s.dataStart n x.seg + s.dataBytes n ≤ a → t.bog.byte a = s.bog.byte a)) ∧
    Does (.bogClear n) s (fun t => shows 0 t ∧ others t ∧ kept t ∧ t.bog.region n = { corr := x.corr, uncorr := x.uncorr })

/-- SEGMENT_END and REGION_END (R291, R292): a triggered segment of a segmented region gives way to the next, armed and empty, its counts of
codeword errors kept; the region that its rule ends is stopped; the data of a segment lies inside it. SCRUB_PASS (R283, R284) counts the
pass and every corrected codeword and changes no byte. -/
def Obligations.RegionsAndScrub : Prop :=
  ∀ (s : State) (n : Fin 8), s.regsUp = true →
    let x := s.bog.region n
    let inside (t : State) : Prop := ∀ a, a < s.dataStart n x.seg - 4096 ∨ s.dataStart n x.seg + s.dataBytes n ≤ a →
      t.bog.byte a = s.bog.byte a
    let more : Prop := s.regStop n = 3 ∧ x.st = 2 ∧ x.seg + 1 < s.regSegs n
    (more → x.wr ≤ s.dataBytes n → Does (.segmentEnd n) s (fun t => (t.bog.region n).st = 1 ∧ (t.bog.region n).seg = x.seg + 1 ∧
      (t.bog.region n).held = 0 ∧ (t.bog.region n).corr = x.corr ∧ (t.bog.region n).uncorr = x.uncorr ∧ inside t ∧
      (∀ m, m ≠ n.val → t.bog.region m = s.bog.region m) ∧ t = { s with bog := t.bog, free := t.free })) ∧
    (¬more → Does (.segmentEnd n) s (fun t => t = s)) ∧
    (s.mayEnd n = true → x.wr ≤ s.dataBytes n → Does (.regionEnd n) s (fun t => (t.bog.region n).st = 3 ∧ inside t ∧ t.power = s.power ∧
      t.cfg = s.cfg ∧ t.now = s.now)) ∧
    (s.mayEnd n = false → Does (.regionEnd n) s (fun t => t = s)) ∧
    ∀ f : ScrubIn,
      let on : Prop := s.isUp = true ∧ bitAt (s.rd Reg.BOG_SCRUB_CFG) 16 = true ∧ s.bog.ready = true
      (on → Does (.scrubPass f) s (fun t => t.stF Reg.BOG_SCRUB_STAT 0 16 = satAdd 65535 (s.stF Reg.BOG_SCRUB_STAT 0 16) 1 ∧
        t.stF Reg.BOG_SCRUB_STAT 16 16 = min f.seconds 65535 ∧
        t.st Reg.BOG_CORR_TOTAL = satAdd (2 ^ 32 - 1) (s.st Reg.BOG_CORR_TOTAL) (codewords (f.corr.map (·.2))).length ∧
        t.st Reg.BOG_UNCORR_TOTAL = satAdd (2 ^ 32 - 1) (s.st Reg.BOG_UNCORR_TOTAL) (codewords f.ue).length ∧
        (∀ a, t.bog.byte a = s.bog.byte a) ∧ t.cfg = s.cfg ∧ t.now = s.now)) ∧
      (¬on → Does (.scrubPass f) s (fun t => t = s))

/-- STOP_PLAYBACK, PATTERN_END, PAT_LEN_WRITE, PAT_PLACEMENT_WRITE and BOG_REGISTER_WRITE (R294, R296, R299, R308): a stopped or ended pattern no
longer plays; a slot that does not play takes its length, and is loaded where the pattern fits it, or a placement, and is loaded no more;
one that plays is refused with BOG source 20, a region's placement while it is active with source 19; CMD runs the region commands. -/
def Obligations.PatternCommands : Prop :=
  ∀ s : State, s.regsUp = true →
    (∀ d : Dir,
      Does (.stopPlayback d) s (fun t => t.playing d = none ∧ t.st Reg.BOG_CMD_STATUS = 16 * d.num ∧ t.power = s.power ∧ t.cfg = s.cfg ∧
        t.now = s.now) ∧
      (∀ x, s.playing d = some x → s.patLoops x ≠ 0 → Does (.patternEnd d) s (fun t => t.playing d = none ∧
        (s.latestPat = d → t.stF Reg.BOG_PB_STAT 16 16 = s.patLoops x) ∧ t.power = s.power ∧ t.cfg = s.cfg ∧ t.now = s.now)) ∧
      ((∀ x, s.playing d = some x → s.patLoops x = 0) → Does (.patternEnd d) s (fun t => t = s))) ∧
    (∀ (p : Fin 16) (v : Word),
      let stored (a : Nat) (t : State) : Prop := Stores a v [] s { t with bog := s.bog } ∧ t.bog = { s.bog with pats := t.bog.pats } ∧
        ∀ q, q ≠ p.val → t.bog.pat q = s.bog.pat q
      (s.patPlays p = true → Does (.patLenWrite p v) s (fun t => Counts 19 20 s t ∧ OnlyCounts s t) ∧
        ∀ size, Does (.patPlacementWrite p size v) s (fun t => Counts 19 20 s t ∧ OnlyCounts s t)) ∧
      (s.patPlays p = false →
        Does (.patLenWrite p v) s (fun t => stored (Reg.BOG_PAT_LEN p) t ∧ (t.bog.pat p).loaded = t.patFits p) ∧
        Does (.patPlacementWrite p false v) s (fun t => stored (Reg.BOG_PAT_BASE p) t ∧ (t.bog.pat p).loaded = false) ∧
        Does (.patPlacementWrite p true v) s (fun t => stored (Reg.BOG_PAT_SIZE p) t ∧ (t.bog.pat p).loaded = false))) ∧
    (∀ (n : Fin 8) (k : Nat) (v : Word) (off : Fin 2048), off.val = 0x100 + 0x40 * n + k → k % 4 = 0 →
      (regionLocked k = true → (s.bog.region n).active = true → Does (.bogRegisterWrite off v) s (fun t => Counts 19 19 s t ∧ OnlyCounts s t)) ∧
      (k ≤ 0x20 → regionLocked k = false ∨ (s.bog.region n).active = false →
        Does (.bogRegisterWrite off v) s (fun t => Stores (0x9800 + off.val) v [] s t))) ∧
    (∀ (n : Fin 8) (cmd : Fin 2048), cmd.val = 0x5C →
      exec (.bogRegisterWrite cmd (Word.ofNat (1 + 16 * n))) s = exec (.bogArm n) s ∧
      exec (.bogRegisterWrite cmd (Word.ofNat (2 + 16 * n))) s = exec (.bogTrigger n) s ∧
      exec (.bogRegisterWrite cmd (Word.ofNat (3 + 16 * n))) s = exec (.bogStop n) s ∧
      exec (.bogRegisterWrite cmd (Word.ofNat (4 + 16 * n))) s = exec (.bogClear n) s)

/-- BIX_QUEUE_DRAIN, BIX_CLEAR, BIX_DUMP and BIX_DUMP_COMPLETE (R304–R310): the oldest report becomes the next entry of the table, and the table
wraps or stops where it is full; CLEAR empties it, a running dump refusing that; DUMP is refused while one runs or into a region that is
not idle; the dump's entries stand from the region's base on, and no other byte has changed. -/
def Obligations.BurstIndexCommands : Prop :=
  ∀ s : State, s.regsUp = true →
    (s.bix.queue = [] ∨ s.bix.dumping ≠ none → Does .bixQueueDrain s (fun t => t = s)) ∧
    (∀ (e : BixEntry) (q : List BixEntry), s.bix.queue = e :: q → s.bix.dumping = none →
      (s.bix.stopped = true → Does .bixQueueDrain s (fun t => t = { s with bix := { s.bix with queue := q } })) ∧
      (s.bix.stopped = false → Does .bixQueueDrain s (fun t => t.bix.queue = q ∧ t.bix.wr = (s.bix.wr + 1) % 65536 ∧
        t.bix.count = min 65536 (s.bix.count + 1) ∧
        (let y := NMap.get (fun _ => {}) t.bix.table s.bix.wr
         y.t = e.t ∧ y.kind = e.kind ∧ y.slot = e.slot ∧ y.lane = e.lane ∧ y.p = e.p ∧ y.len = e.len) ∧
        (∀ i, i ≠ s.bix.wr → NMap.get (fun _ => {}) t.bix.table i = NMap.get (fun _ => {}) s.bix.table i) ∧
        (bitAt (s.rd Reg.BIX_IDX_CFG) 0 = true → s.bix.count = 65535 → t.bix.stopped = true ∧ Counts 20 0 s t) ∧
        (bitAt (s.rd Reg.BIX_IDX_CFG) 0 = false → s.bix.wr = 65535 →
          t.st Reg.BIX_WRAP = satAdd (2 ^ 32 - 1) (s.st Reg.BIX_WRAP) 1 ∧ Counts 20 1 s t) ∧
        OnlyStatusCounts [Reg.BIX_WRAP] s { t with bix := s.bix }))) ∧
    (s.bix.dumping = none → Does .bixClear s (fun t =>
      t = { s with bix := { s.bix with table := [], wr := 0, count := 0, stopped := false } })) ∧
    (s.bix.dumping ≠ none → Does .bixClear s (fun t => Counts 20 6 s t ∧ OnlyCounts s t)) ∧
    (∀ n : Fin 8,
      (s.bix.dumping ≠ none ∨ (s.bog.region n).st ≠ 0 → Does (.bixDump n) s (fun t => Counts 20 4 s t ∧
        OnlyStatusCounts [Reg.BIX_DUMP_STAT] s t ∧ t.stF Reg.BIX_DUMP_STAT 0 2 = if s.bix.dumping = none then 3 else 1)) ∧
      (s.bix.dumping = none → (s.bog.region n).st = 0 → Does (.bixDump n) s (fun t => t.st Reg.BIX_DUMP_STAT = 1 ∧
        t.bix = { s.bix with dumping := some n.val } ∧ OnlyStatus [Reg.BIX_DUMP_STAT] s { t with bix := s.bix }))) ∧
    (s.bix.dumping = none → Does .bixDumpComplete s (fun t => t = s)) ∧
    (∀ n : Nat, s.bix.dumping = some n →
      let es := s.bix.valid.take (s.regSize n / 32)
      Does .bixDumpComplete s (fun t => t.bix = { s.bix with dumping := none } ∧ (t.bog.region n).st = 3 ∧
        t.st Reg.BIX_DUMP_STAT = (2 + 4 * es.length) % 2 ^ 32 ∧
        t.bog.read (s.regBase n) (32 * es.length) = es.flatMap BixEntry.bytes ∧
        (∀ a, a < s.regBase n ∨ s.regBase n + 32 * es.length ≤ a → t.bog.byte a = s.bog.byte a) ∧
        (∀ m, m ≠ n → t.bog.region m = s.bog.region m)))

/-! ### Housekeeping converters (R312–R329) -/

/-- HK_PASS_START, HK_CONVERSION_END, HK_INJECTED_RUN and HK_REFERENCE_SETTLED (R314–R317, R320–R324): a pass takes its entries as it
starts, one that is due while its predecessor runs is an overrun; a conversion is that of the entry that is due, of the injected run
first; the word of a result, its channel's RES; a neighbour-suspect result is counted and its entry converts again; a filtered entry
delivers what its filter gives, a flagged one standing as a missing input; the pass ends with its last entry; a reference settles or
fences its converter. -/
def Obligations.HkConversions : Prop :=
  ∀ (s : State) (c : HkConv),
    let k := convNum c
    let r := s.hkRec k
    let len := seqLen (s.rd (hkCtrlReg k))
    let seq := (List.range len).map (fun e => s.rd (hkSeqReg k e))
    let bad (w : Nat) : Bool := decide (39 < bitsAt w 0 6)
    let skips (l : List Nat) (t : State) : Prop := OnlyCounts s { t with hk := s.hk } ∧ t.hkRec (1 - k) = s.hkRec (1 - k) ∧
      (l.filter bad ≠ [] → (t.flt.source 18 19).total = satAdd 65535 (s.flt.source 18 19).total (l.filter bad).length)
    (s.hkOn = false ∨ len = 0 ∨ (r.passOpen = true ∧ s.fld (hkCtrlReg k) 0 2 ≠ 2) → Does (.hkPassStart c) s (fun t => t = s)) ∧
    (s.hkOn = true → len ≠ 0 → r.passOpen = true → s.fld (hkCtrlReg k) 0 2 = 2 → Does (.hkPassStart c) s (fun t =>
      t.hkRec k = { r with due := true } ∧ t.hkRec (1 - k) = s.hkRec (1 - k) ∧ Counts 18 (2 + k) s t ∧ OnlyCounts s { t with hk := s.hk })) ∧
    (s.hkOn = true → len ≠ 0 → r.passOpen = false → Does (.hkPassStart c) s (fun t =>
      (t.hkRec k).seq = seq ∧ (t.hkRec k).passOpen = seq.any (fun w => !bad w) ∧ (t.hkRec k).used = 0 ∧ (t.hkRec k).next = 0 ∧
      (t.hkRec k).due = false ∧ skips seq t)) ∧
    (s.hkOn = false ∨ r.injPending = false → Does (.hkInjectedRun c) s (fun t => t = s)) ∧
    (s.hkOn = true → r.injPending = true → Does (.hkInjectedRun c) s (fun t =>
      t.hkRec k = { r with injPending := false, injRun := (s.injSeq k).any (fun w => !bad w), injNext := 0, again := false } ∧
      skips (s.injSeq k) t)) ∧
    (∀ settled : Bool,
      (s.isUp = false ∨ r.refOk = true → Does (.hkReferenceSettled c settled) s (fun t => t = s)) ∧
      (s.isUp = true → r.refOk = false → settled = true → Does (.hkReferenceSettled c settled) s (fun t => t = { s with hk := t.hk } ∧
        t.hkRec k = { r with refOk := true } ∧ t.hkRec (1 - k) = s.hkRec (1 - k))) ∧
      (s.isUp = true → r.refOk = false → settled = false → Does (.hkReferenceSettled c settled) s (fun t =>
        Counts 18 (8 + k) s t ∧ t.isOut 18 k = true ∧ OnlyCounts s t))) ∧
    ∀ x : ConvIn,
      let p := s.hkBy k
      (s.hkOn = false ∨ s.hkDue k = none → Does (.hkConversionEnd c x) s (fun t => t = s)) ∧
      ∀ (e w : Nat) (inj : Bool), s.hkOn = true → s.hkDue k = some (e, w, inj) →
        let ch := bitsAt w 0 6
        let y := s.hkSees ch x
        let code := Signal.hkCode y.v y.vref
        let ovr := convOvr y
        let ns := (s.hkRec p).ovrLast && x.soonAfterOvr && !r.again
        let settling := !(s.hkRec p).refOk || s.vrefBad p y || (x.dacMoving && ch = s.dacTarget && bitAt (s.rd Reg.HK_TDAC) 16)
        let test := s.dacDrives ch
        let word := resWord (16 * code) ovr ns settling false p inj test s.hkTick
        let filt := NMap.get (fun _ => {}) r.filt e
        let last : Prop := (validFrom (if inj then s.injSeq k else r.seq) (e + 1)).isNone = true
        let flagged := settling || test
        let base := if flagged then word else s.st (Reg.HK_RES ch)
        Does (.hkConversionEnd c x) s (fun t =>
          (∀ i, i < 40 → i ≠ ch → t.st (Reg.HK_RES i) = s.st (Reg.HK_RES i)) ∧ (t.hkRec p).ovrLast = ovr ∧
          t.stF Reg.HK_OVR_COUNT (16 * p) 16 = satAdd 65535 (s.stF Reg.HK_OVR_COUNT (16 * p) 16) (ofBool ovr) ∧
          t.stF Reg.HK_REPEAT_COUNT (16 * p) 16 = satAdd 65535 (s.stF Reg.HK_REPEAT_COUNT (16 * p) 16) (ofBool ns) ∧
          t = { s with hk := t.hk, therm := t.therm, sts := t.sts, flt := t.flt, twb := t.twb, peat := t.peat, mram := t.mram, bog := t.bog } ∧
          (ns = true ∨ inj = true ∨ seqOrder w = 0 → t.st (Reg.HK_RES ch) = word) ∧
          (ns = false → inj = false → seqOrder w ≠ 0 → t.st (Reg.HK_RES ch) =
            match (if flagged then filt.xs.head? else some (code, ovr)) with
            | none => base
            | some i =>
              match (filt.feed (seqOrder w) (seqDec w) i).2 with
              | some (v, o) => resWord v o false false true p false false s.hkTick
              | none => base) ∧
          (ns = true → (t.hkRec k).again = true ∧ (t.hkRec k).next = r.next ∧ (t.hkRec k).injNext = r.injNext) ∧
          (ns = false → inj = true → (t.hkRec k).injNext = e + 1 ∧ ((t.hkRec k).injRun = true ↔ ¬last) ∧ (t.hkRec k).next = r.next) ∧
          (ns = false → inj = false → ¬last → (t.hkRec k).next = e + 1 ∧ (t.hkRec k).passOpen = true) ∧
          (ns = false → inj = false → last → t.stF Reg.HK_PASS_TIME (16 * k) 16 = min 65535 (r.used + 1) ∧
            (r.due = false → s.fld (hkCtrlReg k) 0 2 ≠ 1 → (t.hkRec k).passOpen = false)))

/-- The triggers and comparators (R316–R319): an edge within HOLD of the last is counted and ignored, else every converter that selects
the pin has its injected run pending, or counts it ignored; a stuck pin is off until its inactive level; a comparator trips once, and
until it is armed again. -/
def Obligations.HkTriggers : Prop :=
  ∀ s : State,
    let on : Prop := s.hkOn = true ∧ bitAt (s.rd Reg.HK_HK_TRIG_CFG) 0 = true ∧ s.hk.trigStuck = false
    let takes (bit : Nat) (t : State) : Prop := ∀ c : HkConv,
      let k := convNum c
      let r := s.hkRec k
      (s.hkOn = false ∨ bitAt (s.rd (hkCtrlReg k)) bit = false → t.hkRec k = r) ∧
      (s.hkOn = true → bitAt (s.rd (hkCtrlReg k)) bit = true → r.injPending = true ∨ r.injRun = true →
        t.hkRec k = r ∧ Counts 18 (4 + k) s t) ∧
      (s.hkOn = true → bitAt (s.rd (hkCtrlReg k)) bit = true → r.injPending = false → r.injRun = false →
        t.hkRec k = { r with injPending := true } ∧
          t.stF Reg.HK_TRIG_COUNT (16 * k) 16 = satAdd 65535 (s.stF Reg.HK_TRIG_COUNT (16 * k) 16) 1)
    let frame (t : State) : Prop := OnlyStatusCounts [Reg.HK_TRIG_COUNT] s { t with hk := s.hk }
    (∀ e : Nat,
      let near : Prop := ∃ l, s.hk.trigLast = some l ∧ e < l + usTime (s.fld Reg.HK_HK_TRIG_HOLD 0 16)
      (¬on → Does (.hkTrigEdge e) s (fun t => t = s)) ∧
      (on → near → Does (.hkTrigEdge e) s (fun t => Counts 18 6 s t ∧ OnlyCounts s t)) ∧
      (on → ¬near → Does (.hkTrigEdge e) s (fun t => t.hk.trigLast = some e ∧ takes 16 t ∧ frame t))) ∧
    (¬on → Does .hkTrigStuck s (fun t => t = s)) ∧
    (on → Does .hkTrigStuck s (fun t => t.hk = { s.hk with trigStuck := true } ∧ Counts 18 7 s t ∧ OnlyCounts s { t with hk := s.hk })) ∧
    Does .hkTrigInactiveLevel s (fun t => t = { s with hk := { s.hk with trigStuck := false } }) ∧
    ∀ x : OvdIn,
      let l := x.lane
      let armed : Prop := s.isUp = true ∧ bitAt (s.rd Reg.HK_OVD_CFG) l = true ∧ s.hasTable l = true ∧ s.hk.ovd.getLsbD l = false ∧
        s.ovdAbove l 0 x.v = true
      (¬armed → Does (.overdriveTrip x) s (fun t => t = s)) ∧
      (armed → Does (.overdriveTrip x) s (fun t => t.hk.ovd.getLsbD l = true ∧ Counts 18 (15 + l.val) s t ∧ takes (19 + l.val) t ∧ frame t ∧
        ∀ m : Fin 4, m ≠ l → t.hk.ovd.getLsbD m = s.hk.ovd.getLsbD m)) ∧
      (s.ovdAbove l 32 x.v = true → Does (.overdriveRearm x) s (fun t => t = s)) ∧
      (s.ovdAbove l 32 x.v = false → Does (.overdriveRearm x) s (fun t => t = { s with hk := { s.hk with ovd := t.hk.ovd } } ∧ t.hk.ovd.getLsbD l = false ∧
        ∀ m : Fin 4, m ≠ l → t.hk.ovd.getLsbD m = s.hk.ovd.getLsbD m))

/-- HK_CROSS_CHECK and HK_WRITE (R320, R325, R328): DIFF, the run of mismatches, the arbitration that COUNT of them starts, and the
converter or the DAC that it fences; a write of a register that can be written takes effect, but for one that would take a lane's
detector out of both sequences in service; a changed reference settles anew. -/
def Obligations.HkCrossAndWrites : Prop :=
  ∀ s : State,
    (∀ (xa xb : ConvIn) (ended : Bool),
      let run : Prop := s.isUp = true ∧ bitAt (s.rd Reg.HK_CROSS_CFG) 28 = true ∧ s.hk.takeover = false ∧
        (s.isOut 18 0 = false ∨ s.isOut 18 1 = false) ∧ s.crossDue = true
      let arb := s.hk.arbitrate && !bitAt (s.rd Reg.HK_TDAC) 16 && !s.isOut 18 2
      let ch := if arb then 38 else s.fld Reg.HK_CROSS_CFG 0 6
      let aimed : Prop := bitAt (s.rd Reg.HK_TDAC) 16 = true ∧ s.dacTarget = ch
      let a := s.hkSees ch xa
      let b := s.hkSees ch xb
      let ca := Signal.hkCode a.v a.vref
      let cb := Signal.hkCode b.v b.vref
      let usable (c : Nat) (x : ConvIn) : Prop := convOvr x = false ∧ ((s.hkRec c).ovrLast && x.soonAfterOvr) = false ∧
        (s.hkRec c).refOk = true ∧ s.vrefBad c x = false
      let good : Prop := usable 0 a ∧ usable 1 b ∧ ¬aimed ∧ ended = true
      let tol : Nat := s.crossTol * 4096
      let diff : Int := s.hkMv 0 ca - s.hkMv 1 cb
      let mism : Nat := if tol < diff.natAbs then s.hk.crossRun + 1 else 0
      let count : Nat := max 1 (s.fld Reg.HK_CROSS_CFG 24 4)
      let misses (c code : Nat) : Prop := tol < (s.hkMv c code - 2457600).natAbs
      let cmd : Instr := .hkCrossCheck xa xb ended
      let both (t : State) : Prop := t.hk.crossAt = s.now / tickTime ∧ (t.hkRec 0).ovrLast = convOvr a ∧ (t.hkRec 1).ovrLast = convOvr b ∧
        (t.st (Reg.HK_RES ch)) / 2 ^ 20 % 2 = 1 ∧ t.st (Reg.HK_RES ch) % 65536 = 16 * cb ∧
        t = { s with hk := t.hk, therm := t.therm, sts := t.sts, flt := t.flt, twb := t.twb, peat := t.peat, mram := t.mram, bog := t.bog } ∧
        ∀ r, r ≠ Reg.HK_CROSS_STAT → r ≠ Reg.HK_OVR_COUNT → r ≠ Reg.HK_RES ch → t.st r = s.st r
      let done_ (t : State) : Prop := t.hk.arbitrate = false ∧ t.hk.crossRun = 0 ∧ both t
      (¬run ∨ 39 < ch → Does cmd s (fun t => t = s)) ∧
      (run → ch < 40 → ¬good → Does cmd s (fun t => t.hk.arbitrate = s.hk.arbitrate ∧ t.hk.crossRun = s.hk.crossRun ∧
        t.stF Reg.HK_CROSS_STAT 0 20 = s.stF Reg.HK_CROSS_STAT 0 20 ∧ both t)) ∧
      (run → ch < 40 → good → arb = false →
        Does cmd s (fun t => t.stF Reg.HK_CROSS_STAT 0 16 = bitsOf 16 (sat16 (rneDiv diff 4096)) ∧
          t.stF Reg.HK_CROSS_STAT 16 4 = min 15 mism ∧ t.hk.crossRun = mism ∧
          (t.hk.arbitrate = true ↔ s.hk.arbitrate = true ∨ mism = count) ∧
          (mism = count → Counts 18 12 s t) ∧ both t)) ∧
      (run → good → arb = true →
        (¬misses 0 ca → ¬misses 1 cb → Does cmd s (fun t => t.stF Reg.HK_CROSS_STAT 20 2 = 1 ∧ done_ t)) ∧
        (misses 0 ca → ¬misses 1 cb → Does cmd s (fun t => t.stF Reg.HK_CROSS_STAT 20 2 = 2 ∧ Counts 18 13 s t ∧ t.isOut 18 0 = true ∧ done_ t)) ∧
        (¬misses 0 ca → misses 1 cb → Does cmd s (fun t => t.stF Reg.HK_CROSS_STAT 20 2 = 3 ∧ Counts 18 14 s t ∧ t.isOut 18 1 = true ∧ done_ t)) ∧
        (misses 0 ca → misses 1 cb → Does cmd s (fun t => Counts 18 22 s t ∧ t.isOut 18 2 = true ∧ done_ t)))) ∧
    ∀ (off : Fin 2048) (v : Word) (row : RegRow), rowAt (0x9000 + off.val) = some row →
      let a := 0x9000 + off.val
      let lost : Prop := s.judgeEn = true ∧ s.losesDetector (s.wrc a v.toNat) = true
      let legal : Prop := s.regsUp = true ∧ row.acc = .rw ∧ 0x40 ≤ off.val
      (¬legal → Does (.hkWrite off v) s (fun t => t = s)) ∧
      (legal → lost → Does (.hkWrite off v) s (fun t => Counts 18 19 s t ∧ OnlyCounts s t)) ∧
      (legal → ¬lost → Does (.hkWrite off v) s (fun t => Stores a v [] s { t with hk := s.hk } ∧ t.hk = { s.hk with a := t.hk.a, b := t.hk.b } ∧
        ∀ c : HkConv,
          let k := convNum c
          (a ≠ hkCtrlReg k → t.hkRec k = s.hkRec k) ∧
          (a = hkCtrlReg k → (t.hkRec k).refOk = ((s.hkRec k).refOk && s.hkRefSel k = t.hkRefSel k) ∧ (t.hkRec k).seq = (s.hkRec k).seq ∧
            (t.hkRec k).passOpen = (s.hkRec k).passOpen)))

/-! ### Thermal model and recorder (R341, R344, R345, R350, R368–R380) -/

/-- SLOT_DROP, THROTTLE_UNDO, SENSOR_FENCE and THERM_PEAK_CLR (R341, R344, R345, R350): once DROP_HOLD has run the throttle drops the next slot,
or halves capture where none is left; once UNDO_HOLD has run an undo takes back halving first, then the slots in reverse order, and
none while it is held; a sensor whose fault has lasted is fenced at once. -/
def Obligations.ThermCommands : Prop :=
  ∀ s : State,
    let on : Prop := s.isUp = true ∧ s.therm.throttling = true
    let others (d : Dir) (n : Nat) (t : State) : Prop := ∀ d' m, m < 17 → ¬(d' = d ∧ m = n) → t.slotRec d' m = s.slotRec d' m
    let drops : Prop := on ∧ s.bog.halving = false ∧ s.dropHold ≤ s.therm.stepN
    let undoes : Prop := on ∧ s.undoHold ≤ s.therm.undoN
    let anew : ThermState := { s.therm with stepN := 0, undoN := 0 }
    (¬drops → Does .slotDrop s (fun t => t = s)) ∧
    (∀ d n, drops → s.nextDrop = some (d, n) → Does .slotDrop s (fun t =>
      t.slotRec d n = { s.slotRec d n with dropped := true } ∧ others d n t ∧
      t.therm = { anew with dropped := slotKey d n :: s.therm.dropped } ∧ s.slotPrio d n < 15 ∧ (s.slotRec d n).dropped = false ∧
      t.stF Reg.THERM_THR_COUNT 16 16 = satAdd 65535 (s.stF Reg.THERM_THR_COUNT 16 16) 1 ∧ Counts 2 13 s t ∧ Counts (12 + d.num) 27 s t ∧
      OnlyStatusCounts [Reg.THERM_THR_COUNT] s { t with slots := s.slots, therm := s.therm })) ∧
    (drops → s.nextDrop = none → Does .slotDrop s (fun t => t.bog.halving = true ∧ Counts 2 14 s t ∧ Counts 19 22 s t ∧
      t.slots = s.slots ∧ t.therm = anew ∧ t.sts = s.sts ∧ t.cfg = s.cfg ∧ t.power = s.power)) ∧
    (¬undoes → Does .throttleUndo s (fun t => t = s)) ∧
    (undoes → s.now < s.therm.hotQuiet → Does .throttleUndo s (fun t => Counts 2 21 s t ∧ OnlyCounts s t)) ∧
    (undoes → s.therm.hotQuiet ≤ s.now → s.bog.halving = true → Does .throttleUndo s (fun t => t.bog.halving = false ∧
      t.slots = s.slots ∧ t.therm = anew ∧ t.sts = s.sts ∧ t.cfg = s.cfg ∧ t.power = s.power)) ∧
    (∀ d n rest, undoes → s.therm.hotQuiet ≤ s.now → s.bog.halving = false → n < 17 → s.therm.dropped = slotKey d n :: rest →
      Does .throttleUndo s (fun t => t = { s with slots := t.slots, therm := { anew with dropped := rest } } ∧
        t.slotRec d n = { s.slotRec d n with dropped := false } ∧ others d n t)) ∧
    (undoes → s.therm.hotQuiet ≤ s.now → s.bog.halving = false → s.therm.dropped = [] →
      Does .throttleUndo s (fun t => t = { s with therm := { anew with falling := true } })) ∧
    (∀ (k : Fin 6) (noReading : Bool),
      let src := if noReading then 6 + k.val else k.val
      (s.regsUp = false ∨ s.isOut 2 k = true ∨ s.sensorDue k noReading = false → Does (.sensorFence k noReading) s (fun t => t = s)) ∧
      (s.regsUp = true → s.isOut 2 k = false → s.sensorDue k noReading = true → Does (.sensorFence k noReading) s (fun t =>
        t.isOut 2 k = true ∧ Counts 2 src s t ∧ OnlyCounts s { t with therm := s.therm } ∧
        t.therm = { s.therm with hotQuiet := (if s.hotSensor = k.val then s.now + s.quietMs 2 * msTime else s.therm.hotQuiet) }))) ∧
    ∀ v : Word, (s.regsUp = true → bitAt v.toNat 0 = true → Does (.thermPeakClr v) s (fun t => OnlyStatus [Reg.THERM_PEAK] s t ∧
        t.st Reg.THERM_PEAK = bitsOf 16 (sat16 s.tMax) + 65536 * s.hottest regionTs)) ∧
      (s.regsUp = false ∨ bitAt v.toNat 0 = false → Does (.thermPeakClr v) s (fun t => t = s))

/-- Where the commands of the lock page, of the throttle and TRACE_DUMP complete (R223, R241, R242, R244, R341, R344, R345, R350), in the state after
the end of the instant: an unlocked page takes a change of an item other than a range into a commit, and a commit in flight ends with
its value in the page; the scrub repairs the mirror; a slot is dropped, and dropped slots come back; a sensor whose fault has lasted is
fenced; PEAK starts anew; a dump that no region takes counts every sample as dropped. -/
def Obligations.LockThrottleAndDumpComplete : Prop :=
  ∀ s : State, s.isUp = true →
    let kept (u : State) : Prop := u.power = s.power ∧ u.cfg = s.cfg ∧ u.now = s.now
    (∀ v : Word,
      let item := s.fld Reg.LOCK_WR_ITEM 0 16
      let index := s.fld Reg.LOCK_WR_ITEM 16 16
      let new := lockValue item (s.rd Reg.LOCK_WR_A) (s.rd Reg.LOCK_WR_B)
      v.toNat % 65536 = 0x4C4B → s.lock.commit = none → s.lock.damaged = false → s.lock.locked = false →
      lockOffset item index ≠ none → item ≠ 1 → s.lock.present item index ≠ new →
      Answers (.lockCommit v) s (fun u => (∃ j, u.lock.commit = some j ∧ j.item = item ∧ j.index = index ∧
        lockValue item j.a.toNat j.b.toNat = new) ∧ u.lock.page = s.lock.page ∧ u.lock.mram = s.lock.mram ∧ kept u)) ∧
    (∀ j : LockJob, s.lock.commit = some j → s.mram.inFlight = some .lock → lockOffset j.item j.index ≠ none →
      Answers .lockCommitComplete s (fun u => u.lock.commit = none ∧
        u.lock.present j.item j.index = lockValue j.item j.a.toNat j.b.toNat ∧ kept u)) ∧
    (∀ f : LockScrubIn, Answers (.lockPageScrub f) s (fun u => u.lock.mram = s.lock.mram ∧
      (∀ k, k < 2048 → k / 4 ∈ f.mirror → u.lock.byte k = NMap.get lockDelivered s.lock.mram k) ∧ kept u)) ∧
    (∀ d n, s.therm.throttling = true → s.bog.halving = false → s.dropHold ≤ s.therm.stepN → s.nextDrop = some (d, n) →
      Answers .slotDrop s (fun u => (u.slotRec d n).dropped = true ∧ u.therm.dropped = slotKey d n :: s.therm.dropped ∧
        u.therm.stepN = 0 ∧ kept u)) ∧
    (∀ d n rest, s.therm.throttling = true → s.undoHold ≤ s.therm.undoN → s.therm.hotQuiet ≤ s.now → s.bog.halving = false → n < 17 →
      s.therm.dropped = slotKey d n :: rest →
      Answers .throttleUndo s (fun u => (u.slotRec d n).dropped = false ∧ u.therm.dropped = rest ∧ u.therm.undoN = 0 ∧ kept u)) ∧
    (∀ (k : Fin 6) (noReading : Bool), s.isOut 2 k = false → s.sensorDue k noReading = true →
      Answers (.sensorFence k noReading) s (fun u => (s.hotSensor = k.val → u.therm.hotQuiet = s.now + s.quietMs 2 * msTime) ∧ kept u) ∧
      Does (.sensorFence k noReading) s (fun t => t.isOut 2 k = true)) ∧
    (∀ v : Word, v.getLsbD 0 = true → Answers (.thermPeakClr v) s (fun u =>
      u.st Reg.THERM_PEAK = bitsOf 16 (sat16 s.tMax) + 65536 * s.hottest regionTs ∧ kept u)) ∧
    ∀ n : Fin 4, (s.trace n).st = 3 → (s.trace n).samples ≠ [] →
      s.regKind (s.trRegion n) ≠ 4 ∨ (s.bog.region (s.trRegion n)).active = false →
      Answers (.traceDump n) s (fun u => kept u ∧
        u.st (Reg.LOOP_TR_DROPPED n) = satAdd (2 ^ 32 - 1) (s.st (Reg.LOOP_TR_DROPPED n)) (s.trace n).samples.length)

/-- PEAT_TIMER and PEAT_CLOSE (R372–R375, R380): the open interval closes as one record with the next SEQ, held or being committed, and
a new interval opens at this operating second; a close that repeats the newest record leaves the interval open; with four records held
it is folded in; out of service it is lost. PEAT_COMMIT_COMPLETE (R375, R376): the record stands in its slot, or is discarded.
PEAT_FLUSH, PEAT_AUDIT, PEAT_FREEZE, PEAT_THAW and FREEZE_TIMEOUT (R368, R377–R379): an operating second and a flush of the open
interval; the audit counts what it finds and changes no record; a freeze is refused while records wait and waits for a write in
progress; its end lets the next record go. -/
def Obligations.PeatCommands : Prop :=
  (∀ s : State,
     let out : Prop := s.isOut 21 0 = true
     let counted (t : State) : Prop := OnlyCounts s t
     let lost (born : Option Nat) (t : State) : Prop := counted t ∧ t.peat.lost = satAdd 65535 s.peat.lost 1 ∧
       t.peat.openI = { openedAt := s.peat.opsec, limit := s.interval, born := born } ∧ t.peat.nextSeq = s.peat.nextSeq
     let closed (cause : Nat) (born : Option Nat) (t : State) : Prop := counted t ∧ t.peat.nextSeq = s.peat.nextSeq + 1 ∧
       t.peat.openI = { openedAt := s.peat.opsec, limit := s.interval, born := born } ∧
       ∃ r : PeatRec, r.kind = 1 ∧ r.seq = s.peat.nextSeq ∧ r.opsecClose = s.peat.opsec ∧
         (s.peat.openI.folded = none → s.peat.lastRepeat = none → r.cause = cause ∧ r.detail = 0) ∧
         (t.peat.writing = some (some r) ∨ r ∈ t.peat.hold)
     let folds (t : State) : Prop := counted t ∧ Counts 21 9 s t ∧ t.peat.nextSeq = s.peat.nextSeq ∧ t.peat.hold = s.peat.hold ∧
       t.peat.openI.openedAt = s.peat.openI.openedAt
     (s.isUp = false ∨ s.timerDue = false ∨ s.peat.openI.born = some s.now → Does .peatTimer s (fun t => t = s)) ∧
     (s.isUp = true → s.timerDue = true → s.peat.openI.born ≠ some s.now →
       (out → Does .peatTimer s (lost none)) ∧
       (¬out → s.peat.hold.length < 4 → Does .peatTimer s (closed 1 none)) ∧
       (¬out → 4 ≤ s.peat.hold.length → Does .peatTimer s folds)) ∧
     (s.regsUp = false → Does .peatClose s (fun t => t = s)) ∧
     (s.regsUp = true →
       (out → Does .peatClose s (lost (some s.now))) ∧
       (¬out → repeats s s.peat 2 0 = none → s.peat.hold.length < 4 → Does .peatClose s (closed 2 (some s.now))) ∧
       (¬out → repeats s s.peat 2 0 = none → 4 ≤ s.peat.hold.length → Does .peatClose s folds) ∧
       (∀ r, ¬out → repeats s s.peat 2 0 = some r → r.rep + (s.peat.pending r.seq).1 < 65535 →
         Does .peatClose s (fun t => counted t ∧ t.peat.openI = s.peat.openI ∧ t.peat.nextSeq = s.peat.nextSeq ∧ t.peat.hold.length ≤ s.peat.hold.length))) ∧
     (s.mram.inFlight ≠ some .peat ∨ s.peat.writing = none → Does .peatCommitComplete s (fun t => t = s)) ∧
     (∀ r : PeatRec, s.mram.inFlight = some .peat → s.peat.writing = some (some r) → s.peat.hold = [] → s.peat.pend = [] →
       (∀ i, s.peat.place r = some i → Does .peatCommitComplete s (fun t => t.peat.slot i = r ∧ t.peat.newest = some i ∧
         t.peat.writing = none ∧ t.mram = s.mram.next ∧ (∀ j, j ≠ i → t.peat.slot j = s.peat.slot j) ∧ counted t)) ∧
       (s.peat.place r = none → Does .peatCommitComplete s (fun t => t.peat.discarded = satAdd 65535 s.peat.discarded 1 ∧ Counts 21 12 s t ∧
         t.peat.slots = s.peat.slots ∧ t.peat.writing = none ∧ counted t)))) ∧
  (∀ s : State,
     let thawed (t : State) : Prop := t.peat.frozen = false ∧ t.peat.freezePending = false ∧
       t.peat.openI.openedAt = s.peat.openI.openedAt ∧
       (∀ r rest, s.peat.writing = none → s.peat.out = false → s.peat.hold = r :: rest →
         t.peat.writing = some (some r) ∧ t.peat.hold = rest ∧ t.mram = s.mram.submit .peat) ∧
       (s.peat.writing ≠ none ∨ s.peat.out = true → t.peat.writing = s.peat.writing ∧ t.peat.hold = s.peat.hold ∧ t.mram = s.mram)
     (s.regsUp = false → Does .peatFlush s (fun t => t = s)) ∧
     (s.regsUp = true → Does .peatFlush s (fun t => t.peat.opsec = satAdd 4294967295 s.peat.opsec 1 ∧
       t.peat.flushNext = some (t.peat.openI, t.peat.opsec, s.peat.pcc) ∧
       (s.peat.flushNext = none → t.mram = s.mram.submit .flush) ∧ (s.peat.flushNext ≠ none → t.mram = s.mram) ∧ OnlyCounts s t ∧
       (s.peat.opsec = 4294967294 → Counts 21 15 s t) ∧
       (s.peat.opsec < 4294967294 → t = { s with peat := { s.peat with opsec := t.peat.opsec, flushNext := t.peat.flushNext }, mram := t.mram }))) ∧
     (∀ f : AuditIn,
       let bad := f.failed.eraseDups.filter (fun i => decide (i < 21504) && s.peat.tornSlot != some i)
       let fixed := f.corr.eraseDups.filter (fun i => decide (i < 21504))
       (s.isUp = false → Does (.peatAudit f) s (fun t => t = s)) ∧
       (s.isUp = true → Does (.peatAudit f) s (fun t => t.peat.failed = min 65535 bad.length ∧ t.peat.auditRunning = false ∧
         (bad ≠ [] → (t.flt.source 21 4).total = satAdd 65535 (s.flt.source 21 4).total bad.length) ∧
         (fixed ≠ [] → (t.flt.source 21 2).total = satAdd 65535 (s.flt.source 21 2).total fixed.length) ∧
         (∀ i, t.peat.slot i = { s.peat.slot i with ue := (t.peat.slot i).ue }) ∧ OnlyCounts s t))) ∧
     (let up : Prop := s.isUp = true ∧ s.peat.out = false ∧ s.peat.freezePending = false
      let may : Prop := up ∧ s.peat.frozen = false
      (¬up → Does .peatFreeze s (fun t => t = s)) ∧
      (up → s.peat.frozen = true → Does .peatFreeze s (fun t => t = { s with peat := { s.peat with frozenN := 0 } })) ∧
      (may → s.peat.hold ≠ [] → Does .peatFreeze s (fun t => Counts 21 8 s t ∧ OnlyCounts s t ∧ t.peat.frozen = false)) ∧
      (may → s.peat.hold = [] → s.peat.writing ≠ none →
        Does .peatFreeze s (fun t => t = { s with peat := { s.peat with freezePending := true } })) ∧
      (may → s.peat.hold = [] → s.peat.writing = none →
        Does .peatFreeze s (fun t => t = { s with peat := { s.peat with frozen := true, frozenN := 0 } }))) ∧
     (s.regsUp = false → Does .peatThaw s (fun t => t = s)) ∧
     (s.regsUp = true → Does .peatThaw s (fun t => thawed t ∧ t = { s with peat := t.peat, mram := t.mram })) ∧
     (s.isUp = false ∨ s.peat.frozen = false ∨ s.peat.frozenN < 100000 → Does .freezeTimeout s (fun t => t = s)) ∧
     (s.isUp = true → s.peat.frozen = true → 100000 ≤ s.peat.frozenN → Does .freezeTimeout s (fun t => thawed t ∧ Counts 21 7 s t ∧ OnlyCounts s t)))

/-! ### The two-wire bus and the register space (R384–R398, R404, R412) -/

/-- TWO_WIRE_WRITE, SET_POINTER_READ, CURRENT_POINTER_READ and TARGET_TIMEOUT (R384–R389, R395): the device is silent before STANDBY; else it
counts the transfer and takes its address anew; a pointer byte alone changes nothing but that count; four bytes write one register of
plain configuration, and one byte leaves its other bytes; a read moves the pointer on by what it read, and bytes that were not there in
time read 0xFF first. -/
def Obligations.TargetTransfers : Prop :=
  ∀ s : State,
    let silent : Prop := s.power = .off ∨ ∃ r, s.power = .discovery r
    let served : Prop := s.isUp = true ∧ s.sys.entering = none
    let bare (t : State) : State :=
      { t with twb := { t.twb with addr := s.twb.addr, stretching := s.twb.stretching, ptr := s.twb.ptr, lastRead := s.twb.lastRead
                                   shadow := s.twb.shadow } }
    let counted (t : State) : Prop := t.stF Reg.TWB_TARGET_STAT 0 16 = satAdd 65535 (s.stF Reg.TWB_TARGET_STAT 0 16) 1 ∧
      t.twb.stretching = false ∧ t.twb.addr = bitsAt (s.rd Reg.TWB_ADDR_CFG) 3 4 * 8 + s.twb.strap % 8 ∧
      OnlyStatusCounts [Reg.TWB_TARGET_STAT] s (bare t)
    let reads (a n : Nat) (ready : Bool) (t : State) : Prop := counted t ∧ t.twb.ptr = (a + n) % 65536 ∧ t.twb.lastRead.length = n ∧
      (ready = false → n ≠ 0 → t.twb.lastRead.head? = some 0xFF ∧ Counts 4 11 s t)
    (silent → (∀ bytes, Does (.twoWireWrite bytes) s (fun t => t = s)) ∧
      ∀ hi lo n ready, Does (.setPointerRead hi lo n ready) s (fun t => t = s) ∧ Does (.currentPointerRead n ready) s (fun t => t = s)) ∧
    (served →
      (∀ b, Does (.twoWireWrite [b]) s (fun t => counted t ∧ t.twb.ptr = s.twb.ptr ∧ Counts 4 9 s t)) ∧
      (∀ hi lo, Does (.twoWireWrite [hi, lo]) s (fun t => counted t ∧ t.twb.ptr = hi.toNat * 256 + lo.toNat)) ∧
      (∀ (hi lo b0 b1 b2 b3 : Byte) (row : RegRow),
        let a := hi.toNat * 256 + lo.toNat
        let w := b0.toNat + 256 * b1.toNat + 65536 * b2.toNat + 16777216 * b3.toNat
        a % 4 = 0 → a / 0x800 ∈ [3, 5, 8, 10] → 0x40 ≤ a % 0x800 → rowAt a = some row → row.acc = .rw → noBand a w = false →
        Answers (.twoWireWrite [hi, lo, b0, b1, b2, b3]) s (fun u => u.cfg = (s.wr a w).cfg ∧ u.rd a = w &&& row.mask ∧
          (∀ r, r ≠ a → u.rd r = s.rd r) ∧ u.now = s.now ∧ u.power = s.power)) ∧
      (∀ (hi lo b : Byte) (row : RegRow),
        let a := hi.toNat * 256 + lo.toNat
        let r := a - a % 4
        r / 0x800 ∈ [3, 5, 8, 10] → 0x40 ≤ r % 0x800 → rowAt r = some row → row.acc = .rw →
        noBand r (putBits (s.rd r) (8 * (a % 4)) 8 b.toNat) = false →
        Answers (.twoWireWrite [hi, lo, b]) s (fun u => u.rd r = putBits (s.rd r) (8 * (a % 4)) 8 b.toNat &&& row.mask ∧
          (∀ q, q ≠ r → u.rd q = s.rd q) ∧ u.now = s.now ∧ u.power = s.power)) ∧
      (∀ n ready, Does (.currentPointerRead n ready) s (reads s.twb.ptr n ready)) ∧
      (∀ (hi lo : Byte) n ready, Does (.setPointerRead hi lo n ready) s (reads (hi.toNat * 256 + lo.toNat) n ready))) ∧
    (s.regsUp = false → Does .targetTimeout s (fun t => t = s)) ∧
    (s.regsUp = true → Does .targetTimeout s (fun t => Counts 4 7 s t ∧ OnlyStatusCounts [Reg.TWB_TARGET_STAT] s t ∧
      t.stF Reg.TWB_TARGET_STAT 16 16 = satAdd 65535 (s.stF Reg.TWB_TARGET_STAT 16 16) 1)) ∧
    (s.twb.stretching = false → Does .wakeStretchTimeout s (fun t => t = s)) ∧
    (s.twb.stretching = true → Does .wakeStretchTimeout s (fun t => Counts 4 8 s t ∧ OnlyCounts s (bare t) ∧
      t.twb.stretching = false ∧ t.twb.lastRead = []))

/-- REGISTER_WRITE, SNAPSHOT_READ and MIRROR_WRITE (R387, R388, R404, R412): a register that cannot be written counts TWB source 10 and keeps
its value; a plain register of configuration takes the value, but for a Lichen frequency outside 600 MHz to 3.8 GHz, which counts LICHEN
source 10 and is not taken (R269); a read gives what its interface reads there and snapshots the wide value
that it leads; the mirror is read-only, MSI-X words are stored, the rest of BAR 2 discards a write. -/
def Obligations.RegisterAccess : Prop :=
  ∀ (s : State) (addr : Fin 65536),
    let a := addr.val - addr.val % 4
    let calmBus : Prop := s.regsUp = true ∧ s.sys.entering = none
    (s.regsUp = false → ∀ v, Does (.registerWrite addr v) s (fun t => t = s) ∧ Does (.snapshotRead .twoWire addr) s (fun t => t = s)) ∧
    (calmBus → ∀ v : Word,
      let bare (t : State) : State := { t with twb := { t.twb with addr := s.twb.addr, stretching := s.twb.stretching } }
      (writable a = false → Does (.registerWrite addr v) s (fun t => Counts 4 10 s t ∧ OnlyCounts s (bare t))) ∧
      (∀ row, a / 0x800 ∈ [3, 5, 8, 10] → 0x40 ≤ a % 0x800 → rowAt a = some row → row.acc = .rw → noBand a v.toNat = false →
        Does (.registerWrite addr v) s (fun t => Stores a v [] s (bare t) ∧ t.rd a = v.toNat &&& row.mask ∧
          ∀ r, r ≠ a → t.rd r = s.rd r)) ∧
      (noBand a v.toNat = true → Does (.registerWrite addr v) s (fun t => Counts 10 10 s t ∧ OnlyCounts s (bare t)))) ∧
    (calmBus → a < 0xC000 → Does (.snapshotRead .twoWire addr) s (fun t => t = { s with twb := t.twb } ∧
      t.twb = { s.twb with lastRead := leBytes 4 (s.regRead .twoWire a), shadow := t.twb.shadow } ∧
      ∀ k, groupLead a = some a → k ∈ groupRest a → t.shadowWord .twoWire k = s.live .twoWire k % 2 ^ 32)) ∧
    (s.pcie.up = false → ∀ v, Does (.snapshotRead .pcie addr) s (fun t => t = s) ∧ Does (.mirrorWrite addr v) s (fun t => t = s)) ∧
    (s.pcie.up = true → s.memOpen = false → ∀ v,
      let ur (t : State) : Prop := Counts 5 6 s t ∧ t.pcie = { s.pcie with lastStatus := 1, lastRead := [] } ∧
        OnlyCounts s { t with pcie := s.pcie }
      Does (.snapshotRead .pcie addr) s ur ∧ Does (.mirrorWrite addr v) s ur) ∧
    (s.pcie.up = true → s.memOpen = true →
      (a < 0xC000 → Does (.snapshotRead .pcie addr) s (fun t => t = { s with pcie := t.pcie } ∧
        t.pcie = { s.pcie with lastStatus := 0, lastRead := leBytes 4 (s.regRead .pcie a), shadow := t.pcie.shadow })) ∧
      ∀ v : Word,
        (addr.val < 0xF000 → Does (.mirrorWrite addr v) s (fun t => Counts 5 9 s t ∧ OnlyCounts s t)) ∧
        (∀ k, k < 64 → k % 4 ≠ 3 → addr.val = 0xF800 + 4 * k → Does (.mirrorWrite addr v) s (fun t => t = { s with pcie := t.pcie } ∧
          t.pcie = { s.pcie with msix := t.pcie.msix } ∧ NMap.get (fun _ => 0) t.pcie.msix k = v ∧
          ∀ j, j ≠ k → NMap.get (fun _ => 0) t.pcie.msix j = NMap.get (fun _ => 0) s.pcie.msix j)) ∧
        (0xF200 ≤ addr.val → addr.val < 0xF800 ∨ 0xF900 ≤ addr.val → Does (.mirrorWrite addr v) s (fun t => t = s)))

/-- The attention commands (R390–R394): an acknowledged message leaves the queue with its serial and source shown; a NACK costs an attempt,
the fourth the message; a lost arbitration draws a back-off of 50–200 µs; a bus that stays stuck fences the role. Nothing starts while
no message is due, in a retry wait or in a back-off. -/
def Obligations.AttentionCommands : Prop :=
  ∀ s : State,
    let bare (t : State) : State := { t with twb := { t.twb with sending := s.twb.sending, waiting := s.twb.waiting, attempt := s.twb.attempt
                                                                 backoff := s.twb.backoff, waitEnd := s.twb.waitEnd }, free := s.free }
    let drawn (t : State) : Prop := t.free = s.free + 1 ∧ ∃ us, t.twb.backoff = some us ∧ 50 ≤ us ∧ us ≤ 200
    let cleared (freed : Bool) (t : State) : Prop :=
      (freed = true → t = { s with twb := { s.twb with clearing := false, sdaLow := false } }) ∧
      (freed = false → Counts 4 5 s t ∧ t.isOut 4 0 = true ∧ t.twb.sdaLow = true ∧ t.twb.clearing = false ∧
        OnlyCounts s { t with twb := { t.twb with clearing := s.twb.clearing, sdaLow := s.twb.sdaLow } })
    (s.attnReady = false → (∀ o, Does (.attentionAttempt o) s (fun t => t = s)) ∧ Does .controllerSclTimeout s (fun t => t = s) ∧
      ∀ f, Does (.stuckBusDetected f) s (fun t => t = s)) ∧
    (s.attnReady = true →
      (∀ (m : Msg) (q : List Msg), s.twb.queue = m :: q → Does (.attentionAttempt .acked) s (fun t =>
        t.twb = { s.twb with queue := q, attempt := 0, waiting := false } ∧
        t.st Reg.TWB_ATTN_SENT = satAdd (2 ^ 32 - 1) (s.st Reg.TWB_ATTN_SENT) 1 ∧
        t.st Reg.TWB_LAST_MSG_LO = ofLe ((m.bytes s.twb.strap).take 4) ∧ t.st Reg.TWB_LAST_MSG_HI = ofLe ((m.bytes s.twb.strap).drop 4) ∧
        OnlyStatus [Reg.TWB_ATTN_SENT, Reg.TWB_LAST_MSG_LO, Reg.TWB_LAST_MSG_HI] s { t with twb := s.twb })) ∧
      (s.twb.attempt < 3 → Does (.attentionAttempt .nacked) s (fun t => Counts 4 0 s t ∧ t.twb.attempt = s.twb.attempt + 1 ∧
        t.twb.waiting = true ∧ t.twb.waitEnd = s.now + 2 ^ s.twb.attempt * msTime ∧ t.twb.queue.head? = s.twb.queue.head? ∧
        OnlyCounts s (bare t))) ∧
      (3 ≤ s.twb.attempt → Does (.attentionAttempt .nacked) s (fun t => Counts 4 0 s t ∧ Counts 4 1 s t ∧ t.twb.attempt = 0 ∧
        t.twb.waiting = false ∧ bitsAt t.twb.drops 0 16 = satAdd 65535 (bitsAt s.twb.drops 0 16) 1 ∧ OnlyCounts s (bare t))) ∧
      Does (.attentionAttempt .arbLost) s (fun t => Counts 4 3 s t ∧ drawn t ∧
        t.stF Reg.TWB_ARB_LOST 0 16 = satAdd 65535 (s.stF Reg.TWB_ARB_LOST 0 16) 1 ∧ t.twb.attempt = s.twb.attempt ∧
        OnlyStatusCounts [Reg.TWB_ARB_LOST] s (bare t)) ∧
      Does (.attentionAttempt .arbLostToSelf) s (fun t => Counts 4 3 s t ∧ Counts 4 4 s t ∧
        t.stF Reg.TWB_ARB_LOST 16 16 = satAdd 65535 (s.stF Reg.TWB_ARB_LOST 16 16) 1 ∧ OnlyStatusCounts [Reg.TWB_ARB_LOST] s (bare t)) ∧
      (∀ c ∈ [Instr.attentionAttempt .sclTimeout, .controllerSclTimeout], Does c s (fun t => Counts 4 6 s t ∧
        t.twb.attempt = s.twb.attempt ∧ t.twb.queue.head? = s.twb.queue.head? ∧ OnlyCounts s (bare t))) ∧
      ∀ f : Option (Fin 10), Does (.stuckBusDetected f) s (cleared f.isSome)) ∧
    (s.regsUp = true → (∀ f : Option (Fin 10), Does (.busClear f) s (cleared f.isSome)) ∧
      Does .attnFlush s (fun t => t = { s with twb := t.twb } ∧ t.twb.drops = s.twb.drops ∧
        t.twb.queue = if s.twb.sending = true then s.twb.queue.take 1 else [])) ∧
    (s.regsUp = false → (∀ f, Does (.busClear f) s (fun t => t = s)) ∧ Does .attnFlush s (fun t => t = s)) ∧
    (s.isUp = true →
      (s.syn.timeRuns = false ∨ s.twb.waitEnd ≤ s.now →
        Does .attentionRetryWaitEnd s (fun t => t = { s with twb := { s.twb with waiting := false } })) ∧
      (s.syn.timeRuns = true → s.now < s.twb.waitEnd → Does .attentionRetryWaitEnd s (fun t => t = s)) ∧
      Does .arbitrationBackoffEnd s (fun t => t = { s with twb := { s.twb with backoff := none } }) ∧
      (s.twb.backoff ≠ none → Does .busStartDuringBackoff s (fun t => drawn t ∧
        t = { s with twb := { s.twb with backoff := t.twb.backoff }, free := t.free })) ∧
      (s.twb.backoff = none → Does .busStartDuringBackoff s (fun t => t = s))) ∧
    (s.isUp = false → ∀ c ∈ [Instr.attentionRetryWaitEnd, .arbitrationBackoffEnd, .busStartDuringBackoff], Does c s (fun t => t = s))

/-! ### The endpoint (R283, R294, R296, R402–R409) -/

/-- The Bog window (R402, R283, R294, R296): a read of readable, sound codewords returns the bytes as they stand and changes none; a write
stores its bytes and no others; neither reaches a closed channel (source 15), and no write a region or a pattern in use (BOG source 20);
a poisoned write is discarded; requests outside D0 with memory enabled are unsupported. -/
def Obligations.BogWindow : Prop :=
  ∀ (s : State) (a : BogAccess),
    let n := min a.len 4096
    let w := a.data.length
    let up : Prop := s.pcie.up = true ∧ s.memOpen = true
    let ur (src : Nat) (t : State) : Prop := Counts 5 src s t ∧ t.pcie = { s.pcie with lastStatus := 1, lastRead := [] } ∧
      OnlyCounts s { t with pcie := s.pcie }
    let rest (t : State) : Prop := t.power = s.power ∧ t.cfg = s.cfg ∧ t.now = s.now ∧ t.slots = s.slots ∧ t.lock = s.lock ∧
      t.pcie.up = s.pcie.up ∧ t.sys = s.sys
    (s.pcie.up = false → Does (.bar0Read a) s (fun t => t = s) ∧ Does (.bar0Write a) s (fun t => t = s)) ∧
    (s.pcie.up = true → s.memOpen = false → Does (.bar0Read a) s (ur 6) ∧ Does (.bar0Write a) s (ur 6)) ∧
    (up → s.bogClosed (accessChans a n) = true → Does (.bar0Read a) s (ur 15)) ∧
    (up → s.bogClosed (accessChans a n) = false → Does (.bar0Read a) s (fun t => t.pcie.lastStatus = 0 ∧ t.pcie.lastRead.length = n ∧
      t.pcie.rdBytes = s.pcie.rdBytes + n ∧ (∀ i, t.bog.byte i = s.bog.byte i) ∧ rest t ∧
      (∀ k, k < n → (a.addr + k) / 32 ∉ a.ue → t.pcie.lastRead[k]? = some (s.bog.byte (a.addr + k))))) ∧
    (up → a.poisoned = true → Does (.bar0Write a) s (fun t => Counts 5 5 s t ∧ OnlyCounts s t)) ∧
    (up → a.poisoned = false → s.bogClosed (accessChans a w) = true → Does (.bar0Write a) s (ur 15)) ∧
    (up → a.poisoned = false → s.bogClosed (accessChans a w) = false →
      (s.writeBarred a.addr w = true → Does (.bar0Write a) s (fun t => Counts 19 20 s t ∧ (∀ i, t.bog.byte i = s.bog.byte i) ∧
        t.pcie = s.pcie ∧ rest t)) ∧
      (s.writeBarred a.addr w = false → Does (.bar0Write a) s (fun t => t.bog.read a.addr w = a.data ∧ t.pcie.wrBytes = s.pcie.wrBytes + w ∧
        t.pcie.lastStatus = 0 ∧ rest t ∧
        (∀ i, i < a.addr ∨ a.addr + w ≤ i → i / 32 ∉ a.ue ∨ (∀ j, a.addr ≤ j → j < a.addr + w → i / 32 ≠ j / 32) →
          t.bog.byte i = s.bog.byte i) ∧
        ∀ p, p < 16 → overlap (s.patBase p) (s.patBytes p) a.addr w = true → (t.bog.pat p).loaded = false))) ∧
    ∀ c : Fin 8,
      (s.power = .shutdown → Does (.selfRefreshIdleTimeout c) s (fun t => t = { s with bog := { s.bog with awake := t.bog.awake } } ∧
        t.bog.awake.getLsbD c = false ∧ ∀ d : Fin 8, d ≠ c → t.bog.awake.getLsbD d = s.bog.awake.getLsbD d)) ∧
      (s.power ≠ .shutdown → Does (.selfRefreshIdleTimeout c) s (fun t => t = s))

/-- The doorbells (R405, R406): a capture doorbell does what the Bog command of its OP does, and DB_STAT shows the outcome with OP and TAG;
a refused ARM counts PCIE source 8; START asks for the playback, pending until its outcome; STOP ends what plays of its pattern. A
malformed write counts source 7; with the link down nothing happens, outside D0 the request is unsupported. -/
def Obligations.Doorbells : Prop :=
  ∀ s : State,
    let stat (db : Nat) (t : State) : Nat := (NMap.get (fun _ => (0 : Word)) t.pcie.dbStat db).toNat
    let open_ : Prop := s.pcie.up = true ∧ s.memOpen = true
    let with_ (db : Nat) (word : Nat) (u t : State) : Prop := t = { u with pcie := { u.pcie with dbStat := t.pcie.dbStat } } ∧ stat db t = word ∧
      ∀ x, x ≠ db → stat x t = stat x u
    (∀ (n : Fin 8) (tag : Fin 256),
      let db := captDb n
      (open_ → Does (.bogTrigger n) s (fun u => Does (.captureDoorbellTrigger n tag) s (with_ db (1 + 16 * 2 + 256 * tag.val) u)) ∧
        Does (.bogStop n) s (fun u => Does (.captureDoorbellStop n tag) s (with_ db (1 + 16 * 3 + 256 * tag.val) u)) ∧
        Does (.bogClear n) s (fun u => Does (.captureDoorbellClear n tag) s (with_ db (1 + 16 * 4 + 256 * tag.val) u))) ∧
      (open_ → (s.bog.region n).active = false → s.armLayout n = true →
        Does (.bogArm n) s (fun u => Does (.captureDoorbellArm n tag) s (with_ db (1 + 16 * 1 + 256 * tag.val) u))) ∧
      (open_ → (s.bog.region n).active = true ∨ s.armLayout n = false → Does (.captureDoorbellArm n tag) s (fun t =>
        Counts 19 19 s t ∧ Counts 5 8 s t ∧ OnlyStatusCounts [Reg.BOG_CMD_STATUS] s { t with pcie := s.pcie } ∧
        stat db t = (if (s.bog.region n).active = true then 3 else 2) + 16 * 1 + 256 * tag.val)) ∧
      (s.pcie.up = false → ∀ c ∈ [Instr.captureDoorbellArm n tag, .captureDoorbellTrigger n tag, .captureDoorbellStop n tag,
        .captureDoorbellClear n tag], Does c s (fun t => t = s))) ∧
    (∀ (p : Fin 16) (tag : Fin 256),
      let db := playDb p
      let d := s.patDir p
      (open_ → Calm s → (s.bog.pat p).loaded = true → s.patTransmit p = false → s.dirSt d ≠ .muted →
        Does (.playbackDoorbellStart p tag) s (fun t => stat db t = 4 + 16 * 1 + 256 * tag.val ∧ t.dirSt d = s.dirSt d ∧
          t.dirRec d.other = s.dirRec d.other ∧ t.cfg = s.cfg ∧ (t.dirRec d).trans =
          some { target := .playback, cause := 0, no := s.sys.serial + 1, tag := hostTag tag, pattern := some p, doorbell := some db, start := s.now })) ∧
      (open_ → s.patPlays p = false → Does (.playbackDoorbellStop p tag) s (fun t => Counts 5 8 s t ∧
        stat db t = 3 + 16 * 2 + 256 * tag.val ∧ OnlyCounts s { t with pcie := s.pcie })) ∧
      (∀ e x, open_ → s.playing e = some x → x.pattern = p → Does (.playbackDoorbellStop p tag) s (fun t => t.playing e = none ∧
        stat db t = 1 + 16 * 2 + 256 * tag.val ∧ t.cfg = s.cfg ∧ t.power = s.power)) ∧
      (s.pcie.up = false → Does (.playbackDoorbellStart p tag) s (fun t => t = s) ∧ Does (.playbackDoorbellStop p tag) s (fun t => t = s))) ∧
    ∀ (off : Fin 65536) (v : Word),
      (open_ → Does (.doorbellMalformed off v) s (fun t => Counts 5 7 s t ∧ OnlyCounts s t)) ∧
      (s.pcie.up = false → Does (.doorbellMalformed off v) s (fun t => t = s)) ∧
      (s.pcie.up = true → s.memOpen = false → Does (.doorbellMalformed off v) s (fun t => Counts 5 6 s t ∧ t.pcie.lastStatus = 1))

/-- Link, reset and configuration of the endpoint (R404, R407–R409): the link trains within LINK_CFG where it may, its loss counts in DOWNS
and source 0; PERST_N and a function-level reset take configuration, BARs and the MSI-X table to their reset values; an unmasked vector
sends what was pending; a configuration request is retried before a start has ended and unsupported while SLEEP is being entered. -/
def Obligations.EndpointCommands : Prop :=
  ∀ s : State,
    let fresh (t : State) : Prop := t.pcie.up = false ∧ t.pcie.d3 = false ∧ t.pcie.bar0 = 0 ∧ t.pcie.bar2 = 0 ∧ t.pcie.memEnable = false ∧
      t.pcie.busMaster = false ∧ t.pcie.msixEnable = false ∧ t.pcie.msix = [] ∧ t.pcie.pending = 0 ∧ t.pcie.vecMask = 0xFFFF ∧
      t.pcie.subsys.toNat = s.rd Reg.PCIE_SUBSYS ∧ OnlyStatus [Reg.PCIE_LINK_STAT] s { t with pcie := s.pcie }
    let downs (t : State) : Prop := t.stF Reg.PCIE_LINK_STAT 16 16 = satAdd 65535 (s.stF Reg.PCIE_LINK_STAT 16 16) 1
    (∀ gen width : Nat,
      (s.mayTrain = false → Does (.pcieLinkUp gen width) s (fun t => t = s)) ∧
      (s.mayTrain = true → Does (.pcieLinkUp gen width) s (fun t => t.pcie.up = true ∧ 1 ≤ t.pcie.gen ∧ t.pcie.gen ≤ s.maxGen ∧
        t.pcie.width ∈ [1, 2, 4] ∧ t.pcie.width ≤ s.maxWidth ∧
        (1 ≤ gen → gen ≤ s.maxGen → t.pcie.gen = gen) ∧ (width = 1 ∨ width = 2 ∨ width = 4 → width ≤ s.maxWidth → t.pcie.width = width) ∧
        (t.pcie.gen < s.maxGen ∨ t.pcie.width < s.maxWidth → Counts 5 1 s t) ∧ OnlyCounts s { t with pcie := s.pcie } ∧
        (t.pcie.gen = s.maxGen → t.pcie.width = s.maxWidth → t = { s with pcie := t.pcie })))) ∧
    (s.pcie.up = false → Does .pcieLinkDown s (fun t => t = s) ∧ Does (.perst true) s (fun t => t = s)) ∧
    (s.pcie.up = true → Does .pcieLinkDown s (fun t => t.pcie = { s.pcie with up := false, gen := 0, width := 0 } ∧ downs t ∧
        Counts 5 0 s t ∧ OnlyStatusCounts [Reg.PCIE_LINK_STAT] s { t with pcie := s.pcie }) ∧
      Does (.perst true) s (fun t => fresh t ∧ downs t ∧ t.pcie.perst = s.pcie.perst)) ∧
    Does (.perst false) s (fun t => fresh t ∧ t.pcie.perst = true ∧ (s.pcie.up = true → downs t)) ∧
    Does .perstNDeassertion s (fun t => t = { s with pcie := { s.pcie with perst := false } }) ∧
    (∀ v : Fin 16, s.pcie.up = true → s.memOpen = true → Does (.msixUnmask (some v)) s (fun t => t.pcie.vecMask.getLsbD v = false ∧
      OnlyStatus [Reg.PCIE_MSG_COUNT] s { t with pcie := s.pcie } ∧ (∀ u : Fin 16, u ≠ v → t.pcie.vecMask.getLsbD u = s.pcie.vecMask.getLsbD u) ∧
      (s.pcie.msixEnable = true → s.pcie.funcMask = false → s.pcie.busMaster = true → t.pcie.pending.getLsbD v = false))) ∧
    (s.pcie.up = true → s.isUp = true → Does (.msixUnmask none) s (fun t => t.pcie.funcMask = false ∧ t.pcie.vecMask = s.pcie.vecMask ∧
      OnlyStatus [Reg.PCIE_MSG_COUNT] s { t with pcie := s.pcie })) ∧
    ∀ op : ConfigOp,
      (s.pcie.up = false → Does (.configRequest op) s (fun t => t = s) ∧ ∀ v, Does (.msixUnmask v) s (fun t => t = s)) ∧
      (s.pcie.up = true → s.sys.entering ≠ none → Does (.configRequest op) s (fun t => Counts 5 6 s t ∧
        t.pcie = { s.pcie with lastStatus := 1, lastRead := [] } ∧ OnlyCounts s { t with pcie := s.pcie })) ∧
      (s.pcie.up = true → s.sys.entering = none → s.isUp = false → Does (.configRequest op) s (fun t =>
        t = { s with pcie := { s.pcie with lastStatus := 2, lastRead := [] } })) ∧
      (s.pcie.up = true → s.sys.entering = none → s.isUp = true → Does (.configRequest op) s (fun t =>
        match op with
        | .read o => t = { s with pcie := { s.pcie with lastStatus := 0, lastRead := leBytes 4 (s.configWord o).toNat } }
        | .setBar0 b => t = { s with pcie := { s.pcie with lastStatus := 0, lastRead := [], bar0 := b % 2 ^ 64 / 2 ^ 34 * 2 ^ 34 } }
        | .setBar2 b => t = { s with pcie := { s.pcie with lastStatus := 0, lastRead := [], bar2 := b % 2 ^ 32 / 2 ^ 16 * 2 ^ 16 } }
        | .command m b => t.pcie.memEnable = m ∧ t.pcie.busMaster = b ∧ OnlyStatus [Reg.PCIE_MSG_COUNT] s { t with pcie := s.pcie }
        | .power d => t.pcie.d3 = d ∧ OnlyStatus [Reg.PCIE_MSG_COUNT] s { t with pcie := s.pcie }
        | .msixControl e m => t.pcie.msixEnable = e ∧ t.pcie.funcMask = m ∧ OnlyStatus [Reg.PCIE_MSG_COUNT] s { t with pcie := s.pcie }
        | .flr => fresh t ∧ downs t))
end

