-- ==== Sys2Proof/Laws/NMap.lean ====
section
/-! SUPPORT. Laws of the stores (NMap): a read after a write at the same key gives the value written, a write leaves every other key
alone, and every operation keeps the canonical form. -/

namespace Sys2Proof.Machine

variable {α : Type}

@[simp] theorem NMap.get_nil (d : Nat → α) (k : Nat) : NMap.get d [] k = d k := rfl

@[simp] theorem NMap.get_ins_same (d : Nat → α) (m : NMap α) (k : Nat) (v : α) : (NMap.ins m k v).get d k = v := by
  induction m with
  | nil => simp [NMap.ins, NMap.get]
  | cons e t ih =>
    obtain ⟨j, w⟩ := e
    simp only [NMap.ins]
    split
    · simp [NMap.get]
    · split
      · simp [NMap.get]
      · rename_i h; simp [NMap.get, h, ih]

theorem NMap.get_ins_ne (d : Nat → α) (m : NMap α) {k k' : Nat} (v : α) (h : k' ≠ k) :
    (NMap.ins m k v).get d k' = NMap.get d m k' := by
  induction m with
  | nil => simp [NMap.ins, NMap.get, Ne.symm h]
  | cons e t ih =>
    obtain ⟨j, w⟩ := e
    simp only [NMap.ins]
    split
    · simp [NMap.get, Ne.symm h]
    · split
      · rename_i hj; subst hj; simp [NMap.get, Ne.symm h]
      · simp [NMap.get, ih]

@[simp] theorem NMap.get_del_same (d : Nat → α) (m : NMap α) (k : Nat) : (NMap.del m k).get d k = d k := by
  induction m with
  | nil => rfl
  | cons e t ih =>
    obtain ⟨j, w⟩ := e
    simp only [NMap.del]
    split
    · exact ih
    · rename_i h; simp [NMap.get, h, ih]

theorem NMap.get_del_ne (d : Nat → α) (m : NMap α) {k k' : Nat} (h : k' ≠ k) :
    (NMap.del m k).get d k' = NMap.get d m k' := by
  induction m with
  | nil => rfl
  | cons e t ih =>
    obtain ⟨j, w⟩ := e
    simp only [NMap.del]
    split
    · rename_i hj; subst hj; rw [ih]; simp [NMap.get, Ne.symm h]
    · simp [NMap.get, ih]

/-! ### The canonical form -/

theorem NMap.rising_weaken {m : NMap α} {a b : Nat} (h : NMap.rising (some b) m = true) (hab : a ≤ b) :
    NMap.rising (some a) m = true := by
  cases m with
  | nil => rfl
  | cons e t => obtain ⟨j, w⟩ := e; simp [NMap.rising] at *; exact ⟨by omega, h.2⟩

theorem NMap.rising_none {m : NMap α} {a : Nat} (h : NMap.rising (some a) m = true) : NMap.rising none m = true := by
  cases m with
  | nil => rfl
  | cons e t => obtain ⟨j, w⟩ := e; simp [NMap.rising] at *; exact h.2

theorem NMap.rising_del (m : NMap α) (lo : Option Nat) (k : Nat) (h : NMap.rising lo m = true) :
    NMap.rising lo (NMap.del m k) = true := by
  induction m generalizing lo with
  | nil => exact h
  | cons e t ih =>
    obtain ⟨j, w⟩ := e
    simp only [NMap.del]
    cases lo with
    | none =>
      simp only [NMap.rising] at h
      split
      · exact NMap.rising_none (ih _ h)
      · simp only [NMap.rising]; exact ih _ h
    | some a =>
      simp only [NMap.rising, Bool.and_eq_true, decide_eq_true_eq] at h
      split
      · exact NMap.rising_weaken (ih _ h.2) (by omega)
      · simp only [NMap.rising, Bool.and_eq_true, decide_eq_true_eq]; exact ⟨h.1, ih _ h.2⟩

theorem NMap.rising_ins (m : NMap α) (lo : Option Nat) (k : Nat) (v : α) (h : NMap.rising lo m = true)
    (hk : ∀ a, lo = some a → a < k) : NMap.rising lo (NMap.ins m k v) = true := by
  induction m generalizing lo with
  | nil => cases lo <;> simp_all [NMap.ins, NMap.rising]
  | cons e t ih =>
    obtain ⟨j, w⟩ := e
    have ht : NMap.rising (some j) t = true := by cases lo <;> simp_all [NMap.rising]
    simp only [NMap.ins]
    split
    · rename_i hkj
      cases lo <;> simp_all [NMap.rising]
    · split
      · rename_i hjk; subst hjk; cases lo <;> simp_all [NMap.rising]
      · have := ih (some j) ht (by intro a ha; cases ha; omega)
        cases lo <;> simp_all [NMap.rising]

theorem NMap.mem_del {m : NMap α} {k : Nat} {e : Nat × α} (h : e ∈ NMap.del m k) : e ∈ m := by
  induction m with
  | nil => exact h
  | cons x t ih =>
    obtain ⟨j, w⟩ := x
    simp only [NMap.del] at h
    split at h
    · exact List.mem_cons_of_mem _ (ih h)
    · rcases List.mem_cons.mp h with h | h
      · simp [h]
      · exact List.mem_cons_of_mem _ (ih h)

theorem NMap.mem_ins {m : NMap α} {k : Nat} {v : α} {e : Nat × α} (h : e ∈ NMap.ins m k v) : e = (k, v) ∨ e ∈ m := by
  induction m with
  | nil => exact .inl (by simpa [NMap.ins] using h)
  | cons x t ih =>
    obtain ⟨j, w⟩ := x
    simp only [NMap.ins] at h
    split at h
    · simpa using h
    · split at h
      · rcases List.mem_cons.mp h with h | h
        · exact .inl h
        · exact .inr (List.mem_cons_of_mem _ h)
      · rcases List.mem_cons.mp h with h | h
        · exact .inr (by simp [h])
        · exact (ih h).imp id (List.mem_cons_of_mem _)

/-! ### Writes -/

variable [DecidableEq α]

/-- A read after a write at the same key. -/
@[simp] theorem NMap.get_put_same (d : Nat → α) (m : NMap α) (k : Nat) (v : α) : (NMap.put d m k v).get d k = v := by
  unfold NMap.put; split
  · rename_i h; simp [h]
  · simp

/-- A write leaves every other key alone. -/
theorem NMap.get_put_ne (d : Nat → α) (m : NMap α) {k k' : Nat} (v : α) (h : k' ≠ k) :
    (NMap.put d m k v).get d k' = NMap.get d m k' := by
  unfold NMap.put; split
  · exact NMap.get_del_ne d m h
  · exact NMap.get_ins_ne d m v h

theorem NMap.get_put (d : Nat → α) (m : NMap α) (k k' : Nat) (v : α) :
    (NMap.put d m k v).get d k' = if k' = k then v else NMap.get d m k' := by
  split
  · rename_i h; subst h; simp
  · rename_i h; exact NMap.get_put_ne d m v h

/-- A read after every listed value has been changed, where the change leaves the value of an unlisted key as it is. -/
theorem NMap.get_mapVal (d : Nat → α) (m : NMap α) (f : Nat → α → α) (k : Nat) (hd : f k (d k) = d k) :
    NMap.get d (NMap.mapVal d m f) k = f k (NMap.get d m k) := by
  induction m with
  | nil => exact hd.symm
  | cons e t ih =>
    obtain ⟨j, w⟩ := e
    by_cases hj : j = k
    · subst hj
      by_cases h : f j w = d j
      · simp [NMap.mapVal, h, NMap.get]
      · simp [NMap.mapVal, h, NMap.get]
    · by_cases h : f j w = d j
      · simp [NMap.mapVal, h, NMap.get, hj, NMap.get_del_ne d _ (Ne.symm hj), ih]
      · simp [NMap.mapVal, h, NMap.get, hj, ih]

/-- Every write keeps the canonical form. -/
theorem NMap.put_wf (d : Nat → α) (m : NMap α) (k : Nat) (v : α) (h : NMap.wf d m = true) : NMap.wf d (NMap.put d m k v) = true := by
  simp only [NMap.wf, Bool.and_eq_true, List.all_eq_true, decide_eq_true_eq] at *
  unfold NMap.put
  split
  · exact ⟨NMap.rising_del m none k h.1, fun e he => h.2 e (NMap.mem_del he)⟩
  · rename_i hv
    refine ⟨NMap.rising_ins m none k v h.1 (by simp), fun e he => ?_⟩
    rcases NMap.mem_ins he with rfl | he
    · exact hv
    · exact h.2 e he

theorem NMap.rising_mapVal (d : Nat → α) (m : NMap α) (f : Nat → α → α) (lo : Option Nat) (h : NMap.rising lo m = true) :
    NMap.rising lo (NMap.mapVal d m f) = true := by
  induction m generalizing lo with
  | nil => exact h
  | cons e t ih =>
    obtain ⟨j, w⟩ := e
    have ht : NMap.rising (some j) t = true := by cases lo <;> simp_all [NMap.rising]
    by_cases hf : f j w = d j
    · have := NMap.rising_del _ _ j (ih (some j) ht)
      cases lo with
      | none => simpa [NMap.mapVal, hf] using NMap.rising_none this
      | some a =>
        have hl : a < j := by simp [NMap.rising] at h; exact h.1
        simpa [NMap.mapVal, hf] using NMap.rising_weaken this (by omega)
    · have := ih (some j) ht
      cases lo <;> simp_all [NMap.mapVal, NMap.rising]

theorem NMap.mem_mapVal {d : Nat → α} {m : NMap α} {f : Nat → α → α} {e : Nat × α} (h : e ∈ NMap.mapVal d m f) : e.2 ≠ d e.1 := by
  induction m with
  | nil => simp [NMap.mapVal] at h
  | cons x t ih =>
    obtain ⟨j, w⟩ := x
    by_cases hf : f j w = d j
    · simp only [NMap.mapVal, hf, if_true] at h
      exact ih (NMap.mem_del h)
    · simp only [NMap.mapVal, hf, if_false, List.mem_cons] at h
      rcases h with rfl | h
      · exact hf
      · exact ih h

/-- A change of every listed value keeps the canonical form. -/
theorem NMap.mapVal_wf (d : Nat → α) (m : NMap α) (f : Nat → α → α) (h : NMap.wf d m = true) :
    NMap.wf d (NMap.mapVal d m f) = true := by
  simp only [NMap.wf, Bool.and_eq_true, List.all_eq_true, decide_eq_true_eq] at *
  exact ⟨NMap.rising_mapVal d m f none h.1, fun e he => NMap.mem_mapVal he⟩

end Sys2Proof.Machine
end

