-- ==== Sys2Proof/Laws/Still.lean ====
section
/-! SUPPORT. The frame of the end of an instant (State.settle): what no part of it touches, as one projection of the state (Still)
that every operation it uses leaves equal. -/

namespace Sys2Proof.Machine

set_option linter.unusedTactic false
set_option linter.unreachableTactic false
set_option linter.unusedSimpArgs false

/-- What the end of an instant leaves alone; the registers that it may write (instantRegs) read zero here. -/
structure Still where

  power : Power
  lev : Levels
  now : Nat
  cfg : RegFile
  boot : BootState
  conv : ConvState
  slots : NMap SlotRec
  lock : LockState
  sync : SyncState
  lichen : LichenState
  bix : BixState
  therm : ThermState
  regs : Nat → Nat

def State.still (s : State) : Still :=
  { power := s.power, lev := s.lev, now := s.now, cfg := s.cfg, boot := s.boot, conv := s.conv, slots := s.slots, lock := s.lock, sync := s.sync, lichen := s.lichen, bix := s.bix, therm := s.therm
    regs := fun a => if a ∈ instantRegs then 0 else s.st a }

theorem still_upd (s : State) (v_free v_flt v_sys v_mram v_syn v_echo v_gov v_govDl v_govUl v_loop v_front v_bog v_hk v_peat v_twb v_pcie v_watch v_pending) :
    State.still { s with free := v_free, flt := v_flt, sys := v_sys, mram := v_mram, syn := v_syn, echo := v_echo, gov := v_gov, govDl := v_govDl, govUl := v_govUl, loop := v_loop, front := v_front, bog := v_bog, hk := v_hk, peat := v_peat, twb := v_twb, pcie := v_pcie, watch := v_watch, pending := v_pending } = s.still := rfl
theorem still_bog (s : State) (b : BogState) : State.still { s with bog := b } = s.still := rfl

theorem setSt_still (s : State) (a n : Nat) (h : a ∈ instantRegs) : (s.setSt a n).still = s.still := by
  have hr : ∀ b, (if b ∈ instantRegs then 0 else (s.setSt a n).st b) = if b ∈ instantRegs then 0 else s.st b := by
    intro b
    by_cases hb : b ∈ instantRegs
    · simp [hb]
    · have : b ≠ a := fun hba => hb (hba ▸ h)
      simp [hb, State.st, State.setSt, NMap.get_put_ne _ _ _ this]
  have : (s.setSt a n).still = { s.still with regs := (s.setSt a n).still.regs } := rfl
  rw [this]; simp only [State.still, hr]

theorem mem_dirStat (d : Dir) : Reg.CHAN_DIR_STAT d ∈ instantRegs := by cases d <;> decide
theorem mem_gateCount (d : Dir) : Reg.CHAN_GATE_COUNT d ∈ instantRegs := by cases d <;> decide

theorem foldl_still {α : Type} (l : List α) (f : State → α → State) (h : ∀ s a, (f s a).still = s.still) (s : State) :
    (l.foldl f s).still = s.still := by
  induction l generalizing s with
  | nil => rfl
  | cons a t ih => simp only [List.foldl_cons, ih, h]

theorem setStF_still (s : State) (a lo len v : Nat) (h : a ∈ instantRegs) : (s.setStF a lo len v).still = s.still := setSt_still s a _ h

theorem bumpF_still (s : State) (a lo w k : Nat) (h : a ∈ instantRegs) : (s.bumpF a lo w k).still = s.still := setSt_still s a _ h

theorem bump_still (s : State) (a k : Nat) (h : a ∈ instantRegs) : (s.bump a k).still = s.still := setSt_still s a _ h

theorem raise_still (s : State) (b n : Nat) (u : Option Nat) : (s.raise b n u).still = s.still := rfl
theorem raiseEvs_still (s : State) (es : List Ev) : (s.raiseEvs es).still = s.still := rfl
theorem raiseIf_still (s : State) (c : Bool) (b n : Nat) (u : Option Nat) : (s.raiseIf c b n u).still = s.still := by cases c <;> rfl

theorem setDir_still (s : State) (d : Dir) (r : DirRec) : (State.setDir s d r).still = s.still := by
  unfold State.setDir; (try dsimp only)
  repeat' first | with_reducible rfl | (with_reducible refine (foldl_still _ _ ?_ _).trans ?_; intro _ _; try dsimp only) | simp (disch := first | decide | exact mem_dirStat _ | exact mem_gateCount _) only [still_upd] | split

theorem alignNow_still (s : State) (d : Dir) : (State.alignNow s d).still = s.still := by
  unfold State.alignNow; (try dsimp only)
  repeat' first | with_reducible rfl | (with_reducible refine (foldl_still _ _ ?_ _).trans ?_; intro _ _; try dsimp only) | simp (disch := first | decide | exact mem_dirStat _ | exact mem_gateCount _) only [setDir_still] | split

theorem alignAll_still (s : State) : (State.alignAll s).still = s.still := by
  unfold State.alignAll; (try dsimp only)
  repeat' first | with_reducible rfl | (with_reducible refine (foldl_still _ _ ?_ _).trans ?_; intro _ _; try dsimp only) | simp (disch := first | decide | exact mem_dirStat _ | exact mem_gateCount _) only [alignNow_still] | split

theorem closeHandlings_still (s : State) : (State.closeHandlings s).still = s.still := by
  unfold State.closeHandlings; (try dsimp only)
  repeat' first | with_reducible rfl | (with_reducible refine (foldl_still _ _ ?_ _).trans ?_; intro _ _; try dsimp only) | simp (disch := first | decide | exact mem_dirStat _ | exact mem_gateCount _) only [still_upd] | split

theorem dbStat_still (s : State) (db result op tag code : Nat) : (State.dbStat s db result op tag code).still = s.still := by
  unfold State.dbStat; (try dsimp only)
  repeat' first | with_reducible rfl | (with_reducible refine (foldl_still _ _ ?_ _).trans ?_; intro _ _; try dsimp only) | simp (disch := first | decide | exact mem_dirStat _ | exact mem_gateCount _) only [still_upd] | split

theorem dbOutcome_still (s : State) (db : Option Nat) (result code : Nat) : (State.dbOutcome s db result code).still = s.still := by
  unfold State.dbOutcome; (try dsimp only)
  repeat' first | with_reducible rfl | (with_reducible refine (foldl_still _ _ ?_ _).trans ?_; intro _ _; try dsimp only) | simp (disch := first | decide | exact mem_dirStat _ | exact mem_gateCount _) only [dbStat_still] | split

theorem reqEnd_still (s : State) (no tag status : Nat) : (State.reqEnd s no tag status).still = s.still := by
  unfold State.reqEnd; (try dsimp only)
  repeat' first | with_reducible rfl | (with_reducible refine (foldl_still _ _ ?_ _).trans ?_; intro _ _; try dsimp only) | simp (disch := first | decide | exact mem_dirStat _ | exact mem_gateCount _) only [still_upd] | split

theorem holdReq_still (s : State) (q : Req) (w : Wait) : (State.holdReq s q w).still = s.still := by
  unfold State.holdReq; (try dsimp only)
  repeat' first | with_reducible rfl | (with_reducible refine (foldl_still _ _ ?_ _).trans ?_; intro _ _; try dsimp only) | simp (disch := first | decide | exact mem_dirStat _ | exact mem_gateCount _) only [reqEnd_still, dbOutcome_still, still_upd] | split

theorem abandonTrans_still (s : State) (d : Dir) : (State.abandonTrans s d).still = s.still := by
  unfold State.abandonTrans; (try dsimp only)
  repeat' first | with_reducible rfl | (with_reducible refine (foldl_still _ _ ?_ _).trans ?_; intro _ _; try dsimp only) | simp (disch := first | decide | exact mem_dirStat _ | exact mem_gateCount _) only [dbOutcome_still, setDir_still, reqEnd_still, still_upd] | split

theorem overtakeReturns_still (s : State) (ds : List Dir) : (State.overtakeReturns s ds).still = s.still := by
  unfold State.overtakeReturns; (try dsimp only)
  repeat' first | with_reducible rfl | (with_reducible refine (foldl_still _ _ ?_ _).trans ?_; intro _ _; try dsimp only) | simp (disch := first | decide | exact mem_dirStat _ | exact mem_gateCount _) only [abandonTrans_still] | split

theorem setEcho_still (s : State) (d : Dir) (n : Nat) (r : EchoRec) : (State.setEcho s d n r).still = s.still := by
  unfold State.setEcho; (try dsimp only)
  repeat' first | with_reducible rfl | (with_reducible refine (foldl_still _ _ ?_ _).trans ?_; intro _ _; try dsimp only) | simp (disch := first | decide | exact mem_dirStat _ | exact mem_gateCount _) only [still_upd] | split

theorem echoHoldSlot_still (s : State) (d : Dir) (n : Nat) : (State.echoHoldSlot s d n).still = s.still := by
  unfold State.echoHoldSlot; (try dsimp only)
  repeat' first | with_reducible rfl | (with_reducible refine (foldl_still _ _ ?_ _).trans ?_; intro _ _; try dsimp only) | simp (disch := first | decide | exact mem_dirStat _ | exact mem_gateCount _) only [setEcho_still] | split

theorem echoHold_still (s : State) (d : Dir) : (State.echoHold s d).still = s.still := by
  unfold State.echoHold; (try dsimp only)
  repeat' first | with_reducible rfl | (with_reducible refine (foldl_still _ _ ?_ _).trans ?_; intro _ _; try dsimp only) | simp (disch := first | decide | exact mem_dirStat _ | exact mem_gateCount _) only [echoHoldSlot_still] | split

theorem lawStatus_still (s : State) (code j f : Nat) : (State.lawStatus s code j f).still = s.still := by
  unfold State.lawStatus; (try dsimp only)
  repeat' first | with_reducible rfl | (with_reducible refine (foldl_still _ _ ?_ _).trans ?_; intro _ _; try dsimp only) | simp (disch := first | decide | exact mem_dirStat _ | exact mem_gateCount _) only [setSt_still, setStF_still, bumpF_still, bump_still] | split

theorem pendingDone_still (s : State) (j code : Nat) : (State.pendingDone s j code).still = s.still := by
  unfold State.pendingDone; (try dsimp only)
  repeat' first | with_reducible rfl | (with_reducible refine (foldl_still _ _ ?_ _).trans ?_; intro _ _; try dsimp only) | simp (disch := first | decide | exact mem_dirStat _ | exact mem_gateCount _) only [setSt_still, setStF_still, bumpF_still, bump_still] | split

theorem withFx_still (s : State) (x : Fx) : (s.withFx x).still = s.still := rfl

theorem peatClose_still (s : State) (cause detail : Nat) : (State.peatClose s cause detail).still = s.still := by
  unfold State.peatClose; (try dsimp only)
  repeat' first | with_reducible rfl | (with_reducible refine (foldl_still _ _ ?_ _).trans ?_; intro _ _; try dsimp only) | simp (disch := first | decide | exact mem_dirStat _ | exact mem_gateCount _) only [withFx_still, raiseEvs_still] | split

theorem lawsStart_still (s : State) (d : Dir) : (State.lawsStart s d).still = s.still := by
  unfold State.lawsStart; (try dsimp only)
  repeat' first | with_reducible rfl | (with_reducible refine (foldl_still _ _ ?_ _).trans ?_; intro _ _; try dsimp only) | simp (disch := first | decide | exact mem_dirStat _ | exact mem_gateCount _) only [raise_still, pendingDone_still, lawStatus_still, still_upd] | split

theorem msgSent_still (s : State) : (State.msgSent s).still = s.still := by
  unfold State.msgSent; (try dsimp only)
  repeat' first | with_reducible rfl | (with_reducible refine (foldl_still _ _ ?_ _).trans ?_; intro _ _; try dsimp only) | simp (disch := first | decide | exact mem_dirStat _ | exact mem_gateCount _) only [setSt_still, setStF_still, bumpF_still, bump_still] | split

theorem signal_still (s : State) (v : Nat) : (State.signal s v).still = s.still := by
  unfold State.signal; (try dsimp only)
  repeat' first | with_reducible rfl | (with_reducible refine (foldl_still _ _ ?_ _).trans ?_; intro _ _; try dsimp only) | simp (disch := first | decide | exact mem_dirStat _ | exact mem_gateCount _) only [raise_still, msgSent_still, still_upd] | split

theorem patternDone_still (s : State) (p : Nat) : (State.patternDone s p).still = s.still := by
  unfold State.patternDone; (try dsimp only)
  repeat' first | with_reducible rfl | (with_reducible refine (foldl_still _ _ ?_ _).trans ?_; intro _ _; try dsimp only) | simp (disch := first | decide | exact mem_dirStat _ | exact mem_gateCount _) only [signal_still, still_upd] | split

theorem setPlaying_still (s : State) (d : Dir) (p : Option Playing) : (State.setPlaying s d p).still = s.still := by
  unfold State.setPlaying; (try dsimp only)
  repeat' first | with_reducible rfl | (with_reducible refine (foldl_still _ _ ?_ _).trans ?_; intro _ _; try dsimp only) | simp (disch := first | decide | exact mem_dirStat _ | exact mem_gateCount _) only [still_upd] | split

theorem patStop_still (s : State) (d : Dir) : (State.patStop s d).still = s.still := by
  unfold State.patStop; (try dsimp only)
  repeat' first | with_reducible rfl | (with_reducible refine (foldl_still _ _ ?_ _).trans ?_; intro _ _; try dsimp only) | simp (disch := first | decide | exact mem_dirStat _ | exact mem_gateCount _) only [patternDone_still, setPlaying_still] | split

theorem patEnd_still (s : State) (d : Dir) : (State.patEnd s d).still = s.still := by
  unfold State.patEnd; (try dsimp only)
  repeat' first | with_reducible rfl | (with_reducible refine (foldl_still _ _ ?_ _).trans ?_; intro _ _; try dsimp only) | simp (disch := first | decide | exact mem_dirStat _ | exact mem_gateCount _) only [patStop_still, setDir_still] | split

theorem beginTrans_still (s : State) (d : Dir) (t : Trans) : (State.beginTrans s d t).still = s.still := by
  unfold State.beginTrans; (try dsimp only)
  repeat' first | with_reducible rfl | (with_reducible refine (foldl_still _ _ ?_ _).trans ?_; intro _ _; try dsimp only) | simp (disch := first | decide | exact mem_dirStat _ | exact mem_gateCount _) only [patEnd_still, setDir_still, echoHold_still, lawsStart_still] | split

theorem enterStandby_still (s : State) (d : Dir) (cause : Nat) : (State.enterStandby s d cause).still = s.still := by
  unfold State.enterStandby; (try dsimp only)
  repeat' first | with_reducible rfl | (with_reducible refine (foldl_still _ _ ?_ _).trans ?_; intro _ _; try dsimp only) | simp (disch := first | decide | exact mem_dirStat _ | exact mem_gateCount _) only [setDir_still, beginTrans_still] | split

theorem fallBack_still (s : State) (d : Dir) (cause : Nat) : (State.fallBack s d cause).still = s.still := by
  unfold State.fallBack; (try dsimp only)
  repeat' first | with_reducible rfl | (with_reducible refine (foldl_still _ _ ?_ _).trans ?_; intro _ _; try dsimp only) | simp (disch := first | decide | exact mem_dirStat _ | exact mem_gateCount _) only [setDir_still, enterStandby_still] | split

theorem refuse_still (s : State) (q : Req) (code src : Nat) : (State.refuse s q code src).still = s.still := by
  unfold State.refuse; (try dsimp only)
  repeat' first | with_reducible rfl | (with_reducible refine (foldl_still _ _ ?_ _).trans ?_; intro _ _; try dsimp only) | simp (disch := first | decide | exact mem_dirStat _ | exact mem_gateCount _) only [raise_still, dbOutcome_still, raiseIf_still, fallBack_still, reqEnd_still, setSt_still, setStF_still, bumpF_still, bump_still] | split

theorem echoGoOn_still (s : State) (d : Dir) : (State.echoGoOn s d).still = s.still := by
  unfold State.echoGoOn; (try dsimp only)
  repeat' first | with_reducible rfl | (with_reducible refine (foldl_still _ _ ?_ _).trans ?_; intro _ _; try dsimp only) | simp (disch := first | decide | exact mem_dirStat _ | exact mem_gateCount _) only [setEcho_still] | split

theorem record_still (s : State) (fromCode toCode dir cause : Nat) : (State.record s fromCode toCode dir cause).still = s.still := by
  unfold State.record; (try dsimp only)
  repeat' first | with_reducible rfl | (with_reducible refine (foldl_still _ _ ?_ _).trans ?_; intro _ _; try dsimp only) | simp (disch := first | decide | exact mem_dirStat _ | exact mem_gateCount _) only [setSt_still, setStF_still, bumpF_still, bump_still] | split

theorem startDir_still (s : State) (q : Req) (d : Dir) : (State.startDir s q d).still = s.still := by
  unfold State.startDir; (try dsimp only)
  repeat' first | with_reducible rfl | (with_reducible refine (foldl_still _ _ ?_ _).trans ?_; intro _ _; try dsimp only) | simp (disch := first | decide | exact mem_dirStat _ | exact mem_gateCount _) only [patStop_still, echoGoOn_still, setDir_still, record_still, beginTrans_still] | split

theorem echoSave_still (s : State) : (State.echoSave s).still = s.still := by
  unfold State.echoSave; (try dsimp only)
  repeat' first | with_reducible rfl | (with_reducible refine (foldl_still _ _ ?_ _).trans ?_; intro _ _; try dsimp only) | simp (disch := first | decide | exact mem_dirStat _ | exact mem_gateCount _) only [still_upd] | split

theorem mramWrite_still (s : State) (j : MramJob) : (State.mramWrite s j).still = s.still := by
  unfold State.mramWrite; (try dsimp only)
  repeat' first | with_reducible rfl | (with_reducible refine (foldl_still _ _ ?_ _).trans ?_; intro _ _; try dsimp only) | simp (disch := first | decide | exact mem_dirStat _ | exact mem_gateCount _) only [still_upd] | split

theorem recorder_still (s : State) (f : Rec → Rec) : (State.recorder s f).still = s.still := by
  unfold State.recorder; (try dsimp only)
  repeat' first | with_reducible rfl | (with_reducible refine (foldl_still _ _ ?_ _).trans ?_; intro _ _; try dsimp only) | simp (disch := first | decide | exact mem_dirStat _ | exact mem_gateCount _) only [raiseEvs_still, still_upd] | split

theorem sleepStart_still (s : State) (cause no tag : Nat) : (State.sleepStart s cause no tag).still = s.still := by
  unfold State.sleepStart; (try dsimp only)
  repeat' first | with_reducible rfl | (with_reducible refine (foldl_still _ _ ?_ _).trans ?_; intro _ _; try dsimp only) | simp (disch := first | decide | exact mem_dirStat _ | exact mem_gateCount _) only [peatClose_still, echoSave_still, recorder_still, mramWrite_still, still_upd] | split

theorem trySleep_still (s : State) : (State.trySleep s).still = s.still := by
  unfold State.trySleep; (try dsimp only)
  repeat' first | with_reducible rfl | (with_reducible refine (foldl_still _ _ ?_ _).trans ?_; intro _ _; try dsimp only) | simp (disch := first | decide | exact mem_dirStat _ | exact mem_gateCount _) only [sleepStart_still] | split

theorem startReq_still (s : State) (q : Req) : (State.startReq s q).still = s.still := by
  unfold State.startReq; (try dsimp only)
  repeat' first | with_reducible rfl | (with_reducible refine (foldl_still _ _ ?_ _).trans ?_; intro _ _; try dsimp only) | simp (disch := first | decide | exact mem_dirStat _ | exact mem_gateCount _) only [trySleep_still, dbOutcome_still, reqEnd_still, startDir_still, enterStandby_still, still_upd] | split

theorem handle_still (s : State) (q : Req) : (State.handle s q).still = s.still := by
  unfold State.handle; (try dsimp only)
  repeat' first | with_reducible rfl | (with_reducible refine (foldl_still _ _ ?_ _).trans ?_; intro _ _; try dsimp only) | simp (disch := first | decide | exact mem_dirStat _ | exact mem_gateCount _) only [overtakeReturns_still, refuse_still, holdReq_still, startReq_still] | split

theorem reqShow_still (s : State) (q : Req) (status : Nat) : (State.reqShow s q status).still = s.still := by
  unfold State.reqShow; (try dsimp only)
  repeat' first | with_reducible rfl | (with_reducible refine (foldl_still _ _ ?_ _).trans ?_; intro _ _; try dsimp only) | simp (disch := first | decide | exact mem_dirStat _ | exact mem_gateCount _) only [still_upd] | split

theorem sessionNote_still (s : State) (t : Target) : (State.sessionNote s t).still = s.still := by
  unfold State.sessionNote; (try dsimp only)
  repeat' first | with_reducible rfl | (with_reducible refine (foldl_still _ _ ?_ _).trans ?_; intro _ _; try dsimp only) | simp (disch := first | decide | exact mem_dirStat _ | exact mem_gateCount _) only [still_upd] | split

theorem supersede_still (s : State) (p : Req) : (State.supersede s p).still = s.still := by
  unfold State.supersede; (try dsimp only)
  repeat' first | with_reducible rfl | (with_reducible refine (foldl_still _ _ ?_ _).trans ?_; intro _ _; try dsimp only) | simp (disch := first | decide | exact mem_dirStat _ | exact mem_gateCount _) only [raise_still, dbOutcome_still, still_upd] | split

theorem supersedeAll_still (s : State) : (State.supersedeAll s).still = s.still := by
  unfold State.supersedeAll; (try dsimp only)
  repeat' first | with_reducible rfl | (with_reducible refine (foldl_still _ _ ?_ _).trans ?_; intro _ _; try dsimp only) | simp (disch := first | decide | exact mem_dirStat _ | exact mem_gateCount _) only [supersede_still, still_upd] | split

theorem request_still (s : State) (q : Req) : (State.request s q).still = s.still := by
  unfold State.request; (try dsimp only)
  repeat' first | with_reducible rfl | (with_reducible refine (foldl_still _ _ ?_ _).trans ?_; intro _ _; try dsimp only) | simp (disch := first | decide | exact mem_dirStat _ | exact mem_gateCount _) only [sessionNote_still, handle_still, refuse_still, supersedeAll_still, reqShow_still, still_upd] | split

theorem autoReturn_still (s : State) (d : Dir) (t : Target) (cause : Nat) : (State.autoReturn s d t cause).still = s.still := by
  unfold State.autoReturn; (try dsimp only)
  repeat' first | with_reducible rfl | (with_reducible refine (foldl_still _ _ ?_ _).trans ?_; intro _ _; try dsimp only) | simp (disch := first | decide | exact mem_dirStat _ | exact mem_gateCount _) only [request_still] | split

theorem patReturnNow_still (s : State) (d : Dir) : (State.patReturnNow s d).still = s.still := by
  unfold State.patReturnNow; (try dsimp only)
  repeat' first | with_reducible rfl | (with_reducible refine (foldl_still _ _ ?_ _).trans ?_; intro _ _; try dsimp only) | simp (disch := first | decide | exact mem_dirStat _ | exact mem_gateCount _) only [patEnd_still, raise_still, autoReturn_still, enterStandby_still] | split

theorem oldestTime_still (s : State) (n : Nat) (r : RegionRec) : (s.oldestTime n r).2.still = s.still := by
  unfold State.oldestTime; split
  · rfl
  · split <;> rfl

theorem regHeader_still (s : State) (n : Nat) : (State.regHeader s n).still = s.still := by
  unfold State.regHeader; (try dsimp only)
  repeat' first | with_reducible rfl | (with_reducible refine (foldl_still _ _ ?_ _).trans ?_; intro _ _; try dsimp only) | simp (disch := first | decide | exact mem_dirStat _ | exact mem_gateCount _) only [oldestTime_still, still_upd] | split

theorem regStream_still (s : State) (n t : Nat) : (s.regStream n t).still = s.still := by
  unfold State.regStream; extract_lets r k
  split
  · rfl
  · split <;> exact still_bog s _

theorem regionDone_still (s : State) (n : Nat) : (State.regionDone s n).still = s.still := by
  unfold State.regionDone; (try dsimp only)
  repeat' first | with_reducible rfl | (with_reducible refine (foldl_still _ _ ?_ _).trans ?_; intro _ _; try dsimp only) | simp (disch := first | decide | exact mem_dirStat _ | exact mem_gateCount _) only [signal_still, still_upd] | split

theorem regFinish_still (s : State) (n extra : Nat) : (State.regFinish s n extra).still = s.still := by
  unfold State.regFinish; (try dsimp only)
  repeat' first | with_reducible rfl | (with_reducible refine (foldl_still _ _ ?_ _).trans ?_; intro _ _; try dsimp only) | simp (disch := first | decide | exact mem_dirStat _ | exact mem_gateCount _) only [regStream_still, regHeader_still, regionDone_still, still_upd] | split

theorem regHalt_still (s : State) (n : Nat) : (State.regHalt s n).still = s.still := by
  unfold State.regHalt; (try dsimp only)
  repeat' first | with_reducible rfl | (with_reducible refine (foldl_still _ _ ?_ _).trans ?_; intro _ _; try dsimp only) | simp (disch := first | decide | exact mem_dirStat _ | exact mem_gateCount _) only [regFinish_still] | split

theorem noteBog_still (s : State) : (State.noteBog s).still = s.still := by
  unfold State.noteBog; (try dsimp only)
  repeat' first | with_reducible rfl | (with_reducible refine (foldl_still _ _ ?_ _).trans ?_; intro _ _; try dsimp only) | simp (disch := first | decide | exact mem_dirStat _ | exact mem_gateCount _) only [patReturnNow_still, regHalt_still] | split

theorem noteGate_still (s : State) (d : Dir) : (State.noteGate s d).still = s.still := by
  unfold State.noteGate; (try dsimp only)
  repeat' first | with_reducible rfl | (with_reducible refine (foldl_still _ _ ?_ _).trans ?_; intro _ _; try dsimp only) | simp (disch := first | decide | exact mem_dirStat _ | exact mem_gateCount _) only [setSt_still, setStF_still, bumpF_still, bump_still] | split

theorem noteHk_still (s : State) : (State.noteHk s).still = s.still := by
  unfold State.noteHk; (try dsimp only)
  repeat' first | with_reducible rfl | (with_reducible refine (foldl_still _ _ ?_ _).trans ?_; intro _ _; try dsimp only) | simp (disch := first | decide | exact mem_dirStat _ | exact mem_gateCount _) only [raiseIf_still, still_upd] | split

theorem linkDown_still (s : State) : (State.linkDown s).still = s.still := by
  unfold State.linkDown; (try dsimp only)
  repeat' first | with_reducible rfl | (with_reducible refine (foldl_still _ _ ?_ _).trans ?_; intro _ _; try dsimp only) | simp (disch := first | decide | exact mem_dirStat _ | exact mem_gateCount _) only [setSt_still, setStF_still, bumpF_still, bump_still, still_upd] | split

theorem notePcie_still (s : State) : (State.notePcie s).still = s.still := by
  unfold State.notePcie; (try dsimp only)
  repeat' first | with_reducible rfl | (with_reducible refine (foldl_still _ _ ?_ _).trans ?_; intro _ _; try dsimp only) | simp (disch := first | decide | exact mem_dirStat _ | exact mem_gateCount _) only [linkDown_still] | split

theorem notePeat_still (s : State) : (State.notePeat s).still = s.still := by
  unfold State.notePeat; (try dsimp only)
  repeat' first | with_reducible rfl | (with_reducible refine (foldl_still _ _ ?_ _).trans ?_; intro _ _; try dsimp only) | simp (disch := first | decide | exact mem_dirStat _ | exact mem_gateCount _) only [still_upd] | split

theorem noteRestrict_still (s : State) : (State.noteRestrict s).still = s.still := by
  unfold State.noteRestrict; (try dsimp only)
  repeat' first | with_reducible rfl | (with_reducible refine (foldl_still _ _ ?_ _).trans ?_; intro _ _; try dsimp only) | simp (disch := first | decide | exact mem_dirStat _ | exact mem_gateCount _) only [raiseEvs_still, still_upd] | split

theorem clearService_still (s : State) (cause : Nat) : (State.clearService s cause).still = s.still := by
  unfold State.clearService; (try dsimp only)
  repeat' first | with_reducible rfl | (with_reducible refine (foldl_still _ _ ?_ _).trans ?_; intro _ _; try dsimp only) | simp (disch := first | decide | exact mem_dirStat _ | exact mem_gateCount _) only [raise_still, enterStandby_still, still_upd] | split

theorem noteRetired_still (s : State) : (State.noteRetired s).still = s.still := by
  unfold State.noteRetired; (try dsimp only)
  repeat' first | with_reducible rfl | (with_reducible refine (foldl_still _ _ ?_ _).trans ?_; intro _ _; try dsimp only) | simp (disch := first | decide | exact mem_dirStat _ | exact mem_gateCount _) only [clearService_still] | split

theorem bothMuted_still (s0 s : State) : (State.bothMuted s0 s).still = s.still := raiseIf_still _ _ _ _ _

theorem setGov_still (s : State) (d : Dir) (g : Nat) (r : GovRec) : (State.setGov s d g r).still = s.still := by
  unfold State.setGov; (try dsimp only)
  repeat' first | with_reducible rfl | (with_reducible refine (foldl_still _ _ ?_ _).trans ?_; intro _ _; try dsimp only) | simp (disch := first | decide | exact mem_dirStat _ | exact mem_gateCount _) only [still_upd] | split

theorem capGov_still (s : State) (d : Dir) (g : Nat) : (State.capGov s d g).still = s.still := by
  unfold State.capGov; (try dsimp only)
  repeat' first | with_reducible rfl | (with_reducible refine (foldl_still _ _ ?_ _).trans ?_; intro _ _; try dsimp only) | simp (disch := first | decide | exact mem_dirStat _ | exact mem_gateCount _) only [setGov_still] | split

theorem echoDiscard_still (s : State) (d : Dir) : (State.echoDiscard s d).still = s.still := by
  unfold State.echoDiscard; (try dsimp only)
  repeat' first | with_reducible rfl | (with_reducible refine (foldl_still _ _ ?_ _).trans ?_; intro _ _; try dsimp only) | simp (disch := first | decide | exact mem_dirStat _ | exact mem_gateCount _) only [setEcho_still] | split

theorem peatMute_still (s : State) (b src u : Nat) : (State.peatMute s b src u).still = s.still := by
  unfold State.peatMute; (try dsimp only)
  repeat' first | with_reducible rfl | (with_reducible refine (foldl_still _ _ ?_ _).trans ?_; intro _ _; try dsimp only) | simp (disch := first | decide | exact mem_dirStat _ | exact mem_gateCount _) only [peatClose_still, still_upd] | split

theorem setGovDir_still (s : State) (d : Dir) (g : GovDir) : (State.setGovDir s d g).still = s.still := by
  unfold State.setGovDir; (try dsimp only)
  repeat' first | with_reducible rfl | (with_reducible refine (foldl_still _ _ ?_ _).trans ?_; intro _ _; try dsimp only) | simp (disch := first | decide | exact mem_dirStat _ | exact mem_gateCount _) only [still_upd] | split

theorem toMuted_still (s : State) (d : Dir) : (State.toMuted s d).still = s.still := by
  unfold State.toMuted; (try dsimp only)
  repeat' first | with_reducible rfl | (with_reducible refine (foldl_still _ _ ?_ _).trans ?_; intro _ _; try dsimp only) | simp (disch := first | decide | exact mem_dirStat _ | exact mem_gateCount _) only [patStop_still, setDir_still, echoHold_still, abandonTrans_still, record_still] | split

theorem muteDir_still (s0 : State) (d : Dir) (c : MuteCause) : (State.muteDir s0 d c).still = s0.still := by
  unfold State.muteDir; (try dsimp only)
  repeat' first | with_reducible rfl | (with_reducible refine (foldl_still _ _ ?_ _).trans ?_; intro _ _; try dsimp only) | simp (disch := first | decide | exact mem_dirStat _ | exact mem_gateCount _) only [peatMute_still, echoDiscard_still, raise_still, capGov_still, setDir_still, toMuted_still, bothMuted_still, setGovDir_still] | split

theorem setSyn_still (s : State) (y : Syn) (r : SynRec) : (State.setSyn s y r).still = s.still := by
  unfold State.setSyn; (try dsimp only)
  repeat' first | with_reducible rfl | (with_reducible refine (foldl_still _ _ ?_ _).trans ?_; intro _ _; try dsimp only) | simp (disch := first | decide | exact mem_dirStat _ | exact mem_gateCount _) only [still_upd] | split

theorem noteSyn_still (s : State) : (State.noteSyn s).still = s.still := by
  unfold State.noteSyn; (try dsimp only)
  repeat' first | with_reducible rfl | (with_reducible refine (foldl_still _ _ ?_ _).trans ?_; intro _ _; try dsimp only) | simp (disch := first | decide | exact mem_dirStat _ | exact mem_gateCount _) only [setSyn_still, muteDir_still] | split

theorem setHk_still (s : State) (c : Nat) (r : HkRec) : (State.setHk s c r).still = s.still := by
  unfold State.setHk; (try dsimp only)
  repeat' first | with_reducible rfl | (with_reducible refine (foldl_still _ _ ?_ _).trans ?_; intro _ _; try dsimp only) | simp (disch := first | decide | exact mem_dirStat _ | exact mem_gateCount _) only [still_upd] | split

theorem hkTrigger_still (s : State) (bit : Nat) : (State.hkTrigger s bit).still = s.still := by
  unfold State.hkTrigger; (try dsimp only)
  repeat' first | with_reducible rfl | (with_reducible refine (foldl_still _ _ ?_ _).trans ?_; intro _ _; try dsimp only) | simp (disch := first | decide | exact mem_dirStat _ | exact mem_gateCount _) only [raise_still, setHk_still, setSt_still, setStF_still, bumpF_still, bump_still] | split

theorem noteTrsw_still (s : State) : (State.noteTrsw s).still = s.still := by
  unfold State.noteTrsw; (try dsimp only)
  repeat' first | with_reducible rfl | (with_reducible refine (foldl_still _ _ ?_ _).trans ?_; intro _ _; try dsimp only) | simp (disch := first | decide | exact mem_dirStat _ | exact mem_gateCount _) only [hkTrigger_still, still_upd] | split

theorem noteTwb_still (s : State) : (State.noteTwb s).still = s.still := by
  unfold State.noteTwb; (try dsimp only)
  repeat' first | with_reducible rfl | (with_reducible refine (foldl_still _ _ ?_ _).trans ?_; intro _ _; try dsimp only) | simp (disch := first | decide | exact mem_dirStat _ | exact mem_gateCount _) only [still_upd] | split

theorem noteWatch_still (s : State) : (State.noteWatch s).still = s.still := by
  unfold State.noteWatch; (try dsimp only)
  repeat' first | with_reducible rfl | (with_reducible refine (foldl_still _ _ ?_ _).trans ?_; intro _ _; try dsimp only) | simp (disch := first | decide | exact mem_dirStat _ | exact mem_gateCount _) only [still_upd] | split

theorem laneRun_still (s : State) (l n : Nat) : (State.laneRun s l n).still = s.still := by
  induction n generalizing s with
  | zero => rfl
  | succ n ih =>
    unfold State.laneRun; split
    · rw [ih]; rfl
    · rfl

theorem paAdvance_still (s : State) : (State.paAdvance s).still = s.still := by
  unfold State.paAdvance; (try dsimp only)
  repeat' first | with_reducible rfl | (with_reducible refine (foldl_still _ _ ?_ _).trans ?_; intro _ _; try dsimp only) | simp (disch := first | decide | exact mem_dirStat _ | exact mem_gateCount _) only [laneRun_still] | split

theorem settle_still (s : State) : (State.settle s).still = s.still := by
  unfold State.settle; (try dsimp only)
  repeat' first | with_reducible rfl | (with_reducible refine (foldl_still _ _ ?_ _).trans ?_; intro _ _; try dsimp only) | simp (disch := first | decide | exact mem_dirStat _ | exact mem_gateCount _) only [noteWatch_still, paAdvance_still, noteBog_still, notePcie_still, closeHandlings_still, alignAll_still, noteTrsw_still, noteTwb_still, notePeat_still, noteGate_still, noteRetired_still, noteHk_still, noteSyn_still, noteRestrict_still] | split

theorem after_still (s t : State) : (s.after t).still = t.still := settle_still t

/-- The end of an instant leaves these fields, and every register but its own, as they are. -/
theorem after_keeps (s t : State) :
    (s.after t).power = t.power ∧ (s.after t).lev = t.lev ∧ (s.after t).now = t.now ∧ (s.after t).cfg = t.cfg ∧
      (s.after t).boot = t.boot ∧ (s.after t).conv = t.conv ∧ (s.after t).slots = t.slots ∧ (s.after t).lock = t.lock ∧
      (s.after t).sync = t.sync ∧ (s.after t).lichen = t.lichen ∧ (s.after t).bix = t.bix ∧ (s.after t).therm = t.therm := by
  have h := after_still s t
  simp only [State.still, Still.mk.injEq] at h
  tauto

theorem after_st (s t : State) (a : Nat) (h : a ∉ instantRegs) : (s.after t).st a = t.st a := by
  have h' := congrArg (fun x => x.regs a) (after_still s t)
  simpa [State.still, h] using h'

end Sys2Proof.Machine
end

