-- ==== Sys2Proof/Laws/Base.lean ====
section
/-! SUPPORT. What only a few operations touch: the power state, the levels, device time and the configuration registers. Every other
operation leaves them as they are; the lemmas here are for what a tick does, and for what follows a start, a wake and a check. -/

namespace Sys2Proof.Machine

set_option linter.unusedTactic false
set_option linter.unreachableTactic false
set_option linter.unusedSimpArgs false

/-- Power state, levels, device time and configuration registers. -/
structure Base where
  power : Power
  lev : Levels
  now : Nat
  cfg : RegFile

def State.base (s : State) : Base := { power := s.power, lev := s.lev, now := s.now, cfg := s.cfg }

theorem base_of_still {s t : State} (h : t.still = s.still) : t.base = s.base := by
  simp only [State.still, Still.mk.injEq] at h
  simp only [State.base, h]

theorem foldl_base {α : Type} (l : List α) (f : State → α → State) (h : ∀ s a, (f s a).base = s.base) (s : State) :
    (l.foldl f s).base = s.base := by
  induction l generalizing s with
  | nil => rfl
  | cons a t ih => simp only [List.foldl_cons, ih, h]

theorem foldl_fst_base {α β : Type} (l : List α) (f : State × β → α → State × β) (h : ∀ x a, (f x a).1.base = x.1.base)
    (x : State × β) : (l.foldl f x).1.base = x.1.base := by
  induction l generalizing x with
  | nil => rfl
  | cons a t ih => simp only [List.foldl_cons, ih, h]

theorem setSt_base (s : State) (a n : Nat) : (s.setSt a n).base = s.base := rfl
theorem setStF_base (s : State) (a lo len n : Nat) : (s.setStF a lo len n).base = s.base := rfl
theorem bumpF_base (s : State) (a lo w k : Nat) : (s.bumpF a lo w k).base = s.base := rfl
theorem bump_base (s : State) (a k : Nat) : (s.bump a k).base = s.base := rfl
theorem touch_base (s : State) : s.touch.base = s.base := by unfold State.touch; split <;> rfl

theorem base_upd (s : State) (v_free v_sts v_flt v_sys v_boot v_mram v_syn v_conv v_slots v_echo v_gov v_govDl v_govUl v_loop v_front v_lock v_sync v_lichen v_bog v_bix v_hk v_therm v_peat v_twb v_pcie v_watch v_pending) :
    State.base { s with free := v_free, sts := v_sts, flt := v_flt, sys := v_sys, boot := v_boot, mram := v_mram, syn := v_syn, conv := v_conv, slots := v_slots, echo := v_echo, gov := v_gov, govDl := v_govDl, govUl := v_govUl, loop := v_loop, front := v_front, lock := v_lock, sync := v_sync, lichen := v_lichen, bog := v_bog, bix := v_bix, hk := v_hk, therm := v_therm, peat := v_peat, twb := v_twb, pcie := v_pcie, watch := v_watch, pending := v_pending } = s.base := rfl

theorem raiseIf_base (s : State) (c : Bool) (b n : Nat) (u : Option Nat) : (s.raiseIf c b n u).base = s.base := base_of_still (raiseIf_still s c b n u)

theorem setEcho_base (s : State) (d : Dir) (n : Nat) (r : EchoRec) : (State.setEcho s d n r).base = s.base := base_of_still (setEcho_still s d n r)

theorem slotMeters_base (s : State) (i : TickIn) (d : Dir) (n : Nat) : (State.slotMeters s i d n).base = s.base := by
  unfold State.slotMeters; (try dsimp only)
  repeat' first | with_reducible rfl | (with_reducible refine (foldl_base _ _ ?_ _).trans ?_; intro _ _; try dsimp only) | simp only [raiseIf_base, setEcho_base, setSt_base, base_upd] | split

theorem sumClips_base (s : State) (i : TickIn) (d : Dir) : (State.sumClips s i d).base = s.base := by
  unfold State.sumClips; (try dsimp only)
  repeat' first | with_reducible rfl | (with_reducible refine (foldl_base _ _ ?_ _).trans ?_; intro _ _; try dsimp only) | simp only [raiseIf_base, bump_base, base_upd] | split

theorem chanTick_base (s : State) (i : TickIn) : (State.chanTick s i).base = s.base := by
  unfold State.chanTick; (try dsimp only)
  repeat' first | with_reducible rfl | (with_reducible refine (foldl_base _ _ ?_ _).trans ?_; intro _ _; try dsimp only) | simp only [raiseIf_base, slotMeters_base, sumClips_base, base_upd] | split

theorem raise_base (s : State) (b n : Nat) (u : Option Nat) : (s.raise b n u).base = s.base := base_of_still (raise_still s b n u)

theorem clampNote_base (s : State) (d : Dir) : (State.clampNote s d).base = s.base := by
  unfold State.clampNote; (try dsimp only)
  repeat' first | with_reducible rfl | (with_reducible refine (foldl_base _ _ ?_ _).trans ?_; intro _ _; try dsimp only) | simp only [raise_base, bump_base, base_upd] | split

theorem setSlot_base (s : State) (d : Dir) (n : Nat) (r : SlotRec) : (State.setSlot s d n r).base = s.base := by
  unfold State.setSlot; (try dsimp only)
  repeat' first | with_reducible rfl | (with_reducible refine (foldl_base _ _ ?_ _).trans ?_; intro _ _; try dsimp only) | simp only [base_upd] | split

theorem setGov_base (s : State) (d : Dir) (g : Nat) (r : GovRec) : (State.setGov s d g r).base = s.base := base_of_still (setGov_still s d g r)

theorem deliver_base (s : State) (d : Dir) (n : Nat) (noGain : Bool) : (State.deliver s d n noGain).base = s.base := by
  unfold State.deliver; (try dsimp only)
  repeat' first | with_reducible rfl | (with_reducible refine (foldl_base _ _ ?_ _).trans ?_; intro _ _; try dsimp only) | simp only [setGov_base, setSlot_base, base_upd] | split

theorem slotDue_base (s : State) (d : Dir) (n : Nat) : (State.slotDue s d n).base = s.base := by
  unfold State.slotDue; (try dsimp only)
  repeat' first | with_reducible rfl | (with_reducible refine (foldl_base _ _ ?_ _).trans ?_; intro _ _; try dsimp only) | simp only [setSlot_base, base_upd] | split

theorem deliverAll_base (s : State) (d : Dir) (noGain : List Nat) : (State.deliverAll s d noGain).base = s.base := by
  unfold State.deliverAll; (try dsimp only)
  repeat' first | with_reducible rfl | (with_reducible refine (foldl_base _ _ ?_ _).trans ?_; intro _ _; try dsimp only) | simp only [slotDue_base, raiseIf_base, deliver_base, clampNote_base, base_upd] | split

theorem adapt_base (s : State) (d : Dir) (n : Nat) : (State.adapt s d n).base = s.base := by
  unfold State.adapt; (try dsimp only)
  repeat' first | with_reducible rfl | (with_reducible refine (foldl_base _ _ ?_ _).trans ?_; intro _ _; try dsimp only) | simp only [raiseIf_base, setEcho_base, base_upd] | split

theorem mramWrite_base (s : State) (j : MramJob) : (State.mramWrite s j).base = s.base := base_of_still (mramWrite_still s j)

theorem cacheEst_base (s : State) (d : Dir) (n : Nat) (newly : Bool) : (State.cacheEst s d n newly).base = s.base := by
  unfold State.cacheEst; (try dsimp only)
  repeat' first | with_reducible rfl | (with_reducible refine (foldl_base _ _ ?_ _).trans ?_; intro _ _; try dsimp only) | simp only [mramWrite_base, setEcho_base, base_upd] | split

theorem blockEffect_base (s : State) (d : Dir) (n : Nat) : (State.blockEffect s d n).base = s.base := by
  unfold State.blockEffect; (try dsimp only)
  repeat' first | with_reducible rfl | (with_reducible refine (foldl_base _ _ ?_ _).trans ?_; intro _ _; try dsimp only) | simp only [raiseIf_base, cacheEst_base, adapt_base, setEcho_base, base_upd] | split

theorem capNote_base (s : State) (d : Dir) (n : Nat) : (State.capNote s d n).base = s.base := by
  unfold State.capNote; (try dsimp only)
  repeat' first | with_reducible rfl | (with_reducible refine (foldl_base _ _ ?_ _).trans ?_; intro _ _; try dsimp only) | simp only [raiseIf_base, setEcho_base, base_upd] | split

theorem defaultNote_base (s : State) (d : Dir) (n : Nat) : (State.defaultNote s d n).base = s.base := by
  unfold State.defaultNote; (try dsimp only)
  repeat' first | with_reducible rfl | (with_reducible refine (foldl_base _ _ ?_ _).trans ?_; intro _ _; try dsimp only) | simp only [raiseIf_base, setEcho_base, base_upd] | split

theorem oscStat_base (s : State) (d : Dir) (n crit path : Nat) (rho : Int) : (State.oscStat s d n crit path rho).base = s.base := by
  unfold State.oscStat; (try dsimp only)
  repeat' first | with_reducible rfl | (with_reducible refine (foldl_base _ _ ?_ _).trans ?_; intro _ _; try dsimp only) | simp only [setSt_base, base_upd] | split

theorem muteDir_base (s0 : State) (d : Dir) (c : MuteCause) : (State.muteDir s0 d c).base = s0.base := base_of_still (muteDir_still s0 d c)

theorem setGovDir_base (s : State) (d : Dir) (g : GovDir) : (State.setGovDir s d g).base = s.base := base_of_still (setGovDir_still s d g)

theorem oscillation_base (s : State) (d : Dir) (n crit path : Nat) (rho : Int) : (State.oscillation s d n crit path rho).base = s.base := by
  unfold State.oscillation; (try dsimp only)
  repeat' first | with_reducible rfl | (with_reducible refine (foldl_base _ _ ?_ _).trans ?_; intro _ _; try dsimp only) | simp only [raise_base, muteDir_base, oscStat_base, setGovDir_base, bumpF_base, base_upd] | split

theorem estTest_base (s : State) (d : Dir) (n : Nat) : (State.estTest s d n).base = s.base := by
  unfold State.estTest; (try dsimp only)
  repeat' first | with_reducible rfl | (with_reducible refine (foldl_base _ _ ?_ _).trans ?_; intro _ _; try dsimp only) | simp only [oscillation_base, setEcho_base, base_upd] | split

theorem lockActs_base (s : State) (item index who : Nat) : (State.lockActs s item index who).base = s.base := by
  unfold State.lockActs; (try dsimp only)
  repeat' first | with_reducible rfl | (with_reducible refine (foldl_base _ _ ?_ _).trans ?_; intro _ _; try dsimp only) | simp only [raise_base, base_upd] | split

theorem mossClamp_base (s : State) (d : Dir) (n : Nat) : (State.mossClamp s d n).base = s.base := by
  unfold State.mossClamp; (try dsimp only)
  repeat' first | with_reducible rfl | (with_reducible refine (foldl_base _ _ ?_ _).trans ?_; intro _ _; try dsimp only) | simp only [lockActs_base, base_upd] | split

theorem probeTick_base (s : State) (d : Dir) (n : Nat) : (State.probeTick s d n).base = s.base := by
  unfold State.probeTick; (try dsimp only)
  repeat' first | with_reducible rfl | (with_reducible refine (foldl_base _ _ ?_ _).trans ?_; intro _ _; try dsimp only) | simp only [setEcho_base, base_upd] | split

theorem echoTick_base (s : State) : (State.echoTick s).base = s.base := by
  unfold State.echoTick; (try dsimp only)
  repeat' first | with_reducible rfl | (with_reducible refine (foldl_base _ _ ?_ _).trans ?_; intro _ _; try dsimp only) | simp only [blockEffect_base, estTest_base, probeTick_base, mossClamp_base, capNote_base, defaultNote_base, base_upd] | split

theorem gtxStep_base (s : State) (lane : Nat) : (State.gtxStep s lane).base = s.base := by
  unfold State.gtxStep; (try dsimp only)
  repeat' first | with_reducible rfl | (with_reducible refine (foldl_base _ _ ?_ _).trans ?_; intro _ _; try dsimp only) | simp only [base_upd] | split

theorem gFixStep_base (s : State) (d : Dir) : (State.gFixStep s d).base = s.base := by
  unfold State.gFixStep; (try dsimp only)
  repeat' first | with_reducible rfl | (with_reducible refine (foldl_base _ _ ?_ _).trans ?_; intro _ _; try dsimp only) | simp only [raiseIf_base, setGovDir_base, gtxStep_base, base_upd] | split

theorem inject_base (s : State) (b src : Nat) : (State.inject s b src).base = s.base := by
  unfold State.inject; (try dsimp only)
  repeat' first | with_reducible rfl | (with_reducible refine (foldl_base _ _ ?_ _).trans ?_; intro _ _; try dsimp only) | simp only [bump_base, base_upd] | split

theorem injectTick_base (s : State) : (State.injectTick s).base = s.base := by
  unfold State.injectTick; (try dsimp only)
  repeat' first | with_reducible rfl | (with_reducible refine (foldl_base _ _ ?_ _).trans ?_; intro _ _; try dsimp only) | simp only [inject_base, base_upd] | split

theorem markFlagged_base (s : State) (l : Nat) : (State.markFlagged s l).base = s.base := by
  unfold State.markFlagged; (try dsimp only)
  repeat' first | with_reducible rfl | (with_reducible refine (foldl_base _ _ ?_ _).trans ?_; intro _ _; try dsimp only) | simp only [base_upd] | split

theorem laneTick_base (s : State) (i : TickIn) (l : Nat) : (State.laneTick s i l).base = s.base := by
  unfold State.laneTick; (try dsimp only)
  repeat' first | with_reducible rfl | (with_reducible refine (foldl_base _ _ ?_ _).trans ?_; intro _ _; try dsimp only) | simp only [raiseIf_base, setSt_base, bump_base, setStF_base, markFlagged_base, base_upd] | split

theorem pendingDone_base (s : State) (j code : Nat) : (State.pendingDone s j code).base = s.base := base_of_still (pendingDone_still s j code)

theorem latchOne_base (s : State) (j : Nat) : (State.latchOne s j).base = s.base := by
  unfold State.latchOne; (try dsimp only)
  repeat' first | with_reducible rfl | (with_reducible refine (foldl_base _ _ ?_ _).trans ?_; intro _ _; try dsimp only) | simp only [raise_base, pendingDone_base, base_upd] | split

theorem latch_base (s : State) : (State.latch s).base = s.base := by
  unfold State.latch; (try dsimp only)
  repeat' first | with_reducible rfl | (with_reducible refine (foldl_base _ _ ?_ _).trans ?_; intro _ _; try dsimp only) | simp only [latchOne_base, base_upd] | split

theorem lateNote_base (s : State) (all : Bool) : (State.lateNote s all).base = s.base := by
  unfold State.lateNote; (try dsimp only)
  repeat' first | with_reducible rfl | (with_reducible refine (foldl_base _ _ ?_ _).trans ?_; intro _ _; try dsimp only) | simp only [setStF_base, bumpF_base, base_upd] | split

theorem lateRaise_base (s : State) (late : List Nat) : (State.lateRaise s late).base = s.base := by
  unfold State.lateRaise; (try dsimp only)
  repeat' first | with_reducible rfl | (with_reducible refine (foldl_base _ _ ?_ _).trans ?_; intro _ _; try dsimp only) | simp only [raiseIf_base, base_upd] | split

theorem lateTick_base (s : State) : (State.lateTick s).base = s.base := by
  unfold State.lateTick; (try dsimp only)
  repeat' first | with_reducible rfl | (with_reducible refine (foldl_base _ _ ?_ _).trans ?_; intro _ _; try dsimp only) | simp only [lateNote_base, raiseIf_base, setStF_base, lateRaise_base, base_upd] | split

theorem runLaw_base (s : State) (j : Nat) (m : IMode) (e xin xacc : Int) : (State.runLaw s j m e xin xacc).1.base = s.base := by
  unfold State.runLaw; (try dsimp only)
  repeat' first | with_reducible rfl | (with_reducible refine (foldl_base _ _ ?_ _).trans ?_; intro _ _; try dsimp only) | simp only [base_upd] | split

theorem auxTick_base (s : State) (j : Nat) : (State.auxTick s j).1.base = s.base := by
  unfold State.auxTick; (try dsimp only)
  repeat' first | with_reducible rfl | (with_reducible refine (foldl_base _ _ ?_ _).trans ?_; intro _ _; try dsimp only) | simp only [runLaw_base, base_upd] | split

theorem govLaw_base (s latched : State) (i : TickIn) (d : Dir) (g l : Nat) : (State.govLaw s latched i d g l).1.base = s.base := by
  unfold State.govLaw; (try dsimp only)
  repeat' first | with_reducible rfl | (with_reducible refine (foldl_base _ _ ?_ _).trans ?_; intro _ _; try dsimp only) | simp only [runLaw_base, base_upd] | split

theorem govStart_base (s : State) (d : Dir) (g : Nat) : (State.govStart s d g).base = s.base := by
  unfold State.govStart; (try dsimp only)
  repeat' first | with_reducible rfl | (with_reducible refine (foldl_base _ _ ?_ _).trans ?_; intro _ _; try dsimp only) | simp only [setGov_base, base_upd] | split

theorem selectNow_base (s : State) (d : Dir) (g : Nat) (was : Bool) : (State.selectNow s d g was).base = s.base := by
  unfold State.selectNow; (try dsimp only)
  repeat' first | with_reducible rfl | (with_reducible refine (foldl_base _ _ ?_ _).trans ?_; intro _ _; try dsimp only) | simp only [raise_base, setGov_base, lockActs_base, setSlot_base, base_upd] | split

theorem govsTick_base (s : State) (i : TickIn) : (State.govsTick s i).1.base = s.base := by
  unfold State.govsTick; dsimp only
  refine (foldl_base _ _ (fun s d => foldl_base _ _ (fun s g => selectNow_base s d g _) _) _).trans ?_
  refine (foldl_fst_base _ _ ?_ _).trans (foldl_base _ _ (fun s d => foldl_base _ _ (fun s g => govStart_base s d g) _) _)
  intro x l
  refine foldl_fst_base _ _ ?_ _
  intro x d; refine foldl_fst_base _ _ ?_ _
  intro x g; exact govLaw_base ..

theorem setVcore_base (s : State) (q : Nat) : (State.setVcore s q).base = s.base := by
  unfold State.setVcore; (try dsimp only)
  repeat' first | with_reducible rfl | (with_reducible refine (foldl_base _ _ ?_ _).trans ?_; intro _ _; try dsimp only) | simp only [setStF_base, base_upd] | split

theorem vcoreStart_base (s : State) (run : Bool) : (State.vcoreStart s run).base = s.base := by
  unfold State.vcoreStart; (try dsimp only)
  repeat' first | with_reducible rfl | (with_reducible refine (foldl_base _ _ ?_ _).trans ?_; intro _ _; try dsimp only) | simp only [base_upd] | split

theorem vcoreTick_base (s : State) (i : TickIn) : (State.vcoreTick s i).1.base = s.base := by
  have hy : ∀ (b : Bool) (e : Int) (f : Int), (if b = true then (s.vcoreStart b).runLaw 160 .free e f 0 else (s.vcoreStart b, false)).1.base = s.base := by
    intro b e f; split
    · exact (runLaw_base ..).trans (vcoreStart_base ..)
    · exact vcoreStart_base ..
  unfold State.vcoreTick; dsimp only
  refine (raiseIf_base ..).trans (Eq.trans (base_upd ..) ?_)
  refine (setSt_base ..).trans ((setVcore_base ..).trans ((setSt_base ..).trans ?_))
  exact Eq.trans (base_upd ..) (hy _ _ _)

theorem lawsTick_base (s : State) (i : TickIn) : (State.lawsTick s i).base = s.base := by
  unfold State.lawsTick; dsimp only
  rw [raiseIf_base]
  refine (foldl_fst_base _ _ ?_ _).trans ((govsTick_base ..).trans (vcoreTick_base s i))
  intro x l; simp only [auxTick_base]

theorem setDir_base (s : State) (d : Dir) (r : DirRec) : (State.setDir s d r).base = s.base := base_of_still (setDir_still s d r)

theorem watchFifos_base (s : State) : (State.watchFifos s).base = s.base := by
  unfold State.watchFifos; (try dsimp only)
  repeat' first | with_reducible rfl | (with_reducible refine (foldl_base _ _ ?_ _).trans ?_; intro _ _; try dsimp only) | simp only [setDir_base, base_upd] | split

theorem marginTick_base (s : State) (i : TickIn) : (State.marginTick s i).base = s.base := by
  unfold State.marginTick; (try dsimp only)
  repeat' first | with_reducible rfl | (with_reducible refine (foldl_base _ _ ?_ _).trans ?_; intro _ _; try dsimp only) | simp only [setSt_base, watchFifos_base, base_upd] | split

theorem echoHoldSlot_base (s : State) (d : Dir) (n : Nat) : (State.echoHoldSlot s d n).base = s.base := base_of_still (echoHoldSlot_still s d n)

theorem bothMuted_base (s0 s : State) : (State.bothMuted s0 s).base = s.base := base_of_still (bothMuted_still s0 s)

theorem capGov_base (s : State) (d : Dir) (g : Nat) : (State.capGov s d g).base = s.base := base_of_still (capGov_still s d g)

theorem toMuted_base (s : State) (d : Dir) : (State.toMuted s d).base = s.base := base_of_still (toMuted_still s d)

theorem peatMute_base (s : State) (b src u : Nat) : (State.peatMute s b src u).base = s.base := base_of_still (peatMute_still s b src u)

theorem muteSlot_base (s : State) (d : Dir) (n : Nat) (c : MuteCause) : (State.muteSlot s d n c).base = s.base := by
  unfold State.muteSlot; (try dsimp only)
  repeat' first | with_reducible rfl | (with_reducible refine (foldl_base _ _ ?_ _).trans ?_; intro _ _; try dsimp only) | simp only [echoHoldSlot_base, raise_base, bothMuted_base, setGov_base, capGov_base, toMuted_base, bumpF_base, peatMute_base, base_upd] | split

theorem donorMutes_base (s : State) (n : Nat) (struck : Bool) : (State.donorMutes s n struck).base = s.base := by
  unfold State.donorMutes; (try dsimp only)
  repeat' first | with_reducible rfl | (with_reducible refine (foldl_base _ _ ?_ _).trans ?_; intro _ _; try dsimp only) | simp only [muteSlot_base, base_upd] | split

theorem muteAgain_base (s : State) : (State.muteAgain s).base = s.base := by
  unfold State.muteAgain; (try dsimp only)
  repeat' first | with_reducible rfl | (with_reducible refine (foldl_base _ _ ?_ _).trans ?_; intro _ _; try dsimp only) | simp only [muteDir_base, donorMutes_base, base_upd] | split

theorem peatTick_base (s : State) (i : TickIn) : (State.peatTick s i).base = s.base := by
  unfold State.peatTick; (try dsimp only)
  repeat' first | with_reducible rfl | (with_reducible refine (foldl_base _ _ ?_ _).trans ?_; intro _ _; try dsimp only) | simp only [base_upd] | split

theorem playTick_base (s : State) : (State.playTick s).base = s.base := by
  unfold State.playTick; (try dsimp only)
  repeat' first | with_reducible rfl | (with_reducible refine (foldl_base _ _ ?_ _).trans ?_; intro _ _; try dsimp only) | simp only [setStF_base, base_upd] | split

theorem causeNote_base (s : State) (d : Dir) : (State.causeNote s d).base = s.base := by
  unfold State.causeNote; (try dsimp only)
  repeat' first | with_reducible rfl | (with_reducible refine (foldl_base _ _ ?_ _).trans ?_; intro _ _; try dsimp only) | simp only [setGov_base, setGovDir_base, base_upd] | split

theorem regRecord_base (s : State) (n : Nat) (v : List Byte) : (State.regRecord s n v).1.base = s.base := by
  unfold State.regRecord; (try dsimp only)
  repeat' first | with_reducible rfl | (with_reducible refine (foldl_base _ _ ?_ _).trans ?_; intro _ _; try dsimp only) | simp only [base_upd] | split

theorem recordTo_base (s : State) (kind : Nat) (sel : Nat → Bool) (v : List Byte) : (State.recordTo s kind sel v).1.base = s.base := by
  unfold State.recordTo; refine foldl_fst_base _ _ ?_ _
  intro x n; split
  · exact regRecord_base ..
  · rfl

theorem govRecTick_base (s : State) (d : Dir) (g : Nat) : (State.govRecTick s d g).base = s.base := by
  unfold State.govRecTick; (try dsimp only)
  repeat' first | with_reducible rfl | (with_reducible refine (foldl_base _ _ ?_ _).trans ?_; intro _ _; try dsimp only) | simp only [setGov_base, recordTo_base, base_upd] | split

theorem l3Measure_base (s : State) (i : TickIn) (d : Dir) (g : Nat) : (State.l3Measure s i d g).base = s.base := by
  unfold State.l3Measure; (try dsimp only)
  repeat' first | with_reducible rfl | (with_reducible refine (foldl_base _ _ ?_ _).trans ?_; intro _ _; try dsimp only) | simp only [raiseIf_base, setGov_base, base_upd] | split

theorem laneRedStep_base (s : State) (i : TickIn) (d : Dir) : (State.laneRedStep s i d).base = s.base := by
  unfold State.laneRedStep; (try dsimp only)
  repeat' first | with_reducible rfl | (with_reducible refine (foldl_base _ _ ?_ _).trans ?_; intro _ _; try dsimp only) | simp only [raise_base, lockActs_base, setGovDir_base, base_upd] | split

theorem plausLane_base (s : State) (i : TickIn) (l : Nat) : (State.plausLane s i l).base = s.base := by
  unfold State.plausLane; (try dsimp only)
  repeat' first | with_reducible rfl | (with_reducible refine (foldl_base _ _ ?_ _).trans ?_; intro _ _; try dsimp only) | simp only [setSt_base, setStF_base, base_upd] | split

theorem setTrace_base (s : State) (u : Nat) (t : TraceUnit) : (State.setTrace s u t).base = s.base := by
  unfold State.setTrace; (try dsimp only)
  repeat' first | with_reducible rfl | (with_reducible refine (foldl_base _ _ ?_ _).trans ?_; intro _ _; try dsimp only) | simp only [base_upd] | split

theorem traceEvents_base (s : State) : (State.traceEvents s).base = s.base := by
  unfold State.traceEvents; (try dsimp only)
  repeat' first | with_reducible rfl | (with_reducible refine (foldl_base _ _ ?_ _).trans ?_; intro _ _; try dsimp only) | simp only [setTrace_base, base_upd] | split

theorem spill_base (s : State) (u : Nat) (v : List Byte) : (State.spill s u v).1.base = s.base := by
  unfold State.spill; (try dsimp only)
  repeat' first | with_reducible rfl | (with_reducible refine (foldl_base _ _ ?_ _).trans ?_; intro _ _; try dsimp only) | simp only [recordTo_base, bump_base, base_upd] | split

theorem traceTick_base (s : State) (u : Nat) : (State.traceTick s u).1.base = s.base := by
  unfold State.traceTick; (try dsimp only)
  repeat' first | with_reducible rfl | (with_reducible refine (foldl_base _ _ ?_ _).trans ?_; intro _ _; try dsimp only) | simp only [spill_base, setTrace_base, base_upd] | split

theorem traceAll_base (s : State) : (State.traceAll s).base = s.base := by
  unfold State.traceAll; dsimp only
  refine (raiseIf_base ..).trans ((foldl_fst_base _ _ ?_ _).trans (Eq.trans (base_upd ..) (traceEvents_base s)))
  intro x u; exact traceTick_base ..

theorem superviseTick_base (s : State) (i : TickIn) : (State.superviseTick s i).base = s.base := by
  unfold State.superviseTick; (try dsimp only)
  repeat' first | with_reducible rfl | (with_reducible refine (foldl_base _ _ ?_ _).trans ?_; intro _ _; try dsimp only) | simp only [plausLane_base, govRecTick_base, laneRedStep_base, traceAll_base, causeNote_base, l3Measure_base, base_upd] | split

theorem supplyTick_base (s : State) (i : TickIn) : (State.supplyTick s i).base = s.base := by
  unfold State.supplyTick; (try dsimp only)
  repeat' first | with_reducible rfl | (with_reducible refine (foldl_base _ _ ?_ _).trans ?_; intro _ _; try dsimp only) | simp only [setStF_base, setSt_base, base_upd] | split

theorem holdStep_base (s : State) : (State.holdStep s).base = s.base := by
  unfold State.holdStep; (try dsimp only)
  repeat' first | with_reducible rfl | (with_reducible refine (foldl_base _ _ ?_ _).trans ?_; intro _ _; try dsimp only) | simp only [base_upd] | split

theorem marginStep_base (s : State) : (State.marginStep s).base = s.base := by
  unfold State.marginStep; (try dsimp only)
  repeat' first | with_reducible rfl | (with_reducible refine (foldl_base _ _ ?_ _).trans ?_; intro _ _; try dsimp only) | simp only [raiseIf_base, base_upd] | split

theorem boundaryStep_base (s : State) : (State.boundaryStep s).base = s.base := by
  unfold State.boundaryStep; (try dsimp only)
  repeat' first | with_reducible rfl | (with_reducible refine (foldl_base _ _ ?_ _).trans ?_; intro _ _; try dsimp only) | simp only [base_upd] | split

theorem modelStep_base (s : State) (power : List Nat) : (State.modelStep s power).base = s.base := by
  unfold State.modelStep; (try dsimp only)
  repeat' first | with_reducible rfl | (with_reducible refine (foldl_base _ _ ?_ _).trans ?_; intro _ _; try dsimp only) | simp only [boundaryStep_base, base_upd] | split

theorem peakStep_base (s : State) : (State.peakStep s).base = s.base := by
  unfold State.peakStep; (try dsimp only)
  repeat' first | with_reducible rfl | (with_reducible refine (foldl_base _ _ ?_ _).trans ?_; intro _ _; try dsimp only) | simp only [setSt_base, base_upd] | split

theorem quietStep_base (s : State) : (State.quietStep s).base = s.base := by
  unfold State.quietStep; (try dsimp only)
  repeat' first | with_reducible rfl | (with_reducible refine (foldl_base _ _ ?_ _).trans ?_; intro _ _; try dsimp only) | simp only [base_upd] | split

theorem sensorStep_base (s : State) : (State.sensorStep s).base = s.base := by
  unfold State.sensorStep; (try dsimp only)
  repeat' first | with_reducible rfl | (with_reducible refine (foldl_base _ _ ?_ _).trans ?_; intro _ _; try dsimp only) | simp only [base_upd] | split

theorem throttleStep_base (s : State) : (State.throttleStep s).base = s.base := by
  unfold State.throttleStep; (try dsimp only)
  repeat' first | with_reducible rfl | (with_reducible refine (foldl_base _ _ ?_ _).trans ?_; intro _ _; try dsimp only) | simp only [raiseIf_base, raise_base, bumpF_base, base_upd] | split

theorem thermTick_base (s : State) (power : List Nat) : (State.thermTick s power).base = s.base := by
  unfold State.thermTick; (try dsimp only)
  repeat' first | with_reducible rfl | (with_reducible refine (foldl_base _ _ ?_ _).trans ?_; intro _ _; try dsimp only) | simp only [marginStep_base, peakStep_base, throttleStep_base, holdStep_base, sensorStep_base, modelStep_base, quietStep_base, base_upd] | split

theorem timingTick_base (s : State) (i : TickIn) : (State.timingTick s i).base = s.base := by
  unfold State.timingTick; (try dsimp only)
  repeat' first | with_reducible rfl | (with_reducible refine (foldl_base _ _ ?_ _).trans ?_; intro _ _; try dsimp only) | simp only [setSt_base, base_upd] | split

theorem regStream_base (s : State) (n t : Nat) : (s.regStream n t).base = s.base := base_of_still (regStream_still s n t)

theorem toTick_base (s : State) : (State.toTick s).base = { s.base with now := (s.now / tickTime + 1) * tickTime } := by
  unfold State.toTick
  exact foldl_base _ _ (fun s n => regStream_base s n s.now) _

theorem govRecAmend_base (s : State) (d : Dir) (g : Nat) : (State.govRecAmend s d g).base = s.base := by
  unfold State.govRecAmend; (try dsimp only)
  repeat' first | with_reducible rfl | (with_reducible refine (foldl_base _ _ ?_ _).trans ?_; intro _ _; try dsimp only) | simp only [base_upd] | split

theorem makeLate_base (s : State) (j : Nat) : (State.makeLate s j).base = s.base := by
  unfold State.makeLate; (try dsimp only)
  repeat' first | with_reducible rfl | (with_reducible refine (foldl_base _ _ ?_ _).trans ?_; intro _ _; try dsimp only) | simp only [setVcore_base, base_upd] | split

theorem traceAmend_base (s : State) : (State.traceAmend s).base = s.base := by
  unfold State.traceAmend; (try dsimp only)
  repeat' first | with_reducible rfl | (with_reducible refine (foldl_base _ _ ?_ _).trans ?_; intro _ _; try dsimp only) | simp only [setTrace_base, base_upd] | split

theorem loopDeadline_base (late : List (Fin 192)) (s : State) : (loopDeadline late s).base = s.base := by
  unfold loopDeadline; extract_lets js on s1 s2 s3 s4
  split
  · rfl
  · have h1 : s1.base = s.base := foldl_base _ _ (fun s j => makeLate_base s j) _
    have h2 : s2.base = s.base := (lateNote_base ..).trans ((lateRaise_base ..).trans h1)
    have h3 : s3.base = s.base := by
      refine (foldl_base _ _ ?_ _).trans h2
      intro s d; dsimp only
      refine (foldl_base _ _ (fun s g => govRecAmend_base s d g) _).trans ((raiseIf_base ..).trans ?_)
      exact foldl_base _ _ (fun s g => selectNow_base s d g _) _
    exact (muteAgain_base ..).trans ((traceAmend_base ..).trans ((setStF_base ..).trans ((setStF_base ..).trans h3)))

theorem loopAllLate10_base (s : State) : (loopAllLate10 s).base = s.base := by
  unfold loopAllLate10 State.ifUp; split
  · dsimp only
    refine (foldl_base _ _ (fun s d => muteDir_base s d _) _).trans ?_
    exact (setVcore_base ..).trans ((setStF_base ..).trans ((raise_base ..).trans (base_upd s ..)))
  · rfl

theorem holdEnable_base (s : State) (v : Bool) : (State.holdEnable s v).base = s.base := by
  unfold State.holdEnable; (try dsimp only)
  repeat' first | with_reducible rfl | (with_reducible refine (foldl_base _ _ ?_ _).trans ?_; intro _ _; try dsimp only) | simp only [base_upd] | split

theorem reqEnd_base (s : State) (no tag status : Nat) : (State.reqEnd s no tag status).base = s.base := base_of_still (reqEnd_still s no tag status)

theorem sleepAbandon_base (s : State) : (State.sleepAbandon s).base = s.base := by
  unfold State.sleepAbandon; (try dsimp only)
  repeat' first | with_reducible rfl | (with_reducible refine (foldl_base _ _ ?_ _).trans ?_; intro _ _; try dsimp only) | simp only [reqEnd_base, base_upd] | split

theorem startCheck_base (s : State) (o : Origin) (short : Bool) (tag cause : Nat) : (State.startCheck s o short tag cause).base = s.base := by
  unfold State.startCheck; (try dsimp only)
  repeat' first | with_reducible rfl | (with_reducible refine (foldl_base _ _ ?_ _).trans ?_; intro _ _; try dsimp only) | simp only [base_upd] | split

theorem enableService_base (s : State) (o : Origin) : (State.enableService s o).base = s.base := by
  unfold State.enableService; (try dsimp only)
  repeat' first | with_reducible rfl | (with_reducible refine (foldl_base _ _ ?_ _).trans ?_; intro _ _; try dsimp only) | simp only [holdEnable_base, sleepAbandon_base, startCheck_base, base_upd] | split

theorem abandonCheck_base (s : State) : (State.abandonCheck s).base = s.base := by
  unfold State.abandonCheck; (try dsimp only)
  repeat' first | with_reducible rfl | (with_reducible refine (foldl_base _ _ ?_ _).trans ?_; intro _ _; try dsimp only) | simp only [setStF_base, base_upd] | split

theorem peatClose_base (s : State) (cause detail : Nat) : (State.peatClose s cause detail).base = s.base := base_of_still (peatClose_still s cause detail)

theorem recorder_base (s : State) (f : Rec → Rec) : (State.recorder s f).base = s.base := base_of_still (recorder_still s f)

theorem peatReconfig_base (s : State) : (State.peatReconfig s).base = s.base := by
  unfold State.peatReconfig; (try dsimp only)
  repeat' first | with_reducible rfl | (with_reducible refine (foldl_base _ _ ?_ _).trans ?_; intro _ _; try dsimp only) | simp only [peatClose_base, recorder_base, base_upd] | split

theorem handle_base (s : State) (q : Req) : (State.handle s q).base = s.base := base_of_still (handle_still s q)

theorem retry_base (s : State) (w : Wait → Bool) : (State.retry s w).base = s.base := by
  unfold State.retry; (try dsimp only)
  repeat' first | with_reducible rfl | (with_reducible refine (foldl_base _ _ ?_ _).trans ?_; intro _ _; try dsimp only) | simp only [handle_base, base_upd] | split

theorem backInService_base (s : State) (b u : Nat) (history : List Nat) : (State.backInService s b u history).base = s.base := by
  unfold State.backInService; (try dsimp only)
  repeat' first | with_reducible rfl | (with_reducible refine (foldl_base _ _ ?_ _).trans ?_; intro _ _; try dsimp only) | simp only [base_upd] | split

theorem setCache_base (s : State) (y : Syn) (l : List CacheEntry) : (State.setCache s y l).base = s.base := by
  unfold State.setCache; (try dsimp only)
  repeat' first | with_reducible rfl | (with_reducible refine (foldl_base _ _ ?_ _).trans ?_; intro _ _; try dsimp only) | simp only [base_upd] | split

theorem setSyn_base (s : State) (y : Syn) (r : SynRec) : (State.setSyn s y r).base = s.base := base_of_still (setSyn_still s y r)

theorem lockStart_base (s : State) (y : Syn) : (State.lockStart s y).base = s.base := by
  unfold State.lockStart; extract_lets off
  split
  · exact setSyn_base ..
  · split
    · exact (setCache_base ..).trans (setSyn_base ..)
    · exact (bumpF_base ..).trans (setSyn_base ..)

theorem echoStartSlot_base (s : State) (d : Dir) (n : Nat) (cold : Bool) : (State.echoStartSlot s d n cold).base = s.base := by
  unfold State.echoStartSlot; (try dsimp only)
  repeat' first | with_reducible rfl | (with_reducible refine (foldl_base _ _ ?_ _).trans ?_; intro _ _; try dsimp only) | simp only [setEcho_base, base_upd] | split

theorem restoreEcho_base (s : State) (d : Dir) (n : Nat) : (State.restoreEcho s d n).base = s.base := by
  unfold State.restoreEcho; (try dsimp only)
  repeat' first | with_reducible rfl | (with_reducible refine (foldl_base _ _ ?_ _).trans ?_; intro _ _; try dsimp only) | simp only [setEcho_base, echoStartSlot_base, base_upd] | split

theorem echoStart_base (s : State) (d : Dir) (cold : Bool) : (State.echoStart s d cold).base = s.base := by
  unfold State.echoStart; (try dsimp only)
  repeat' first | with_reducible rfl | (with_reducible refine (foldl_base _ _ ?_ _).trans ?_; intro _ _; try dsimp only) | simp only [echoStartSlot_base, base_upd] | split

theorem restoreEchoes_base (s : State) (d : Dir) : (State.restoreEchoes s d).base = s.base := by
  unfold State.restoreEchoes; (try dsimp only)
  repeat' first | with_reducible rfl | (with_reducible refine (foldl_base _ _ ?_ _).trans ?_; intro _ _; try dsimp only) | simp only [echoStart_base, setEcho_base, base_upd] | split

theorem gateWait_base (s : State) (d : Dir) (n c : Nat) : (State.gateWait s d n c).base = s.base := by
  unfold State.gateWait; (try dsimp only)
  repeat' first | with_reducible rfl | (with_reducible refine (foldl_base _ _ ?_ _).trans ?_; intro _ _; try dsimp only) | simp only [setSlot_base, base_upd] | split

theorem restoreSlot_base (s : State) (d : Dir) (n : Nat) : (State.restoreSlot s d n).base = s.base := by
  unfold State.restoreSlot; (try dsimp only)
  repeat' first | with_reducible rfl | (with_reducible refine (foldl_base _ _ ?_ _).trans ?_; intro _ _; try dsimp only) | simp only [setGov_base, setSlot_base, gateWait_base, base_upd] | split

theorem beginTrans_base (s : State) (d : Dir) (t : Trans) : (State.beginTrans s d t).base = s.base := base_of_still (beginTrans_still s d t)

theorem restoreDir_base (s : State) (d : Dir) : (State.restoreDir s d).base = s.base := by
  unfold State.restoreDir; (try dsimp only)
  repeat' first | with_reducible rfl | (with_reducible refine (foldl_base _ _ ?_ _).trans ?_; intro _ _; try dsimp only) | simp only [beginTrans_base, base_upd] | split

theorem unmuteDir_base (s : State) (d : Dir) : (State.unmuteDir s d).base = s.base := by
  unfold State.unmuteDir; (try dsimp only)
  repeat' first | with_reducible rfl | (with_reducible refine (foldl_base _ _ ?_ _).trans ?_; intro _ _; try dsimp only) | simp only [setGovDir_base, restoreDir_base, base_upd] | split

theorem unmuteSlot_base (s : State) (d : Dir) (n : Nat) : (State.unmuteSlot s d n).base = s.base := by
  unfold State.unmuteSlot; (try dsimp only)
  repeat' first | with_reducible rfl | (with_reducible refine (foldl_base _ _ ?_ _).trans ?_; intro _ _; try dsimp only) | simp only [setGov_base, echoStartSlot_base, gateWait_base, restoreDir_base, base_upd] | split

theorem restoreGov_base (s : State) (d : Dir) (u : Nat) : (State.restoreGov s d u).base = s.base := by
  unfold State.restoreGov; (try dsimp only)
  repeat' first | with_reducible rfl | (with_reducible refine (foldl_base _ _ ?_ _).trans ?_; intro _ _; try dsimp only) | simp only [unmuteDir_base, restoreSlot_base, unmuteSlot_base, base_upd] | split

theorem restoreLane_base (s : State) (tx : Bool) (l : Nat) : (State.restoreLane s tx l).base = s.base := by
  unfold State.restoreLane; (try dsimp only)
  repeat' first | with_reducible rfl | (with_reducible refine (foldl_base _ _ ?_ _).trans ?_; intro _ _; try dsimp only) | simp only [base_upd] | split

theorem restoreLaw_base (s : State) (j : Nat) : (State.restoreLaw s j).base = s.base := by
  unfold State.restoreLaw; (try dsimp only)
  repeat' first | with_reducible rfl | (with_reducible refine (foldl_base _ _ ?_ _).trans ?_; intro _ _; try dsimp only) | simp only [base_upd] | split

theorem restorePeat_base (s : State) : (State.restorePeat s).base = s.base := by
  unfold State.restorePeat; (try dsimp only)
  repeat' first | with_reducible rfl | (with_reducible refine (foldl_base _ _ ?_ _).trans ?_; intro _ _; try dsimp only) | simp only [raiseIf_base, peatClose_base, base_upd] | split

theorem restoreBlock_base (s : State) (b u : Nat) : (State.restoreBlock s b u).base = s.base := by
  unfold State.restoreBlock; (try dsimp only)
  repeat' first | with_reducible rfl | (with_reducible refine (foldl_base _ _ ?_ _).trans ?_; intro _ _; try dsimp only) | simp only [restoreSlot_base, lockStart_base, restoreEcho_base, restoreLane_base, restoreLaw_base, restoreGov_base, restoreEchoes_base, restorePeat_base, base_upd] | split

theorem returnUnits_base (s : State) : (State.returnUnits s).base = s.base := by
  unfold State.returnUnits; (try dsimp only)
  repeat' first | with_reducible rfl | (with_reducible refine (foldl_base _ _ ?_ _).trans ?_; intro _ _; try dsimp only) | simp only [backInService_base, restoreBlock_base, base_upd] | split

theorem overtakeReturns_base (s : State) (ds : List Dir) : (State.overtakeReturns s ds).base = s.base := base_of_still (overtakeReturns_still s ds)

theorem enterStandby_base (s : State) (d : Dir) (cause : Nat) : (State.enterStandby s d cause).base = s.base := base_of_still (enterStandby_still s d cause)

theorem reconfigure_base (s : State) : (State.reconfigure s).base = s.base := by
  unfold State.reconfigure; (try dsimp only)
  repeat' first | with_reducible rfl | (with_reducible refine (foldl_base _ _ ?_ _).trans ?_; intro _ _; try dsimp only) | simp only [abandonCheck_base, overtakeReturns_base, retry_base, enterStandby_base, returnUnits_base, peatReconfig_base, base_upd] | split

theorem serviceEnClear_base (s : State) : (serviceEnClear s).base = s.base := by
  unfold serviceEnClear; (try dsimp only)
  repeat' first | with_reducible rfl | (with_reducible refine (foldl_base _ _ ?_ _).trans ?_; intro _ _; try dsimp only) | simp only [holdEnable_base, reconfigure_base, base_upd] | split

theorem request_base (s : State) (q : Req) : (State.request s q).base = s.base := base_of_still (request_still s q)

theorem heldWrite_base (s : State) (w : Bool × Word) : (State.heldWrite s w).base = s.base := by
  unfold State.heldWrite; (try dsimp only)
  repeat' first | with_reducible rfl | (with_reducible refine (foldl_base _ _ ?_ _).trans ?_; intro _ _; try dsimp only) | simp only [request_base, enableService_base, serviceEnClear_base, base_upd] | split

theorem releaseHeld_base (s : State) : (State.releaseHeld s).base = s.base := by
  unfold State.releaseHeld; (try dsimp only)
  repeat' first | with_reducible rfl | (with_reducible refine (foldl_base _ _ ?_ _).trans ?_; intro _ _; try dsimp only) | simp only [heldWrite_base, base_upd] | split

theorem fenceNow_base (s : State) (b u src : Nat) : (State.fenceNow s b u src).base = s.base := by
  unfold State.fenceNow; (try dsimp only)
  repeat' first | with_reducible rfl | (with_reducible refine (foldl_base _ _ ?_ _).trans ?_; intro _ _; try dsimp only) | simp only [base_upd] | split

theorem readback_base (s : State) (v : BitVec 26) : (State.readback s v).base = s.base := by
  unfold State.readback; (try dsimp only)
  repeat' first | with_reducible rfl | (with_reducible refine (foldl_base _ _ ?_ _).trans ?_; intro _ _; try dsimp only) | simp only [fenceNow_base, raise_base, base_upd] | split

theorem cacheAdd_base (s : State) (y : Syn) (b : BandCal) : (State.cacheAdd s y b).base = s.base := by
  unfold State.cacheAdd; (try dsimp only)
  repeat' first | with_reducible rfl | (with_reducible refine (foldl_base _ _ ?_ _).trans ?_; intro _ _; try dsimp only) | simp only [setCache_base, base_upd] | split

theorem cacheWrite_base (s : State) (y : Syn) (b : BandCal) : (State.cacheWrite s y b).base = s.base := by
  unfold State.cacheWrite; (try dsimp only)
  repeat' first | with_reducible rfl | (with_reducible refine (foldl_base _ _ ?_ _).trans ?_; intro _ _; try dsimp only) | simp only [cacheAdd_base, mramWrite_base, base_upd] | split

theorem lockTime_base (s : State) (y : Syn) (us : Nat) : (State.lockTime s y us).base = s.base := by
  unfold State.lockTime; (try dsimp only)
  repeat' first | with_reducible rfl | (with_reducible refine (foldl_base _ _ ?_ _).trans ?_; intro _ _; try dsimp only) | simp only [setStF_base, base_upd] | split

theorem lockEnd_base (s : State) (y : Syn) (us : Nat) : (State.lockEnd s y us).base = s.base := by
  unfold State.lockEnd; (try dsimp only)
  repeat' first | with_reducible rfl | (with_reducible refine (foldl_base _ _ ?_ _).trans ?_; intro _ _; try dsimp only) | simp only [setSyn_base, cacheWrite_base, lockTime_base, base_upd] | split

theorem lockAtStart_base (s : State) (y : Syn) (l : LockUs) (band : BandCal) : (State.lockAtStart s y l band).base = s.base := by
  unfold State.lockAtStart; (try dsimp only)
  repeat' first | with_reducible rfl | (with_reducible refine (foldl_base _ _ ?_ _).trans ?_; intro _ _; try dsimp only) | simp only [setSyn_base, lockStart_base, lockEnd_base, base_upd] | split

theorem calDone_base (s : State) (rx tx : BitVec 4) (fail : BitVec 8) : (State.calDone s rx tx fail).base = s.base := by
  unfold State.calDone; (try dsimp only)
  repeat' first | with_reducible rfl | (with_reducible refine (foldl_base _ _ ?_ _).trans ?_; intro _ _; try dsimp only) | simp only [raiseIf_base, base_upd] | split

theorem record_base (s : State) (fromCode toCode dir cause : Nat) : (State.record s fromCode toCode dir cause).base = s.base := base_of_still (record_still s fromCode toCode dir cause)

theorem recordMade_base (s : State) (tx : Bool) (l : Nat) : (State.recordMade s tx l).base = s.base := by
  unfold State.recordMade; (try dsimp only)
  repeat' first | with_reducible rfl | (with_reducible refine (foldl_base _ _ ?_ _).trans ?_; intro _ _; try dsimp only) | simp only [record_base, mramWrite_base, base_upd] | split

theorem calibrate_base (s : State) (fail : BitVec 8) : (State.calibrate s fail).base = s.base := by
  unfold State.calibrate; (try dsimp only)
  repeat' first | with_reducible rfl | (with_reducible refine (foldl_base _ _ ?_ _).trans ?_; intro _ _; try dsimp only) | simp only [recordMade_base, calDone_base, base_upd] | split

theorem heldEnable_base (s : State) (v : Bool) : (State.heldEnable s v).base = s.base := by
  unfold State.heldEnable; (try dsimp only)
  repeat' first | with_reducible rfl | (with_reducible refine (foldl_base _ _ ?_ _).trans ?_; intro _ _; try dsimp only) | simp only [reqEnd_base, enableService_base, reconfigure_base, base_upd] | split

theorem wakeHeld_base (s : State) : (State.wakeHeld s).base = s.base := by
  unfold State.wakeHeld; (try dsimp only)
  repeat' first | with_reducible rfl | (with_reducible refine (foldl_base _ _ ?_ _).trans ?_; intro _ _; try dsimp only) | simp only [heldEnable_base, base_upd] | split

theorem applyReturn_base (s : State) : (State.applyReturn s).base = s.base := by
  unfold State.applyReturn; (try dsimp only)
  repeat' first | with_reducible rfl | (with_reducible refine (foldl_base _ _ ?_ _).trans ?_; intro _ _; try dsimp only) | simp only [request_base, startCheck_base, base_upd] | split

theorem unbehind_base (s : State) : (State.unbehind s).base = s.base := by
  unfold State.unbehind; (try dsimp only)
  repeat' first | with_reducible rfl | (with_reducible refine (foldl_base _ _ ?_ _).trans ?_; intro _ _; try dsimp only) | simp only [handle_base, base_upd] | split

theorem reqShow_base (s : State) (q : Req) (status : Nat) : (State.reqShow s q status).base = s.base := base_of_still (reqShow_still s q status)

theorem serviceRequest_base (s : State) (tag cause : Nat) : (State.serviceRequest s tag cause).base = s.base := by
  unfold State.serviceRequest; (try dsimp only)
  repeat' first | with_reducible rfl | (with_reducible refine (foldl_base _ _ ?_ _).trans ?_; intro _ _; try dsimp only) | simp only [handle_base, reqShow_base, unbehind_base, base_upd] | split

theorem lawsPassed_base (s : State) : (State.lawsPassed s).base = s.base := by
  unfold State.lawsPassed; (try dsimp only)
  repeat' first | with_reducible rfl | (with_reducible refine (foldl_base _ _ ?_ _).trans ?_; intro _ _; try dsimp only) | simp only [base_upd] | split

theorem locksChanged_base (s : State) : (State.locksChanged s).base = s.base := by
  unfold State.locksChanged; (try dsimp only)
  repeat' first | with_reducible rfl | (with_reducible refine (foldl_base _ _ ?_ _).trans ?_; intro _ _; try dsimp only) | simp only [retry_base, unbehind_base, base_upd] | split

end Sys2Proof.Machine
end

