-- ==== Sys2Proof/Laws/State.lean ====
section
/-! SUPPORT. What each named update leaves alone: one lemma per update and field, and what the accessors read after an update. -/

namespace Sys2Proof.Machine

/-! ### setSt -/

@[simp] theorem setSt_power (s : State) (a n : Nat) : (s.setSt a n).power = s.power := rfl
@[simp] theorem setSt_lev (s : State) (a n : Nat) : (s.setSt a n).lev = s.lev := rfl
@[simp] theorem setSt_now (s : State) (a n : Nat) : (s.setSt a n).now = s.now := rfl
@[simp] theorem setSt_free (s : State) (a n : Nat) : (s.setSt a n).free = s.free := rfl
@[simp] theorem setSt_cfg (s : State) (a n : Nat) : (s.setSt a n).cfg = s.cfg := rfl
@[simp] theorem setSt_flt (s : State) (a n : Nat) : (s.setSt a n).flt = s.flt := rfl
@[simp] theorem setSt_sys (s : State) (a n : Nat) : (s.setSt a n).sys = s.sys := rfl
@[simp] theorem setSt_boot (s : State) (a n : Nat) : (s.setSt a n).boot = s.boot := rfl
@[simp] theorem setSt_mram (s : State) (a n : Nat) : (s.setSt a n).mram = s.mram := rfl
@[simp] theorem setSt_syn (s : State) (a n : Nat) : (s.setSt a n).syn = s.syn := rfl
@[simp] theorem setSt_conv (s : State) (a n : Nat) : (s.setSt a n).conv = s.conv := rfl
@[simp] theorem setSt_slots (s : State) (a n : Nat) : (s.setSt a n).slots = s.slots := rfl
@[simp] theorem setSt_echo (s : State) (a n : Nat) : (s.setSt a n).echo = s.echo := rfl
@[simp] theorem setSt_gov (s : State) (a n : Nat) : (s.setSt a n).gov = s.gov := rfl
@[simp] theorem setSt_govDl (s : State) (a n : Nat) : (s.setSt a n).govDl = s.govDl := rfl
@[simp] theorem setSt_govUl (s : State) (a n : Nat) : (s.setSt a n).govUl = s.govUl := rfl
@[simp] theorem setSt_watch (s : State) (a n : Nat) : (s.setSt a n).watch = s.watch := rfl
@[simp] theorem setSt_loop (s : State) (a n : Nat) : (s.setSt a n).loop = s.loop := rfl
@[simp] theorem setSt_front (s : State) (a n : Nat) : (s.setSt a n).front = s.front := rfl
@[simp] theorem setSt_lock (s : State) (a n : Nat) : (s.setSt a n).lock = s.lock := rfl
@[simp] theorem setSt_sync (s : State) (a n : Nat) : (s.setSt a n).sync = s.sync := rfl
@[simp] theorem setSt_lichen (s : State) (a n : Nat) : (s.setSt a n).lichen = s.lichen := rfl
@[simp] theorem setSt_bog (s : State) (a n : Nat) : (s.setSt a n).bog = s.bog := rfl
@[simp] theorem setSt_bix (s : State) (a n : Nat) : (s.setSt a n).bix = s.bix := rfl
@[simp] theorem setSt_hk (s : State) (a n : Nat) : (s.setSt a n).hk = s.hk := rfl
@[simp] theorem setSt_therm (s : State) (a n : Nat) : (s.setSt a n).therm = s.therm := rfl
@[simp] theorem setSt_peat (s : State) (a n : Nat) : (s.setSt a n).peat = s.peat := rfl
@[simp] theorem setSt_twb (s : State) (a n : Nat) : (s.setSt a n).twb = s.twb := rfl
@[simp] theorem setSt_pcie (s : State) (a n : Nat) : (s.setSt a n).pcie = s.pcie := rfl
@[simp] theorem setSt_pending (s : State) (a n : Nat) : (s.setSt a n).pending = s.pending := rfl

/-! ### wr -/

@[simp] theorem wr_power (s : State) (a n : Nat) : (s.wr a n).power = s.power := rfl
@[simp] theorem wr_lev (s : State) (a n : Nat) : (s.wr a n).lev = s.lev := rfl
@[simp] theorem wr_now (s : State) (a n : Nat) : (s.wr a n).now = s.now := rfl
@[simp] theorem wr_free (s : State) (a n : Nat) : (s.wr a n).free = s.free := rfl
@[simp] theorem wr_sts (s : State) (a n : Nat) : (s.wr a n).sts = s.sts := rfl
@[simp] theorem wr_flt (s : State) (a n : Nat) : (s.wr a n).flt = s.flt := rfl
@[simp] theorem wr_sys (s : State) (a n : Nat) : (s.wr a n).sys = s.sys := rfl
@[simp] theorem wr_boot (s : State) (a n : Nat) : (s.wr a n).boot = s.boot := rfl
@[simp] theorem wr_mram (s : State) (a n : Nat) : (s.wr a n).mram = s.mram := rfl
@[simp] theorem wr_syn (s : State) (a n : Nat) : (s.wr a n).syn = s.syn := rfl
@[simp] theorem wr_conv (s : State) (a n : Nat) : (s.wr a n).conv = s.conv := rfl
@[simp] theorem wr_slots (s : State) (a n : Nat) : (s.wr a n).slots = s.slots := rfl
@[simp] theorem wr_echo (s : State) (a n : Nat) : (s.wr a n).echo = s.echo := rfl
@[simp] theorem wr_gov (s : State) (a n : Nat) : (s.wr a n).gov = s.gov := rfl
@[simp] theorem wr_govDl (s : State) (a n : Nat) : (s.wr a n).govDl = s.govDl := rfl
@[simp] theorem wr_govUl (s : State) (a n : Nat) : (s.wr a n).govUl = s.govUl := rfl
@[simp] theorem wr_watch (s : State) (a n : Nat) : (s.wr a n).watch = s.watch := rfl
@[simp] theorem wr_loop (s : State) (a n : Nat) : (s.wr a n).loop = s.loop := rfl
@[simp] theorem wr_front (s : State) (a n : Nat) : (s.wr a n).front = s.front := rfl
@[simp] theorem wr_lock (s : State) (a n : Nat) : (s.wr a n).lock = s.lock := rfl
@[simp] theorem wr_sync (s : State) (a n : Nat) : (s.wr a n).sync = s.sync := rfl
@[simp] theorem wr_lichen (s : State) (a n : Nat) : (s.wr a n).lichen = s.lichen := rfl
@[simp] theorem wr_bog (s : State) (a n : Nat) : (s.wr a n).bog = s.bog := rfl
@[simp] theorem wr_bix (s : State) (a n : Nat) : (s.wr a n).bix = s.bix := rfl
@[simp] theorem wr_hk (s : State) (a n : Nat) : (s.wr a n).hk = s.hk := rfl
@[simp] theorem wr_therm (s : State) (a n : Nat) : (s.wr a n).therm = s.therm := rfl
@[simp] theorem wr_peat (s : State) (a n : Nat) : (s.wr a n).peat = s.peat := rfl
@[simp] theorem wr_twb (s : State) (a n : Nat) : (s.wr a n).twb = s.twb := rfl
@[simp] theorem wr_pcie (s : State) (a n : Nat) : (s.wr a n).pcie = s.pcie := rfl
@[simp] theorem wr_pending (s : State) (a n : Nat) : (s.wr a n).pending = s.pending := rfl

/-! ### setDir -/

@[simp] theorem setDir_power (s : State) (d : Dir) (r : DirRec) : (s.setDir d r).power = s.power := by cases d <;> rfl
@[simp] theorem setDir_lev (s : State) (d : Dir) (r : DirRec) : (s.setDir d r).lev = s.lev := by cases d <;> rfl
@[simp] theorem setDir_now (s : State) (d : Dir) (r : DirRec) : (s.setDir d r).now = s.now := by cases d <;> rfl
@[simp] theorem setDir_free (s : State) (d : Dir) (r : DirRec) : (s.setDir d r).free = s.free := by cases d <;> rfl
@[simp] theorem setDir_cfg (s : State) (d : Dir) (r : DirRec) : (s.setDir d r).cfg = s.cfg := by cases d <;> rfl
@[simp] theorem setDir_sts (s : State) (d : Dir) (r : DirRec) : (s.setDir d r).sts = s.sts := by cases d <;> rfl
@[simp] theorem setDir_flt (s : State) (d : Dir) (r : DirRec) : (s.setDir d r).flt = s.flt := by cases d <;> rfl
@[simp] theorem setDir_boot (s : State) (d : Dir) (r : DirRec) : (s.setDir d r).boot = s.boot := by cases d <;> rfl
@[simp] theorem setDir_mram (s : State) (d : Dir) (r : DirRec) : (s.setDir d r).mram = s.mram := by cases d <;> rfl
@[simp] theorem setDir_syn (s : State) (d : Dir) (r : DirRec) : (s.setDir d r).syn = s.syn := by cases d <;> rfl
@[simp] theorem setDir_conv (s : State) (d : Dir) (r : DirRec) : (s.setDir d r).conv = s.conv := by cases d <;> rfl
@[simp] theorem setDir_slots (s : State) (d : Dir) (r : DirRec) : (s.setDir d r).slots = s.slots := by cases d <;> rfl
@[simp] theorem setDir_echo (s : State) (d : Dir) (r : DirRec) : (s.setDir d r).echo = s.echo := by cases d <;> rfl
@[simp] theorem setDir_gov (s : State) (d : Dir) (r : DirRec) : (s.setDir d r).gov = s.gov := by cases d <;> rfl
@[simp] theorem setDir_govDl (s : State) (d : Dir) (r : DirRec) : (s.setDir d r).govDl = s.govDl := by cases d <;> rfl
@[simp] theorem setDir_govUl (s : State) (d : Dir) (r : DirRec) : (s.setDir d r).govUl = s.govUl := by cases d <;> rfl
@[simp] theorem setDir_watch (s : State) (d : Dir) (r : DirRec) : (s.setDir d r).watch = s.watch := by cases d <;> rfl
@[simp] theorem setDir_loop (s : State) (d : Dir) (r : DirRec) : (s.setDir d r).loop = s.loop := by cases d <;> rfl
@[simp] theorem setDir_front (s : State) (d : Dir) (r : DirRec) : (s.setDir d r).front = s.front := by cases d <;> rfl
@[simp] theorem setDir_lock (s : State) (d : Dir) (r : DirRec) : (s.setDir d r).lock = s.lock := by cases d <;> rfl
@[simp] theorem setDir_sync (s : State) (d : Dir) (r : DirRec) : (s.setDir d r).sync = s.sync := by cases d <;> rfl
@[simp] theorem setDir_lichen (s : State) (d : Dir) (r : DirRec) : (s.setDir d r).lichen = s.lichen := by cases d <;> rfl
@[simp] theorem setDir_bog (s : State) (d : Dir) (r : DirRec) : (s.setDir d r).bog = s.bog := by cases d <;> rfl
@[simp] theorem setDir_bix (s : State) (d : Dir) (r : DirRec) : (s.setDir d r).bix = s.bix := by cases d <;> rfl
@[simp] theorem setDir_hk (s : State) (d : Dir) (r : DirRec) : (s.setDir d r).hk = s.hk := by cases d <;> rfl
@[simp] theorem setDir_therm (s : State) (d : Dir) (r : DirRec) : (s.setDir d r).therm = s.therm := by cases d <;> rfl
@[simp] theorem setDir_peat (s : State) (d : Dir) (r : DirRec) : (s.setDir d r).peat = s.peat := by cases d <;> rfl
@[simp] theorem setDir_twb (s : State) (d : Dir) (r : DirRec) : (s.setDir d r).twb = s.twb := by cases d <;> rfl
@[simp] theorem setDir_pcie (s : State) (d : Dir) (r : DirRec) : (s.setDir d r).pcie = s.pcie := by cases d <;> rfl
@[simp] theorem setDir_pending (s : State) (d : Dir) (r : DirRec) : (s.setDir d r).pending = s.pending := by cases d <;> rfl

/-! ### setGov -/

@[simp] theorem setGov_power (s : State) (d : Dir) (g : Nat) (r : GovRec) : (s.setGov d g r).power = s.power := rfl
@[simp] theorem setGov_lev (s : State) (d : Dir) (g : Nat) (r : GovRec) : (s.setGov d g r).lev = s.lev := rfl
@[simp] theorem setGov_now (s : State) (d : Dir) (g : Nat) (r : GovRec) : (s.setGov d g r).now = s.now := rfl
@[simp] theorem setGov_free (s : State) (d : Dir) (g : Nat) (r : GovRec) : (s.setGov d g r).free = s.free := rfl
@[simp] theorem setGov_cfg (s : State) (d : Dir) (g : Nat) (r : GovRec) : (s.setGov d g r).cfg = s.cfg := rfl
@[simp] theorem setGov_sts (s : State) (d : Dir) (g : Nat) (r : GovRec) : (s.setGov d g r).sts = s.sts := rfl
@[simp] theorem setGov_flt (s : State) (d : Dir) (g : Nat) (r : GovRec) : (s.setGov d g r).flt = s.flt := rfl
@[simp] theorem setGov_sys (s : State) (d : Dir) (g : Nat) (r : GovRec) : (s.setGov d g r).sys = s.sys := rfl
@[simp] theorem setGov_boot (s : State) (d : Dir) (g : Nat) (r : GovRec) : (s.setGov d g r).boot = s.boot := rfl
@[simp] theorem setGov_mram (s : State) (d : Dir) (g : Nat) (r : GovRec) : (s.setGov d g r).mram = s.mram := rfl
@[simp] theorem setGov_syn (s : State) (d : Dir) (g : Nat) (r : GovRec) : (s.setGov d g r).syn = s.syn := rfl
@[simp] theorem setGov_conv (s : State) (d : Dir) (g : Nat) (r : GovRec) : (s.setGov d g r).conv = s.conv := rfl
@[simp] theorem setGov_slots (s : State) (d : Dir) (g : Nat) (r : GovRec) : (s.setGov d g r).slots = s.slots := rfl
@[simp] theorem setGov_echo (s : State) (d : Dir) (g : Nat) (r : GovRec) : (s.setGov d g r).echo = s.echo := rfl
@[simp] theorem setGov_govDl (s : State) (d : Dir) (g : Nat) (r : GovRec) : (s.setGov d g r).govDl = s.govDl := rfl
@[simp] theorem setGov_govUl (s : State) (d : Dir) (g : Nat) (r : GovRec) : (s.setGov d g r).govUl = s.govUl := rfl
@[simp] theorem setGov_watch (s : State) (d : Dir) (g : Nat) (r : GovRec) : (s.setGov d g r).watch = s.watch := rfl
@[simp] theorem setGov_loop (s : State) (d : Dir) (g : Nat) (r : GovRec) : (s.setGov d g r).loop = s.loop := rfl
@[simp] theorem setGov_front (s : State) (d : Dir) (g : Nat) (r : GovRec) : (s.setGov d g r).front = s.front := rfl
@[simp] theorem setGov_lock (s : State) (d : Dir) (g : Nat) (r : GovRec) : (s.setGov d g r).lock = s.lock := rfl
@[simp] theorem setGov_sync (s : State) (d : Dir) (g : Nat) (r : GovRec) : (s.setGov d g r).sync = s.sync := rfl
@[simp] theorem setGov_lichen (s : State) (d : Dir) (g : Nat) (r : GovRec) : (s.setGov d g r).lichen = s.lichen := rfl
@[simp] theorem setGov_bog (s : State) (d : Dir) (g : Nat) (r : GovRec) : (s.setGov d g r).bog = s.bog := rfl
@[simp] theorem setGov_bix (s : State) (d : Dir) (g : Nat) (r : GovRec) : (s.setGov d g r).bix = s.bix := rfl
@[simp] theorem setGov_hk (s : State) (d : Dir) (g : Nat) (r : GovRec) : (s.setGov d g r).hk = s.hk := rfl
@[simp] theorem setGov_therm (s : State) (d : Dir) (g : Nat) (r : GovRec) : (s.setGov d g r).therm = s.therm := rfl
@[simp] theorem setGov_peat (s : State) (d : Dir) (g : Nat) (r : GovRec) : (s.setGov d g r).peat = s.peat := rfl
@[simp] theorem setGov_twb (s : State) (d : Dir) (g : Nat) (r : GovRec) : (s.setGov d g r).twb = s.twb := rfl
@[simp] theorem setGov_pcie (s : State) (d : Dir) (g : Nat) (r : GovRec) : (s.setGov d g r).pcie = s.pcie := rfl
@[simp] theorem setGov_pending (s : State) (d : Dir) (g : Nat) (r : GovRec) : (s.setGov d g r).pending = s.pending := rfl

/-! ### setGovDir -/

@[simp] theorem setGovDir_power (s : State) (d : Dir) (g : GovDir) : (s.setGovDir d g).power = s.power := by cases d <;> rfl
@[simp] theorem setGovDir_lev (s : State) (d : Dir) (g : GovDir) : (s.setGovDir d g).lev = s.lev := by cases d <;> rfl
@[simp] theorem setGovDir_now (s : State) (d : Dir) (g : GovDir) : (s.setGovDir d g).now = s.now := by cases d <;> rfl
@[simp] theorem setGovDir_free (s : State) (d : Dir) (g : GovDir) : (s.setGovDir d g).free = s.free := by cases d <;> rfl
@[simp] theorem setGovDir_cfg (s : State) (d : Dir) (g : GovDir) : (s.setGovDir d g).cfg = s.cfg := by cases d <;> rfl
@[simp] theorem setGovDir_sts (s : State) (d : Dir) (g : GovDir) : (s.setGovDir d g).sts = s.sts := by cases d <;> rfl
@[simp] theorem setGovDir_flt (s : State) (d : Dir) (g : GovDir) : (s.setGovDir d g).flt = s.flt := by cases d <;> rfl
@[simp] theorem setGovDir_sys (s : State) (d : Dir) (g : GovDir) : (s.setGovDir d g).sys = s.sys := by cases d <;> rfl
@[simp] theorem setGovDir_boot (s : State) (d : Dir) (g : GovDir) : (s.setGovDir d g).boot = s.boot := by cases d <;> rfl
@[simp] theorem setGovDir_mram (s : State) (d : Dir) (g : GovDir) : (s.setGovDir d g).mram = s.mram := by cases d <;> rfl
@[simp] theorem setGovDir_syn (s : State) (d : Dir) (g : GovDir) : (s.setGovDir d g).syn = s.syn := by cases d <;> rfl
@[simp] theorem setGovDir_conv (s : State) (d : Dir) (g : GovDir) : (s.setGovDir d g).conv = s.conv := by cases d <;> rfl
@[simp] theorem setGovDir_slots (s : State) (d : Dir) (g : GovDir) : (s.setGovDir d g).slots = s.slots := by cases d <;> rfl
@[simp] theorem setGovDir_echo (s : State) (d : Dir) (g : GovDir) : (s.setGovDir d g).echo = s.echo := by cases d <;> rfl
@[simp] theorem setGovDir_gov (s : State) (d : Dir) (g : GovDir) : (s.setGovDir d g).gov = s.gov := by cases d <;> rfl
@[simp] theorem setGovDir_watch (s : State) (d : Dir) (g : GovDir) : (s.setGovDir d g).watch = s.watch := by cases d <;> rfl
@[simp] theorem setGovDir_loop (s : State) (d : Dir) (g : GovDir) : (s.setGovDir d g).loop = s.loop := by cases d <;> rfl
@[simp] theorem setGovDir_front (s : State) (d : Dir) (g : GovDir) : (s.setGovDir d g).front = s.front := by cases d <;> rfl
@[simp] theorem setGovDir_lock (s : State) (d : Dir) (g : GovDir) : (s.setGovDir d g).lock = s.lock := by cases d <;> rfl
@[simp] theorem setGovDir_sync (s : State) (d : Dir) (g : GovDir) : (s.setGovDir d g).sync = s.sync := by cases d <;> rfl
@[simp] theorem setGovDir_lichen (s : State) (d : Dir) (g : GovDir) : (s.setGovDir d g).lichen = s.lichen := by cases d <;> rfl
@[simp] theorem setGovDir_bog (s : State) (d : Dir) (g : GovDir) : (s.setGovDir d g).bog = s.bog := by cases d <;> rfl
@[simp] theorem setGovDir_bix (s : State) (d : Dir) (g : GovDir) : (s.setGovDir d g).bix = s.bix := by cases d <;> rfl
@[simp] theorem setGovDir_hk (s : State) (d : Dir) (g : GovDir) : (s.setGovDir d g).hk = s.hk := by cases d <;> rfl
@[simp] theorem setGovDir_therm (s : State) (d : Dir) (g : GovDir) : (s.setGovDir d g).therm = s.therm := by cases d <;> rfl
@[simp] theorem setGovDir_peat (s : State) (d : Dir) (g : GovDir) : (s.setGovDir d g).peat = s.peat := by cases d <;> rfl
@[simp] theorem setGovDir_twb (s : State) (d : Dir) (g : GovDir) : (s.setGovDir d g).twb = s.twb := by cases d <;> rfl
@[simp] theorem setGovDir_pcie (s : State) (d : Dir) (g : GovDir) : (s.setGovDir d g).pcie = s.pcie := by cases d <;> rfl
@[simp] theorem setGovDir_pending (s : State) (d : Dir) (g : GovDir) : (s.setGovDir d g).pending = s.pending := by cases d <;> rfl

/-! ### setSlot -/

@[simp] theorem setSlot_power (s : State) (d : Dir) (n : Nat) (r : SlotRec) : (s.setSlot d n r).power = s.power := rfl
@[simp] theorem setSlot_lev (s : State) (d : Dir) (n : Nat) (r : SlotRec) : (s.setSlot d n r).lev = s.lev := rfl
@[simp] theorem setSlot_now (s : State) (d : Dir) (n : Nat) (r : SlotRec) : (s.setSlot d n r).now = s.now := rfl
@[simp] theorem setSlot_free (s : State) (d : Dir) (n : Nat) (r : SlotRec) : (s.setSlot d n r).free = s.free := rfl
@[simp] theorem setSlot_cfg (s : State) (d : Dir) (n : Nat) (r : SlotRec) : (s.setSlot d n r).cfg = s.cfg := rfl
@[simp] theorem setSlot_sts (s : State) (d : Dir) (n : Nat) (r : SlotRec) : (s.setSlot d n r).sts = s.sts := rfl
@[simp] theorem setSlot_flt (s : State) (d : Dir) (n : Nat) (r : SlotRec) : (s.setSlot d n r).flt = s.flt := rfl
@[simp] theorem setSlot_sys (s : State) (d : Dir) (n : Nat) (r : SlotRec) : (s.setSlot d n r).sys = s.sys := rfl
@[simp] theorem setSlot_boot (s : State) (d : Dir) (n : Nat) (r : SlotRec) : (s.setSlot d n r).boot = s.boot := rfl
@[simp] theorem setSlot_mram (s : State) (d : Dir) (n : Nat) (r : SlotRec) : (s.setSlot d n r).mram = s.mram := rfl
@[simp] theorem setSlot_syn (s : State) (d : Dir) (n : Nat) (r : SlotRec) : (s.setSlot d n r).syn = s.syn := rfl
@[simp] theorem setSlot_conv (s : State) (d : Dir) (n : Nat) (r : SlotRec) : (s.setSlot d n r).conv = s.conv := rfl
@[simp] theorem setSlot_echo (s : State) (d : Dir) (n : Nat) (r : SlotRec) : (s.setSlot d n r).echo = s.echo := rfl
@[simp] theorem setSlot_gov (s : State) (d : Dir) (n : Nat) (r : SlotRec) : (s.setSlot d n r).gov = s.gov := rfl
@[simp] theorem setSlot_govDl (s : State) (d : Dir) (n : Nat) (r : SlotRec) : (s.setSlot d n r).govDl = s.govDl := rfl
@[simp] theorem setSlot_govUl (s : State) (d : Dir) (n : Nat) (r : SlotRec) : (s.setSlot d n r).govUl = s.govUl := rfl
@[simp] theorem setSlot_watch (s : State) (d : Dir) (n : Nat) (r : SlotRec) : (s.setSlot d n r).watch = s.watch := rfl
@[simp] theorem setSlot_loop (s : State) (d : Dir) (n : Nat) (r : SlotRec) : (s.setSlot d n r).loop = s.loop := rfl
@[simp] theorem setSlot_front (s : State) (d : Dir) (n : Nat) (r : SlotRec) : (s.setSlot d n r).front = s.front := rfl
@[simp] theorem setSlot_lock (s : State) (d : Dir) (n : Nat) (r : SlotRec) : (s.setSlot d n r).lock = s.lock := rfl
@[simp] theorem setSlot_sync (s : State) (d : Dir) (n : Nat) (r : SlotRec) : (s.setSlot d n r).sync = s.sync := rfl
@[simp] theorem setSlot_lichen (s : State) (d : Dir) (n : Nat) (r : SlotRec) : (s.setSlot d n r).lichen = s.lichen := rfl
@[simp] theorem setSlot_bog (s : State) (d : Dir) (n : Nat) (r : SlotRec) : (s.setSlot d n r).bog = s.bog := rfl
@[simp] theorem setSlot_bix (s : State) (d : Dir) (n : Nat) (r : SlotRec) : (s.setSlot d n r).bix = s.bix := rfl
@[simp] theorem setSlot_hk (s : State) (d : Dir) (n : Nat) (r : SlotRec) : (s.setSlot d n r).hk = s.hk := rfl
@[simp] theorem setSlot_therm (s : State) (d : Dir) (n : Nat) (r : SlotRec) : (s.setSlot d n r).therm = s.therm := rfl
@[simp] theorem setSlot_peat (s : State) (d : Dir) (n : Nat) (r : SlotRec) : (s.setSlot d n r).peat = s.peat := rfl
@[simp] theorem setSlot_twb (s : State) (d : Dir) (n : Nat) (r : SlotRec) : (s.setSlot d n r).twb = s.twb := rfl
@[simp] theorem setSlot_pcie (s : State) (d : Dir) (n : Nat) (r : SlotRec) : (s.setSlot d n r).pcie = s.pcie := rfl
@[simp] theorem setSlot_pending (s : State) (d : Dir) (n : Nat) (r : SlotRec) : (s.setSlot d n r).pending = s.pending := rfl

/-! ### setEcho -/

@[simp] theorem setEcho_power (s : State) (d : Dir) (n : Nat) (r : EchoRec) : (s.setEcho d n r).power = s.power := rfl
@[simp] theorem setEcho_lev (s : State) (d : Dir) (n : Nat) (r : EchoRec) : (s.setEcho d n r).lev = s.lev := rfl
@[simp] theorem setEcho_now (s : State) (d : Dir) (n : Nat) (r : EchoRec) : (s.setEcho d n r).now = s.now := rfl
@[simp] theorem setEcho_free (s : State) (d : Dir) (n : Nat) (r : EchoRec) : (s.setEcho d n r).free = s.free := rfl
@[simp] theorem setEcho_cfg (s : State) (d : Dir) (n : Nat) (r : EchoRec) : (s.setEcho d n r).cfg = s.cfg := rfl
@[simp] theorem setEcho_sts (s : State) (d : Dir) (n : Nat) (r : EchoRec) : (s.setEcho d n r).sts = s.sts := rfl
@[simp] theorem setEcho_flt (s : State) (d : Dir) (n : Nat) (r : EchoRec) : (s.setEcho d n r).flt = s.flt := rfl
@[simp] theorem setEcho_sys (s : State) (d : Dir) (n : Nat) (r : EchoRec) : (s.setEcho d n r).sys = s.sys := rfl
@[simp] theorem setEcho_boot (s : State) (d : Dir) (n : Nat) (r : EchoRec) : (s.setEcho d n r).boot = s.boot := rfl
@[simp] theorem setEcho_mram (s : State) (d : Dir) (n : Nat) (r : EchoRec) : (s.setEcho d n r).mram = s.mram := rfl
@[simp] theorem setEcho_syn (s : State) (d : Dir) (n : Nat) (r : EchoRec) : (s.setEcho d n r).syn = s.syn := rfl
@[simp] theorem setEcho_conv (s : State) (d : Dir) (n : Nat) (r : EchoRec) : (s.setEcho d n r).conv = s.conv := rfl
@[simp] theorem setEcho_slots (s : State) (d : Dir) (n : Nat) (r : EchoRec) : (s.setEcho d n r).slots = s.slots := rfl
@[simp] theorem setEcho_gov (s : State) (d : Dir) (n : Nat) (r : EchoRec) : (s.setEcho d n r).gov = s.gov := rfl
@[simp] theorem setEcho_govDl (s : State) (d : Dir) (n : Nat) (r : EchoRec) : (s.setEcho d n r).govDl = s.govDl := rfl
@[simp] theorem setEcho_govUl (s : State) (d : Dir) (n : Nat) (r : EchoRec) : (s.setEcho d n r).govUl = s.govUl := rfl
@[simp] theorem setEcho_watch (s : State) (d : Dir) (n : Nat) (r : EchoRec) : (s.setEcho d n r).watch = s.watch := rfl
@[simp] theorem setEcho_loop (s : State) (d : Dir) (n : Nat) (r : EchoRec) : (s.setEcho d n r).loop = s.loop := rfl
@[simp] theorem setEcho_front (s : State) (d : Dir) (n : Nat) (r : EchoRec) : (s.setEcho d n r).front = s.front := rfl
@[simp] theorem setEcho_lock (s : State) (d : Dir) (n : Nat) (r : EchoRec) : (s.setEcho d n r).lock = s.lock := rfl
@[simp] theorem setEcho_sync (s : State) (d : Dir) (n : Nat) (r : EchoRec) : (s.setEcho d n r).sync = s.sync := rfl
@[simp] theorem setEcho_lichen (s : State) (d : Dir) (n : Nat) (r : EchoRec) : (s.setEcho d n r).lichen = s.lichen := rfl
@[simp] theorem setEcho_bog (s : State) (d : Dir) (n : Nat) (r : EchoRec) : (s.setEcho d n r).bog = s.bog := rfl
@[simp] theorem setEcho_bix (s : State) (d : Dir) (n : Nat) (r : EchoRec) : (s.setEcho d n r).bix = s.bix := rfl
@[simp] theorem setEcho_hk (s : State) (d : Dir) (n : Nat) (r : EchoRec) : (s.setEcho d n r).hk = s.hk := rfl
@[simp] theorem setEcho_therm (s : State) (d : Dir) (n : Nat) (r : EchoRec) : (s.setEcho d n r).therm = s.therm := rfl
@[simp] theorem setEcho_peat (s : State) (d : Dir) (n : Nat) (r : EchoRec) : (s.setEcho d n r).peat = s.peat := rfl
@[simp] theorem setEcho_twb (s : State) (d : Dir) (n : Nat) (r : EchoRec) : (s.setEcho d n r).twb = s.twb := rfl
@[simp] theorem setEcho_pcie (s : State) (d : Dir) (n : Nat) (r : EchoRec) : (s.setEcho d n r).pcie = s.pcie := rfl
@[simp] theorem setEcho_pending (s : State) (d : Dir) (n : Nat) (r : EchoRec) : (s.setEcho d n r).pending = s.pending := rfl

/-! ### setSyn -/

@[simp] theorem setSyn_power (s : State) (y : Syn) (r : SynRec) : (s.setSyn y r).power = s.power := by cases y <;> rfl
@[simp] theorem setSyn_lev (s : State) (y : Syn) (r : SynRec) : (s.setSyn y r).lev = s.lev := by cases y <;> rfl
@[simp] theorem setSyn_now (s : State) (y : Syn) (r : SynRec) : (s.setSyn y r).now = s.now := by cases y <;> rfl
@[simp] theorem setSyn_free (s : State) (y : Syn) (r : SynRec) : (s.setSyn y r).free = s.free := by cases y <;> rfl
@[simp] theorem setSyn_cfg (s : State) (y : Syn) (r : SynRec) : (s.setSyn y r).cfg = s.cfg := by cases y <;> rfl
@[simp] theorem setSyn_sts (s : State) (y : Syn) (r : SynRec) : (s.setSyn y r).sts = s.sts := by cases y <;> rfl
@[simp] theorem setSyn_flt (s : State) (y : Syn) (r : SynRec) : (s.setSyn y r).flt = s.flt := by cases y <;> rfl
@[simp] theorem setSyn_sys (s : State) (y : Syn) (r : SynRec) : (s.setSyn y r).sys = s.sys := by cases y <;> rfl
@[simp] theorem setSyn_boot (s : State) (y : Syn) (r : SynRec) : (s.setSyn y r).boot = s.boot := by cases y <;> rfl
@[simp] theorem setSyn_mram (s : State) (y : Syn) (r : SynRec) : (s.setSyn y r).mram = s.mram := by cases y <;> rfl
@[simp] theorem setSyn_conv (s : State) (y : Syn) (r : SynRec) : (s.setSyn y r).conv = s.conv := by cases y <;> rfl
@[simp] theorem setSyn_slots (s : State) (y : Syn) (r : SynRec) : (s.setSyn y r).slots = s.slots := by cases y <;> rfl
@[simp] theorem setSyn_echo (s : State) (y : Syn) (r : SynRec) : (s.setSyn y r).echo = s.echo := by cases y <;> rfl
@[simp] theorem setSyn_gov (s : State) (y : Syn) (r : SynRec) : (s.setSyn y r).gov = s.gov := by cases y <;> rfl
@[simp] theorem setSyn_govDl (s : State) (y : Syn) (r : SynRec) : (s.setSyn y r).govDl = s.govDl := by cases y <;> rfl
@[simp] theorem setSyn_govUl (s : State) (y : Syn) (r : SynRec) : (s.setSyn y r).govUl = s.govUl := by cases y <;> rfl
@[simp] theorem setSyn_watch (s : State) (y : Syn) (r : SynRec) : (s.setSyn y r).watch = s.watch := by cases y <;> rfl
@[simp] theorem setSyn_loop (s : State) (y : Syn) (r : SynRec) : (s.setSyn y r).loop = s.loop := by cases y <;> rfl
@[simp] theorem setSyn_front (s : State) (y : Syn) (r : SynRec) : (s.setSyn y r).front = s.front := by cases y <;> rfl
@[simp] theorem setSyn_lock (s : State) (y : Syn) (r : SynRec) : (s.setSyn y r).lock = s.lock := by cases y <;> rfl
@[simp] theorem setSyn_sync (s : State) (y : Syn) (r : SynRec) : (s.setSyn y r).sync = s.sync := by cases y <;> rfl
@[simp] theorem setSyn_lichen (s : State) (y : Syn) (r : SynRec) : (s.setSyn y r).lichen = s.lichen := by cases y <;> rfl
@[simp] theorem setSyn_bog (s : State) (y : Syn) (r : SynRec) : (s.setSyn y r).bog = s.bog := by cases y <;> rfl
@[simp] theorem setSyn_bix (s : State) (y : Syn) (r : SynRec) : (s.setSyn y r).bix = s.bix := by cases y <;> rfl
@[simp] theorem setSyn_hk (s : State) (y : Syn) (r : SynRec) : (s.setSyn y r).hk = s.hk := by cases y <;> rfl
@[simp] theorem setSyn_therm (s : State) (y : Syn) (r : SynRec) : (s.setSyn y r).therm = s.therm := by cases y <;> rfl
@[simp] theorem setSyn_peat (s : State) (y : Syn) (r : SynRec) : (s.setSyn y r).peat = s.peat := by cases y <;> rfl
@[simp] theorem setSyn_twb (s : State) (y : Syn) (r : SynRec) : (s.setSyn y r).twb = s.twb := by cases y <;> rfl
@[simp] theorem setSyn_pcie (s : State) (y : Syn) (r : SynRec) : (s.setSyn y r).pcie = s.pcie := by cases y <;> rfl
@[simp] theorem setSyn_pending (s : State) (y : Syn) (r : SynRec) : (s.setSyn y r).pending = s.pending := by cases y <;> rfl

/-! ### setHk -/

@[simp] theorem setHk_power (s : State) (c : Nat) (r : HkRec) : (s.setHk c r).power = s.power := by unfold State.setHk; split <;> rfl
@[simp] theorem setHk_lev (s : State) (c : Nat) (r : HkRec) : (s.setHk c r).lev = s.lev := by unfold State.setHk; split <;> rfl
@[simp] theorem setHk_now (s : State) (c : Nat) (r : HkRec) : (s.setHk c r).now = s.now := by unfold State.setHk; split <;> rfl
@[simp] theorem setHk_free (s : State) (c : Nat) (r : HkRec) : (s.setHk c r).free = s.free := by unfold State.setHk; split <;> rfl
@[simp] theorem setHk_cfg (s : State) (c : Nat) (r : HkRec) : (s.setHk c r).cfg = s.cfg := by unfold State.setHk; split <;> rfl
@[simp] theorem setHk_sts (s : State) (c : Nat) (r : HkRec) : (s.setHk c r).sts = s.sts := by unfold State.setHk; split <;> rfl
@[simp] theorem setHk_flt (s : State) (c : Nat) (r : HkRec) : (s.setHk c r).flt = s.flt := by unfold State.setHk; split <;> rfl
@[simp] theorem setHk_sys (s : State) (c : Nat) (r : HkRec) : (s.setHk c r).sys = s.sys := by unfold State.setHk; split <;> rfl
@[simp] theorem setHk_boot (s : State) (c : Nat) (r : HkRec) : (s.setHk c r).boot = s.boot := by unfold State.setHk; split <;> rfl
@[simp] theorem setHk_mram (s : State) (c : Nat) (r : HkRec) : (s.setHk c r).mram = s.mram := by unfold State.setHk; split <;> rfl
@[simp] theorem setHk_syn (s : State) (c : Nat) (r : HkRec) : (s.setHk c r).syn = s.syn := by unfold State.setHk; split <;> rfl
@[simp] theorem setHk_conv (s : State) (c : Nat) (r : HkRec) : (s.setHk c r).conv = s.conv := by unfold State.setHk; split <;> rfl
@[simp] theorem setHk_slots (s : State) (c : Nat) (r : HkRec) : (s.setHk c r).slots = s.slots := by unfold State.setHk; split <;> rfl
@[simp] theorem setHk_echo (s : State) (c : Nat) (r : HkRec) : (s.setHk c r).echo = s.echo := by unfold State.setHk; split <;> rfl
@[simp] theorem setHk_gov (s : State) (c : Nat) (r : HkRec) : (s.setHk c r).gov = s.gov := by unfold State.setHk; split <;> rfl
@[simp] theorem setHk_govDl (s : State) (c : Nat) (r : HkRec) : (s.setHk c r).govDl = s.govDl := by unfold State.setHk; split <;> rfl
@[simp] theorem setHk_govUl (s : State) (c : Nat) (r : HkRec) : (s.setHk c r).govUl = s.govUl := by unfold State.setHk; split <;> rfl
@[simp] theorem setHk_watch (s : State) (c : Nat) (r : HkRec) : (s.setHk c r).watch = s.watch := by unfold State.setHk; split <;> rfl
@[simp] theorem setHk_loop (s : State) (c : Nat) (r : HkRec) : (s.setHk c r).loop = s.loop := by unfold State.setHk; split <;> rfl
@[simp] theorem setHk_front (s : State) (c : Nat) (r : HkRec) : (s.setHk c r).front = s.front := by unfold State.setHk; split <;> rfl
@[simp] theorem setHk_lock (s : State) (c : Nat) (r : HkRec) : (s.setHk c r).lock = s.lock := by unfold State.setHk; split <;> rfl
@[simp] theorem setHk_sync (s : State) (c : Nat) (r : HkRec) : (s.setHk c r).sync = s.sync := by unfold State.setHk; split <;> rfl
@[simp] theorem setHk_lichen (s : State) (c : Nat) (r : HkRec) : (s.setHk c r).lichen = s.lichen := by unfold State.setHk; split <;> rfl
@[simp] theorem setHk_bog (s : State) (c : Nat) (r : HkRec) : (s.setHk c r).bog = s.bog := by unfold State.setHk; split <;> rfl
@[simp] theorem setHk_bix (s : State) (c : Nat) (r : HkRec) : (s.setHk c r).bix = s.bix := by unfold State.setHk; split <;> rfl
@[simp] theorem setHk_therm (s : State) (c : Nat) (r : HkRec) : (s.setHk c r).therm = s.therm := by unfold State.setHk; split <;> rfl
@[simp] theorem setHk_peat (s : State) (c : Nat) (r : HkRec) : (s.setHk c r).peat = s.peat := by unfold State.setHk; split <;> rfl
@[simp] theorem setHk_twb (s : State) (c : Nat) (r : HkRec) : (s.setHk c r).twb = s.twb := by unfold State.setHk; split <;> rfl
@[simp] theorem setHk_pcie (s : State) (c : Nat) (r : HkRec) : (s.setHk c r).pcie = s.pcie := by unfold State.setHk; split <;> rfl
@[simp] theorem setHk_pending (s : State) (c : Nat) (r : HkRec) : (s.setHk c r).pending = s.pending := by unfold State.setHk; split <;> rfl

/-! ### raiseEvs -/

@[simp] theorem raiseEvs_power (s : State) (es : List Ev) : (s.raiseEvs es).power = s.power := rfl
@[simp] theorem raiseEvs_lev (s : State) (es : List Ev) : (s.raiseEvs es).lev = s.lev := rfl
@[simp] theorem raiseEvs_now (s : State) (es : List Ev) : (s.raiseEvs es).now = s.now := rfl
@[simp] theorem raiseEvs_free (s : State) (es : List Ev) : (s.raiseEvs es).free = s.free := rfl
@[simp] theorem raiseEvs_cfg (s : State) (es : List Ev) : (s.raiseEvs es).cfg = s.cfg := rfl
@[simp] theorem raiseEvs_sts (s : State) (es : List Ev) : (s.raiseEvs es).sts = s.sts := rfl
@[simp] theorem raiseEvs_sys (s : State) (es : List Ev) : (s.raiseEvs es).sys = s.sys := rfl
@[simp] theorem raiseEvs_boot (s : State) (es : List Ev) : (s.raiseEvs es).boot = s.boot := rfl
@[simp] theorem raiseEvs_syn (s : State) (es : List Ev) : (s.raiseEvs es).syn = s.syn := rfl
@[simp] theorem raiseEvs_conv (s : State) (es : List Ev) : (s.raiseEvs es).conv = s.conv := rfl
@[simp] theorem raiseEvs_slots (s : State) (es : List Ev) : (s.raiseEvs es).slots = s.slots := rfl
@[simp] theorem raiseEvs_echo (s : State) (es : List Ev) : (s.raiseEvs es).echo = s.echo := rfl
@[simp] theorem raiseEvs_gov (s : State) (es : List Ev) : (s.raiseEvs es).gov = s.gov := rfl
@[simp] theorem raiseEvs_govDl (s : State) (es : List Ev) : (s.raiseEvs es).govDl = s.govDl := rfl
@[simp] theorem raiseEvs_govUl (s : State) (es : List Ev) : (s.raiseEvs es).govUl = s.govUl := rfl
@[simp] theorem raiseEvs_watch (s : State) (es : List Ev) : (s.raiseEvs es).watch = s.watch := rfl
@[simp] theorem raiseEvs_loop (s : State) (es : List Ev) : (s.raiseEvs es).loop = s.loop := rfl
@[simp] theorem raiseEvs_front (s : State) (es : List Ev) : (s.raiseEvs es).front = s.front := rfl
@[simp] theorem raiseEvs_lock (s : State) (es : List Ev) : (s.raiseEvs es).lock = s.lock := rfl
@[simp] theorem raiseEvs_sync (s : State) (es : List Ev) : (s.raiseEvs es).sync = s.sync := rfl
@[simp] theorem raiseEvs_lichen (s : State) (es : List Ev) : (s.raiseEvs es).lichen = s.lichen := rfl
@[simp] theorem raiseEvs_bix (s : State) (es : List Ev) : (s.raiseEvs es).bix = s.bix := rfl
@[simp] theorem raiseEvs_hk (s : State) (es : List Ev) : (s.raiseEvs es).hk = s.hk := rfl
@[simp] theorem raiseEvs_therm (s : State) (es : List Ev) : (s.raiseEvs es).therm = s.therm := rfl
@[simp] theorem raiseEvs_pcie (s : State) (es : List Ev) : (s.raiseEvs es).pcie = s.pcie := rfl
@[simp] theorem raiseEvs_pending (s : State) (es : List Ev) : (s.raiseEvs es).pending = s.pending := rfl

/-! ### raise -/

@[simp] theorem raise_power (s : State) (b n : Nat) (u : Option Nat) : (s.raise b n u).power = s.power := rfl
@[simp] theorem raise_lev (s : State) (b n : Nat) (u : Option Nat) : (s.raise b n u).lev = s.lev := rfl
@[simp] theorem raise_now (s : State) (b n : Nat) (u : Option Nat) : (s.raise b n u).now = s.now := rfl
@[simp] theorem raise_free (s : State) (b n : Nat) (u : Option Nat) : (s.raise b n u).free = s.free := rfl
@[simp] theorem raise_cfg (s : State) (b n : Nat) (u : Option Nat) : (s.raise b n u).cfg = s.cfg := rfl
@[simp] theorem raise_sts (s : State) (b n : Nat) (u : Option Nat) : (s.raise b n u).sts = s.sts := rfl
@[simp] theorem raise_sys (s : State) (b n : Nat) (u : Option Nat) : (s.raise b n u).sys = s.sys := rfl
@[simp] theorem raise_boot (s : State) (b n : Nat) (u : Option Nat) : (s.raise b n u).boot = s.boot := rfl
@[simp] theorem raise_syn (s : State) (b n : Nat) (u : Option Nat) : (s.raise b n u).syn = s.syn := rfl
@[simp] theorem raise_conv (s : State) (b n : Nat) (u : Option Nat) : (s.raise b n u).conv = s.conv := rfl
@[simp] theorem raise_slots (s : State) (b n : Nat) (u : Option Nat) : (s.raise b n u).slots = s.slots := rfl
@[simp] theorem raise_echo (s : State) (b n : Nat) (u : Option Nat) : (s.raise b n u).echo = s.echo := rfl
@[simp] theorem raise_gov (s : State) (b n : Nat) (u : Option Nat) : (s.raise b n u).gov = s.gov := rfl
@[simp] theorem raise_govDl (s : State) (b n : Nat) (u : Option Nat) : (s.raise b n u).govDl = s.govDl := rfl
@[simp] theorem raise_govUl (s : State) (b n : Nat) (u : Option Nat) : (s.raise b n u).govUl = s.govUl := rfl
@[simp] theorem raise_watch (s : State) (b n : Nat) (u : Option Nat) : (s.raise b n u).watch = s.watch := rfl
@[simp] theorem raise_loop (s : State) (b n : Nat) (u : Option Nat) : (s.raise b n u).loop = s.loop := rfl
@[simp] theorem raise_front (s : State) (b n : Nat) (u : Option Nat) : (s.raise b n u).front = s.front := rfl
@[simp] theorem raise_lock (s : State) (b n : Nat) (u : Option Nat) : (s.raise b n u).lock = s.lock := rfl
@[simp] theorem raise_sync (s : State) (b n : Nat) (u : Option Nat) : (s.raise b n u).sync = s.sync := rfl
@[simp] theorem raise_lichen (s : State) (b n : Nat) (u : Option Nat) : (s.raise b n u).lichen = s.lichen := rfl
@[simp] theorem raise_bix (s : State) (b n : Nat) (u : Option Nat) : (s.raise b n u).bix = s.bix := rfl
@[simp] theorem raise_hk (s : State) (b n : Nat) (u : Option Nat) : (s.raise b n u).hk = s.hk := rfl
@[simp] theorem raise_therm (s : State) (b n : Nat) (u : Option Nat) : (s.raise b n u).therm = s.therm := rfl
@[simp] theorem raise_pcie (s : State) (b n : Nat) (u : Option Nat) : (s.raise b n u).pcie = s.pcie := rfl
@[simp] theorem raise_pending (s : State) (b n : Nat) (u : Option Nat) : (s.raise b n u).pending = s.pending := rfl

/-! ### raiseIf -/

@[simp] theorem raiseIf_power (s : State) (c : Bool) (b n : Nat) (u : Option Nat) : (s.raiseIf c b n u).power = s.power := by cases c <;> rfl
@[simp] theorem raiseIf_lev (s : State) (c : Bool) (b n : Nat) (u : Option Nat) : (s.raiseIf c b n u).lev = s.lev := by cases c <;> rfl
@[simp] theorem raiseIf_now (s : State) (c : Bool) (b n : Nat) (u : Option Nat) : (s.raiseIf c b n u).now = s.now := by cases c <;> rfl
@[simp] theorem raiseIf_free (s : State) (c : Bool) (b n : Nat) (u : Option Nat) : (s.raiseIf c b n u).free = s.free := by cases c <;> rfl
@[simp] theorem raiseIf_cfg (s : State) (c : Bool) (b n : Nat) (u : Option Nat) : (s.raiseIf c b n u).cfg = s.cfg := by cases c <;> rfl
@[simp] theorem raiseIf_sts (s : State) (c : Bool) (b n : Nat) (u : Option Nat) : (s.raiseIf c b n u).sts = s.sts := by cases c <;> rfl
@[simp] theorem raiseIf_sys (s : State) (c : Bool) (b n : Nat) (u : Option Nat) : (s.raiseIf c b n u).sys = s.sys := by cases c <;> rfl
@[simp] theorem raiseIf_boot (s : State) (c : Bool) (b n : Nat) (u : Option Nat) : (s.raiseIf c b n u).boot = s.boot := by cases c <;> rfl
@[simp] theorem raiseIf_syn (s : State) (c : Bool) (b n : Nat) (u : Option Nat) : (s.raiseIf c b n u).syn = s.syn := by cases c <;> rfl
@[simp] theorem raiseIf_conv (s : State) (c : Bool) (b n : Nat) (u : Option Nat) : (s.raiseIf c b n u).conv = s.conv := by cases c <;> rfl
@[simp] theorem raiseIf_slots (s : State) (c : Bool) (b n : Nat) (u : Option Nat) : (s.raiseIf c b n u).slots = s.slots := by cases c <;> rfl
@[simp] theorem raiseIf_echo (s : State) (c : Bool) (b n : Nat) (u : Option Nat) : (s.raiseIf c b n u).echo = s.echo := by cases c <;> rfl
@[simp] theorem raiseIf_gov (s : State) (c : Bool) (b n : Nat) (u : Option Nat) : (s.raiseIf c b n u).gov = s.gov := by cases c <;> rfl
@[simp] theorem raiseIf_govDl (s : State) (c : Bool) (b n : Nat) (u : Option Nat) : (s.raiseIf c b n u).govDl = s.govDl := by cases c <;> rfl
@[simp] theorem raiseIf_govUl (s : State) (c : Bool) (b n : Nat) (u : Option Nat) : (s.raiseIf c b n u).govUl = s.govUl := by cases c <;> rfl
@[simp] theorem raiseIf_watch (s : State) (c : Bool) (b n : Nat) (u : Option Nat) : (s.raiseIf c b n u).watch = s.watch := by cases c <;> rfl
@[simp] theorem raiseIf_loop (s : State) (c : Bool) (b n : Nat) (u : Option Nat) : (s.raiseIf c b n u).loop = s.loop := by cases c <;> rfl
@[simp] theorem raiseIf_front (s : State) (c : Bool) (b n : Nat) (u : Option Nat) : (s.raiseIf c b n u).front = s.front := by cases c <;> rfl
@[simp] theorem raiseIf_lock (s : State) (c : Bool) (b n : Nat) (u : Option Nat) : (s.raiseIf c b n u).lock = s.lock := by cases c <;> rfl
@[simp] theorem raiseIf_sync (s : State) (c : Bool) (b n : Nat) (u : Option Nat) : (s.raiseIf c b n u).sync = s.sync := by cases c <;> rfl
@[simp] theorem raiseIf_lichen (s : State) (c : Bool) (b n : Nat) (u : Option Nat) : (s.raiseIf c b n u).lichen = s.lichen := by cases c <;> rfl
@[simp] theorem raiseIf_bix (s : State) (c : Bool) (b n : Nat) (u : Option Nat) : (s.raiseIf c b n u).bix = s.bix := by cases c <;> rfl
@[simp] theorem raiseIf_hk (s : State) (c : Bool) (b n : Nat) (u : Option Nat) : (s.raiseIf c b n u).hk = s.hk := by cases c <;> rfl
@[simp] theorem raiseIf_therm (s : State) (c : Bool) (b n : Nat) (u : Option Nat) : (s.raiseIf c b n u).therm = s.therm := by cases c <;> rfl
@[simp] theorem raiseIf_pcie (s : State) (c : Bool) (b n : Nat) (u : Option Nat) : (s.raiseIf c b n u).pcie = s.pcie := by cases c <;> rfl
@[simp] theorem raiseIf_pending (s : State) (c : Bool) (b n : Nat) (u : Option Nat) : (s.raiseIf c b n u).pending = s.pending := by cases c <;> rfl

/-! ### peatClose -/

@[simp] theorem peatClose_power (s : State) (c d : Nat) : (s.peatClose c d).power = s.power := rfl
@[simp] theorem peatClose_lev (s : State) (c d : Nat) : (s.peatClose c d).lev = s.lev := rfl
@[simp] theorem peatClose_now (s : State) (c d : Nat) : (s.peatClose c d).now = s.now := rfl
@[simp] theorem peatClose_free (s : State) (c d : Nat) : (s.peatClose c d).free = s.free := rfl
@[simp] theorem peatClose_cfg (s : State) (c d : Nat) : (s.peatClose c d).cfg = s.cfg := rfl
@[simp] theorem peatClose_sts (s : State) (c d : Nat) : (s.peatClose c d).sts = s.sts := rfl
@[simp] theorem peatClose_sys (s : State) (c d : Nat) : (s.peatClose c d).sys = s.sys := rfl
@[simp] theorem peatClose_boot (s : State) (c d : Nat) : (s.peatClose c d).boot = s.boot := rfl
@[simp] theorem peatClose_syn (s : State) (c d : Nat) : (s.peatClose c d).syn = s.syn := rfl
@[simp] theorem peatClose_conv (s : State) (c d : Nat) : (s.peatClose c d).conv = s.conv := rfl
@[simp] theorem peatClose_slots (s : State) (c d : Nat) : (s.peatClose c d).slots = s.slots := rfl
@[simp] theorem peatClose_echo (s : State) (c d : Nat) : (s.peatClose c d).echo = s.echo := rfl
@[simp] theorem peatClose_gov (s : State) (c d : Nat) : (s.peatClose c d).gov = s.gov := rfl
@[simp] theorem peatClose_govDl (s : State) (c d : Nat) : (s.peatClose c d).govDl = s.govDl := rfl
@[simp] theorem peatClose_govUl (s : State) (c d : Nat) : (s.peatClose c d).govUl = s.govUl := rfl
@[simp] theorem peatClose_watch (s : State) (c d : Nat) : (s.peatClose c d).watch = s.watch := rfl
@[simp] theorem peatClose_loop (s : State) (c d : Nat) : (s.peatClose c d).loop = s.loop := rfl
@[simp] theorem peatClose_front (s : State) (c d : Nat) : (s.peatClose c d).front = s.front := rfl
@[simp] theorem peatClose_lock (s : State) (c d : Nat) : (s.peatClose c d).lock = s.lock := rfl
@[simp] theorem peatClose_sync (s : State) (c d : Nat) : (s.peatClose c d).sync = s.sync := rfl
@[simp] theorem peatClose_lichen (s : State) (c d : Nat) : (s.peatClose c d).lichen = s.lichen := rfl
@[simp] theorem peatClose_bix (s : State) (c d : Nat) : (s.peatClose c d).bix = s.bix := rfl
@[simp] theorem peatClose_hk (s : State) (c d : Nat) : (s.peatClose c d).hk = s.hk := rfl
@[simp] theorem peatClose_therm (s : State) (c d : Nat) : (s.peatClose c d).therm = s.therm := rfl
@[simp] theorem peatClose_pcie (s : State) (c d : Nat) : (s.peatClose c d).pcie = s.pcie := rfl
@[simp] theorem peatClose_pending (s : State) (c d : Nat) : (s.peatClose c d).pending = s.pending := rfl

/-! ### mramWrite -/

@[simp] theorem mramWrite_power (s : State) (j : MramJob) : (s.mramWrite j).power = s.power := rfl
@[simp] theorem mramWrite_lev (s : State) (j : MramJob) : (s.mramWrite j).lev = s.lev := rfl
@[simp] theorem mramWrite_now (s : State) (j : MramJob) : (s.mramWrite j).now = s.now := rfl
@[simp] theorem mramWrite_free (s : State) (j : MramJob) : (s.mramWrite j).free = s.free := rfl
@[simp] theorem mramWrite_cfg (s : State) (j : MramJob) : (s.mramWrite j).cfg = s.cfg := rfl
@[simp] theorem mramWrite_sts (s : State) (j : MramJob) : (s.mramWrite j).sts = s.sts := rfl
@[simp] theorem mramWrite_flt (s : State) (j : MramJob) : (s.mramWrite j).flt = s.flt := rfl
@[simp] theorem mramWrite_sys (s : State) (j : MramJob) : (s.mramWrite j).sys = s.sys := rfl
@[simp] theorem mramWrite_boot (s : State) (j : MramJob) : (s.mramWrite j).boot = s.boot := rfl
@[simp] theorem mramWrite_syn (s : State) (j : MramJob) : (s.mramWrite j).syn = s.syn := rfl
@[simp] theorem mramWrite_conv (s : State) (j : MramJob) : (s.mramWrite j).conv = s.conv := rfl
@[simp] theorem mramWrite_slots (s : State) (j : MramJob) : (s.mramWrite j).slots = s.slots := rfl
@[simp] theorem mramWrite_echo (s : State) (j : MramJob) : (s.mramWrite j).echo = s.echo := rfl
@[simp] theorem mramWrite_gov (s : State) (j : MramJob) : (s.mramWrite j).gov = s.gov := rfl
@[simp] theorem mramWrite_govDl (s : State) (j : MramJob) : (s.mramWrite j).govDl = s.govDl := rfl
@[simp] theorem mramWrite_govUl (s : State) (j : MramJob) : (s.mramWrite j).govUl = s.govUl := rfl
@[simp] theorem mramWrite_watch (s : State) (j : MramJob) : (s.mramWrite j).watch = s.watch := rfl
@[simp] theorem mramWrite_loop (s : State) (j : MramJob) : (s.mramWrite j).loop = s.loop := rfl
@[simp] theorem mramWrite_front (s : State) (j : MramJob) : (s.mramWrite j).front = s.front := rfl
@[simp] theorem mramWrite_lock (s : State) (j : MramJob) : (s.mramWrite j).lock = s.lock := rfl
@[simp] theorem mramWrite_sync (s : State) (j : MramJob) : (s.mramWrite j).sync = s.sync := rfl
@[simp] theorem mramWrite_lichen (s : State) (j : MramJob) : (s.mramWrite j).lichen = s.lichen := rfl
@[simp] theorem mramWrite_bog (s : State) (j : MramJob) : (s.mramWrite j).bog = s.bog := rfl
@[simp] theorem mramWrite_bix (s : State) (j : MramJob) : (s.mramWrite j).bix = s.bix := rfl
@[simp] theorem mramWrite_hk (s : State) (j : MramJob) : (s.mramWrite j).hk = s.hk := rfl
@[simp] theorem mramWrite_therm (s : State) (j : MramJob) : (s.mramWrite j).therm = s.therm := rfl
@[simp] theorem mramWrite_peat (s : State) (j : MramJob) : (s.mramWrite j).peat = s.peat := rfl
@[simp] theorem mramWrite_twb (s : State) (j : MramJob) : (s.mramWrite j).twb = s.twb := rfl
@[simp] theorem mramWrite_pcie (s : State) (j : MramJob) : (s.mramWrite j).pcie = s.pcie := rfl
@[simp] theorem mramWrite_pending (s : State) (j : MramJob) : (s.mramWrite j).pending = s.pending := rfl

/-! ### touch -/

@[simp] theorem touch_power (s : State) : (s.touch).power = s.power := by unfold State.touch; split <;> rfl
@[simp] theorem touch_lev (s : State) : (s.touch).lev = s.lev := by unfold State.touch; split <;> rfl
@[simp] theorem touch_now (s : State) : (s.touch).now = s.now := by unfold State.touch; split <;> rfl
@[simp] theorem touch_free (s : State) : (s.touch).free = s.free := by unfold State.touch; split <;> rfl
@[simp] theorem touch_cfg (s : State) : (s.touch).cfg = s.cfg := by unfold State.touch; split <;> rfl
@[simp] theorem touch_sts (s : State) : (s.touch).sts = s.sts := by unfold State.touch; split <;> rfl
@[simp] theorem touch_flt (s : State) : (s.touch).flt = s.flt := by unfold State.touch; split <;> rfl
@[simp] theorem touch_boot (s : State) : (s.touch).boot = s.boot := by unfold State.touch; split <;> rfl
@[simp] theorem touch_mram (s : State) : (s.touch).mram = s.mram := by unfold State.touch; split <;> rfl
@[simp] theorem touch_syn (s : State) : (s.touch).syn = s.syn := by unfold State.touch; split <;> rfl
@[simp] theorem touch_conv (s : State) : (s.touch).conv = s.conv := by unfold State.touch; split <;> rfl
@[simp] theorem touch_slots (s : State) : (s.touch).slots = s.slots := by unfold State.touch; split <;> rfl
@[simp] theorem touch_echo (s : State) : (s.touch).echo = s.echo := by unfold State.touch; split <;> rfl
@[simp] theorem touch_gov (s : State) : (s.touch).gov = s.gov := by unfold State.touch; split <;> rfl
@[simp] theorem touch_govDl (s : State) : (s.touch).govDl = s.govDl := by unfold State.touch; split <;> rfl
@[simp] theorem touch_govUl (s : State) : (s.touch).govUl = s.govUl := by unfold State.touch; split <;> rfl
@[simp] theorem touch_watch (s : State) : (s.touch).watch = s.watch := by unfold State.touch; split <;> rfl
@[simp] theorem touch_loop (s : State) : (s.touch).loop = s.loop := by unfold State.touch; split <;> rfl
@[simp] theorem touch_front (s : State) : (s.touch).front = s.front := by unfold State.touch; split <;> rfl
@[simp] theorem touch_lock (s : State) : (s.touch).lock = s.lock := by unfold State.touch; split <;> rfl
@[simp] theorem touch_sync (s : State) : (s.touch).sync = s.sync := by unfold State.touch; split <;> rfl
@[simp] theorem touch_lichen (s : State) : (s.touch).lichen = s.lichen := by unfold State.touch; split <;> rfl
@[simp] theorem touch_bog (s : State) : (s.touch).bog = s.bog := by unfold State.touch; split <;> rfl
@[simp] theorem touch_bix (s : State) : (s.touch).bix = s.bix := by unfold State.touch; split <;> rfl
@[simp] theorem touch_hk (s : State) : (s.touch).hk = s.hk := by unfold State.touch; split <;> rfl
@[simp] theorem touch_therm (s : State) : (s.touch).therm = s.therm := by unfold State.touch; split <;> rfl
@[simp] theorem touch_peat (s : State) : (s.touch).peat = s.peat := by unfold State.touch; split <;> rfl
@[simp] theorem touch_twb (s : State) : (s.touch).twb = s.twb := by unfold State.touch; split <;> rfl
@[simp] theorem touch_pcie (s : State) : (s.touch).pcie = s.pcie := by unfold State.touch; split <;> rfl
@[simp] theorem touch_pending (s : State) : (s.touch).pending = s.pending := by unfold State.touch; split <;> rfl

/-! ### Registers -/

theorem Word.toNat_ofNat (n : Nat) : (Word.ofNat n).toNat = n % 2 ^ 32 := by simp [Word.ofNat]

/-- A status register after a write of one. -/
theorem st_setSt (s : State) (a n a' : Nat) : (s.setSt a n).st a' = if a' = a then n % 2 ^ 32 else s.st a' := by
  simp only [State.st, State.setSt, NMap.get_put]
  split
  · simp
  · rfl

@[simp] theorem st_setSt_same (s : State) (a n : Nat) : (s.setSt a n).st a = n % 2 ^ 32 := by simp [st_setSt]

theorem st_setSt_ne (s : State) (n : Nat) {a a' : Nat} (h : a' ≠ a) : (s.setSt a n).st a' = s.st a' := by simp [st_setSt, h]

/-- A configuration register after a write of another. -/
theorem rd_wr_ne (s : State) (n : Nat) {a a' : Nat} (h : a' ≠ a) : (s.wr a n).rd a' = s.rd a' := by
  simp [State.rd, State.wr, NMap.get_put_ne _ _ _ h]

theorem rd_wr_same (s : State) (a n : Nat) {r : RegRow} (h : rowAt a = some r) :
    (s.wr a n).rd a = (Word.ofNat (n % 2 ^ 32 &&& r.mask)).toNat := by
  simp [State.rd, State.wr, h]

/-! ### Records -/

theorem dirRec_setDir (s : State) (d d' : Dir) (r : DirRec) : (s.setDir d r).dirRec d' = if d' = d then r else s.dirRec d' := by
  cases d <;> cases d' <;> rfl

@[simp] theorem dirRec_setDir_same (s : State) (d : Dir) (r : DirRec) : (s.setDir d r).dirRec d = r := by cases d <;> rfl

theorem govDir_setGovDir (s : State) (d d' : Dir) (g : GovDir) :
    (s.setGovDir d g).govDir d' = if d' = d then g else s.govDir d' := by cases d <;> cases d' <;> rfl

@[simp] theorem govRec_setGov_same (s : State) (d : Dir) (g : Nat) (r : GovRec) : (s.setGov d g r).govRec d g = r := by
  simp [State.govRec, State.setGov]

@[simp] theorem slotRec_setSlot_same (s : State) (d : Dir) (n : Nat) (r : SlotRec) : (s.setSlot d n r).slotRec d n = r := by
  simp [State.slotRec, State.setSlot]

@[simp] theorem echoRec_setEcho_same (s : State) (d : Dir) (n : Nat) (r : EchoRec) : (s.setEcho d n r).echoRec d n = r := by
  simp [State.echoRec, State.setEcho]

@[simp] theorem synRec_setSyn_same (s : State) (y : Syn) (r : SynRec) : (s.setSyn y r).synRec y = r := by cases y <;> rfl

/-! ### Units and sources -/

theorem Flt.unit_setUnit (f : Flt) (b u b' u' : Nat) (r : UnitRec) :
    (f.setUnit b u r).unit b' u' = if 256 * b' + u' = 256 * b + u then r else f.unit b' u' := by
  simp [Flt.unit, Flt.setUnit, NMap.get_put]

theorem Flt.source_setSource (f : Flt) (b n b' n' : Nat) (r : Src) :
    (f.setSource b n r).source b' n' = if 32 * b' + n' = 32 * b + n then r else f.source b' n' := by
  simp [Flt.source, Flt.setSource, NMap.get_put]

@[simp] theorem Flt.source_setUnit (f : Flt) (b u b' n' : Nat) (r : UnitRec) : (f.setUnit b u r).source b' n' = f.source b' n' := rfl
@[simp] theorem Flt.source_setWord (f : Flt) (a v b' n' : Nat) : (f.setWord a v).source b' n' = f.source b' n' := rfl
@[simp] theorem Flt.source_bump (f : Flt) (a w b' n' : Nat) : (f.bump a w).source b' n' = f.source b' n' := rfl

end Sys2Proof.Machine
end

