-- ==== Sys2Proof/Laws/Count.lean ====
section
/-! SUPPORT. What counting an event does to the sources (R355): the total of the event's own source rises by one, saturating; every
other source keeps its record, but for those that a count itself can give rise to. -/

namespace Sys2Proof.Machine

@[simp] theorem Rec.drain_counts (c : Rec) : c.drain.counts = c.counts := by
  unfold Rec.drain; split
  · rfl
  · split
    · rfl
    · split
      · rfl
      · split <;> rfl

theorem Rec.close_counts (s : State) (out : Bool) (c : Rec) (cause detail : Nat) :
    ∀ n ∈ (Rec.close s out c cause detail).counts, n ∈ c.counts ∨ n = 9 ∨ n = 6 := by
  intro n hn
  unfold Rec.close at hn
  split at hn
  · exact .inl hn
  · dsimp only at hn
    split at hn
    · split at hn
      · split at hn
        · simp at hn; tauto
        · simp [Rec.push] at hn; tauto
      · simp at hn; exact .inl hn
    · split at hn
      · simp at hn; tauto
      · simp [Rec.push] at hn; exact .inl hn

@[simp] theorem Fx.peatClose_flt (s : State) (x : Fx) (c d : Nat) : (x.peatClose s c d).1.flt = x.flt := rfl

theorem Fx.peatClose_events (s : State) (x : Fx) (c d : Nat) : ∀ e ∈ (x.peatClose s c d).2, 32 * e.blk + e.src = 678 ∨ 32 * e.blk + e.src = 681 := by
  intro e he
  simp only [Fx.peatClose, List.mem_map] at he
  obtain ⟨n, hn, rfl⟩ := he
  rcases Rec.close_counts _ _ _ _ _ n hn with h | h | h
  · simp at h
  · subst h; exact .inr rfl
  · subst h; exact .inl rfl

@[simp] theorem enqueue_flt (s : State) (x : Fx) (b src cls total : Nat) (inj : Bool) :
    (enqueue s x b src cls total inj).1.flt = x.flt := by
  unfold enqueue; split
  · rfl
  · dsimp only; split
    · rfl
    · split <;> rfl

theorem enqueue_events (s : State) (x : Fx) (b src cls total : Nat) (inj : Bool) :
    ∀ e ∈ (enqueue s x b src cls total inj).2, 32 * e.blk + e.src = 130 ∨ 32 * e.blk + e.src = 140 := by
  intro e he
  unfold enqueue at he
  split at he
  · simp at he
  · dsimp only at he
    split at he
    · split at he <;> simp_all
    · split at he
      · rcases List.mem_append.mp he with h | h
        · simp at h; subst h; simp
        · split at h <;> simp_all
      · simp at he; subst he; simp

@[simp] theorem source_fenceUnit (s : State) (f : Flt) (o b u src b' n' : Nat) :
    (fenceUnit s f o b u src).1.source b' n' = f.source b' n' := by
  unfold fenceUnit; dsimp only; split <;> rfl

@[simp] theorem source_countUnit (s : State) (f : Flt) (o b src : Nat) (sev : Bool) (u : Option Nat) (b' n' : Nat) :
    (countUnit s f o b src sev u).1.source b' n' = f.source b' n' := by
  unfold countUnit; split
  · rfl
  · dsimp only; split
    · split <;> simp
    · split <;> simp
    · simp
    · rfl

@[simp] theorem source_mark (f : Flt) (b src : Nat) (m : Bool) (b' n' : Nat) : (markHdr f b src m).source b' n' = f.source b' n' := by
  unfold markHdr; dsimp only; split <;> rfl

/-- The source records after one count. -/
theorem countOne_source (s : State) (x : Fx) (e : Ev) (b n : Nat) :
    (countOne s x e).1.flt.source b n =
      if suppressed x.flt e.blk e.src (namedUnit e.blk e.src e.unit) = true then x.flt.source b n
      else if 32 * b + n = 32 * e.blk + e.src then (x.flt.source e.blk e.src).count (s.classN e.blk) s.now (s.quietMs e.blk) e.usesArm e.detail
      else x.flt.source b n := by
  unfold countOne
  dsimp only
  split
  · rfl
  · have h1 : ∀ (f : Flt) (l : List Nat), ({ f with recent := l } : Flt).source b n = f.source b n := fun _ _ => rfl
    by_cases hk : 32 * b + n = 32 * e.blk + e.src
    all_goals
      simp only [hk, if_true, if_false]
      split <;> split <;> (try split) <;> (try split) <;> simp [h1, Flt.source_setSource, hk]

theorem countOne_events (s : State) (x : Fx) (e : Ev) :
    ∀ e' ∈ (countOne s x e).2, chained (32 * e'.blk + e'.src) := by
  intro e' he
  unfold countOne at he
  dsimp only at he
  split at he
  · simp at he
  · rcases List.mem_append.mp he with h | h
    · split at h
      · have := enqueue_events _ _ _ _ _ _ _ e' h; unfold chained; omega
      · split at h
        · have := enqueue_events _ _ _ _ _ _ _ e' h; unfold chained; omega
        · split at h
          · have := enqueue_events _ _ _ _ _ _ _ e' h; unfold chained; omega
          · simp at h
    · split at h
      · have := Fx.peatClose_events _ _ _ _ e' h; unfold chained; omega
      · simp at h

/-- Events of other sources leave a source's record alone. -/
theorem countAll_source_ne (s : State) (k : Nat) (x : Fx) (es : List Ev) (b n : Nat)
    (hes : ∀ e ∈ es, 32 * b + n ≠ 32 * e.blk + e.src) (hc : ¬chained (32 * b + n)) :
    (countAll s k x es).flt.source b n = x.flt.source b n := by
  induction k generalizing x es with
  | zero => rfl
  | succ k ih =>
    cases es with
    | nil => rfl
    | cons e t =>
      simp only [countAll]
      rw [ih]
      · rw [countOne_source]
        simp [hes e (by simp)]
      · intro e' he'
        rcases List.mem_append.mp he' with h | h
        · exact hes e' (by simp [h])
        · have := countOne_events s x e e' h
          intro hk; exact hc (hk ▸ this)

/-- Counting one event advances its source's record as R355 gives, unless another block's fence suppresses it (R354). -/
theorem raise_source (s : State) (b n : Nat) (u : Option Nat) (hc : ¬chained (32 * b + n))
    (hs : suppressed s.flt b n (namedUnit b n u) = false) :
    (s.raise b n u).flt.source b n = (s.flt.source b n).count (s.classN b) s.now (s.quietMs b) false 0 := by
  simp only [State.raise, State.raiseEvs, State.withFx, List.length_cons, List.length_nil, countAll, List.nil_append]
  rw [countAll_source_ne _ _ _ _ _ _ _ hc, countOne_source]
  · simp [State.fx, hs]
  · intro e he
    have := countOne_events _ _ _ e he
    intro hk; exact hc (hk ▸ this)

/-- Counting an event leaves the records of other sources alone. -/
theorem raise_source_ne (s : State) (b n b' n' : Nat) (u : Option Nat) (hc : ¬chained (32 * b + n))
    (h : 32 * b + n ≠ 32 * b' + n') : (s.raise b' n' u).flt.source b n = s.flt.source b n := by
  simp only [State.raise, State.raiseEvs, State.withFx]
  rw [countAll_source_ne _ _ _ _ _ _ (by simpa using h) hc]
  rfl

@[simp] theorem Src.count_total (r : Src) (nw : Nat × Nat) (t q : Nat) (a : Bool) (d : Nat) : (r.count nw t q a d).total = satAdd 65535 r.total 1 := rfl

/-- Blocks whose events no other block suppresses. -/
theorem suppressed_other (f : Flt) (b n : Nat) (u : Option Nat) (h : b ≠ 19) (h5 : b ≠ 5) (h7 : b ≠ 7) (h8 : b ≠ 8) :
    suppressed f b n u = false := by
  unfold suppressed; simp [h, h5, h7, h8]; split <;> simp

theorem raise_counts (s : State) (b n : Nat) (u : Option Nat) (hc : ¬chained (32 * b + n))
    (hs : suppressed s.flt b n (namedUnit b n u) = false) : Counts b n s (s.raise b n u) := by
  simp [Counts, raise_source s b n u hc hs]

/-! ### What counting leaves alone -/

/-- What the parts x have of the Bog and of the two-wire bus beside what counting changes. -/
def Fx.fixed (x : Fx) : BogState × TwbState :=
  ({ x.bog with regions := [] }, { x.twb with queue := [], waiting := false, attempt := 0, nextSeq := 0, backoff := none, drops := 0 })

theorem fireRegion_mem (s : State) (b : BogState) (n t : Nat) : { fireRegion s b n t with regions := [] } = { b with regions := [] } := by
  unfold fireRegion; dsimp only
  repeat' split
  all_goals rfl

theorem fireWhere_mem (s : State) (b : BogState) (t : Nat) (p : Nat → Bool) :
    { fireWhere s b t p with regions := [] } = { b with regions := [] } := by
  unfold fireWhere
  generalize regionNums = l
  induction l generalizing b with
  | nil => rfl
  | cons n l ih =>
    simp only [List.foldl_cons]
    rw [ih]; split
    · exact fireRegion_mem s b n t
    · rfl

theorem enqueue_fixed (s : State) (x : Fx) (b src cls total : Nat) (inj : Bool) : (enqueue s x b src cls total inj).1.fixed = x.fixed := by
  unfold enqueue; split
  · rfl
  · dsimp only; split
    · rfl
    · split
      · simp only [Fx.fixed]; split <;> rfl
      · rfl

theorem countOne_fixed (s : State) (x : Fx) (e : Ev) : (countOne s x e).1.fixed = x.fixed := by
  have hp : ∀ (y : Fx) c d, (y.peatClose s c d).1.fixed = y.fixed := fun _ _ _ => rfl
  have hb : ∀ (y : Fx) f p q, ({ y with flt := f, peat := p, bog := fireWhere s y.bog s.now q } : Fx).fixed = y.fixed := by
    intro y f p q; simp only [Fx.fixed, fireWhere_mem]
  unfold countOne; dsimp only
  split
  · rfl
  · split <;> (try rw [hp]) <;> split <;> (try split) <;> (try split) <;> first | rw [enqueue_fixed, hb] | rw [hb]

theorem countAll_fixed (s : State) (k : Nat) (x : Fx) (es : List Ev) : (countAll s k x es).fixed = x.fixed := by
  induction k generalizing x es with
  | zero => rfl
  | succ k ih =>
    cases es with
    | nil => rfl
    | cons e t => simp only [countAll]; rw [ih, countOne_fixed]

theorem countParts_of_fixed {s t : State} (h : t.fx.fixed = s.fx.fixed) : CountParts s t := by
  simp only [Fx.fixed, State.fx, Prod.mk.injEq] at h
  constructor
  · have := congrArg (fun b : BogState => { b with regions := t.bog.regions }) h.1
    exact this
  · have := congrArg (fun b : TwbState =>
      { b with
        queue := t.twb.queue, waiting := t.twb.waiting, attempt := t.twb.attempt
        nextSeq := t.twb.nextSeq, backoff := t.twb.backoff, drops := t.twb.drops }) h.2
    exact this

theorem raiseEvs_fixed (s : State) (es : List Ev) : (s.raiseEvs es).fx.fixed = s.fx.fixed := countAll_fixed _ _ _ _

theorem raiseEvs_onlyCounts (s : State) (es : List Ev) : OnlyCounts s (s.raiseEvs es) :=
  ⟨rfl, countParts_of_fixed (raiseEvs_fixed s es)⟩

theorem raise_onlyCounts (s : State) (b n : Nat) (u : Option Nat) : OnlyCounts s (s.raise b n u) := raiseEvs_onlyCounts s _

theorem raiseIf_onlyCounts (s : State) (c : Bool) (b n : Nat) (u : Option Nat) : OnlyCounts s (s.raiseIf c b n u) := by
  unfold State.raiseIf; split
  · exact raise_onlyCounts s b n u
  · exact ⟨rfl, countParts_of_fixed rfl⟩

theorem countParts_refl (s : State) : CountParts s s := countParts_of_fixed rfl

theorem countParts_fixed {s t : State} (h : CountParts s t) : t.fx.fixed = s.fx.fixed := by
  simp only [Fx.fixed, State.fx, Prod.mk.injEq]
  rw [h.1, h.2]; exact ⟨rfl, rfl⟩

theorem countParts_trans {s t u : State} (h : CountParts s t) (k : CountParts t u) : CountParts s u :=
  countParts_of_fixed ((countParts_fixed k).trans (countParts_fixed h))

end Sys2Proof.Machine
end

