-- ==== Sys2Proof/Laws/Memory.lean ====
section
/-! SUPPORT. Laws of the Bog as a memory: a read after a write gives the bytes written, a write leaves every other byte alone, and
writing, zeroing and streaming keep the canonical form. -/

namespace Sys2Proof.Machine

/-! ### The canonical form -/

theorem reset_bog_wf : Memory.wf State.reset.bog.mem = true := rfl

theorem putBytes_wf (m : NMap Byte) (a : Nat) (v : List Byte) (h : Memory.wf m = true) : Memory.wf (putBytes m a v) = true := by
  induction v generalizing m a with
  | nil => exact h
  | cons x t ih => exact ih _ _ (NMap.put_wf _ _ _ _ h)

theorem BogState.write_wf (b : BogState) (a : Nat) (v : List Byte) (h : Memory.wf b.mem = true) :
    Memory.wf (b.write a v).mem = true := putBytes_wf _ _ _ h

theorem NMap.rising_filter {α : Type} (m : NMap α) (p : Nat × α → Bool) (lo : Option Nat) (h : NMap.rising lo m = true) :
    NMap.rising lo (m.filter p) = true := by
  induction m generalizing lo with
  | nil => exact h
  | cons e t ih =>
    obtain ⟨j, w⟩ := e
    have ht : NMap.rising (some j) t = true := by cases lo <;> simp_all [NMap.rising]
    have hr := ih (some j) ht
    cases hp : p (j, w) with
    | true => cases lo <;> simp_all [NMap.rising]
    | false =>
      rw [List.filter_cons_of_neg (by simp [hp])]
      cases lo with
      | none => exact NMap.rising_none hr
      | some a => exact NMap.rising_weaken hr (by simp [NMap.rising] at h; omega)

theorem BogState.zero_wf (b : BogState) (lo hi : Nat) (h : Memory.wf b.mem = true) : Memory.wf (b.zero lo hi).mem = true := by
  simp only [Memory.wf, NMap.wf, Bool.and_eq_true, List.all_eq_true] at *
  exact ⟨NMap.rising_filter _ _ _ h.1, fun e he => h.2 e (List.mem_filter.mp he).1⟩

theorem BogState.stream_wf (b : BogState) (lo hi stamp : Nat) (h : Memory.wf b.mem = true) :
    Memory.wf (b.stream lo hi stamp).mem = true := by
  unfold BogState.stream; split
  · exact h
  · exact BogState.zero_wf b lo hi h

/-! ### Reading what was written -/

/-- An empty stretch covers nothing, so leaving it out changes no look-up. -/
theorem streamAt_filter (a : Nat) (l r : List (Nat × Nat × Nat)) :
    streamAt a (l.filter (fun x => decide (x.1 < x.2.1)) ++ r) = streamAt a (l ++ r) := by
  induction l with
  | nil => rfl
  | cons e t ih =>
    obtain ⟨x, y, st⟩ := e
    by_cases h : x < y
    · simp [h, streamAt, ih]
    · have h2 : ¬(x ≤ a ∧ a < y) := by omega
      rw [List.filter_cons_of_neg (by simpa using h), ih, List.cons_append, streamAt, if_neg h2]

theorem streamAt_cutStreams_cons (a lo hi x y st : Nat) (t : List (Nat × Nat × Nat)) :
    streamAt a (cutStreams lo hi ((x, y, st) :: t)) =
      if (x ≤ a ∧ a < y) ∧ (a < lo ∨ hi ≤ a) then some st else streamAt a (cutStreams lo hi t) := by
  unfold cutStreams
  rw [List.flatMap_cons, streamAt_filter]
  simp only [List.cons_append, List.nil_append, streamAt]
  by_cases h1 : x ≤ a ∧ a < min y lo
  · rw [if_pos h1, if_pos (by omega)]
  · by_cases h2 : max x hi ≤ a ∧ a < y
    · rw [if_neg h1, if_pos h2, if_pos (by omega)]
    · rw [if_neg h1, if_neg h2, if_neg (by omega)]

theorem streamAt_cutStreams_out (l : List (Nat × Nat × Nat)) (lo hi a : Nat) (h : a < lo ∨ hi ≤ a) :
    streamAt a (cutStreams lo hi l) = streamAt a l := by
  induction l with
  | nil => rfl
  | cons e t ih => obtain ⟨x, y, st⟩ := e; simp [streamAt_cutStreams_cons, streamAt, ih, h]

theorem streamAt_cutStreams_in (l : List (Nat × Nat × Nat)) (lo hi a : Nat) (h : lo ≤ a ∧ a < hi) :
    streamAt a (cutStreams lo hi l) = none := by
  induction l with
  | nil => rfl
  | cons e t ih =>
    obtain ⟨x, y, st⟩ := e
    rw [streamAt_cutStreams_cons, if_neg (by omega), ih]

theorem get_putBytes (d : Nat → Byte) (hd : d = fun _ => 0) (m : NMap Byte) (a k : Nat) (v : List Byte) :
    NMap.get d (putBytes m a v) k = if h : a ≤ k ∧ k < a + v.length then v[k - a]'(by omega) else NMap.get d m k := by
  subst hd
  induction v generalizing m a with
  | nil => simp only [putBytes, List.length_nil]; split <;> first | omega | rfl
  | cons x t ih =>
    simp only [putBytes, ih, List.length_cons, NMap.get_put]
    by_cases h1 : a + 1 ≤ k ∧ k < a + 1 + t.length
    · have h2 : a ≤ k ∧ k < a + (t.length + 1) := by omega
      have h3 : k - a = (k - (a + 1)) + 1 := by omega
      simp [h1, h2, h3]
    · by_cases h4 : k = a
      · subst h4; simp
      · have h2 : ¬(a ≤ k ∧ k < a + (t.length + 1)) := by omega
        rw [dif_neg h1, dif_neg h2, if_neg h4]

/-- A read of one byte after a write: the byte written, or what stood there. -/
theorem BogState.byte_write (b : BogState) (a k : Nat) (v : List Byte) :
    (b.write a v).byte k = if h : a ≤ k ∧ k < a + v.length then v[k - a]'(by omega) else b.byte k := by
  unfold BogState.byte BogState.write
  dsimp only
  by_cases h : a ≤ k ∧ k < a + v.length
  · rw [dif_pos h, streamAt_cutStreams_in _ _ _ _ h]
    exact (get_putBytes _ rfl _ _ _ _).trans (dif_pos h)
  · rw [dif_neg h, streamAt_cutStreams_out _ _ _ _ (by omega)]
    split
    · rfl
    · exact (get_putBytes _ rfl _ _ _ _).trans (dif_neg h)

/-- A write leaves every byte outside it alone. -/
theorem BogState.byte_write_out (b : BogState) (a k : Nat) (v : List Byte) (h : k < a ∨ a + v.length ≤ k) :
    (b.write a v).byte k = b.byte k := by
  rw [BogState.byte_write, dif_neg (by omega)]

/-- A read after a write of the same range gives the bytes written. -/
theorem BogState.read_write (b : BogState) (a : Nat) (v : List Byte) : (b.write a v).read a v.length = v := by
  suffices H : ∀ n k, k + n = v.length → (b.write a v).read (a + k) n = v.drop k by
    simpa using H v.length 0 (by omega)
  intro n
  induction n with
  | zero => intro k hk; simp [BogState.read, List.drop_eq_nil_of_le (by omega : v.length ≤ k)]
  | succ n ih =>
    intro k hk
    have hk' : k < v.length := by omega
    have := ih (k + 1) (by omega)
    rw [BogState.read, List.drop_eq_getElem_cons hk', BogState.byte_write, dif_pos (by omega)]
    simp only [Nat.add_sub_cancel_left]
    rw [show a + k + 1 = a + (k + 1) by omega, this]

end Sys2Proof.Machine
end

