-- ==== Sys2Proof/Laws/PerInstr.lean ====
section
/-! SUPPORT. The family Opcode: what spec/opcode_table.json says of every row's encoding, one lemma for each command. The table
gives no row any bits, so no word of any length spells a command. -/

namespace Sys2Proof.Laws.Opcode

/-- No word spells the command. -/
def Statement (i : Instr) : Prop := ∀ nbits w : Nat, decodeTableWord nbits w ≠ some i

/-- The one reason: the decoder answers none. -/
theorem unspelled (i : Instr) : Statement i := fun _ _ h => nomatch h

theorem vinValid (b : Boot) : Statement (.vinValid b) := unspelled _
theorem flashDiscoveryRetry (answer : Option Flash) : Statement (.flashDiscoveryRetry answer) := unspelled _
theorem patternPreload : Statement .patternPreload := unspelled _
theorem compositeDigest : Statement .compositeDigest := unspelled _
theorem synCStartRetry (lockC lockD lockU : LockUs) (calFail : BitVec 8) : Statement (.synCStartRetry lockC lockD lockU calFail) := unspelled _
theorem resetNLow (ns : Nat) (recognised : Bool) : Statement (.resetNLow ns recognised) := unspelled _
theorem vinWarning (lowestMv : Nat) : Statement (.vinWarning lowestMv) := unspelled _
theorem vinLow : Statement .vinLow := unspelled _
theorem vinHigh (absMax : Bool) : Statement (.vinHigh absMax) := unspelled _
theorem mramWriteComplete : Statement .mramWriteComplete := unspelled _
theorem serviceEnSet (o : Origin) : Statement (.serviceEnSet o) := unspelled _
theorem checkComplete (us : Nat) : Statement (.checkComplete us) := unspelled _
theorem checkTimeout (found : List Nat) : Statement (.checkTimeout found) := unspelled _
theorem serviceEnClear : Statement .serviceEnClear := unspelled _
theorem requestStandby (scope : Fin 4) (tag : Fin 256) : Statement (.requestStandby scope tag) := unspelled _
theorem requestListen (scope : Fin 4) (tag : Fin 256) : Statement (.requestListen scope tag) := unspelled _
theorem requestService (full : Bool) (scope : Fin 4) (tag : Fin 256) : Statement (.requestService full scope tag) := unspelled _
theorem requestPlayback (scope : Fin 4) (pattern : Fin 16) (tag : Fin 256) : Statement (.requestPlayback scope pattern tag) := unspelled _
theorem requestSleep (scope : Fin 4) (tag : Fin 256) : Statement (.requestSleep scope tag) := unspelled _
theorem requestUnrequestable (target : Fin 16) (scope : Fin 4) (tag : Fin 256) : Statement (.requestUnrequestable target scope tag) := unspelled _
theorem lockWaitExpired : Statement .lockWaitExpired := unspelled _
theorem transitionEnd (d : Dir) : Statement (.transitionEnd d) := unspelled _
theorem promotionToFull (d : Dir) : Statement (.promotionToFull d) := unspelled _
theorem wakeSessionLingerExpired : Statement .wakeSessionLingerExpired := unspelled _
theorem rxFifoSlip (lane : Fin 4) : Statement (.rxFifoSlip lane) := unspelled _
theorem txFifoUnderflow (lane : Fin 4) : Statement (.txFifoUnderflow lane) := unspelled _
theorem realignmentComplete (d : Dir) : Statement (.realignmentComplete d) := unspelled _
theorem marginLowTimeout : Statement .marginLowTimeout := unspelled _
theorem stageStall (d : Dir) : Statement (.stageStall d) := unspelled _
theorem vcoreUpdateTimeout : Statement .vcoreUpdateTimeout := unspelled _
theorem marginClr (v : Word) : Statement (.marginClr v) := unspelled _
theorem refSelWrite (v : Word) : Statement (.refSelWrite v) := unspelled _
theorem loFreqWrite (d : Dir) (v : Word) : Statement (.loFreqWrite d v) := unspelled _
theorem loCtrlWrite (d : Dir) (v : Word) : Statement (.loCtrlWrite d v) := unspelled _
theorem cacheClr (v : Word) : Statement (.cacheClr v) := unspelled _
theorem bandCalibrationDone (y : Syn) (found : Option BandCal) : Statement (.bandCalibrationDone y found) := unspelled _
theorem synthLocked (y : Syn) (us : Nat) : Statement (.synthLocked y us) := unspelled _
theorem warmLockTimeout (y : Syn) : Statement (.warmLockTimeout y) := unspelled _
theorem lossOfLock (y : Syn) : Statement (.lossOfLock y) := unspelled _
theorem refclkAbsent : Statement .refclkAbsent := unspelled _
theorem refclkFrequencyWrong : Statement .refclkFrequencyWrong := unspelled _
theorem refclkReturn : Statement .refclkReturn := unspelled _
theorem overRangeEpisode (lane : Fin 4) : Statement (.overRangeEpisode lane) := unspelled _
theorem overRangeEpisodeEnd (lane : Fin 4) : Statement (.overRangeEpisodeEnd lane) := unspelled _
theorem peakClr (v : Word) : Statement (.peakClr v) := unspelled _
theorem slotRegisterWrite (d : Dir) (which : SlotReg) (slot : Fin 17) (v : Word) : Statement (.slotRegisterWrite d which slot v) := unspelled _
theorem loopTick (i : TickIn) : Statement (.loopTick i) := unspelled _
theorem plausibilityRunComplete (lane : Fin 4) (high : Bool) : Statement (.plausibilityRunComplete lane high) := unspelled _
theorem loopDeadline (late : List (Fin 192)) : Statement (.loopDeadline late) := unspelled _
theorem loopAllLate10 : Statement .loopAllLate10 := unspelled _
theorem lawWrite : Statement .lawWrite := unspelled _
theorem lawRead : Statement .lawRead := unspelled _
theorem lawOpen : Statement .lawOpen := unspelled _
theorem lawClose : Statement .lawClose := unspelled _
theorem lawDiscardQueue : Statement .lawDiscardQueue := unspelled _
theorem timingClr (v : Word) : Statement (.timingClr v) := unspelled _
theorem vcoreEmergencyStep : Statement .vcoreEmergencyStep := unspelled _
theorem vcoreEmergencyRepeat : Statement .vcoreEmergencyRepeat := unspelled _
theorem vcoreSlewTimeout : Statement .vcoreSlewTimeout := unspelled _
theorem traceArm (u : Fin 4) (v : Word) : Statement (.traceArm u v) := unspelled _
theorem tracePostComplete (u : Fin 4) : Statement (.tracePostComplete u) := unspelled _
theorem traceForce (u : Fin 4) : Statement (.traceForce u) := unspelled _
theorem traceRearm (u : Fin 4) : Statement (.traceRearm u) := unspelled _
theorem traceDump (u : Fin 4) : Statement (.traceDump u) := unspelled _
theorem fastCut (d : Dir) (slot : Fin 17) (i0 : Nat) (pin0 pin1 : Int) (flagged : BitVec 2) : Statement (.fastCut d slot i0 pin0 pin1 flagged) := unspelled _
theorem govWrite (d : Dir) (which : GovReg) (g : Fin 16) (v : Word) : Statement (.govWrite d which g v) := unspelled _
theorem donorLost (slot : Fin 17) : Statement (.donorLost slot) := unspelled _
theorem donorPresent (slot : Fin 17) : Statement (.donorPresent slot) := unspelled _
theorem noiseRiseMute (slot : Fin 17) : Statement (.noiseRiseMute slot) := unspelled _
theorem laneOutputMute (d : Dir) : Statement (.laneOutputMute d) := unspelled _
theorem muteRetryExpired (d : Dir) (slot : Option (Fin 17)) : Statement (.muteRetryExpired d slot) := unspelled _
theorem correlatorBlockEnd (slot : Fin 34) (b : BlockIn) : Statement (.correlatorBlockEnd slot b) := unspelled _
theorem oscFastEval (slot : Fin 34) (b : FastIn) : Statement (.oscFastEval slot b) := unspelled _
theorem estClr (v : Word) : Statement (.estClr v) := unspelled _
theorem lockCommit (v : Word) : Statement (.lockCommit v) := unspelled _
theorem lockCommitComplete : Statement .lockCommitComplete := unspelled _
theorem lockPageScrub (f : LockScrubIn) : Statement (.lockPageScrub f) := unspelled _
theorem frontWrite (off : Fin 2048) (v : Word) : Statement (.frontWrite off v) := unspelled _
theorem transmitWindowEdge (d : Dir) (slot : Fin 17) (t : Nat) : Statement (.transmitWindowEdge d slot t) := unspelled _
theorem dutyWindowEnd (dl ul : Nat) : Statement (.dutyWindowEnd dl ul) := unspelled _
theorem lnaBypassRelease (lane : Fin 4) : Statement (.lnaBypassRelease lane) := unspelled _
theorem syncHit (h : HitIn) : Statement (.syncHit h) := unspelled _
theorem syncOccurrence (ref : Fin 16) : Statement (.syncOccurrence ref) := unspelled _
theorem timingSwitch (ref : Fin 16) : Statement (.timingSwitch ref) := unspelled _
theorem timingPinEdge (p : TPin) (t : Nat) : Statement (.timingPinEdge p t) := unspelled _
theorem timingPinStuck (p : TPin) : Statement (.timingPinStuck p) := unspelled _
theorem timingPinMissing (p : TPin) : Statement (.timingPinMissing p) := unspelled _
theorem noiseFloorUpdate (slot : Fin 34) (branch : Fin 2) (p : Int) (k : Nat) : Statement (.noiseFloorUpdate slot branch p k) := unspelled _
theorem noiseFloorStale (slot : Fin 34) : Statement (.noiseFloorStale slot) := unspelled _
theorem burstStart (slot : Fin 34) (branch : Fin 2) (t : Nat) : Statement (.burstStart slot branch t) := unspelled _
theorem burstEnd (b : BurstIn) : Statement (.burstEnd b) := unspelled _
theorem burstContinues (b : BurstIn) : Statement (.burstContinues b) := unspelled _
theorem syncWrite (off : Fin 2048) (v : Word) : Statement (.syncWrite off v) := unspelled _
theorem lichenLook (rx : Fin 4) (freq : Fin 8) (active : Bool) : Statement (.lichenLook rx freq active) := unspelled _
theorem lichenHoldoffExpired : Statement .lichenHoldoffExpired := unspelled _
theorem policySleepTimer (donor : Bool) : Statement (.policySleepTimer donor) := unspelled _
theorem twoWireWake : Statement .twoWireWake := unspelled _
theorem wakeComplete (w : WakeInfo) : Statement (.wakeComplete w) := unspelled _
theorem falseWakeCheck : Statement .falseWakeCheck := unspelled _
theorem bogArm (r : Fin 8) : Statement (.bogArm r) := unspelled _
theorem bogTrigger (r : Fin 8) : Statement (.bogTrigger r) := unspelled _
theorem bogStop (r : Fin 8) : Statement (.bogStop r) := unspelled _
theorem bogClear (r : Fin 8) : Statement (.bogClear r) := unspelled _
theorem stopPlayback (d : Dir) : Statement (.stopPlayback d) := unspelled _
theorem segmentEnd (r : Fin 8) : Statement (.segmentEnd r) := unspelled _
theorem regionEnd (r : Fin 8) : Statement (.regionEnd r) := unspelled _
theorem scrubPass (f : ScrubIn) : Statement (.scrubPass f) := unspelled _
theorem patLenWrite (p : Fin 16) (v : Word) : Statement (.patLenWrite p v) := unspelled _
theorem patPlacementWrite (p : Fin 16) (size : Bool) (v : Word) : Statement (.patPlacementWrite p size v) := unspelled _
theorem patternEnd (d : Dir) : Statement (.patternEnd d) := unspelled _
theorem bogRegisterWrite (off : Fin 2048) (v : Word) : Statement (.bogRegisterWrite off v) := unspelled _
theorem bixQueueDrain : Statement .bixQueueDrain := unspelled _
theorem bixClear : Statement .bixClear := unspelled _
theorem bixDump (r : Fin 8) : Statement (.bixDump r) := unspelled _
theorem bixDumpComplete : Statement .bixDumpComplete := unspelled _
theorem hkPassStart (c : HkConv) : Statement (.hkPassStart c) := unspelled _
theorem hkConversionEnd (c : HkConv) (x : ConvIn) : Statement (.hkConversionEnd c x) := unspelled _
theorem hkTrigEdge (t : Nat) : Statement (.hkTrigEdge t) := unspelled _
theorem hkTrigStuck : Statement .hkTrigStuck := unspelled _
theorem overdriveTrip (lane : OvdIn) : Statement (.overdriveTrip lane) := unspelled _
theorem hkInjectedRun (c : HkConv) : Statement (.hkInjectedRun c) := unspelled _
theorem hkReferenceSettled (c : HkConv) (settled : Bool) : Statement (.hkReferenceSettled c settled) := unspelled _
theorem hkCrossCheck (a b : ConvIn) (ended : Bool) : Statement (.hkCrossCheck a b ended) := unspelled _
theorem hkWrite (off : Fin 2048) (v : Word) : Statement (.hkWrite off v) := unspelled _
theorem slotDrop : Statement .slotDrop := unspelled _
theorem throttleUndo : Statement .throttleUndo := unspelled _
theorem sensorFence (k : Fin 6) (noReading : Bool) : Statement (.sensorFence k noReading) := unspelled _
theorem thermalShutdown (sensed : Bool) : Statement (.thermalShutdown sensed) := unspelled _
theorem shutdownResume (lockC lockD lockU : LockUs) : Statement (.shutdownResume lockC lockD lockU) := unspelled _
theorem vinClr (v : Word) : Statement (.vinClr v) := unspelled _
theorem pClr (v : Word) : Statement (.pClr v) := unspelled _
theorem thermPeakClr (v : Word) : Statement (.thermPeakClr v) := unspelled _
theorem faultDetected (es : List Detect) : Statement (.faultDetected es) := unspelled _
theorem classWindowExpired (event : Fin 1024) : Statement (.classWindowExpired event) := unspelled _
theorem quietPeriodExpired (blk : Fin 24) (q : QuietOf) : Statement (.quietPeriodExpired blk q) := unspelled _
theorem srcInject (blk : Fin 24) (v : Word) : Statement (.srcInject blk v) := unspelled _
theorem peatTimer : Statement .peatTimer := unspelled _
theorem peatFlush : Statement .peatFlush := unspelled _
theorem peatCommitComplete : Statement .peatCommitComplete := unspelled _
theorem peatAudit (f : AuditIn) : Statement (.peatAudit f) := unspelled _
theorem peatFreeze : Statement .peatFreeze := unspelled _
theorem peatThaw : Statement .peatThaw := unspelled _
theorem peatClose : Statement .peatClose := unspelled _
theorem freezeTimeout : Statement .freezeTimeout := unspelled _
theorem twoWireWrite (bytes : List Byte) : Statement (.twoWireWrite bytes) := unspelled _
theorem setPointerRead (hi lo : Byte) (n : Nat) (ready : Bool) : Statement (.setPointerRead hi lo n ready) := unspelled _
theorem currentPointerRead (n : Nat) (ready : Bool) : Statement (.currentPointerRead n ready) := unspelled _
theorem snapshotRead (f : Iface) (addr : Fin 65536) : Statement (.snapshotRead f addr) := unspelled _
theorem registerWrite (addr : Fin 65536) (v : Word) : Statement (.registerWrite addr v) := unspelled _
theorem wakeStretchTimeout : Statement .wakeStretchTimeout := unspelled _
theorem targetTimeout : Statement .targetTimeout := unspelled _
theorem attentionAttempt (o : AttnOutcome) : Statement (.attentionAttempt o) := unspelled _
theorem attentionRetryWaitEnd : Statement .attentionRetryWaitEnd := unspelled _
theorem arbitrationBackoffEnd : Statement .arbitrationBackoffEnd := unspelled _
theorem stuckBusDetected (freedAfter : Option (Fin 10)) : Statement (.stuckBusDetected freedAfter) := unspelled _
theorem controllerSclTimeout : Statement .controllerSclTimeout := unspelled _
theorem attnFlush : Statement .attnFlush := unspelled _
theorem busClear (freedAfter : Option (Fin 10)) : Statement (.busClear freedAfter) := unspelled _
theorem bar0Read (a : BogAccess) : Statement (.bar0Read a) := unspelled _
theorem bar0Write (a : BogAccess) : Statement (.bar0Write a) := unspelled _
theorem mirrorWrite (addr : Fin 65536) (v : Word) : Statement (.mirrorWrite addr v) := unspelled _
theorem captureDoorbellArm (r : Fin 8) (tag : Fin 256) : Statement (.captureDoorbellArm r tag) := unspelled _
theorem captureDoorbellTrigger (r : Fin 8) (tag : Fin 256) : Statement (.captureDoorbellTrigger r tag) := unspelled _
theorem captureDoorbellStop (r : Fin 8) (tag : Fin 256) : Statement (.captureDoorbellStop r tag) := unspelled _
theorem captureDoorbellClear (r : Fin 8) (tag : Fin 256) : Statement (.captureDoorbellClear r tag) := unspelled _
theorem playbackDoorbellStart (p : Fin 16) (tag : Fin 256) : Statement (.playbackDoorbellStart p tag) := unspelled _
theorem playbackDoorbellStop (p : Fin 16) (tag : Fin 256) : Statement (.playbackDoorbellStop p tag) := unspelled _
theorem doorbellMalformed (off : Fin 65536) (v : Word) : Statement (.doorbellMalformed off v) := unspelled _
theorem msixUnmask (vector : Option (Fin 16)) : Statement (.msixUnmask vector) := unspelled _
theorem perst (flr : Bool) : Statement (.perst flr) := unspelled _
theorem configRequest (op : ConfigOp) : Statement (.configRequest op) := unspelled _
theorem nearOverRange (lane : Fin 4) : Statement (.nearOverRange lane) := unspelled _
theorem resetNRelease (b : Boot) : Statement (.resetNRelease b) := unspelled _
theorem laneRestoreComplete (tx : Bool) (lane : Fin 4) : Statement (.laneRestoreComplete tx lane) := unspelled _
theorem backgroundCalRecordRewrite (tx : Bool) (lane : Fin 4) : Statement (.backgroundCalRecordRewrite tx lane) := unspelled _
theorem timingPinInactiveLevel (p : TPin) : Statement (.timingPinInactiveLevel p) := unspelled _
theorem hkTrigInactiveLevel : Statement .hkTrigInactiveLevel := unspelled _
theorem overdriveRearm (lane : OvdIn) : Statement (.overdriveRearm lane) := unspelled _
theorem busStartDuringBackoff : Statement .busStartDuringBackoff := unspelled _
theorem perstNDeassertion : Statement .perstNDeassertion := unspelled _
theorem pcieLinkUp (gen width : Nat) : Statement (.pcieLinkUp gen width) := unspelled _
theorem pcieLinkDown : Statement .pcieLinkDown := unspelled _
theorem selfRefreshIdleTimeout (channel : Fin 8) : Statement (.selfRefreshIdleTimeout channel) := unspelled _

end Sys2Proof.Laws.Opcode
end

