-- ==== Sys2Proof/Machine/Chain.lean ====
section
/-! DEFINITION. The sample paths put together: a direction's samples from its receive boundary FIFOs to its transmit boundary FIFOs, stage
by stage in the order of R19–R23 (R27, R113, R115, R129–R150, R157, R158, R167), under the registers that the state holds. Every stream
is a function of the number of its own sample: sample j of a stream at the rate 983.04/2^i MS/s has lane index j × 2^i (R131, R134), and
what comes before a stream's first sample is zero. The samples themselves are no commands (log entry 15). -/

namespace Sys2Proof.Machine.Signal

/-! ### Streams -/

abbrev Stream := Nat → Cplx

def czero : Cplx := (0, 0)

/-- Sample n − i of a stream. -/
def Stream.back (x : Stream) (n i : Nat) : Cplx := if i ≤ n then x (n - i) else czero

/-- The latest `taps` samples at n, newest first. -/
def Stream.window (x : Stream) (n taps : Nat) : List Cplx := (List.range taps).map (x.back n)

/-- A zero follows every sample: the rate doubles (R135, R137). -/
def Stream.stuffed (x : Stream) : Stream := fun m => if m % 2 = 0 then x (m / 2) else czero

/-- A gate: zero in the place of every sample while it is closed (R23). -/
def gated (isOpen : Bool) (x : Cplx) : Cplx := if isOpen then x else czero

/-! ### Receive side (R19, R21, R129, R134–R136) -/

/-- A lane's words of the receive FIFO, by conversion clock. -/
abbrev Words := Nat → Nat

/-- Quadrature conversion (R21, R131, R135): the codes of two clocks turned by successive multiples of −90°, filtered by the QHB and halved in
rate; lane sample n is that of clocks 2n and 2n + 1. -/
def laneStream (w : Words) : Stream := fun n =>
  creduce 15 16 (chainSum 0 (Stream.window (fun m => turnDown m (rxSample (w m)).1) (2 * n + 1) 63))

/-- The lane over-range flag (R150). -/
def laneOvr (w : Words) (n : Nat) : Bool := laneFlag ((List.range 63).map (fun i => decide (i ≤ 2 * n + 1) && (rxSample (w (2 * n + 1 - i))).2))

/-- The slot over-range flag of slot sample j (R150). -/
def slotOvr (w : Words) (gd k j : Nat) : Bool :=
  slotFlag gd ((List.range gd).map (fun i => decide (i ≤ j * 2 ^ k) && laneOvr w (j * 2 ^ k - i)))

/-- The two decimators of a branch, of the real and the imaginary part. -/
abbrev CicPair := Cic × Cic

/-- One output of a branch's decimators, of the 2^c samples that end with sample q × 2^c (R136). -/
def cicStep (c : Nat) (x : Stream) (r : CicPair) (q : Nat) : CicPair × Cplx :=
  let xs := (x.window (q * 2 ^ c) (2 ^ c)).reverse
  let (a, u) := r.1.decimate c (xs.map Prod.fst)
  let (b, v) := r.2.decimate c (xs.map Prod.snd)
  ((a, b), (u, v))

/-- The decimators after i outputs that follow output q, and the last of these. -/
def cicRun (c : Nat) (x : Stream) (r : CicPair) (q : Nat) : Nat → CicPair × Cplx
  | 0 => (r, czero)
  | i + 1 => cicStep c x (cicRun c x r q i).1 (q + i + 1)

/-- A decimator's stream, whose registers stood at r after output q; before it, as it was. -/
def cicDown (c : Nat) (r : CicPair) (q : Nat) (before x : Stream) : Stream := fun j =>
  if j ≤ q then before j else (cicRun c x r q (j - q)).2

/-- A half-band of the decimation chain, in Q1.19. -/
def halfDown (x : Stream) (f : Nat) : Stream := fun j => chainFir f 20 (x.window (2 * j) (chainTaps f))

/-- What a slot's decimators held when the tick began that is being processed: their registers, the number of their latest output, and
their outputs up to it (R136). -/
structure CicPast where
  regs : CicPair := ({}, {})
  at_ : Nat := 0
  before : Stream := fun _ => czero

/-- The receive chain of a channelised slot's branch: NCO, CIC decimator or appended zero bits, half-bands, Frond filter (R19, R129, R134). -/
def slotStream (w r k : Nat) (past : CicPast) (lane : Stream) : Stream :=
  let placed : Stream := fun n => ncoDown w n (lane n)
  let cic : Stream := if k ≤ 4 then fun n => widen (placed n) else cicDown (cicExp k) past.regs past.at_ past.before placed
  let half := (halfBands k).foldl halfDown cic
  fun j => frond r (half.window j (frondTaps r))

/-- The receive chain of the bypass slot: 58 lane samples late, in Q1.23 by appended zero bits (R21, R143). -/
def bypassStream (lane : Stream) : Stream := fun n => let x := lane.back n 58; (256 * x.1, 256 * x.2)

/-! ### From the canceller to the slot gate (R21–R23, R145–R148, R158, R167) -/

/-- A slot between its channel filter and its mute gate, over the samples of a tick; t and b number transmit and receive branches. -/
structure SlotPath where
  /-- Branch b at the canceller. -/
  filtered : Nat → Stream
  /-- Slot samples of branch b that carry the over-range flag; `blank` is OVR_BLANK (R151). -/
  flagged : Nat → Nat → Bool
  blank : Bool
  /-- The taps of path t → b before and after the cross-fade of the tick, and their first delay (R166, R167). -/
  taps : Nat → Nat → CancelTaps × CancelTaps
  delay : Nat
  /-- Transmit branches, and the receive branch that feeds each (R22, R42). -/
  sends : List Nat
  feed : Nat → Nat
  /-- The pair (m, e) and the probe in Q1.17 of branch t at each sample (R145, R158). -/
  gain : Nat → Nat → Nat × Int
  probe : Nat → Nat → Int
  /-- Samples of a tick, and the slot mute gate at each sample. -/
  tick : Nat
  gate : Nat → Bool
  /-- What a pattern makes of branch b's sample at the Frond output, and of branch t's before the slot mute gate (R297). -/
  heard : Nat → Nat → Cplx → Cplx := fun _ _ x => x
  sent : Nat → Nat → Cplx → Cplx := fun _ _ x => x

/-- What left the slot gate on both transmit branches. -/
abbrev Pair := Cplx × Cplx

def Pair.br (p : Pair) (t : Nat) : Cplx := if t = 0 then p.1 else p.2

/-- The canceller of branch b at sample j: its echo estimates come through every transmit branch, from what left the slot gate earlier, newest
first in `past` (R22, R167). -/
def SlotPath.cancelled (c : SlotPath) (past : List Pair) (b j : Nat) : Cplx :=
  let paths := c.sends.map (fun t => ((c.taps t b).1, (c.taps t b).2, (past.drop (c.delay - 1)).map (Pair.br · t)))
  cancel (c.heard b j (c.filtered b j)) (echoEstimate paths (j % c.tick) c.tick)

/-- The gain multiplier's input: a flagged sample is zero there where OVR_BLANK is set (R151). -/
def SlotPath.input (c : SlotPath) (past : List Pair) (b j : Nat) : Cplx := if c.blank && c.flagged b j then czero else c.cancelled past b j

/-- Transmit branch t at sample j: canceller, gain multiplier, probe, a pattern of that point, slot mute gate (R19, R21, R23, R297). -/
def SlotPath.branch (c : SlotPath) (past : List Pair) (t j : Nat) : Cplx :=
  let x := c.input past (c.feed t) j
  let (m, e) := c.gain t j
  gated (c.gate j) (c.sent t j (probeAdd (gainMul x.1 m e, gainMul x.2 m e) (c.probe t j)))

/-- What left the slot gate in the first n samples, newest first: the reference of the cancellers is the slot's own output (R22). -/
def SlotPath.outputs (c : SlotPath) : Nat → List Pair
  | 0 => []
  | n + 1 =>
    let past := c.outputs n
    let out (t : Nat) : Cplx := if c.sends.contains t then c.branch past t n else czero
    (out 0, out 1) :: past

/-- Branch t as it leaves the slot mute gate, in Q1.17. -/
def SlotPath.out (c : SlotPath) (t : Nat) : Stream := fun j => ((c.outputs (j + 1)).headD (czero, czero)).br t

/-- What a region captures of branch b at sample j (R286, R289): the Frond output or what the canceller leaves, both in Q1.23, or what
leaves the slot gate, in Q1.17; `flag` is FLAG less the over-range flag. -/
def SlotPath.capture (c : SlotPath) (point scale : Nat) (flag : Bool) (b j : Nat) : Nat :=
  let f := flag || c.flagged b j
  match point with
  | 0 => captureWord 23 scale (c.heard b j (c.filtered b j)) f
  | 1 => captureWord 23 scale (c.cancelled (c.outputs j) b j) f
  | _ => captureWord 17 scale (c.out b j) f

/-! ### Transmit side (R19, R21, R137) -/

/-- A half-band of the interpolation chain, in Q1.17: the stuffed zeros are made up for by a gain of two. -/
def halfUp (x : Stream) (f : Nat) : Stream := fun m => creduce 16 18 (chainSum f (x.stuffed.window m (chainTaps f)))

/-- One input of a branch's interpolators, and the 2^c outputs that it gives. -/
def cicUpStep (c : Nat) (x : Stream) (r : CicPair) (q : Nat) : CicPair × List Cplx :=
  let (a, u) := r.1.interpolate c (x q).1
  let (b, v) := r.2.interpolate c (x q).2
  ((a, b), u.zip v)

/-- The interpolators from cleared registers after i inputs, and what the last of these gave. -/
def cicUpRun (c : Nat) (x : Stream) (r : CicPair) (q : Nat) : Nat → CicPair × List Cplx
  | 0 => (r, [])
  | i + 1 => cicUpStep c x (cicUpRun c x r q i).1 (q + i)

/-- An interpolator's stream, whose registers stood at r before input q. -/
def cicUp (c : Nat) (r : CicPair) (q : Nat) (before x : Stream) : Stream := fun n =>
  if n / 2 ^ c < q then before n else (cicUpRun c x r q (n / 2 ^ c - q + 1)).2.getD (n % 2 ^ c) czero

/-- The interpolation chain of a channelised slot's branch, up to the lane's rate: half-bands from HBd on, CIC interpolator, NCO (R137). -/
def slotUp (w k : Nat) (past : CicPast) (x : Stream) : Stream :=
  let half := (halfBands k).reverse.foldl halfUp x
  let cic : Stream := if k ≤ 4 then half else cicUp (cicExp k) past.regs past.at_ past.before half
  fun n => ncoUp w n (cic n)

/-- Lane summation over the slots of a transmit lane, each already through its own gate (R137). -/
def laneSums (slots : List Stream) : Stream := fun n => laneSum (slots.map (fun x => x n))

/-- The ramp's weight w of a PA sequence, in units of 2^-32, multiplies the lane stream at the direction mute gate (R230). -/
def weighted (w : Nat) (x : Cplx) : Cplx := (rneDiv (x.1 * w) (2 ^ 32), rneDiv (x.2 * w) (2 ^ 32))

/-- The word that a lane writes into its transmit FIFO at conversion clock m: QHB and rotation, twice the real part as a 14-bit code, and the
direction mute gate, which puts code 0 in the place of every one (R23, R115, R135, R137). Up to the QHB the PA's ramp weighs the stream (R230). -/
def txWord (isOpen : Bool) (weight : Nat → Nat) (lane : Stream) (m : Nat) : Nat :=
  let v := turnUp m (chainSum 0 (Stream.window (Stream.stuffed (fun n => weighted (weight n) (lane n))) m 63))
  let (code, clip) := toCode 19 v.1
  if isOpen then fifoWord code clip else fifoWord 0 false

end Sys2Proof.Machine.Signal

namespace Sys2Proof.Machine

open Signal

/-! ### The paths of the state -/

/-- What register r of a slot's CIC chains holds: side 0 receive and 1 transmit, branch, part, then integrators 0–4 and combs 5–9 (R136). -/
def State.cicReg (s : State) (d : Dir) (n side b part r : Nat) : CicReg :=
  match (s.slotRec d n).chain with
  | none => 0
  | some t => Config.cicLeft t ((((slotKey d n * 2 + side) * 2 + b) * 2 + part) * 10 + r)

def State.cicOf (s : State) (d : Dir) (n side b part : Nat) : Cic :=
  { integ := (List.range 5).map (s.cicReg d n side b part), comb := (List.range 5).map (fun r => s.cicReg d n side b part (5 + r)) }

/-- The CIC registers of a branch at the latest tick boundary, whose lane index is the device time; one register set stands behind 2^c lane
samples (R134, R136). -/
def State.cicPast (s : State) (d : Dir) (n side b : Nat) (before : Stream) : CicPast :=
  { regs := (s.cicOf d n side b 0, s.cicOf d n side b 1)
    at_ := s.now / tickTime * tickTime / 2 ^ cicExp (s.slotK d n)
    before := before }

/-- Mantissas and exponent of path t → b as the canceller loads them (R167). -/
def State.pathTaps (s : State) (d : Dir) (n t b : Nat) : CancelTaps :=
  let w := s.tapsNow d n (2 * t + b)
  { m := w.map (fun x => (tapMant (tapExp w) x.1, tapMant (tapExp w) x.2)), e := tapExp w }

/-- The receive branch that feeds transmit branch t (R22, R42). -/
def State.feedOf (s : State) (d : Dir) (t : Nat) : Nat := if s.branchMode d = 1 then s.divBranch d else t

/-- The probe of transmit branch t at slot sample j in Q1.17: shaped chips times the amplitude of the tick (R157–R159). -/
def State.probeAt (s : State) (d : Dir) (n t j : Nat) : Int :=
  let k := s.slotK d n
  let chips := (List.range (frondTaps (s.slotResp d n))).map (fun i => if i ≤ j then chip s d n t ((j - i) * 2 ^ k) else 0)
  probeSample (s.probeAmp d n t) (probeShape (n = 16) (s.slotResp d n) chips)

/-! ### Playback (R297–R299) -/

/-- The pattern that plays at a point of direction d, for a slot point at slot n. -/
def State.playsAt (s : State) (d : Dir) (point n : Nat) : Option Playing :=
  (s.playing d).filter (fun x => s.fld (Reg.BOG_PAT_CFG x.pattern) 1 2 = point &&
    (point = 1 || point = 3 || clampN 0 16 (s.fld (Reg.BOG_PAT_CFG x.pattern) 3 5) = n))

/-- The word that branch b plays as its word j since PB_T0: the passes follow with no gap, and BR shares the words out (R297–R299). -/
def State.patWord (s : State) (x : Playing) (b j : Nat) : Option Nat :=
  let br := s.fld (Reg.BOG_PAT_CFG x.pattern) 8 2
  let i := if br = 3 then 2 * j + b else j
  let len := s.rd (Reg.BOG_PAT_LEN x.pattern)
  if (br = 1 ∧ b ≠ 0) ∨ (br = 2 ∧ b ≠ 1) ∨ len = 0 ∨ (s.patLoops x ≠ 0 ∧ s.patLoops x * len ≤ i) then none
  else some (ofLe (s.bog.read (s.patBase x.pattern + 4 * (i % len)) 4))

def State.patAmp (s : State) (x : Playing) : Nat := playLevel (clampI (-6000) 600 (s.fldS (Reg.BOG_PAT_LEVEL x.pattern) 0 16))

/-- The pattern takes the place of traffic at its point (R298). -/
def State.patReplaces (s : State) (x : Playing) : Bool := x.asReplace || s.patWay x.pattern != 0

/-- A sample at a point of f fraction bits and w bits as the pattern of that point leaves it; n is the sample's lane index, k its rate. -/
def State.played (s : State) (d : Dir) (point slot f w k b n : Nat) (x : Cplx) : Cplx :=
  match s.playsAt d point slot with
  | none => x
  | some p =>
    if n < s.patT0 d then x
    else match s.patWord p b ((n - s.patT0 d) / 2 ^ k) with
      | some v => playAt w (s.patReplaces p) x
          (playPart f w (s.patAmp p) (signedOf 16 (bitsAt v 0 16)), playPart f w (s.patAmp p) (signedOf 16 (bitsAt v 16 16)))
      | none => x

/-- The words of receive lane l at its FIFO's output as a receive-lane pattern leaves them: each word gives two successive real samples (R286,
R297). -/
def State.rxPlayed (s : State) (l : Nat) (w : Words) : Words := fun m =>
  let d := laneDir (Fin.ofNat 4 l)
  match s.playsAt d 3 0 with
  | none => w m
  | some p =>
    if m / 2 < s.patT0 d then w m
    else match s.patWord p (l % 2) (m / 2 - s.patT0 d) with
      | some v =>
        let (code, ovr) := rxSample (w m)
        let c := playPart 15 14 (s.patAmp p) (signedOf 14 (bitsAt v (16 * (m % 2)) 14))
        if s.patReplaces p then fifoWord c false else fifoWord (satW 14 (code + c)) ovr
      | none => w m

/-! ### The paths -/

/-- A slot over the tick that begins at the latest boundary, fed by the words of its receive lanes; `old` are the taps before the cross-fade,
`before` the decimators' earlier outputs, and the gate stands as the state shows it. -/
def State.slotPath (s : State) (d : Dir) (n : Nat) (rx : Nat → Words) (old : Nat → Nat → CancelTaps) (before : Nat → Stream) : SlotPath :=
  let ns := s.tickLen d n
  { filtered := fun b =>
      let lane := laneStream (s.rxPlayed (laneOf d b) (rx (laneOf d b)))
      if n = 16 then bypassStream lane
      else slotStream (s.rd (Reg.CHAN_SLOT_NCO d n)) (s.slotResp d n) (s.slotK d n) (s.cicPast d n 0 b (before b)) lane
    flagged := fun b j => slotOvr (rx (laneOf d b)) (s.slotGD d n) (s.slotK d n) j
    blank := bitAt (s.rd (Reg.CHAN_OVR_BLANK d)) n
    taps := fun t b => (old t b, s.pathTaps d n t b)
    delay := s.echoD0 d n
    sends := s.txBr d
    feed := s.feedOf d
    gain := fun t j => gainForm ((s.slotRec d n).gainAt t ((j % ns : Nat) : Int) ns)
    probe := fun t j => s.probeAt d n t j
    tick := ns
    gate := fun _ => s.slotOpen d n
    heard := fun b j => s.played d 2 n 23 24 (s.slotK d n) b (j * 2 ^ s.slotK d n)
    sent := fun t j => s.played d 0 n 17 18 (s.slotK d n) t (j * 2 ^ s.slotK d n) }

/-- Lane stream of transmit branch t from the slots' outputs: the channelised slots interpolated, the bypass slot as it is, and a pattern of
the lane point at the summation's output (R20, R21, R137, R297). -/
def State.laneOut (s : State) (d : Dir) (t : Nat) (paths : Nat → SlotPath) (before : Nat → Stream) : Stream :=
  let sum := laneSums ((s.enabled d).map (fun n =>
    if n = 16 then (paths n).out t
    else slotUp (s.rd (Reg.CHAN_SLOT_NCO d n)) (s.slotK d n) (s.cicPast d n 1 t (before n)) ((paths n).out t)))
  fun i => s.played d 1 0 17 23 0 t i (sum i)

/-- The weight of transmit lane l at lane index n, by its PA sequence at the present instant: rising in step 3, falling in step 5 (R230, R232). -/
def State.laneWeight (s : State) (l n : Nat) : Nat :=
  let e := s.front.laneEnd l
  match s.front.laneStep l with
  | 3 => rampWeight (n + s.tRamp - e) s.tRamp
  | 4 => 2 ^ 32
  | 5 => if n < e then rampWeight (e - n) s.tRampDn else 0
  | _ => 0

/-- The words that a direction writes into the transmit FIFO of branch t: the whole chain of R19 and R20, through both mute gates. -/
def State.txWords (s : State) (d : Dir) (t : Nat) (paths : Nat → SlotPath) (before : Nat → Stream) : Words :=
  txWord (s.gateOpen d && (s.branchesUp d).contains t) (s.laneWeight (laneOf d t)) (s.laneOut d t paths before)

/-- What a branch's meters give of the tick that begins at slot sample j0 (R149): at the gain-multiplier input and at the gate's output. -/
def SlotPath.meters (c : SlotPath) (t j0 : Nat) : BranchIn :=
  meterTick ((List.range c.tick).map (fun i => c.input (c.outputs (j0 + i)) (c.feed t) (j0 + i)))
    ((List.range c.tick).map (fun i => c.out t (j0 + i)))

end Sys2Proof.Machine
end

