-- ==== Sys2Proof/WellFormed.lean ====
section
/-! DEFINITION. What an operand must satisfy for a command to be one the surroundings can send (R385, R402, R81). The meanings do
not need it: they bring an operand outside these bounds to what the manual gives for it. -/

namespace Sys2Proof

/-- A length of time in µs that a lock register can show (R123). -/
def lockUsOk (l : LockUs) : Bool :=
  match l with
  | none => true
  | some us => decide (us ≤ 2000)

/-- A detection names an event ID of ten bits (R12) and a unit of eight (R367). -/
def detectOk (d : Detect) : Bool :=
  decide (d.event < 1024) && (match d.unit with | none => true | some u => decide (u < 256))

/-- A command the surroundings can send. -/
def Instr.wf (i : Instr) : Bool :=
  match i with
  | .vinValid b => lockUsOk b.lockC && b.lockUe.all (fun c => decide (c < 128))
  | .resetNRelease b => lockUsOk b.lockC && b.lockUe.all (fun c => decide (c < 128))
  | .faultDetected es => es.all detectOk
  | .lockPageScrub f => (f.corr ++ f.ue).all (fun c => decide (c < 128))
  | .hkConversionEnd _ x => decide (0 < x.vref)
  | .hkCrossCheck a b _ => decide (0 < a.vref) && decide (0 < b.vref)
  | .bar0Read a => decide (a.addr + a.len ≤ 2 ^ 34)
  | .bar0Write a => decide (a.addr + a.data.length ≤ 2 ^ 34)
  | .pcieLinkUp gen width => decide (1 ≤ gen ∧ gen ≤ 4) && decide (width = 1 ∨ width = 2 ∨ width = 4)
  | .correlatorBlockEnd _ b => b.paths.all (fun p => decide (p.h.length ≤ 128))
  | .loopTick i => decide (i.mTick ≤ 64) && i.occ.all (fun o => decide (o ≤ 64))
  | _ => true

end Sys2Proof
end

