-- ==== Sys2Proof/Tests/Slice0.lean ====
section
/-! SUPPORT. Tests. For every statement with hypotheses, a named witness: states and operands that meet them, clause by clause. Then
small checks of single steps against values worked out by hand from the rules they name, and the well-formedness check refusing one
ill-formed term of each kind. -/

namespace Sys2Proof.Tests
open Sys2Proof.Machine

set_option maxRecDepth 8000

/-! ### States to test on -/

/-- Up, both directions in STANDBY, SERVICE_EN 0. -/
def up : State := { power := .up }

/-- Up, both directions standing in x; SERVICE_EN 1. -/
def run (x : DirState) : State :=
  { power := .up, sys := { serviceEn := true, dl := { st := x, running := true }, ul := { st := x, running := true } } }

/-- Both directions on the air. -/
def air : State := run .full

/-- On the air with slot n's SLOT_CFG of direction d as v. -/
def slotOn (d : Dir) (n v : Nat) : State := air.wr (Reg.CHAN_SLOT_CFG d n) v

/-- Time runs. -/
def State.ticking (s : State) : State := { s with syn := { s.syn with timeRuns := true } }

/-- Unit u of block b in record r. -/
def State.withUnit (s : State) (b u : Nat) (r : UnitRec) : State := { s with flt := s.flt.setUnit b u r }

/-- Source n of block b in record r. -/
def State.withSrc (s : State) (b n : Nat) (r : Src) : State := { s with flt := s.flt.setSource b n r }

/-- Region n in record r. -/
def State.withRegion (s : State) (n : Nat) (r : RegionRec) : State := { s with bog := s.bog.setRegion n r }

/-! ### The hypotheses of the statements can be met -/

/-- A state that meets RetryInv with a unit in handling that retries, and a step from it. -/
theorem meets_RetryInvKept : RetryInv ({ up with pending := [.attnFlush] } : State) ∧
    ∃ t, step { up with pending := [.attnFlush] } = .next t :=
  And.intro (fun _ _ _ h => (by cases h)) ⟨_, rfl⟩

/-- A state on the air whose gates are open and whose DIR_STAT says so, and a step from it. -/
theorem meets_GateInvKept : GateInv air.settle ∧ bitAt (air.settle.st (Reg.CHAN_DIR_STAT .dl)) 0 = true ∧
      ∃ t, step air.settle = .next t :=
  ⟨fun _ d => by cases d <;> decide, by decide, ⟨_, rfl⟩⟩

theorem meets_StepRunsFront :
    ({ pending := [.attnFlush, .bixQueueDrain] } : State).pending = .attnFlush :: [.bixQueueDrain] ∧ up.pending = [] := by decide

theorem meets_EventCounts :
    ¬chained (32 * 6 + 0) ∧ suppressed up.flt 6 0 (namedUnit 6 0 none) = false ∧ (up.flt.source 6 0).windowOpen = false ∧
    ((State.withSrc up 6 0 { windowOpen := true, win := 255, total := 65535, winN := 3, winMs := 1000 }).flt.source 6 0).windowOpen = true ∧
    ¬chained (32 * 6 + 1) := by simp only [chained]; decide

theorem meets_EventActsOnItsUnit :
    0 < 32 ∧ ¬chained (32 * 6 + 0) ∧ namedUnit 6 0 (some 0) = some 0 ∧ suppressed up.flt 6 0 (some 0) = false ∧
    (up.flt.unit 6 0).st = .inService ∧ ((up.raise 6 0 (some 0)).flt.source 6 0).severe = false ∧
    (((State.withSrc up 6 0 { severe := true }).raise 6 0 (some 0)).flt.source 6 0).severe = true ∧
    ¬((State.withSrc up 6 0 { severe := true }).retireK 6 ≤ recentRestores (State.withSrc up 6 0 { severe := true }).peat.opsec ((State.withSrc up 6 0 { severe := true }).flt.unit 6 0)) ∧
    (let s := State.withUnit (State.withSrc up 6 0 { severe := true }) 6 0 { st := .transient, restores := [0, 0, 0] };
      (s.flt.unit 6 0).st = .transient ∧ ((s.raise 6 0 (some 0)).flt.source 6 0).severe = true ∧
      s.retireK 6 ≤ recentRestores s.peat.opsec (s.flt.unit 6 0)) ∧
    (let s := (State.withUnit up 6 0 { st := .transient }); (s.flt.unit 6 0).st = .transient ∧
      ((s.raise 6 0 (some 0)).flt.source 6 0).severe = false) ∧
    ((State.withUnit up 6 0 { st := .fenced }).flt.unit 6 0).st = .fenced ∧
    ((State.withUnit up 6 0 { st := .retired }).flt.unit 6 0).st = .retired := by simp only [chained]; decide

theorem meets_FaultDetectedCounts :
    knownEvent 192 = true ∧ up.blockWorks (192 / 32) = true ∧ up.respond 1 18 = none ∧ ¬chained 50 ∧
    50 ∉ ownAction ∧ knownEvent 50 = true ∧ (knownEvent 759 && knownEvent 14 && knownEvent 141 && knownEvent 331 && knownEvent 643) = true ∧
    (up.blockWorks 23 && up.blockWorks 0 && up.blockWorks 4 && up.blockWorks 10 && up.blockWorks 20) = true ∧
    writable (Reg.CHAN_SLOT_CFG .dl 0) = true ∧ up.power ≠ .shutdown ∧
    suppressed up.flt (50 / 32) (50 % 32) (namedUnit (50 / 32) (50 % 32) none) = false ∧
    ((State.withSrc up 1 18 { armed := true }).flt.source (50 / 32) (50 % 32)).armed = true ∧
    injCap (50 / 32) (50 % 32) = true := by simp only [chained]; decide

theorem meets_WindowsArmingAndRestores :
    up.regsUp = true ∧ up.blockWorks 1 = true ∧ ({ power := .shutdown } : State).blockWorks 6 = false ∧
    up.reached ((State.withSrc up 1 18 { winEnd := 0 }).flt.source 1 18).winEnd = true ∧
    (State.ticking up).reached ((State.withSrc up 1 18 { winEnd := 1 }).flt.source 1 18).winEnd = false ∧
    (let s := (State.withUnit up 6 0 { st := .fenced, restores := List.replicate 15 7 }); s.regsUp = true ∧
      (s.flt.unit 6 0).st = .fenced ∧ s.reached (s.flt.unit 6 0).qEnd = true ∧ s.mayRestore 6 0 = true) ∧
    (let s := State.withUnit (air.setGov .dl 0 { mute := some .donorLost, donorOk := false }) 15 0 { st := .fenced };
      s.regsUp = true ∧ (s.flt.unit 15 0).st = .fenced ∧ s.reached (s.flt.unit 15 0).qEnd = true ∧ s.mayRestore 15 0 = false) ∧
    ((State.withUnit (State.ticking up) 6 0 { st := .fenced, qEnd := 1 }).reached 1 = false ∧ (up.flt.unit 6 0).st ≠ .fenced) ∧
    (let s := State.withSrc up 1 18 { severe := true }; ¬chained (32 * 1 + 18) ∧ (s.flt.source 1 18).severe = true ∧
      sourceUnits 1 18 = [] ∧ s.reached (s.flt.source 1 18).qEnd = true) := by simp only [chained]; decide

theorem meets_ColdStarts :
    State.reset.power = .off ∧ State.reset.lev.resetLow = false ∧ ({ flash := none } : Boot).flash = none ∧
    ({ flash := some {} } : Boot).flash ≠ none ∧
    (({ lev := { resetLow := true } } : State).power = .off ∧ ({ lev := { resetLow := true } } : State).lev.resetLow = true) ∧
    (({ lev := { vinValid := true } } : State).power = .off ∧ ({ lev := { vinValid := true } } : State).lev.vinValid = true) ∧
    State.reset.lev.vinValid = false ∧
    (let s : State := { power := .discovery 1, boot := { pending := some {} } }; s.power = .discovery 1 ∧
      s.boot.pending = some {} ∧ 1 < 2) ∧
    (let s : State := { power := .discovery 2, boot := { pending := some {} } }; s.power = .discovery 2 ∧
      s.boot.pending = some {} ∧ 2 ≤ 2) := by decide

theorem meets_PreloadAndSynC :
    (let s : State := { power := .up, boot := { flash := some {}, slot := 1, preloading := true }, bog := { ready := true } };
      s.appliedSlot ≠ none ∧ s.boot.preloading = true ∧ s.bog.ready = true ∧ s.isUp = true) ∧
    (let s : State := { boot := { entries := [(0, (2, 0, 0)), (1, (2, 0, 0)), (2, (2, 0, 0)), (3, (2, 0, 0)), (4, (2, 0, 0))] } };
      (s.boot.entry 8).1 = 0 ∧ 2 ≤ (s.boot.entry 3).1 ∧ ∀ n, n ∈ [0, 1, 2, 4] → (s.boot.entry n).1 = 2) ∧
    (let s : State := { power := .up, syn := { startPending := true, refPresent := true, refOk := true } };
      s.syn.startPending = true ∧ s.power = .up ∧ s.sys.entering = none ∧ s.synCan .c = true ∧ s.sys.serviceEn = false ∧
      s.sys.pendingReq = none ∧ s.sys.behind = none) := by decide

theorem meets_SupplyCommands :
    (resetSeen 100 false = true ∧ up.power ≠ .sleep) ∧ resetSeen 51 true = true ∧
    (resetSeen 1000000 false = true ∧ 1000000 ≤ 1000000 ∧ ({ power := .sleep } : State).power = .sleep) ∧
    (resetSeen 999999 false = true ∧ 999999 < 1000000) ∧ (resetSeen 50 true = false ∧ resetSeen 99 false = false) ∧
    (let s := up.setStF Reg.SUPPLY_STAT 2 1 1; s.power = .up ∧ s.sys.entering = none ∧ s.holdupOk = true ∧
      s.peat.emergency = none ∧ s.peat.emergencyNext = none) ∧
    up.regsUp = true ∧ (1#32).getLsbD 0 = true ∧ (2#32).getLsbD 0 = false := by decide

theorem meets_ShutdownAndResume :
    (let s : State := { air with therm := { margin := 14000 } };
      s.tooHot false = true ∧ s.regsUp = true ∧ s.power ≠ .shutdown ∧ s.sys.pendingReq = none ∧ s.sys.behind = none ∧
      s.dirSt .dl = .full ∧ s.tooHot true = false) ∧
    (run .listen).dirSt .dl = .listen ∧ up.dirSt .dl = .standby ∧ up.therm.quiet < 600000 ∧
    (let s : State := { power := .shutdown, therm := { quiet := 600000 } }; s.power = .shutdown ∧ 600000 ≤ s.therm.quiet) := by decide

theorem meets_MramWriteEnds :
    up.mram.inFlight = none ∧ ({ mram := { inFlight := some .flush } } : State).mram.inFlight = some .flush ∧
    ({ mram := { inFlight := some (.cache (.entry .c { key := 1, cal := { band := 0, cap := 0, trim := 0 }, temp := 0 })) } } : State).mram.inFlight = some (.cache (.entry .c { key := 1, cal := { band := 0, cap := 0, trim := 0 }, temp := 0 })) ∧
    ({ mram := { inFlight := some (.cache .clear) } } : State).mram.inFlight = some (.cache .clear) ∧
    (3 < 4 ∧ ({ mram := { inFlight := some (.cache (.record 3)) } } : State).mram.inFlight = some (.cache (.record 3))) ∧
    (let s : State := { power := .up, sys := { entering := some (0, 1, 1) }, mram := { inFlight := some .runState } };
      s.mram.inFlight = some .runState ∧ s.sys.entering ≠ none) ∧
    (let s : State := { mram := { inFlight := some .peat }, peat := { left := 2 } }; s.mram.inFlight = some .peat ∧ 1 < s.peat.left) ∧
    (let s : State := { power := .up, mram := { inFlight := some .peat }, peat := { writing := some (some { seq := 5 }), left := 1 } };
      s.mram.inFlight = some .peat ∧ s.peat.left ≤ 1 ∧ s.peat.writing = some (some { seq := 5 }) ∧ s.peat.place { seq := 5 } = some 0 ∧
      s.peat.hold = [] ∧ s.peat.pend = []) := by decide

theorem meets_RequestsRefused :
    Calm up ∧ Calm air ∧ targetOf (8 : Fin 16) 0 = .bad ∧ (0 : Fin 4).val = 0 ∧ (3 : Fin 4).val ≠ 0 ∧
    up.sys.serviceEn = false ∧ bitAt (1 : Fin 4).val Dir.dl.num = true ∧ air.sys.serviceEn = true ∧
      air.liveSlots .dl = [] := by simp only [Calm]; decide

theorem meets_RequestsStartTransitions :
    Calm up ∧ (3 : Fin 4).val ≠ 0 ∧
    (let s := ({ power := .up, sys := { serviceEn := true } } : State).wr (Reg.CHAN_SLOT_CFG .dl 0) 1;
      let q := { s with syn := { s.syn with c := { locked := true }, d := { locked := true }, u := { locked := true } } }; Calm q ∧
      q.sys.serviceEn = true ∧ bitAt (1 : Fin 4).val Dir.dl.num = true ∧ bitAt (1 : Fin 4).val Dir.ul.num = false ∧
      q.liveSlots .dl ≠ [] ∧ q.awaited (1 : Fin 4).val = 0) ∧
    (bitAt (1 : Fin 4).val Dir.ul.num = false ∧ up.dirSt .ul = .standby) ∧ (air.dirSt .dl ≠ .standby ∧
      Calm air) := by simp only [Calm]; decide

theorem meets_PlaybackAndSleepRequests :
    (let s : State := { (up.wr (Reg.BOG_PAT_CFG 0) 4) with bog := ({} : BogState).setPat 0 { loaded := true } }; Calm s ∧
      (3 : Fin 4).val ≠ 0 ∧ (s.bog.pat 0).loaded = true ∧ s.patTransmit 0 = false ∧ s.dirSt (s.patDir 0) ≠ .muted) ∧
    (let s := ({ power := .up, sys := { serviceEn := true } } : State).wr (Reg.CHAN_SLOT_CFG .dl 0) 1;
      let q : State := { s with bog := ({} : BogState).setPat 0 { loaded := true }, lock := s.lock.setItem 6 0 (1, 0), syn := { s.syn with c := { locked := true }, d := { locked := true }, u := { locked := true } } };
      Calm q ∧ (q.bog.pat 0).loaded = true ∧ q.patTransmit 0 = true ∧ q.sys.serviceEn = true ∧ q.liveSlots (q.patDir 0) ≠ [] ∧
      q.lock.playAir = true ∧ q.awaited (q.patDir 0).bit = 0 ∧ q.dirSt (q.patDir 0) ≠ .cautious ∧ q.dirSt (q.patDir 0) ≠ .muted) ∧
    (Calm up ∧ up.sys.dl.st = .standby ∧ up.sys.ul.st = .standby) ∧ (Calm air ∧
      air.dirSt .ul ≠ .standby) := by simp only [Calm]; decide

theorem meets_WaitsEnd :
    (let q : Req := { target := .cautious, scope := 1, tag := 7, cause := 0 };
      let s : State := { power := .up, sys := { pendingReq := some (q, .locks 0) } }; s.sys.pendingReq = some (q, .locks 0) ∧
      q.tag ≠ 0xFD ∧ q.isResume = false ∧ s.sys.behind = none ∧ q.doorbell = none) ∧
    (let s := ((run .cautious).wr (Reg.CHAN_SLOT_CFG .dl 0) 5).setEcho .dl 0 { result := true, converged := true }; s.power = .up ∧
      s.dirSt .dl = .cautious ∧ (s.dirRec .dl).trans = none ∧ s.fullCondition .dl = true) ∧
    (let s := run .cautious; s.power = .up ∧ s.dirSt .dl = .cautious ∧ (s.dirRec .dl).trans = none ∧ s.fullCondition .dl = false) ∧
    (let s : State := { power := .up, sys := { wakeSession := true } }; Calm s ∧ s.sys.wakeSession = true ∧
      s.sys.lingerOff = false ∧ s.sys.dl.st = .standby ∧ s.sys.ul.st = .standby) := by simp only [Calm]; decide

theorem meets_TransitionEnds :
    (up.regsUp = true ∧ (up.dirRec .dl).trans = none) ∧
    (let s : State := { power := .up, sys := { dl := { trans := some { target := .cautious, cause := 0 } } } }; s.regsUp = true ∧
      (s.dirRec .dl).trans = some { target := .cautious, cause := 0 } ∧ (s.dirRec .dl).after = none ∧ s.sys.pendingReq = none ∧
      s.sys.behind = none ∧ s.sys.sleepNext = none ∧ s.protMuted .dl = false ∧ ¬(s.dirSt .dl = .playback)) ∧
    (let s : State := { power := .up, sys := { dl := { trans := some { target := .cautious, cause := 0 } } }, govDl := { mute := some .oscillation } };
      s.protMuted .dl = true) := by decide

theorem meets_CheckStartsAndWakeEnds :
    (up.power = .up ∧ up.sys.serviceEn = false ∧ up.sys.entering = none) ∧ (air.power = .up ∧ air.sys.serviceEn = true) ∧
    (({ power := .waking } : State).power = .waking ∧ ({ power := .waking } : State).sys.wakeHeldEn = []) ∧ up.power ≠ .waking := by decide

theorem meets_CheckOutcomes :
    (let c : Check := { origin := .host, short := false, snap := up.checkSet, codes := [] };
      let s : State := { power := .up, sys := { check := some c } }; s.sys.check = some c ∧ c.short = false ∧ c.second = false ∧
      c.codes = [] ∧ c.touched = false ∧ c.snap = s.checkSet) ∧
    (let c : Check := { origin := .host, short := false, snap := {}, codes := [0x0101] };
      let s : State := { power := .up, sys := { check := some c } }; s.sys.check = some c ∧ c.codes ≠ [] ∧
      s.sys.pendingReq = none ∧ c.tag ≠ 0xFD ∧ s.power = .up ∧ s.dirSt .dl = .standby) ∧
    (air.dirSt .dl ≠ .standby) ∧
    (let c : Check := { origin := .host, short := true, snap := {}, codes := [], touched := true };
      let s : State := { power := .up, sys := { check := some c } }; s.sys.check = some c ∧ c.short = true ∧
      c.touched = true) := by decide

theorem meets_Reconfiguration :
    (air.power = .up ∧ air.sys.serviceEn = true ∧ air.sys.check = none) ∧
    (air.dirSt .dl ≠ .standby ∧ (air.dirRec .dl).trans = none) ∧
    (({ power := .up, sys := { serviceEn := true } } : State).dirSt .ul = .standby ∧
      ({ power := .up, sys := { serviceEn := true } } : State).sys.serviceEn = true) ∧
    (State.withUnit air 6 0 { st := .fenced }).unitSt 6 0 = .fenced ∧ (up.isUp = true ∧ up.sys.serviceEn = false) := by decide

theorem meets_ClockCommands :
    (air.isUp = true ∧ (air.dirRec (laneDir (3 : Fin 4))).running = true) ∧
    (air.isOut 23 3 = false ∧ air.isOut 23 (4 + 3) = false) ∧ (up.isUp = true ∧ (air.dirRec .dl).running = true) ∧
    (1#32).getLsbD 0 = true := by decide

theorem meets_ConverterCommands :
    (air.isUp = true ∧ air.rxRuns 3 = true ∧ air.txRuns 3 = true) ∧ air.conv.ovrNow.getLsbD 3 = false ∧
    ({ air with conv := { ovrNow := 8 } } : State).conv.ovrNow.getLsbD 3 = true ∧
    (let s : State := { air with conv := { rxRestoring := 8 } }; s.conv.rxRestoring.getLsbD 3 = true ∧
      (s.dirRec (laneDir 3)).running = true) ∧
    (let s : State := { air with conv := { txRestoring := 8 } }; s.conv.txRestoring.getLsbD 3 = true ∧
      (s.dirRec (laneDir 3)).running = true) := by decide

theorem meets_SynWrites :
    up.regsUp = true ∧ air.sys.dl.st ≠ .standby ∧ ({ power := .waking } : State).power ≠ .up ∧ (399999 % 2 ^ 23 < 400000 ∧ 6000000 < 6000001 % 2 ^ 23) ∧
    (400000 ≤ 400000 % 2 ^ 23 ∧ 6000000 % 2 ^ 23 ≤ 6000000 ∧ air.transmits .dl = true) ∧
    (air.transmits .dl = true ∧ (3#32).toNat % 4 ≠ air.rd (loCtrlReg .dl) % 4) ∧
    (let s : State := { power := .up, syn := { refPresent := true, refOk := true } }; s.power = .up ∧ s.sys.check = none ∧
      s.sys.dl.st = .standby ∧ s.sys.ul.st = .standby ∧ s.syn.startPending = false ∧ s.synCan .c = true) ∧
    (up.transmits .dl = false ∧ up.sys.serviceEn = false ∧ up.sys.pendingReq = none ∧ up.sys.behind = none) ∧
    ((0#32).getLsbD 0 = false ∧ bitAt (up.rd (loCtrlReg .dl)) 0 = false) ∧
    ((0#32).getLsbD 0 = false ∧ bitAt ((up.wr (loCtrlReg .dl) 1).rd (loCtrlReg .dl)) 0 = true) ∧
    (0#32).getLsbD 0 = bitAt (up.rd (loCtrlReg .dl)) 0 := by decide

theorem meets_SynLocks :
    (let s : State := { power := .up, syn := { c := { busy := true, calibrating := true } } }; (s.synRec .c).busy = true ∧
      (s.synRec .c).calibrating = true ∧ s.isOut 6 (synNum .c) = false) ∧
    (let s : State := { power := .up, syn := { c := { busy := true }, refPresent := true, refOk := true } };
      (s.synRec .c).busy = true ∧ (s.synRec .c).calibrating = false ∧ (s.synRec .c).found = false ∧ s.synCan .c = true ∧
      s.sys.pendingReq = none ∧ s.sys.behind = none) ∧
    (let b : BandCal := { band := 1, cap := 2, trim := 3 };
      let s : State := { power := .up, syn := { c := { busy := true, band := some b, found := true }, startPending := true, refPresent := true, refOk := true } };
      (s.synRec .c).busy = true ∧ (s.synRec .c).calibrating = false ∧ s.synCan .c = true ∧ (s.synRec .c).band = some b ∧
      (s.synRec .c).found = true ∧ s.syn.startPending = true) ∧
    (let s : State := { air with syn := { d := { locked := true } } }; s.power = .up ∧ (s.synRec (dirSyn .dl)).locked = true ∧
      s.transmits .dl = true ∧ s.dirMuted .dl = false) ∧
    (up.syn.c.locked = false ∧ up.syn.c.busy = false ∧ up.syn.startPending = false ∧ up.isOut 6 0 = false) := by decide

theorem meets_SlotRegisterWrites :
    (up.regsUp = true ∧ up.judgeEn = false) ∧ (air.regsUp = true ∧ air.judgeEn = true) ∧
    ((16 : Fin 17).val = 16 ∧ (0 : Fin 17).val ≠ 16) ∧ (1#32).getLsbD 0 ≠ air.slotEn .dl 0 ∧
    putBits ((air.wr (Reg.CHAN_SLOT_CFG .dl 0) (0x70#32).toNat).slotCfg .dl 0) 4 4 0 = putBits (air.slotCfg .dl 0) 4 4 0 ∧
    600 < signedOf 16 (601 / 2 ^ (16 * 0)) ∧ signedOf 16 (0xFDA7 / 2 ^ (16 * 0)) < -600 ∧
    (-600 ≤ signedOf 16 (0xFDA8 / 2 ^ (16 * 0)) ∧ signedOf 16 (600 / 2 ^ (16 * 0)) ≤ 600) ∧
    (let s := air.wr (Reg.GOV_SLOT_TARGET .dl 0) 9500; s.lock.gainMax .dl < s.target .dl (govOf 0) + 1 ∧
      s.target .dl (govOf 0) + 0 ≤ s.lock.gainMax .dl) := by decide

/-- Time runs, and the engine was to compute the core-voltage instance. -/
def engine160 : State :=
  { (State.ticking up) with loop := { (({} : LoopState).setLaw 160 { isOpen := false }) with lawsAtLatch := [(160, { isOpen := false })] } }

theorem meets_LoopTicks :
    ((State.ticking up).isUp = true ∧ (State.ticking up).syn.timeRuns = true) ∧ up.syn.timeRuns = false ∧
    (State.ticking up).engineOut = false ∧
    (160 ∈ engine160.computed.dropWhile (fun j => !(([160] : List (Fin 192)).map Fin.val).contains j)) ∧
    engine160.computed.dropWhile (fun j => !(([] : List (Fin 192)).map Fin.val).contains j) = [] ∧
    (engine160.isUp = true ∧ engine160.syn.timeRuns = true ∧ engine160.engineOut = false) ∧
    (let s : State := { up with loop := { plaus := [(3, 255)] } }; s.plausFull 3 true = true) ∧
    (let s : State := { up with loop := { plaus := [(3, -255)] } }; s.plausFull 3 false = true) ∧
    (up.plausFull 3 true = false ∧ up.plausFull 3 false = false) := by decide

theorem meets_LawForm :
    (({} : Law).reseat = false ∧ ({ reseat := true } : Law).reseat = true) ∧ ({} : Law).inverted 0 = false ∧
    (({} : Law).setField 0 3 0).fieldOf 0 3 = 0 ∧
    (engine160.isUp = true ∧ engine160.syn.timeRuns = true ∧ engine160.engineOut = false ∧ (160 : Fin 192) ∈ [(160 : Fin 192)] ∧
      160 ∈ engine160.computed) := by decide

theorem meets_CoreVoltageCommands :
    (air.isUp = true ∧ air.anyRunning = true ∧ air.vcoreQ < 850 * 65536) ∧
    (let s := air.setStF Reg.LOOP_VCORE_STAT 0 12 850; s.anyRunning = true ∧ 850 * 65536 ≤ s.vcoreQ) ∧ up.anyRunning = false := by decide

theorem meets_LawAndTraceCommands :
    up.regsUp = true ∧ 191 < (up.wr Reg.LOOP_LAW_ADDR 192).lawAddr.1 ∧
    (up.wr Reg.LOOP_LAW_ADDR 3519).lawAddr = (191, 13) ∧
    ((up.wr Reg.LOOP_LAW_ADDR 3232).lawAddr.2 = 12 ∧ (up.wr Reg.LOOP_LAW_ADDR 3232).lawAddr.1 ≤ 160) ∧
    ((up.wr Reg.LOOP_LAW_ADDR 3233).lawAddr.2 = 12 ∧ 160 < (up.wr Reg.LOOP_LAW_ADDR 3233).lawAddr.1) ∧
    (((up.wr Reg.LOOP_LAW_ADDR 0).loop.law (up.wr Reg.LOOP_LAW_ADDR 0).lawAddr.1).isOpen = true ∧
      (up.wr Reg.LOOP_LAW_ADDR 2816).lawAddr.2 ≤ 11 ∧ (up.wr Reg.LOOP_LAW_ADDR 1536).lawAddr.2 = 6) ∧
    (let s : State := { (up.wr Reg.LOOP_LAW_ADDR 1280) with loop := ({} : LoopState).setLaw 0 { isOpen := false, queue := List.replicate 8 (0, 0) } };
      (s.loop.law s.lawAddr.1).isOpen = false ∧ s.lawAddr.2 < 6 ∧ 8 ≤ (s.loop.law s.lawAddr.1).queue.length) ∧
    (let s : State := { (up.wr Reg.LOOP_LAW_ADDR 1280) with loop := ({} : LoopState).setLaw 0 { isOpen := false, queue := List.replicate 7 (0, 0) } };
      (s.loop.law s.lawAddr.1).queue.length < 8) ∧
    ((slotOn .dl 0 1).transmits (lawDir 79) = true ∧ 79 < 160 ∧ up.transmits (lawDir 80) = false) ∧
    ({} : Law).inverted 0 = false ∧ ((({} : Law).setField 0 7 5).setField 0 8 4).inverted 0 = true ∧
    (({} : Law).pendClose = false ∧ ({} : Law).pendOpen = false ∧ ({ pendClose := true } : Law).pendClose = true ∧
      ({ pendOpen := true } : Law).pendOpen = true) ∧
    ((up.trace 3).st ≠ 3 ∧ (up.trace 3).st ≠ 2) ∧
    (let s := up.setTrace 3 { st := 2, postLeft := 0 }; (s.trace 3).st = 2 ∧ s.trFreezes 3 = true ∧ (s.trace 3).postLeft = 0) ∧
    ((up.setTrace 3 { st := 1 }).trace 3).st = 1 ∧
    (let s := up.setTrace 3 { st := 3, samples := [[0]] }; (s.trace 3).st = 3 ∧ (s.trace 3).samples ≠ [] ∧
      (s.bog.region (s.trRegion 3)).active = false) ∧
    ((1#32).getLsbD 0 = true ∧ (0#32).getLsbD 0 = false ∧ bitAt (up.rd (Reg.LOOP_TR_CTRL 3)) 0 = false ∧
      bitAt ((up.wr (Reg.LOOP_TR_CTRL 3) 1).rd (Reg.LOOP_TR_CTRL 3)) 0 = true) := by decide

theorem meets_GovernorWrites :
    (up.regsUp = true ∧ up.judgeEn = false ∧ air.judgeEn = true) ∧
    (signedOf 16 ((air.wr (govRegAddr .dl .target 0) 65535).rd (govRegAddr .dl .target 0)) < 0 ∧
      9500 < signedOf 16 ((air.wr (govRegAddr .dl .target 0) 9501).rd (govRegAddr .dl .target 0)) ∧
      0 ≤ signedOf 16 ((air.wr (govRegAddr .dl .target 0) 0).rd (govRegAddr .dl .target 0)) ∧
      signedOf 16 ((air.wr (govRegAddr .dl .target 0) 9500).rd (govRegAddr .dl .target 0)) ≤ 9500) ∧
    (let s := air.wr (Reg.CHAN_SLOT_TRIM .dl 0) 1; s.lock.gainMax .dl < 9500 + s.trim .dl (s.govSlot .dl 0) 0) ∧
    ¬(air.lock.gainMax .dl < 9500 + air.trim .dl (air.govSlot .dl 0) 0) ∧
    (bitsAt ((air.wr (govRegAddr .dl .ctrl 0) 65470464).rd (govRegAddr .dl .ctrl 0)) 16 16 < 1000 ∧
      1000 ≤ bitsAt ((air.wr (govRegAddr .dl .ctrl 0) 65536000).rd (govRegAddr .dl .ctrl 0)) 16 16 ∧
      bitsAt ((air.wr (govRegAddr .dl .ctrl 0) 65536000).rd (govRegAddr .dl .ctrl 0)) 0 5 ≠ bitsAt (air.rd (govRegAddr .dl .ctrl 0)) 0 5) ∧
    bitsAt ((air.wr (govRegAddr .dl .ctrl 0) 65537280).rd (govRegAddr .dl .ctrl 0)) 8 5 ≠ bitsAt (air.rd (govRegAddr .dl .ctrl 0)) 8 5 ∧
    (let v := air.rd (govRegAddr .dl .ctrl 0); 1000 ≤ bitsAt v 16 16 ∧ bitsAt v 0 5 = bitsAt (air.rd (govRegAddr .dl .ctrl 0)) 0 5) ∧
    (bitsAt ((air.wr (govRegAddr .dl .profileVA 0) 0).rd (govRegAddr .dl .profileVA 0)) 0 16 = 0 ∧
      10000 < bitsAt ((air.wr (govRegAddr .dl .profileVA 0) 10001).rd (govRegAddr .dl .profileVA 0)) 0 16 ∧
      50000 < bitsAt ((air.wr (govRegAddr .dl .profileVA 0) 3276865537).rd (govRegAddr .dl .profileVA 0)) 16 16) ∧
    (bitsAt ((air.wr (govRegAddr .dl .profileJ 0) 0).rd (govRegAddr .dl .profileJ 0)) 0 16 = 0 ∧
      50000 < bitsAt ((air.wr (govRegAddr .dl .profileJ 0) 50001).rd (govRegAddr .dl .profileJ 0)) 0 16) ∧
    (0 ∈ air.txBr .dl ∧
      air.lock.outMax (laneOf .dl 0) < signedOf 16 ((air.wr (govRegAddr .dl .l2Limit 0) 6001).rd (govRegAddr .dl .l2Limit 0))) ∧
    (let v := (air.wr (govRegAddr .dl .profileVA 0) 655370000).rd (govRegAddr .dl .profileVA 0);
      1 ≤ bitsAt v 0 16 ∧ bitsAt v 0 16 ≤ 10000 ∧ 1 ≤ bitsAt v 16 16 ∧ bitsAt v 16 16 ≤ 50000) ∧
    (let v := (air.wr (govRegAddr .dl .profileJ 0) 50000).rd (govRegAddr .dl .profileJ 0);
      1 ≤ bitsAt v 0 16 ∧ bitsAt v 0 16 ≤ 50000) ∧
    (∀ t, t ∈ air.txBr .dl → signedOf 16 ((air.wr (govRegAddr .dl .l2Limit 0) 0).rd (govRegAddr .dl .l2Limit 0)) ≤ air.lock.outMax (laneOf .dl t)) ∧
    bitsAt ((air.wr (govRegAddr .ul .l3Cfg 0) 0).rd (govRegAddr .ul .l3Cfg 0)) 0 16 = 0 ∧
    bitsAt ((air.wr (govRegAddr .ul .l3Cfg 0) 1).rd (govRegAddr .ul .l3Cfg 0)) 0 16 ≠ 0 ∧
    (air.wr (govRegAddr .dl .rxChain 0) 1).rd (govRegAddr .dl .rxChain 0) ≠ air.rd (govRegAddr .dl .rxChain 0) ∧
    (air.wr (govRegAddr .dl .rxChain 0) 0).rd (govRegAddr .dl .rxChain 0) = air.rd (govRegAddr .dl .rxChain 0) := by decide

theorem meets_Mutes :
    (let s := slotOn .dl 16 1; s.isUp = true ∧ s.slotEn .dl 16 = true ∧ s.donorHere 16 = true ∧ s.donorSilent 16 = true ∧
      s.transmits .dl = true ∧ s.slotMuted .dl 16 = false) ∧
    (let s := up.wr (Reg.CHAN_SLOT_CFG .dl 16) 1; s.slotEn .dl 16 = true ∧ s.donorHere 16 = true ∧ s.donorSilent 16 = true ∧
      s.transmits .dl = false ∧ s.transmits .ul = false) ∧
    (up.slotEn .dl 16 = false ∧ (up.setGov .dl (govOf 16) { donorHigh := some 0 }).donorSilent 16 = false) ∧
    ((slotOn .dl 16 1).slotEn .dl 16 = true ∧ (slotOn .dl 16 1).donorReturned 16 = true ∧
      ((slotOn .dl 16 1).setGov .dl (govOf 16) { means := [(0, true)] }).donorReturned 16 = false) ∧
    (let s := (slotOn .ul 16 1).setGov .ul (govOf 16) { floorLimit := true };
      let t : State := { s with now := s.holdMs .ul * msTime }; t.slotEn .ul 16 = true ∧ t.transmits .ul = true ∧ t.riseHeld 16 = true) ∧
    (up.slotEn .ul 16 = false ∧ up.riseHeld 16 = false) ∧
    (let s : State := { air with govDl := { over0 := 5 } }; s.transmits .dl = true ∧ s.outputOver .dl ≠ [] ∧ s.dirMuted .dl = false) ∧
    (up.transmits .dl = false ∧ air.outputOver .dl = []) ∧
    (let s : State := { (run .muted).wr (Reg.CHAN_SLOT_CFG .dl 0) 1 with govDl := { mute := some .lockedOutput } };
      s.regsUp = true ∧ (s.govDir .dl).mute = some .lockedOutput ∧ s.isOut (15 + Dir.dl.num) 16 = false ∧
      s.retryOver .dl 0 .lockedOutput (s.govDir .dl).causeAt = true ∧ s.dirSt .dl = .muted ∧ s.allSlotsMuted .dl = false ∧
      (s.dirRec .dl).trans = none) ∧
    (let s : State := { (run .muted) with govDl := { mute := some .lockedOutput, causeAt := some 0 } };
      (s.govDir .dl).mute = some .lockedOutput ∧ s.retryOver .dl 0 .lockedOutput (s.govDir .dl).causeAt = false) ∧
    (State.withUnit air 15 16 { st := .fenced }).isOut (15 + Dir.dl.num) 16 = true ∧
    (let s := (((run .muted).wr (Reg.CHAN_SLOT_CFG .dl 16) 1).wr (Reg.CHAN_SLOT_CFG .dl 1) 1).setGov .dl (govOf 16) { mute := some .donorLost };
      (s.govRec .dl (govOf 16)).mute = some .donorLost ∧ s.isOut (15 + Dir.dl.num) (govOf 16) = false ∧
      s.retryOver .dl 16 .donorLost (s.govRec .dl (govOf 16)).causeAt = true ∧ s.dirSt .dl = .muted ∧ s.dirMuted .dl = false ∧
      16 ∈ s.liveSlots .dl ∧ (s.dirRec .dl).trans = none) ∧
    (let s := (slotOn .dl 0 1).setGov .dl 0 { mute := some .donorLost, donorOk := false };
      s.retryOver .dl 0 .donorLost (s.govRec .dl 0).causeAt = false) := by decide

/-- On the air, the fast cut of the downlink enabled with critical margin 0, and slot 0's ramp at 0 dB. -/
def fastOn : State := (slotOn .dl 0 1).wr (Reg.GOV_FAST_CFG .dl) 0x10000

theorem meets_FastCutActs :
    (fastOn.isUp = true ∧ fastOn.slotEn .dl 0 = true ∧ bitAt (fastOn.rd (Reg.GOV_FAST_CFG .dl)) 16 = true) ∧
    (let r := fastOn.slotRec .dl 0
      let top (pin : Int) : Int := fastOn.l2Eff .dl (govOf 0) 0 - pin - r.trimNow.1 - fastOn.gTx .dl 0
      0 ∈ fastOn.txBr .dl ∧ (top 20000 + (bitsAt (fastOn.rd (Reg.GOV_FAST_CFG .dl)) 0 16 : Nat)) * gainUnit < r.ramp.at_ 0 ∧
        top 20000 < r.ramp.goal ∧ ¬(top (-20000) < r.ramp.goal)) ∧
    ((1 : BitVec 2).getLsbD 0 = true ∧ (-600 : Int) < -599 ∧ ¬((-600 : Int) < -600)) ∧
    bitAt (((slotOn .dl 0 1).wr (Reg.GOV_FAST_CFG .dl) 0).rd (Reg.GOV_FAST_CFG .dl)) 16 = false := by decide

theorem meets_EstimationCommands :
    ((slotOn .dl 0 1).correlates .dl 0 = true ∧ keyDir 0 = .dl ∧ keySlot 0 = 0 ∧ keyDir 33 = .ul ∧ keySlot 33 = 16) ∧
    (let s := slotOn .dl 0 1; 4 * 0 < s.nominal .dl 0 ∧ s.nominal .dl 0 ≤ 4 * s.nominal .dl 0 ∧
      s.correlates .dl 0 = true) ∧
    ((slotOn .dl 0 1).setEcho .dl 0 { due := some { k := 1, paths := [] } }).echoRec .dl 0 ≠ {} ∧
    (let s := (slotOn .dl 0 1).setEcho .dl 0 { result := true }; (s.echoRec .dl 0).result = true ∧ s.onAir .dl = true ∧
      s.transmits .dl = true ∧ s.dirMuted .dl = false) ∧
    ((slotOn .dl 0 1).oscWin ≤ 2 * 256 ∧ 2 * 255 < (slotOn .dl 0 1).oscWin) ∧
    (up.correlates .dl 0 = false ∧ up.justOscillated .dl = false) ∧ up.regsUp = true := by decide

theorem meets_LockPage :
    (up.regsUp = true ∧ (0#32).toNat % 65536 ≠ 0x4C4B ∧ (0x4C4B#32).toNat % 65536 = 0x4C4B) ∧
    ({ up with lock := { commit := some { item := 2, index := 0, a := 0, b := 0, image := false } } } : State).lock.commit ≠ none ∧
    (lockOffset ((((up.wr Reg.LOCK_WR_ITEM 0).wr Reg.LOCK_WR_A 0).wr Reg.LOCK_WR_B 0).fld Reg.LOCK_WR_ITEM 0 16) 0 = none ∧
      lockOffset 4 2 = none) ∧
    (((up.wr Reg.LOCK_WR_ITEM 1).wr Reg.LOCK_WR_A 5).wr Reg.LOCK_WR_B 5).rd Reg.LOCK_WR_B ≤ (((up.wr Reg.LOCK_WR_ITEM 1).wr Reg.LOCK_WR_A 5).wr Reg.LOCK_WR_B 5).rd Reg.LOCK_WR_A ∧
    ({ up with lock := { ue := [0] } } : State).lock.damaged = true ∧
    (let s := (((up.wr Reg.LOCK_WR_ITEM 2).wr Reg.LOCK_WR_A 9500).wr Reg.LOCK_WR_B 0); s.lock.commit = none ∧
      s.lock.damaged = false ∧ s.lock.present 2 0 = lockValue 2 (s.rd Reg.LOCK_WR_A) (s.rd Reg.LOCK_WR_B)) ∧
    (let s := (((up.wr Reg.LOCK_WR_ITEM 2).wr Reg.LOCK_WR_A 9499).wr Reg.LOCK_WR_B 0);
      s.lock.present 2 0 ≠ lockValue 2 (s.rd Reg.LOCK_WR_A) (s.rd Reg.LOCK_WR_B) ∧ s.lock.locked = false) ∧
    (let l := ({} : LockState).setItem 7 0 (1, 0); l.locked = true ∧ lockStricter 2 (l.present 2 0) (lockValue 2 9501 0) = false ∧
      lockStricter 2 (l.present 2 0) (lockValue 2 9499 0) = true) ∧
    (let s := ((((slotOn .dl 0 1).wr Reg.LOCK_WR_ITEM 1).wr Reg.LOCK_WR_A 1000).wr Reg.LOCK_WR_B 2000); s.sys.serviceEn = true ∧
      s.rangeBreaks (s.lock.setItem 1 0 (lockValue 1 1000 2000)) = true) ∧
    (let j : LockJob := { item := 2, index := 1, a := 9000, b := 0, image := false };
      let s : State := { power := .up, lock := { commit := some j }, mram := { inFlight := some .lock } }; s.lock.commit = some j ∧
      s.isUp = true ∧ s.mram.inFlight = some .lock ∧ lockOffset j.item j.index ≠ none) ∧
    up.lock.commit = none ∧ ((2047 : Nat) < 2048 ∧ 2047 / 4 ∈ [511]) := by decide

theorem meets_FrontEndCommands :
    (up.regsUp = true ∧ frontWritable 0x44 = true ∧ frontProtected 0x44 = true ∧ up.judgeEn = false) ∧
    (frontWritable 0x40 = false ∧ 0x45 % 4 ≠ 0) ∧ (frontProtected 0x5C = false ∧ frontWritable 0x5C = true) ∧
    (air.wr (0x4800 + 0x44) 0xFFFFFFFF).rd (0x4800 + 0x44) ≠ air.rd (0x4800 + 0x44) ∧
    (frontProtected 0x9C = true ∧ air.tableWord air.tableSel.1 air.tableSel.2 = (0#32).toNat ∧
      air.tableWord air.tableSel.1 air.tableSel.2 ≠ (1#32).toNat ∧ air.judgeEn = true) ∧
    (let s := slotOn .dl 0 3; s.isUp = true ∧ s.slotEn .dl 0 = true ∧ s.slotTdd .dl 0 = true) ∧
    (slotOn .dl 0 1).slotTdd .dl 0 = false ∧
    (let s := air; ¬(9 * s.lock.dutyMax .dl < 10 * 9000) ∧ 9 * s.lock.dutyMax .dl < 10 * 9001 ∧ 10000 ≤ s.lock.dutyMax .dl) ∧
    (let s : State := { air with lock := air.lock.setItem 4 0 (5000, 0) }; s.lock.dutyMax .dl < 5001 ∧ s.transmits .dl = true) ∧
    (let s := air.wr (Reg.FRONT_LNA_CFG 3) 0x10000; s.rxRuns 3 = true ∧ bitAt (s.rd (Reg.FRONT_LNA_CFG 3)) 16 = true ∧
      s.front.bypass.getLsbD 3 = false) ∧
    up.rxRuns 3 = false ∧ ({ air with front := { bypass := 8 } } : State).front.bypass.getLsbD 3 = true := by decide

theorem meets_SyncHits :
    up.searches { lane := 0, slot := 0, ref := 0, t := 0, p := 0, rho := 0 } = false ∧
    (let s := (((slotOn .dl 0 1).wr (Reg.SYNC_SLOT_REF_DL 0) 0).wr (Reg.SYNC_SCHED 0) 1);
      let s := s.wr (Reg.SYNC_REF 0) (128 * 2 ^ 20); s.isUp = true ∧
      s.searches { lane := 0, slot := 0, ref := 0, t := 0, p := 0, rho := 0 } = true ∧ s.refTsrc 0 = 0 ∧ s.refPeriod 0 ≠ 0 ∧
      (s.trk 0).st = 0) ∧
    ((((slotOn .dl 0 1).wr (Reg.SYNC_SLOT_REF_DL 0) 0).wr (Reg.SYNC_SCHED 0) 1).isUp = true ∧
      (((slotOn .dl 0 1).wr (Reg.SYNC_SLOT_REF_DL 0) 0).wr (Reg.SYNC_SCHED 0) 1).perTime 0 ≠ 0) ∧
    up.perTime 0 = 0 ∧ ((up.setTrk 0 { st := 1 }).trk 0).marker = none ∧
    (let s := up.setTrk 0 { st := 1, marker := some (0, 0), run := 2 }; s.acq ≤ (s.trk 0).run + 1) ∧
    (let s := up.setTrk 0 { st := 1, marker := some (0, 0), run := 1 }; (s.trk 0).run + 1 < s.acq) ∧
    ((up.setTrk 0 { st := 3, marker := some (1, 0) }).trk 0).marker = some (1, 0) ∧
    (let s := up.setTrk 0 { st := 2, missed := 3 }; s.lossN ≤ (s.trk 0).missed + 1 ∧ (s.trk 0).missed + 1 < 256) ∧
    (let s := up.setTrk 0 { st := 2, missed := 2 }; (s.trk 0).missed + 1 < s.lossN) ∧
    (let s := up.setTrk 0 { st := 3, run := 15 }; s.holdN ≤ (s.trk 0).run + 1) ∧
    (let s := up.setTrk 0 { st := 3, run := 14 }; (s.trk 0).run + 1 < s.holdN) := by decide

/-- Up with device time running and the TDD pin enabled. -/
def pins : State := (State.ticking up).wr (pinCfg .tdd) 1

theorem meets_TimingEvents :
    (let s := up.setTrk 15 { st := 2, cand := some (5, 0), switching := true }; s.isUp = true ∧ (s.trk 15).cand = some (5, 0) ∧
      (s.trk 15).switching = true) ∧
    (up.trk 15).cand = none ∧
    (pins.pinOn .tdd = true ∧ (pins.tpin .tdd).stuck = false ∧
      (pins.tpin .tdd).lastEdge = none ∧ (pins.tpin .tdd).missing = false) ∧
    up.pinOn .pps = false ∧
    (let s := pins.setPin .tdd { lastEdge := some 10 }; let h := s.fld (pinHold .tdd) 0 16 * tickTime;
      (s.tpin .tdd).lastEdge = some 10 ∧ 10 + h ≤ 10 + h) ∧
    (let s := (pins.wr (pinHold .tdd) 1).setPin .tdd { lastEdge := some 10 }; (s.tpin .tdd).lastEdge = some 10 ∧
      10 < 10 + s.fld (pinHold .tdd) 0 16 * tickTime) ∧
    ((pins.setPin .tdd { stuck := true }).tpin .tdd).stuck = true ∧
    ((pins.setPin .tdd { missing := true }).tpin .tdd).missing = true := by decide

theorem meets_NoiseBurstsAndSyncWrites :
    ((slotOn .ul 16 1).isUp = true ∧ (slotOn .ul 16 1).slotEn (keyDir 33) (keySlot 33) = true ∧ keyDir 33 = .ul) ∧
    (slotOn .dl 0 3).slotTdd (keyDir 0) (keySlot 0) = true ∧
    (air.fld Reg.SYNC_NF_CFG 16 16 ≤ 256 ∧ 255 < air.fld Reg.SYNC_NF_CFG 16 16) ∧ (air.nfRec 33).n0 = none ∧
    (up.slotEn .dl 0 = false ∧ (slotOn .dl 0 1).slotTdd .dl 0 = false) ∧
    (bitAt ((air.setBurst 33 1 true).burstBits 33) 1 = true ∧ bitAt (air.burstBits 33) 1 = false) ∧
    (air.fld Reg.SYNC_BD_CFG 20 4 ≤ 2 ∧ 1 < air.fld Reg.SYNC_BD_CFG 20 4) ∧ (syncWritable 0x40 = false ∧ 0x91 % 4 ≠ 0) ∧
    (syncProtected 0x90 = true ∧ air.judgeEn = true) ∧ (syncWritable 0x44 = true ∧ syncProtected 0x44 = false) ∧
    (syncProtected 0xA0 = true ∧ up.judgeEn = false) := by decide

theorem meets_LichenLooks :
    ((up.wr (Reg.LICHEN_RX_CFG 3) 1).power ≠ .off ∧ (up.wr (Reg.LICHEN_RX_CFG 3) 1).rxLooks 3 = true ∧
      (up.wr (Reg.LICHEN_RX_CFG 3) 1).rxMode 3 = 1) ∧
    up.rxLooks 3 = false ∧
    (let s : State := { (up.wr (Reg.LICHEN_RX_CFG 3) 1) with power := .sleep, lichen := { holdoff := true } }; s.rxLooks 3 = true ∧
      s.power = .sleep ∧ s.lichen.holdoff = true) ∧
    ((up.wr (Reg.LICHEN_RX_CFG 3) 1).power ≠ .sleep ∧ (up.wr (Reg.LICHEN_RX_CFG 3) 1).sys.wakeSession = false ∧
      (up.wr (Reg.LICHEN_RX_CFG 3) 1).sys.entering = none ∧ (up.wr (Reg.LICHEN_RX_CFG 3) 1).lichen.holdoff = false) ∧
    (let s := ((up.wr (Reg.LICHEN_RX_CFG 3) 1).wr Reg.LICHEN_TIMING 0x10000).setLichenRx 3 { activeRun := 1000 };
      s.overTimeout 3 ((s.lichenRx 3).activeRun + 1) = true ∧ (s.lichenRx 3).timedOut = false) ∧
    (let s : State := { (up.wr (Reg.LICHEN_RX_CFG 3) 5).setLichenRx 3 { looks := [(0, [true, true, true, true, true])] } with power := .sleep };
      let seen := NMap.get (fun _ => []) (s.lichenRx 3).looks 0; s.rxLooks 3 = true ∧ s.power = .sleep ∧ s.wakeEn 3 = true ∧
      (s.lichenRx 3).timedOut = false ∧ s.overTimeout 3 ((s.lichenRx 3).activeRun + 1) = false ∧
      s.hitsN ≤ (((true :: seen).take s.looksN).filter id).length ∧ (seen.filter id).length < s.hitsN) := by decide

/-- The only downlink slot's donor lost for 300 s of device time, DONOR_SLEEP and RETURN enabled, awake after a wake; no receiver can wake. -/
def gone : State :=
  { ((((up.wr (Reg.CHAN_SLOT_CFG .dl 0) 1).setGov .dl 0 { donorOk := false }).wr Reg.LICHEN_POLICY 5).wr Reg.SYS_WAKE_CTRL 3)
      with now := 65535 * 1000 * msTime }

theorem meets_SleepPolicies :
    (up.power = .up ∧ up.sys.entering = none ∧ up.sys.sleepNext = none) ∧ ({ power := .sleep } : State).power ≠ .up ∧
    (up.wr Reg.LICHEN_POLICY 0).policyHolds true = false ∧
    (let s := gone.wr (Reg.LICHEN_RX_CFG 0) 5;
      s.policyHolds true = true ∧ s.policyRx true = true ∧ s.policyFree = true ∧ s.sys.dl.st = .standby) ∧
    (gone.policyHolds true = true ∧
      gone.policyRx true = false ∧
      gone.lichen.deferred = false) ∧
    (let s : State := { gone with lichen := { wakeRx := some 0 } };
      s.lichen.wakeRx = some 0 ∧ s.sys.dl.trans = none ∧ s.sys.ul.trans = none ∧ bitAt (s.rd Reg.LICHEN_POLICY) 2 = true ∧
      s.fld Reg.SYS_WAKE_CTRL 0 4 = 3 ∧ s.donorGone = true) ∧
    (let s : State := { gone with lichen := { wakeRx := some 3, burstSeen := true } };
      s.lichen.wakeRx = some 3 ∧ s.lichen.burstSeen ≠ false) ∧
    up.lichen.wakeRx = none ∧ ({ power := .up, sys := { entering := some (0, 1, 1) } } : State).sys.entering ≠ none := by decide

theorem meets_CaptureCommands :
    (up.regsUp = true ∧ (up.bog.region 7).active = false ∧ up.armLayout 7 = false) ∧
    (((State.withRegion ((up.wr (Reg.BOG_REG_SIZE 7) 2).wr (Reg.BOG_REG_SRC 7) 1) 7 { st := 1 }).bog.region 7).active = true ∧
      ((State.withRegion ((up.wr (Reg.BOG_REG_SIZE 7) 2).wr (Reg.BOG_REG_SRC 7) 1) 7 { st := 1 }).bog.region 7).wr ≤ (State.withRegion ((up.wr (Reg.BOG_REG_SIZE 7) 2).wr (Reg.BOG_REG_SRC 7) 1) 7 { st := 1 }).dataBytes 7) ∧
    ((((up.wr (Reg.BOG_REG_SIZE 7) 2).wr (Reg.BOG_REG_SRC 7) 1).bog.region 7).active = false ∧
      ((up.wr (Reg.BOG_REG_SIZE 7) 2).wr (Reg.BOG_REG_SRC 7) 1).armLayout 7 = true ∧
      ((up.wr (Reg.BOG_REG_SIZE 7) 2).wr (Reg.BOG_REG_SRC 7) 1).trigKind 7 ≠ 7) ∧
    (let s := ((up.wr (Reg.BOG_REG_SIZE 7) 2).wr (Reg.BOG_REG_SRC 7) 1).wr (Reg.BOG_REG_TRIG 7) 7; s.trigKind 7 = 7 ∧
      bitAt (s.rd (Reg.BOG_REG_RULE 7)) 2 = false ∧ s.armLayout 7 = true) ∧
    (0 < ((up.wr (Reg.BOG_REG_SIZE 7) 2).wr (Reg.BOG_REG_SRC 7) 1).regSegs 7 ∧ 4095 < 4096) ∧
    (((State.withRegion ((up.wr (Reg.BOG_REG_SIZE 7) 2).wr (Reg.BOG_REG_SRC 7) 1) 7 { st := 1 }).bog.region 7).st = 1 ∧
      bitAt ((State.withRegion ((up.wr (Reg.BOG_REG_SIZE 7) 2).wr (Reg.BOG_REG_SRC 7) 1) 7 { st := 1 }).rd (Reg.BOG_REG_RULE 7)) 2 = false) ∧
    (let s := State.withRegion (up.wr (Reg.BOG_REG_RULE 7) 1) 7 { st := 2 }; (s.bog.region 7).st = 2 ∧ s.regOnce 7 = false) ∧
    (let s := State.withRegion (up.wr (Reg.BOG_REG_RULE 7) 4) 7 { st := 1 }; bitAt (s.rd (Reg.BOG_REG_RULE 7)) 2 = true ∧
      s.regOnce 7 = true ∧ (s.bog.region 7).st = 1) ∧
    (let s := State.withRegion up 7 { st := 2 }; (s.bog.region 7).st = 2 ∧ s.regOnce 7 = true) := by decide

theorem meets_RegionsAndScrub :
    (let s := State.withRegion ((up.wr (Reg.BOG_REG_RULE 7) 0x20003).wr (Reg.BOG_REG_SIZE 7) 4) 7 { st := 2, seg := 0 };
      s.regsUp = true ∧ s.regStop 7 = 3 ∧ (s.bog.region 7).st = 2 ∧ (s.bog.region 7).seg + 1 < s.regSegs 7 ∧
      (s.bog.region 7).wr ≤ s.dataBytes 7) ∧
    (up.regStop 7 ≠ 3 ∧ up.mayEnd 7 = false) ∧
    (let s := State.withRegion up 7 { st := 2 }; s.mayEnd 7 = true ∧ (s.bog.region 7).wr ≤ s.dataBytes 7) ∧
    (let s : State := { up with bog := { ready := true } }; s.isUp = true ∧ bitAt (s.rd Reg.BOG_SCRUB_CFG) 16 = true ∧
      s.bog.ready = true) ∧
    up.bog.ready = false := by decide

theorem meets_PatternCommands :
    up.regsUp = true ∧
    (({ up with bog := { pbDl := some { pattern := 15, asReplace := false } } } : State).playing .dl = some { pattern := 15, asReplace := false } ∧
      ({ up with bog := { pbDl := some { pattern := 15, asReplace := false } } } : State).patPlays 15 = true ∧
      up.patPlays 15 = false) ∧
    (let s := ({ up with bog := { pbDl := some { pattern := 15, asReplace := false } } } : State).wr (Reg.BOG_PAT_CFG 15) 0x10000;
      s.patLoops { pattern := 15, asReplace := false } ≠ 0) ∧
    (let s := ({ up with bog := { pbDl := some { pattern := 15, asReplace := false } } } : State).wr (Reg.BOG_PAT_CFG 15) 0;
      s.patLoops { pattern := 15, asReplace := false } = 0) ∧
    up.playing .ul = none ∧
    ((0x2C0 : Fin 2048).val = 0x100 + 0x40 * 7 + 0 ∧ regionLocked 0 = true ∧
      ((State.withRegion ((up.wr (Reg.BOG_REG_SIZE 7) 2).wr (Reg.BOG_REG_SRC 7) 1) 7 { st := 1 }).bog.region 7).active = true) ∧
    ((0x2E0 : Fin 2048).val = 0x100 + 0x40 * 7 + 0x20 ∧ regionLocked 0x20 = false) ∧ (0x5C : Fin 2048).val = 0x5C := by decide

theorem meets_BurstIndexCommands :
    (up.regsUp = true ∧ up.bix.queue = [] ∧ up.bix.dumping = none ∧ up.bix.stopped = false) ∧
    (let s : State := { (up.wr Reg.BIX_IDX_CFG 1) with bix := { queue := [{ t := 3 }], count := 65535, wr := 65535 } };
      s.bix.queue = { t := 3 } :: [] ∧ bitAt (s.rd Reg.BIX_IDX_CFG) 0 = true ∧ s.bix.count = 65535) ∧
    (let s : State := { (up.wr Reg.BIX_IDX_CFG 0) with bix := { queue := [{ t := 3 }], count := 65536, wr := 65535 } };
      bitAt (s.rd Reg.BIX_IDX_CFG) 0 = false ∧ s.bix.wr = 65535) ∧
    ({ up with bix := { queue := [{}], stopped := true } } : State).bix.stopped = true ∧
    ({ up with bix := { dumping := some 7 } } : State).bix.dumping = some 7 ∧
    ((State.withRegion up 7 { st := 3 }).bog.region 7).st ≠ 0 ∧ (up.bog.region 7).st = 0 := by decide

theorem meets_HkConversions :
    (State.reset.hkOn = false ∧ up.hkOn = true ∧ seqLen (up.rd (hkCtrlReg 0)) ≠ 0) ∧
    (let s := (up.setHk 0 { passOpen := true }); (s.hkRec 0).passOpen = true ∧ s.fld (hkCtrlReg 0) 0 2 = 2) ∧
    (let s := (up.setHk 0 { passOpen := true }).wr (hkCtrlReg 0) 0; s.fld (hkCtrlReg 0) 0 2 ≠ 2) ∧
    ((up.hkRec 0).passOpen = false ∧ (up.hkRec 0).injPending = false) ∧
    ((up.setHk 0 { injPending := true }).hkRec 0).injPending = true ∧ (up.hkRec 0).refOk = true ∧
    ((up.setHk 0 { refOk := false }).hkRec 0).refOk = false ∧
    (seqLen ((up.wr (hkCtrlReg 0) 0).rd (hkCtrlReg 0)) = 0 ∨ (up.rd (hkCtrlReg 0)) ≠ 0) ∧ up.hkDue 0 = none ∧
    (let s := up.setHk 0 { passOpen := true, seq := [39], used := 3 };
      let x : ConvIn := { v := 1200000 }; s.hkOn = true ∧ s.hkDue 0 = some (0, 39, false) ∧ seqOrder 39 = 0 ∧ s.dacDrives 39 = false ∧
      ((s.hkRec (s.hkBy 0)).ovrLast && x.soonAfterOvr && !(s.hkRec 0).again) = false ∧ (validFrom (s.hkRec 0).seq 1).isNone = true ∧
      (s.hkRec 0).due = false ∧ s.fld (hkCtrlReg 0) 0 2 ≠ 1) ∧
    (let s := up.setHk 0 { passOpen := true, seq := [64, 0], ovrLast := true };
      let x : ConvIn := { v := 0, soonAfterOvr := true }; s.hkDue 0 = some (0, 64, false) ∧ seqOrder 64 ≠ 0 ∧
      ((s.hkRec (s.hkBy 0)).ovrLast && x.soonAfterOvr && !(s.hkRec 0).again) = true ∧ ¬(validFrom (s.hkRec 0).seq 1).isNone = true) ∧
    (let s := (up.setHk 0 { injRun := true }).wr (hkCtrlReg 0) 0x1000000; (s.hkRec 0).injRun = true) ∧
    (convOvr { v := -292 } = false ∧ convOvr { v := -293 } = true ∧ convOvr { v := 1200293 } = true) := by decide

theorem meets_HkTriggers :
    ((up.wr Reg.HK_HK_TRIG_CFG 1).hkOn = true ∧ bitAt ((up.wr Reg.HK_HK_TRIG_CFG 1).rd Reg.HK_HK_TRIG_CFG) 0 = true ∧
      (up.wr Reg.HK_HK_TRIG_CFG 1).hk.trigStuck = false) ∧
    bitAt (up.rd Reg.HK_HK_TRIG_CFG) 0 = false ∧
    (let s : State := { ((up.wr Reg.HK_HK_TRIG_CFG 1).wr Reg.HK_HK_TRIG_HOLD 1) with hk := { trigLast := some 0 } };
      s.hk.trigLast = some 0 ∧ 0 < 0 + usTime (s.fld Reg.HK_HK_TRIG_HOLD 0 16)) ∧
    (up.wr Reg.HK_HK_TRIG_CFG 1).hk.trigLast = none ∧
    (bitAt ((up.wr (hkCtrlReg 0) 0x10000).rd (hkCtrlReg 0)) 16 = true ∧ bitAt ((up.wr (hkCtrlReg 0) 0).rd (hkCtrlReg 0)) 16 = false) ∧
    ((up.setHk 0 { injRun := true }).hkRec 0).injRun = true ∧
    (let s : State := { (up.wr Reg.HK_OVD_CFG 8) with front := { tables := NMap.put (fun _ => (0 : Word)) [] (tableKey 3 0) 0x1003 } };
      s.isUp = true ∧ bitAt (s.rd Reg.HK_OVD_CFG) 3 = true ∧ s.hasTable 3 = true ∧ s.hk.ovd.getLsbD 3 = false ∧
      s.ovdAbove 3 0 1200000 = true ∧ s.ovdAbove 3 32 1200000 = true ∧ s.ovdAbove 3 32 0 = false) ∧
    bitAt (up.rd Reg.HK_OVD_CFG) 3 = false := by decide

/-- Up in tick 1, cross-checks enabled at every tick, one mismatch to an arbitration, TOL 10 mV, channel 0. -/
def cross : State := { up.wr Reg.HK_CROSS_CFG 0x11010A00 with now := tickTime }

theorem meets_HkCrossAndWrites :
    (cross.isUp = true ∧ bitAt (cross.rd Reg.HK_CROSS_CFG) 28 = true ∧ cross.hk.takeover = false ∧ cross.isOut 18 0 = false ∧
      cross.crossDue = true ∧ up.crossDue = false ∧ cross.fld Reg.HK_CROSS_CFG 0 6 < 40) ∧
    bitAt ((up.wr Reg.HK_CROSS_CFG 0).rd Reg.HK_CROSS_CFG) 28 = false ∧ 39 < (up.wr Reg.HK_CROSS_CFG 40).fld Reg.HK_CROSS_CFG 0 6 ∧
    (cross.hk.arbitrate = false ∧ convOvr { v := 600000 } = false ∧ (cross.hkRec 0).ovrLast = false ∧ (cross.hkRec 1).refOk = true ∧
      cross.vrefBad 0 { v := 600000 } = false ∧ bitAt (cross.rd Reg.HK_TDAC) 16 = false) ∧
    convOvr { v := 1300000 } = true ∧
    (let s : State := { cross with hk := { arbitrate := true } }; (s.hk.arbitrate && !bitAt (s.rd Reg.HK_TDAC) 16 && !s.isOut 18 2) = true ∧
      ¬(s.crossTol * 4096 < (s.hkMv 0 (Signal.hkCode 600000 1200000) - 2457600).natAbs) ∧
      ¬(s.crossTol * 4096 < (s.hkMv 1 (Signal.hkCode 600000 1200000) - 2457600).natAbs) ∧
      s.crossTol * 4096 < (s.hkMv 0 (Signal.hkCode 0 1200000) - 2457600).natAbs ∧
      s.crossTol * 4096 < (s.hkMv 1 (Signal.hkCode 0 1200000) - 2457600).natAbs) ∧
    (rowAt (0x9000 + 0x44)).isSome = true ∧
    (match rowAt 0x9044 with | some r => decide (r.acc = .rw) | none => false) = true ∧
    (up.regsUp = true ∧ up.judgeEn = false ∧ State.reset.regsUp = false) ∧ hkCtrlReg 0 ≠ hkCtrlReg 1 := by decide

/-- On the air, throttling, with every hold over. -/
def hot : State := { air with therm := { throttling := true, stepN := 255000, undoN := 2550000 } }

theorem meets_ThermCommands :
    (air.therm.throttling = false ∧ air.isUp = true) ∧
    (hot.isUp = true ∧ hot.therm.throttling = true ∧ hot.bog.halving = false ∧ hot.dropHold ≤ hot.therm.stepN ∧ hot.nextDrop = none) ∧
    (let s : State := { slotOn .ul 16 1 with therm := hot.therm }; s.nextDrop = some (.ul, 16) ∧ s.dropHold ≤ s.therm.stepN) ∧
    hot.undoHold ≤ hot.therm.undoN ∧ ({ hot with bog := { halving := true } } : State).bog.halving = true ∧
    (let s : State := { hot with therm := { hot.therm with hotQuiet := 1 } }; s.now < s.therm.hotQuiet) ∧
    (hot.therm.hotQuiet ≤ hot.now ∧ hot.therm.dropped = []) ∧
    (let s : State := { hot with therm := { hot.therm with dropped := [slotKey .ul 16] } };
      s.therm.dropped = slotKey .ul 16 :: [] ∧ 16 < 17) ∧
    (State.reset.regsUp = false ∧ up.regsUp = true ∧ up.isOut 2 5 = false ∧ up.sensorDue 5 true = false) ∧
    (({ up with therm := { silent := [(5, 100)] } } : State).sensorDue 5 true = true ∧
      ({ up with therm := { beyond := [(5, 10000)] } } : State).sensorDue 5 false = true) ∧
    (bitAt (1#32).toNat 0 = true ∧ bitAt (0#32).toNat 0 = false) := by decide

theorem meets_LockThrottleAndDumpComplete :
    (let s := ((up.wr Reg.LOCK_WR_ITEM 2).wr Reg.LOCK_WR_A 9499).wr Reg.LOCK_WR_B 0;
      s.isUp = true ∧ (0x4C4B#32).toNat % 65536 = 0x4C4B ∧ s.lock.commit = none ∧ s.lock.damaged = false ∧ s.lock.locked = false ∧
      lockOffset (s.fld Reg.LOCK_WR_ITEM 0 16) (s.fld Reg.LOCK_WR_ITEM 16 16) ≠ none ∧ s.fld Reg.LOCK_WR_ITEM 0 16 ≠ 1 ∧
      s.lock.present 2 0 ≠ lockValue 2 (s.rd Reg.LOCK_WR_A) (s.rd Reg.LOCK_WR_B)) ∧
    (let j : LockJob := { item := 2, index := 1, a := 9000, b := 0, image := false };
      let s : State := { up with lock := { commit := some j }, mram := { inFlight := some .lock } }; s.lock.commit = some j ∧
      s.mram.inFlight = some .lock ∧ lockOffset j.item j.index ≠ none) ∧
    ((2047 : Nat) < 2048 ∧ 2047 / 4 ∈ [511]) ∧
    (let s : State := { slotOn .ul 16 1 with therm := hot.therm }; s.therm.throttling = true ∧ s.bog.halving = false ∧
      s.dropHold ≤ s.therm.stepN ∧ s.nextDrop = some (.ul, 16)) ∧
    (let s : State := { hot with therm := { hot.therm with dropped := [slotKey .ul 16] } }; s.therm.throttling = true ∧
      s.undoHold ≤ s.therm.undoN ∧ s.therm.hotQuiet ≤ s.now ∧ s.bog.halving = false ∧ s.therm.dropped = slotKey .ul 16 :: []) ∧
    (let s : State := { up with therm := { silent := [(5, 100)] } }; s.isOut 2 5 = false ∧ s.sensorDue 5 true = true) ∧
    (1#32).getLsbD 0 = true ∧
    (let s := up.setTrace 3 { st := 3, samples := [[0]] }; (s.trace 3).st = 3 ∧ (s.trace 3).samples ≠ [] ∧
      (s.bog.region (s.trRegion 3)).active = false) := by decide

theorem meets_PeatCommands :
    (State.reset.isUp = false ∧ up.isUp = true ∧ up.peat.openI.born ≠ some up.now ∧
      ({ up with peat := { openI := { limit := 0 } } } : State).timerDue = true ∧
      ({ up with peat := { openI := { limit := 1 } } } : State).timerDue = false) ∧
    ({ up with peat := { openI := { born := some 0 } } } : State).peat.openI.born = some up.now ∧
    (State.withUnit up 21 0 { st := .fenced }).isOut 21 0 = true ∧
    (up.isOut 21 0 = false ∧ up.peat.hold.length < 4 ∧ repeats up up.peat 2 0 = none) ∧
    (({ up with peat := { hold := [{}, {}, {}, {}] } } : State).peat.hold.length = 4 ∧
      repeats { up with peat := { hold := [{}, {}, {}, {}] } } { hold := [{}, {}, {}, {}] } 2 0 = none) ∧
    (let r : PeatRec := { kind := 1, cause := 2, seq := 0, states := up.dirCodes };
      let s : State := { up with peat := { slots := [(0, r)], newest := some 0 } }; s.isOut 21 0 = false ∧
      repeats s s.peat 2 0 = some r ∧ r.rep + (s.peat.pending r.seq).1 < 65535) ∧
    (let r : PeatRec := { seq := 5 };
      let s : State := { up with mram := { inFlight := some .peat }, peat := { writing := some (some r) } };
      s.mram.inFlight = some .peat ∧ s.peat.writing = some (some r) ∧ s.peat.hold = [] ∧ s.peat.pend = [] ∧ s.peat.place r = some 0) ∧
    up.mram.inFlight ≠ some .peat ∧ up.peat.flushNext = none ∧
    (({ up with peat := { opsec := 4294967294 } } : State).peat.opsec = 4294967294 ∧ up.peat.opsec < 4294967294) ∧
    (up.peat.out = false ∧ up.peat.frozen = false ∧ up.peat.freezePending = false ∧ up.peat.hold = [] ∧ up.peat.writing = none) ∧
    (let s : State := { up with peat := { frozen := true, hold := [{}], frozenN := 100000 } }; s.peat.frozen = true ∧ 100000 ≤ s.peat.frozenN) ∧
    ({ up with peat := { frozen := true } } : State).peat.frozenN < 100000 ∧
    ({ up with peat := { writing := some none } } : State).peat.writing ≠ none := by decide

theorem meets_TargetTransfers :
    State.reset.power = .off ∧ ({ power := .discovery 2 } : State).power = .discovery 2 ∧
    (up.isUp = true ∧ up.sys.entering = none) ∧
    ((0x28 * 256 + 0x40) % 4 = 0 ∧ (0x28 * 256 + 0x40) / 0x800 ∈ [3, 5, 8, 10] ∧ 0x40 ≤ (0x28 * 256 + 0x40) % 0x800 ∧
      (match rowAt (0x28 * 256 + 0x40) with | some r => decide (r.acc = .rw) | none => false) = true) ∧
    (State.reset.regsUp = false ∧ up.regsUp = true) ∧ up.twb.stretching = false ∧
    ({ up with twb := { stretching := true } } : State).twb.stretching = true := by decide

theorem meets_RegisterAccess :
    State.reset.regsUp = false ∧ (up.regsUp = true ∧ up.sys.entering = none ∧ writable 0x1840 = false) ∧
    (noBand 0x5064 599999 = true ∧ noBand 0x5080 3800001 = true ∧ noBand 0x5064 600000 = false ∧ noBand 0x5084 0 = false) ∧
    ((match rowAt 0x2840 with | some r => decide (r.acc = .rw) | none => false) = true ∧ 0x2840 / 0x800 ∈ [3, 5, 8, 10] ∧
      0x40 ≤ 0x2840 % 0x800) ∧
    (groupLead 0x68 = some 0x68 ∧ 0x6C ∈ groupRest 0x68) ∧ up.pcie.up = false ∧
    (({ up with pcie := { up := true, memEnable := true } } : State).pcie.up = true ∧
      ({ up with pcie := { up := true, memEnable := true } } : State).memOpen = true) ∧
    ({ up with pcie := { up := true } } : State).memOpen = false ∧
    (62 < 64 ∧ 62 % 4 ≠ 3 ∧ (0xF8F8 : Fin 65536).val = 0xF800 + 4 * 62) ∧
    ((0xF900 : Fin 65536).val = 0xF900 ∧ 0xF200 ≤ (0xF7FF : Fin 65536).val) := by decide

theorem meets_AttentionCommands :
    up.attnReady = false ∧
    ((({ up with twb := { queue := [{ blk := 0, cls := 0, inj := false, source := 0, total := 1, seq := 0 }] } } : State).wr Reg.TWB_ADDR_CFG 0x1000).attnReady = true ∧
      ({ up with twb := { queue := [{ blk := 0, cls := 0, inj := false, source := 0, total := 1, seq := 0 }] } } : State).twb.queue ≠ []) ∧
    ({ up with twb := { queue := [{ blk := 0, cls := 0, inj := false, source := 0, total := 1, seq := 0 }], attempt := 2 } } : State).twb.attempt < 3 ∧
    3 ≤ ({ up with twb := { queue := [{ blk := 0, cls := 0, inj := false, source := 0, total := 1, seq := 0 }], attempt := 3 } } : State).twb.attempt ∧
    (up.regsUp = true ∧ State.reset.regsUp = false ∧ up.isUp = true ∧ State.reset.isUp = false) ∧
    (up.syn.timeRuns = false ∧ (State.ticking up).syn.timeRuns = true ∧
      ({ up with twb := { waitEnd := 1 } } : State).now < ({ up with twb := { waitEnd := 1 } } : State).twb.waitEnd) ∧
    ({ up with twb := { backoff := some 50 } } : State).twb.backoff ≠ none ∧ up.twb.backoff = none ∧
    .controllerSclTimeout ∈ [Instr.attentionAttempt .sclTimeout, .controllerSclTimeout] := by decide

theorem meets_BogWindow :
    up.pcie.up = false ∧
    (({ up with pcie := { up := true } } : State).pcie.up = true ∧ ({ up with pcie := { up := true } } : State).memOpen = false) ∧
    ({ up with pcie := { up := true, memEnable := true } } : State).bogClosed (accessChans { addr := 0, len := 4 } 4) = true ∧
    (({ ({ up with pcie := { up := true, memEnable := true } } : State) with bog := { ready := true } } : State).memOpen = true ∧
      ({ ({ up with pcie := { up := true, memEnable := true } } : State) with bog := { ready := true } } : State).bogClosed (accessChans { addr := 2 ^ 34 - 32, len := 32 } 32) = false) ∧
    (0 + 0) / 32 ∉ ([] : List Nat) ∧
    ({ ({ up with pcie := { up := true, memEnable := true } } : State) with bog := { ready := true } } : State).writeBarred 0 32 = false ∧
    (let s : State := { ((State.withRegion ({ ({ up with pcie := { up := true, memEnable := true } } : State) with bog := { ready := true } } : State) 0 { st := 1 }).wr (Reg.BOG_REG_SIZE 0) 2) with pcie := { up := true, memEnable := true } };
      s.writeBarred 8191 1 = true ∧ s.writeBarred 8192 1 = false) ∧
    overlap ((up.wr (Reg.BOG_PAT_SIZE 0) 1).patBase 0) ((up.wr (Reg.BOG_PAT_SIZE 0) 1).patBytes 0) 4095 1 = true ∧
    ({ power := .shutdown } : State).power = .shutdown ∧ up.power ≠ .shutdown ∧
    ({ addr := 0, poisoned := true } : BogAccess).poisoned = true := by decide

theorem meets_Doorbells :
    (({ up with pcie := { up := true, memEnable := true } } : State).pcie.up = true ∧
      ({ up with pcie := { up := true, memEnable := true } } : State).memOpen = true ∧
      (({ up with pcie := { up := true, memEnable := true } } : State).bog.region 7).active = false ∧
      ({ up with pcie := { up := true, memEnable := true } } : State).armLayout 7 = false) ∧
    (let s := (({ up with pcie := { up := true, memEnable := true } } : State).wr (Reg.BOG_REG_SIZE 7) 2).wr (Reg.BOG_REG_SRC 7) 1;
      s.memOpen = true ∧ s.armLayout 7 = true) ∧
    ((State.withRegion ({ up with pcie := { up := true, memEnable := true } } : State) 7 { st := 2 }).bog.region 7).active = true ∧
    up.pcie.up = false ∧
    (let s : State := { (({ up with pcie := { up := true, memEnable := true } } : State).wr (Reg.BOG_PAT_CFG 15) 4) with bog := ({} : BogState).setPat 15 { loaded := true } };
      s.memOpen = true ∧ Calm s ∧ (s.bog.pat 15).loaded = true ∧ s.patTransmit 15 = false ∧ s.dirSt (s.patDir 15) ≠ .muted) ∧
    ({ up with pcie := { up := true, memEnable := true } } : State).patPlays 15 = false ∧
    ({ ({ up with pcie := { up := true, memEnable := true } } : State) with bog := { pbUl := some { pattern := 15, asReplace := false } } } : State).playing .ul = some { pattern := 15, asReplace := false } ∧
    (({ up with pcie := { up := true } } : State).pcie.up = true ∧
      ({ up with pcie := { up := true } } : State).memOpen = false) := by simp only [Calm]; decide

theorem meets_EndpointCommands :
    up.mayTrain = false ∧
    (({ up with pcie := { perst := false } } : State).mayTrain = true ∧
      1 ≤ ({ up with pcie := { perst := false } } : State).maxGen ∧ ({ up with pcie := { perst := false } } : State).maxGen = 4 ∧
      ({ up with pcie := { perst := false } } : State).maxWidth = 4) ∧
    (let s := ({ up with pcie := { perst := false } } : State).wr Reg.PCIE_LINK_CFG 1; s.maxGen = 1 ∧ s.maxWidth = 1) ∧
    ({ up with pcie := { up := true, memEnable := true } } : State).pcie.up = true ∧ up.pcie.up = false ∧
    (({ up with pcie := { up := true, memEnable := true } } : State).memOpen = true ∧
      ({ up with pcie := { up := true, memEnable := true } } : State).isUp = true) ∧
    ({ ({ up with pcie := { up := true, memEnable := true } } : State) with pcie := { up := true, memEnable := true, msixEnable := true, busMaster := true } } : State).pcie.msixEnable = true ∧
    ({ ({ up with pcie := { up := true, memEnable := true } } : State) with sys := { entering := some (0, 1, 1) } } : State).sys.entering ≠ none ∧
    (({ ({ up with pcie := { up := true, memEnable := true } } : State) with power := .waking } : State).isUp = false ∧
      ({ ({ up with pcie := { up := true, memEnable := true } } : State) with power := .waking } : State).sys.entering = none) ∧
    ({ up with pcie := { up := true, memEnable := true } } : State).sys.entering = none := by decide


/-! ### Single steps

Expected values are worked out by hand from the rule each test names. -/

/-- The outcome is a next state that meets p. -/
def ran (o : Host.Outcome State Fault Refusal) (p : State → Bool) : Bool :=
  match o with
  | .next t => p t
  | _ => false

/-- Events counted for source n of block b. -/
def total (t : State) (b n : Nat) : Nat := (t.flt.source b n).total

/-- The front of the queue runs, the rest waits. -/
theorem test_step_front : ran (step { up with pending := [.attnFlush, .bixQueueDrain] })
    (fun t => t.pending == [.bixQueueDrain]) = true := by decide

/-- R110: on the air REF_SEL is refused with result 3. -/
theorem test_refSel_refused : ran (exec (.refSelWrite 1) air)
    (fun t => t.st Reg.SYN_WRITE_STATUS == 3 && t.rd Reg.SYN_REF_SEL == air.rd Reg.SYN_REF_SEL && total t 6 17 == 1) = true := by decide

/-- R110: 400 MHz is the lowest frequency, and 1 kHz less is refused with result 1. -/
theorem test_loFreq_lowest : ran (exec (.loFreqWrite .dl 400000) up)
    (fun t => t.rd (loFreqReg .dl) == 400000 && t.st Reg.SYN_WRITE_STATUS == 4) = true := by decide
theorem test_loFreq_below : ran (exec (.loFreqWrite .dl 399999) up)
    (fun t => t.rd (loFreqReg .dl) == up.rd (loFreqReg .dl) && t.st Reg.SYN_WRITE_STATUS == 5) = true := by decide

/-- R152: in service a trim of +6.01 dB is refused with result 1, and NCO with result 2. -/
theorem test_trim_refused : ran (exec (.slotRegisterWrite .dl .trim 0 601) air)
    (fun t => bitsAt (t.st (Reg.CHAN_WRITE_STATUS .dl)) 0 2 == 1 && total t 12 21 == 1) = true := by decide
theorem test_nco_refused : ran (exec (.slotRegisterWrite .ul .nco 3 1) air)
    (fun t => bitsAt (t.st (Reg.CHAN_WRITE_STATUS .ul)) 0 2 == 2 && total t 13 20 == 1) = true := by decide

/-- R198: in service a target of 95.01 dB is refused with result 1. -/
theorem test_target_refused : ran (exec (.govWrite .dl .target 0 9501) air)
    (fun t => bitsAt (t.st (Reg.GOV_WRITE_STATUS .dl)) 0 2 == 1 && total t 15 25 == 1) = true := by decide

/-- R45: service without SERVICE_EN is refused with 0x0A04. -/
theorem test_service_refused : ran (exec (.requestService false 3 7) up)
    (fun t => t.st Reg.SYS_REFUSE_CODE == 0x70A04 && t.sys.reqStatus == 3) = true := by decide

/-- R45, R43: a request for LISTEN starts the transition; its end is shown as STANDBY (2) to LISTEN (6), downlink, cause 0. -/
theorem test_listen_starts : ran (exec (.requestListen 1 7) up)
    (fun t => t.dirSt .dl == .standby && (t.dirRec .dl).trans.isSome && (t.dirRec .ul).trans.isNone) = true := by decide
theorem test_listen_stands : ran (exec (.transitionEnd .dl) { up with sys := { dl := { trans := some { target := .listen, cause := 0 } } } })
    (fun t => t.dirSt .dl == .listen && t.st Reg.SYS_LAST_TRANSITION == 0x162) = true := by decide

/-- R29: a slip on lane 2 realigns the uplink alone. -/
theorem test_slip : ran (exec (.rxFifoSlip 2) air)
    (fun t => total t 23 2 == 1 && (t.dirRec .ul).realign && !(t.dirRec .dl).realign && t.st Reg.CORE_ALIGN_COUNT == 0x10000) = true := by decide

/-- R219: one emergency step of the reset STEP_MV, 50 mV. -/
theorem test_emergency : ran (exec .vcoreEmergencyStep air) (fun t => t.vcoreCmd == 50) = true := by decide

/-- R210: a write to an instance past 191 has code 4. -/
theorem test_law_address : ran (exec .lawWrite (up.wr Reg.LOOP_LAW_ADDR 192))
    (fun t => t.st Reg.LOOP_LAW_STATUS == 4 + 16 * 192 && total t 17 15 == 1) = true := by decide

/-- R192: the loss of the locked output mutes a direction on the air, and not the other. -/
theorem test_output_mute : ran (exec (.laneOutputMute .dl) { air with govDl := { over1 := 5 } })
    (fun t => t.dirSt .dl == .muted && t.dirSt .ul == .full && total t 15 17 == 1) = true := by decide

/-- R241: another word in WR_CMD counts LOCK source 12. -/
theorem test_lock_word : ran (exec (.lockCommit 0x4C4C) up) (fun t => total t 22 12 == 1 && t.lock.commit.isNone) = true := by decide

/-- R241: a gain maximum of 94.99 dB starts a commit through MRAM. -/
theorem test_lock_commit : ran (exec (.lockCommit 0x4C4B) ((up.wr Reg.LOCK_WR_ITEM 2).wr Reg.LOCK_WR_A 9499))
    (fun t => t.lock.commit.isSome && t.mram.inFlight == some .lock) = true := by decide

/-- R114: an episode on lane 3. -/
theorem test_over_range : ran (exec (.overRangeEpisode 3) air) (fun t => t.st (Reg.RXC_OVR_EPISODES 3) == 1 && total t 7 3 == 1) = true := by decide

/-- R294: ARM of region 7 with its reset layout is refused with code 1. -/
theorem test_arm_refused : ran (exec (.bogArm 7) up) (fun t => t.st Reg.BOG_CMD_STATUS == 1 + 16 * 7 && total t 19 19 == 1) = true := by decide

/-- R305: the 65,536th report in ring mode wraps. -/
theorem test_bix_wraps : ran (exec .bixQueueDrain { (up.wr Reg.BIX_IDX_CFG 0) with bix := { queue := [{ t := 3 }], wr := 65535, count := 65536 } })
    (fun t => t.bix.wr == 0 && t.bix.count == 65536 && t.st Reg.BIX_WRAP == 1 && total t 20 1 == 1) = true := by decide

/-- R402: what the Bog window writes it reads back. -/
theorem test_bog_window : ran (exec (.bar0Write { addr := 62, data := [1, 2, 3] })
      { up with pcie := { up := true, memEnable := true }, bog := { ready := true } })
    (fun t => t.bog.read 61 5 == [0, 1, 2, 3, 0] && t.pcie.wrBytes == 3) = true := by decide

/-- R385: a pointer is two bytes, the high one first. -/
theorem test_pointer : ran (exec (.twoWireWrite [0x28, 0x40]) up)
    (fun t => t.twb.ptr == 0x2840 && bitsAt (t.st Reg.TWB_TARGET_STAT) 0 16 == 1) = true := by decide

/-- R379: a freeze waits for the write in progress. -/
theorem test_freeze_waits : ran (exec .peatFreeze { up with peat := { writing := some none } })
    (fun t => t.peat.freezePending && !t.peat.frozen) = true := by decide

/-- R44: a thermal shutdown keeps what a direction resumes to. -/
theorem test_shutdown : ran (exec (.thermalShutdown true) { air with therm := { hotReads := [(5, 2)] } })
    (fun t => t.power == .shutdown && t.dirSt .ul == .shutdown && (t.dirRec .ul).resume == .cautious) = true := by decide

/-- R426, R276: 99 ns on RESET_N pass unseen; 100 ns take the device to OFF, in SLEEP 1 ms. -/
theorem test_reset_unseen : ran (exec (.resetNLow 99 false) up) (fun t => t.power == .up && !t.lev.resetLow) = true := by decide
theorem test_reset_sleep : ran (exec (.resetNLow 999999 false) { power := .sleep }) (fun t => t.power == .sleep && t.sys.shortLow) = true := by decide

/-- R273: both directions in STANDBY, the entry to SLEEP begins. -/
theorem test_sleep : ran (exec (.requestSleep 3 9) up)
    (fun t => t.sys.entering.isSome && t.mram.inFlight.isSome && t.power == .up) = true := by decide

/-- R409: the link trains as wide and as fast as LINK_CFG at reset lets it. -/
theorem test_link : ran (exec (.pcieLinkUp 4 4) { up with pcie := { perst := false } })
    (fun t => t.pcie.up && t.pcie.gen == 4 && t.pcie.width == 4 && total t 5 1 == 0) = true := by decide

/-- R271: an active look in hold-off is ignored. -/
theorem test_look_ignored : ran (exec (.lichenLook 3 0 true) { (up.wr (Reg.LICHEN_RX_CFG 3) 1) with power := .sleep, lichen := { holdoff := true } })
    (fun t => total t 10 9 == 1 && t.power == .sleep && bitsAt (t.st Reg.LICHEN_IGNORED) 24 8 == 1) = true := by decide

/-! ### Sample paths (values of the manual's tables and worked examples) -/

open Signal in
/-- R134: the chain delays of the table, put together from the filters of R135 and the CIC. -/
theorem test_chain_delay : [2, 3, 4, 5, 6, 7, 8, 9].map chainDelayOf = [137, 257, 493, 960, 1894, 3762, 7498, 14970] := by decide

open Signal in
/-- R136's worked example: the register wraps, the comb gives the exact sum, and the output is 524,272. -/
theorem test_cic : (2199022255552 + 1048544 : CicReg).toInt = -2199023207008 ∧
    (cicComb [2199022255552] (2199022255552 + 1048544)).2 = 1048544 ∧ cicOut 5 1099478073344 = 524272 := by decide

open Signal in
/-- R155: a[0] to a[22] are 1, and the recurrence holds where it is reached by jump-ahead. -/
theorem test_mseq : (List.range 23).all (fun j => mseq .dl j == 1 && mseq .ul j == 1) = true ∧ mseq .dl 23 = 0 ∧
    [5, 4000018, 8388580].all (fun j => mseq .dl (j + 23) == (mseq .dl (j + 18) ^^^ mseq .dl j) &&
      mseq .ul (j + 23) == (mseq .ul (j + 5) ^^^ mseq .ul j)) = true := by decide

open Signal in
/-- R113, R114: a clipped sample and the three after it carry OVR, and a wrong parity reads as code 0 with OVR. -/
theorem test_sample_over_range : (([true, false, false, false, false].foldl (fun (a : Episode × List Bool) c =>
      ((a.1.sample c).1, a.2 ++ [(a.1.sample c).2.1])) ({}, [])).2) = [true, true, true, true, false] ∧
    rxSample (fifoWord (-8192) true) = (-8192, true) ∧ rxSample (fifoWord 5 false + 2) = (0, true) := by decide

open Signal in
/-- R145, R146: 0 dB is (1.0, 0); the last sample of a tick has the new gain. -/
theorem test_gain : gainPair (2 ^ 17) 0 0 = true ∧ gainPair (2 ^ 17) 0 40 = false ∧ gainMul 64 (2 ^ 17) 0 = 1 ∧
    Ramp.at_ { goal := 100, stop := 191 } 191 = 100 * 2 ^ 24 ∧ Ramp.at_ { goal := 96, stop := 191 } 95 = 48 * 2 ^ 24 := by decide

/-! ### Encodings and well-formedness -/

/-- The table gives no row any bits. -/
theorem test_no_word : decodeTableWord 32 0 = none := by decide

/-- Well-formed commands. -/
theorem test_wf : Instr.wf (.vinValid {}) = true ∧ Instr.wf (.faultDetected [{ event := 1023, unit := some 255 }]) = true ∧
    Instr.wf (.hkConversionEnd .a { v := -1, vref := 1 }) = true ∧
      Instr.wf (.bar0Read { addr := 2 ^ 34 - 4, len := 4 }) = true ∧
    Instr.wf (.pcieLinkUp 4 4) = true := by decide

/-- One ill-formed term for each check. -/
theorem test_wf_refuses : Instr.wf (.vinValid { lockC := some 2001 }) = false ∧ Instr.wf (.vinValid { lockUe := [128] }) = false ∧
    Instr.wf (.resetNRelease { lockC := some 2001 }) = false ∧ Instr.wf (.resetNRelease { lockUe := [128] }) = false ∧
    Instr.wf (.faultDetected [{ event := 1024 }]) = false ∧ Instr.wf (.faultDetected [{ event := 0, unit := some 256 }]) = false ∧
    Instr.wf (.lockPageScrub { corr := [128] }) = false ∧ Instr.wf (.lockPageScrub { ue := [128] }) = false ∧
    Instr.wf (.hkConversionEnd .a { v := 0, vref := 0 }) = false ∧ Instr.wf (.hkCrossCheck { v := 0, vref := 0 } { v := 0 } true) = false ∧
    Instr.wf (.hkCrossCheck { v := 0 } { v := 0, vref := 0 } true) = false ∧
    Instr.wf (.bar0Read { addr := 2 ^ 34, len := 1 }) = false ∧ Instr.wf (.bar0Write { addr := 2 ^ 34, data := [0] }) = false ∧
    Instr.wf (.pcieLinkUp 5 4) = false ∧ Instr.wf (.pcieLinkUp 0 4) = false ∧ Instr.wf (.pcieLinkUp 4 3) = false ∧
    Instr.wf (.loopTick { mTick := 65 }) = false ∧ Instr.wf (.loopTick { occ := [65] }) = false ∧
    Instr.wf (.correlatorBlockEnd 0 { k := 1, paths := [{ path := 0, h := List.replicate 129 (0, 0), pe := 0, pp := 0 }] }) = false := by
  decide

end Sys2Proof.Tests
end

section
/-! SUPPORT. Laws of register fields: the bits of a field read and written, and what a status register's field reads after a write. -/

namespace Sys2Proof.Machine

/-- A number in three parts: what lies below a field, the field, and what lies above it. -/
theorem putBits_eq (n lo len v : Nat) :
    putBits n lo len v = 2 ^ lo * (2 ^ len * (n / 2 ^ lo / 2 ^ len) + v % 2 ^ len) + n % 2 ^ lo := by
  have hn : n = 2 ^ lo * (2 ^ len * (n / 2 ^ lo / 2 ^ len) + n / 2 ^ lo % 2 ^ len) + n % 2 ^ lo := by
    rw [Nat.div_add_mod, Nat.div_add_mod]
  unfold putBits bitsAt
  have h : n - n / 2 ^ lo % 2 ^ len * 2 ^ lo = 2 ^ lo * (2 ^ len * (n / 2 ^ lo / 2 ^ len)) + n % 2 ^ lo :=
    Nat.sub_eq_of_eq_add (by rw [mul_add] at hn; rw [mul_comm (n / 2 ^ lo % 2 ^ len)]; omega)
  rw [h]; ring

theorem testBit_putBits (n lo len v i : Nat) :
    (putBits n lo len v).testBit i = if lo ≤ i ∧ i < lo + len then v.testBit (i - lo) else n.testBit i := by
  rw [putBits_eq, Nat.testBit_two_pow_mul_add _ (Nat.mod_lt _ (Nat.two_pow_pos lo)), Nat.testBit_mod_two_pow]
  by_cases hlo : i < lo
  · simp [hlo, Nat.not_le.mpr hlo]
  · rw [if_neg hlo, Nat.testBit_two_pow_mul_add _ (Nat.mod_lt _ (Nat.two_pow_pos len)), Nat.testBit_mod_two_pow]
    by_cases hlen : i - lo < len
    · simp [hlen, show lo ≤ i ∧ i < lo + len by omega]
    · have hi : lo + (len + (i - lo - len)) = i := by omega
      simp [hlen, show ¬(lo ≤ i ∧ i < lo + len) by omega, Nat.testBit_div_two_pow, hi, Nat.add_comm]

theorem testBit_bitsAt (n lo len i : Nat) : (bitsAt n lo len).testBit i = (decide (i < len) && n.testBit (lo + i)) := by
  rw [bitsAt, Nat.testBit_mod_two_pow, Nat.testBit_div_two_pow, Nat.add_comm]

theorem bitAt_eq_testBit (n i : Nat) : bitAt n i = n.testBit i := by
  rw [bitAt, Nat.testBit_eq_decide_div_mod_eq]

theorem bitAt_toNat {w : Nat} (v : BitVec w) (i : Nat) : bitAt v.toNat i = v.getLsbD i := by
  rw [bitAt_eq_testBit, BitVec.getLsbD]

/-- A field after a write of it. -/
theorem bitsAt_putBits_same (n lo len v : Nat) : bitsAt (putBits n lo len v) lo len = v % 2 ^ len := by
  refine Nat.eq_of_testBit_eq fun i => ?_
  rw [testBit_bitsAt, testBit_putBits, Nat.testBit_mod_two_pow]
  by_cases hi : i < len <;> simp [hi]

/-- A field after a write of another. -/
theorem bitsAt_putBits_disjoint (n v : Nat) {lo len lo' len' : Nat} (h : lo' + len' ≤ lo ∨ lo + len ≤ lo') :
    bitsAt (putBits n lo len v) lo' len' = bitsAt n lo' len' := by
  refine Nat.eq_of_testBit_eq fun i => ?_
  rw [testBit_bitsAt, testBit_putBits, testBit_bitsAt]
  by_cases hi : i < len'
  · rw [if_neg (by omega)]
  · simp [hi]

/-- A field of a 32-bit register lies below bit 32. -/
theorem bitsAt_mod_word (n : Nat) {lo len : Nat} (h : lo + len ≤ 32) : bitsAt (n % 2 ^ 32) lo len = bitsAt n lo len := by
  refine Nat.eq_of_testBit_eq fun i => ?_
  rw [testBit_bitsAt, testBit_bitsAt, Nat.testBit_mod_two_pow]
  by_cases hi : i < len
  · simp [show lo + i < 32 by omega]
  · simp [hi]

theorem satAdd_le (top n k : Nat) : satAdd top n k ≤ top := by
  unfold satAdd; split <;> omega

/-! ### Fields of status registers -/

theorem stF_setStF_same (s : State) (a v : Nat) {lo len : Nat} (h : lo + len ≤ 32) :
    (s.setStF a lo len v).stF a lo len = v % 2 ^ len := by
  rw [State.stF, State.setStF, st_setSt_same, bitsAt_mod_word _ h, bitsAt_putBits_same]

theorem stF_setStF_disjoint (s : State) (a v : Nat) {lo len lo' len' : Nat} (h32 : lo' + len' ≤ 32)
    (h : lo' + len' ≤ lo ∨ lo + len ≤ lo') : (s.setStF a lo len v).stF a lo' len' = s.stF a lo' len' := by
  rw [State.stF, State.setStF, st_setSt_same, bitsAt_mod_word _ h32, bitsAt_putBits_disjoint _ _ h, State.stF]

theorem st_setStF_ne (s : State) (lo len v : Nat) {a a' : Nat} (h : a' ≠ a) : (s.setStF a lo len v).st a' = s.st a' :=
  st_setSt_ne s _ h

theorem stF_bumpF_same (s : State) (a k : Nat) {lo w : Nat} (h : lo + w ≤ 32) :
    (s.bumpF a lo w k).stF a lo w = satAdd (2 ^ w - 1) (s.stF a lo w) k := by
  have hle := satAdd_le (2 ^ w - 1) (s.stF a lo w) k
  have hpos := Nat.two_pow_pos w
  rw [State.bumpF, stF_setStF_same s a _ h, Nat.mod_eq_of_lt (by omega)]

theorem st_bumpF_ne (s : State) (lo w k : Nat) {a a' : Nat} (h : a' ≠ a) : (s.bumpF a lo w k).st a' = s.st a' :=
  st_setStF_ne s _ _ _ h

/-- What a state's parts say of its status registers. -/
theorem st_of_sts {s t : State} (h : t.sts = s.sts) (a : Nat) : t.st a = s.st a := by rw [State.st, State.st, h]

theorem stF_of_st {s t : State} {a : Nat} (h : t.st a = s.st a) (lo len : Nat) : t.stF a lo len = s.stF a lo len := by
  rw [State.stF, State.stF, h]

end Sys2Proof.Machine
end

section
/-! SUPPORT. CORE's commands (R28–R30): what a break of the capture streams and a realignment change, and the statement about the clock
commands. -/

namespace Sys2Proof.Machine

/-- A fold keeps what each of its steps keeps. -/
theorem foldl_keeps {σ α β : Type} (p : σ → β) (l : List α) (f : σ → α → σ) (h : ∀ s a, p (f s a) = p s) (s : σ) :
    p (l.foldl f s) = p s := by
  induction l generalizing s with
  | nil => rfl
  | cons a l ih => rw [List.foldl_cons, ih, h]

/-! ### Realignment (R29) -/

/-- The state but for the Bog. -/
def State.offBog (s : State) : State := { s with bog := {} }

theorem offBog_bog (s : State) (b : BogState) : State.offBog { s with bog := b } = s.offBog := rfl

theorem eq_withBog_of_offBog {s t : State} (h : t.offBog = s.offBog) : t = { s with bog := t.bog } := by
  have h' := congrArg (fun x : State => { x with bog := t.bog }) h
  exact h'

theorem regStream_offBog (s : State) (n t : Nat) : (s.regStream n t).offBog = s.offBog := by
  unfold State.regStream; extract_lets r k
  split
  · rfl
  · split <;> exact offBog_bog s _

theorem breakStreams_offBog (s : State) (lost : Bool) (p : Nat → Bool) : (s.breakStreams lost p).offBog = s.offBog := by
  unfold State.breakStreams
  refine foldl_keeps State.offBog _ _ (fun s n => ?_) s
  dsimp only
  split
  · exact (offBog_bog _ _).trans (regStream_offBog s n s.now)
  · rfl

theorem markFlagged_offBog (s : State) (l : Nat) : (s.markFlagged l).offBog = s.offBog := offBog_bog s _

/-- A break of a direction's streams and the mark of its lanes change the Bog alone. -/
theorem breakAndMark_bog (s : State) (d : Dir) (p : Nat → Bool) :
    ∃ b, (s.breakStreams false p).markDir d = { s with bog := b } :=
  ⟨_, eq_withBog_of_offBog ((markFlagged_offBog _ _).trans ((markFlagged_offBog _ _).trans (breakStreams_offBog s false p)))⟩

/-- A realignment of a running direction that is not realigning breaks its streams, marks them, and counts one realignment. -/
theorem realignStart_of_running (s : State) (d : Dir) (hrun : (s.dirRec d).running = true) (hre : (s.dirRec d).realign = false) :
    ∃ b, s.realignStart d =
      ({ s with bog := b }.setDir d { s.dirRec d with realign := true, realignDue := false }).bumpF Reg.CORE_ALIGN_COUNT (16 * d.num) 16 1 := by
  obtain ⟨b, hb⟩ := breakAndMark_bog s d (fun n => s.regDir n = d)
  refine ⟨b, ?_⟩
  have hidle : (!(s.dirRec d).running || (s.dirRec d).realign) = false := by simp [hrun, hre]
  simp only [State.realignStart, hidle, hb, Bool.false_eq_true, if_false]
  cases d <;> rfl

/-- A second cause merges into a running realignment. -/
theorem realignStart_of_realigning (s : State) (d : Dir) (hre : (s.dirRec d).realign = true) : s.realignStart d = s := by
  unfold State.realignStart; simp [hre]

/-- A FIFO's event of CORE source n in direction d, and the realignment that it gives rise to (R29, R30). -/
def Realigns (d : Dir) (n : Nat) (s t : State) : Prop :=
  Counts 23 n s t ∧ t.dirRec d = { s.dirRec d with realign := true, realignDue := (t.dirRec d).realignDue } ∧
  t.dirRec d.other = s.dirRec d.other ∧
  t.stF Reg.CORE_ALIGN_COUNT (16 * d.num) 16 =
    (if (s.dirRec d).realign = true then s.stF Reg.CORE_ALIGN_COUNT (16 * d.num) 16
     else satAdd 65535 (s.stF Reg.CORE_ALIGN_COUNT (16 * d.num) 16) 1) ∧
  t = { s with sys := { s.sys with dl := t.sys.dl, ul := t.sys.ul }, sts := t.sts, flt := t.flt, twb := t.twb, peat := t.peat
               mram := t.mram, bog := t.bog, free := t.free } ∧
  ∀ a, a ≠ Reg.CORE_ALIGN_COUNT → t.st a = s.st a

/-- An event of a block whose events no other block suppresses, in a state whose fault state is that of s. -/
theorem raise_counts_of_flt {s x : State} (b n : Nat) (u : Option Nat) (hc : ¬chained (32 * b + n)) (hb : b ∉ [5, 7, 8, 19])
    (h : x.flt = s.flt) : Counts b n s (x.raise b n u) := by
  simp only [List.mem_cons, List.not_mem_nil, or_false, not_or] at hb
  obtain ⟨h5, h7, h8, h19⟩ := hb
  have hcount := raise_counts x b n u hc (suppressed_other _ _ _ _ h19 h5 h7 h8)
  rwa [Counts, h] at hcount

theorem raise_counts_core {s x : State} (n : Nat) (u : Option Nat) (hn : n < 32) (h : x.flt = s.flt) : Counts 23 n s (x.raise 23 n u) :=
  raise_counts_of_flt 23 n u (by unfold chained; omega) (by decide) h

theorem fifoFault_realigns (s : State) (d : Dir) (u : Nat) (hu : u < 32) (hup : s.isUp = true)
    (hrun : (s.dirRec d).running = true) (hout : s.isOut 23 u = false) : Realigns d u s (s.fifoFault d u) := by
  have hf : s.fifoFault d u = (s.raise 23 u (some u)).realignStart d := by simp [State.fifoFault, hup, hrun, hout]
  have hc := raise_counts_core u (some u) hu (rfl : s.flt = s.flt)
  have hd : ∀ e, (s.raise 23 u (some u)).dirRec e = s.dirRec e := fun e => rfl
  rw [hf]
  cases hre : (s.dirRec d).realign with
  | true =>
    rw [realignStart_of_realigning (s.raise 23 u (some u)) d hre]
    refine ⟨hc, ?_, rfl, ?_, rfl, fun a _ => rfl⟩
    · rw [hd, ← hre]
    · rw [if_pos hre]; rfl
  | false =>
    obtain ⟨b, hb⟩ := realignStart_of_running (s.raise 23 u (some u)) d hrun hre
    rw [hb]
    refine ⟨?_, ?_, ?_, ?_, ?_, ?_⟩
    · cases d <;> exact hc
    · cases d <;> rfl
    · cases d <;> rfl
    · rw [stF_bumpF_same _ _ _ (by cases d <;> decide), hre]
      cases d <;> rfl
    · cases d <;> rfl
    · intro a ha
      rw [st_bumpF_ne _ _ _ _ ha]
      cases d <;> rfl

/-! ### The other commands (R28–R30) -/

@[simp] theorem setVcore_loop (s : State) (q : Nat) : (s.setVcore q).loop = { s.loop with cmdFrac := q % 65536 } := rfl

@[simp] theorem setVcore_flt (s : State) (q : Nat) : (s.setVcore q).flt = s.flt := rfl

theorem st_setVcore_ne (s : State) (q : Nat) {a : Nat} (h : a ≠ Reg.LOOP_VCORE_STAT) : (s.setVcore q).st a = s.st a :=
  st_setStF_ne _ _ _ _ h

theorem vcoreCmd_setVcore (s : State) (q : Nat) : (s.setVcore q).vcoreCmd = q / 65536 % 2 ^ 12 :=
  stF_setStF_same _ _ _ (by decide)

theorem raise_vcoreCmd (s : State) (b n : Nat) (u : Option Nat) : (s.raise b n u).vcoreCmd = s.vcoreCmd := rfl

theorem setVcore_onlyStatus (s : State) (l : LoopState) (q : Nat) :
    OnlyStatus [Reg.LOOP_VCORE_STAT] s { State.setVcore { s with loop := l } q with loop := s.loop } :=
  ⟨rfl, fun _ ha => st_setVcore_ne { s with loop := l } q (by simpa using ha)⟩

/-- Nothing but a status register has changed where it alone was written. -/
theorem setSt_onlyStatus (s : State) (a n : Nat) : OnlyStatus [a] s (s.setSt a n) :=
  ⟨rfl, fun b hb => st_setSt_ne s n (by simpa using hb)⟩

theorem onlyStatus_refl (A : List Nat) (s : State) : OnlyStatus A s s := ⟨rfl, fun _ _ => rfl⟩

/-- An event after a change of status registers and of the loop engine's part. -/
theorem raise_onlyStatusCounts {A : List Nat} {s t : State} (b n : Nat) (u : Option Nat) (h : OnlyStatus A s { t with loop := s.loop }) :
    OnlyStatusCounts A s { t.raise b n u with loop := s.loop } := by
  obtain ⟨heq, hst⟩ := h
  have hfix : t.fx.fixed = s.fx.fixed := by
    have h := congrArg (fun x : State => x.fx.fixed) heq
    exact h
  refine ⟨?_, countParts_of_fixed ((raiseEvs_fixed t _).trans hfix), hst⟩
  exact congrArg (fun x : State => { x with
    flt := (t.raise b n u).flt, twb := (t.raise b n u).twb, peat := (t.raise b n u).peat
    mram := (t.raise b n u).mram, bog := (t.raise b n u).bog }) heq

theorem marginClr_clears (v : Word) (s : State) (hup : s.isUp = true) :
    OnlyStatus [Reg.CORE_MARGIN_MIN] s (marginClr v s) ∧
      (marginClr v s).st Reg.CORE_MARGIN_MIN = if v.getLsbD 0 then s.deviceMargin % 128 else s.st Reg.CORE_MARGIN_MIN := by
  have hr : s.regsUp = true := by simp [State.regsUp, hup]
  cases hv : v.getLsbD 0 with
  | true =>
    have hm : marginClr v s = s.setSt Reg.CORE_MARGIN_MIN (s.deviceMargin % 128) := by
      simp only [marginClr, State.ifUp, hr, bitAt_toNat, hv, if_true]
    rw [hm]
    exact ⟨setSt_onlyStatus s _ _, by rw [st_setSt_same, if_pos rfl]; omega⟩
  | false =>
    have hm : marginClr v s = s := by simp only [marginClr, State.ifUp, hr, bitAt_toNat, hv, if_false, ite_self, Bool.false_eq_true]
    rw [hm]
    exact ⟨onlyStatus_refl _ s, by simp⟩

theorem vcoreUpdateTimeout_holds (s : State) (hup : s.isUp = true) :
    Counts 23 25 s (vcoreUpdateTimeout s) ∧ (vcoreUpdateTimeout s).loop = { s.loop with hold085 := true, cmdFrac := 0 } ∧
      (vcoreUpdateTimeout s).vcoreCmd = 850 ∧
      OnlyStatusCounts [Reg.LOOP_VCORE_STAT] s { vcoreUpdateTimeout s with loop := s.loop } := by
  have hr : s.regsUp = true := by simp [State.regsUp, hup]
  have hm : vcoreUpdateTimeout s = ({ s with loop := { s.loop with hold085 := true } }.setVcore vcoreTop).raise 23 25 := by
    simp [vcoreUpdateTimeout, State.ifUp, hr]
  rw [hm]
  refine ⟨raise_counts_core 25 none (by decide) (setVcore_flt _ _), ?_, ?_, ?_⟩
  · rw [raise_loop, setVcore_loop, show vcoreTop % 65536 = 0 by decide]
  · rw [raise_vcoreCmd, vcoreCmd_setVcore]; decide
  · exact raise_onlyStatusCounts 23 25 none (setVcore_onlyStatus s _ _)

end Sys2Proof.Machine

open Sys2Proof Sys2Proof.Machine

/-- Settles O25: a FIFO's event counts and starts a realignment or merges into a running one; each other command by its own lemma. -/
theorem clockCommands : Obligations.ClockCommands := by
  unfold Obligations.ClockCommands
  refine ⟨fun s l hup hrun => ⟨fun hout => ⟨_, rfl, ?_⟩, fun hout => ⟨_, rfl, ?_⟩⟩, fun s d hup =>
    ⟨⟨_, rfl, ?_⟩, fun hrun => ⟨_, rfl, ?_⟩, ⟨_, rfl, ?_⟩, ⟨_, rfl, vcoreUpdateTimeout_holds s hup⟩,
      fun v => ⟨_, rfl, marginClr_clears v s hup⟩⟩⟩
  · exact fifoFault_realigns s (laneDir l) l (by omega) hup hrun hout
  · exact fifoFault_realigns s (laneDir l) (4 + l) (by omega) hup hrun hout
  · refine ⟨dirRec_setDir_same s d _, ?_, ?_⟩ <;> cases d <;> rfl
  · have hr : (s.sys.dl.running || s.sys.ul.running) = true := by cases d <;> simp_all [State.dirRec]
    have hm : marginLowTimeout s = s.raise 23 8 := by simp [marginLowTimeout, State.raiseIf, hup, hr]
    rw [hm]
    exact ⟨raise_counts_core 8 none (by decide) rfl, raise_onlyCounts s 23 8 none⟩
  · have hm : stageStall d s = s.raise 23 20 (some (8 + d.num)) := by simp [stageStall, State.raiseIf, hup]
    rw [hm]
    exact ⟨raise_counts_core 20 _ (by decide) rfl, raise_onlyCounts s 23 20 _⟩
end

section
/-! SUPPORT. The end of an MRAM write (R36): what events that name no unit leave of the recorder, what the commit of a record comes to,
and the statement about MRAM_WRITE_COMPLETE. -/

namespace Sys2Proof.Machine

/-! ### Events that name no unit -/

/-- The recorder but for its open interval. -/
def PeatState.closed (p : PeatState) : PeatState := { p with openI := {} }

theorem enqueue_closed (s : State) (x : Fx) (b src cls total : Nat) (inj : Bool) :
    (enqueue s x b src cls total inj).1.peat.closed = x.peat.closed := by
  unfold enqueue; split
  · rfl
  · dsimp only; split
    · rfl
    · split <;> rfl

/-- The events that queueing a message counts, TWB sources 2 and 12, name no unit. -/
theorem namedUnit_of_twb {b n : Nat} (u : Option Nat) (h : 32 * b + n = 130 ∨ 32 * b + n = 140) : namedUnit b n u = none := by
  have hb : b ≤ 4 := by omega
  have hs : sourceUnits b n = [] := by
    have hn : n = 130 - 32 * b ∨ n = 140 - 32 * b := by omega
    rcases hn with rfl | rfl <;> interval_cases b <;> rfl
  simp [namedUnit, hs]

/-- The parts y and the events after it: the recorder as in x but for its open interval, and no event that names a unit. -/
def Unitless (x : Fx) (y : Fx × List Ev) : Prop :=
  y.1.peat.closed = x.peat.closed ∧ ∀ e ∈ y.2, namedUnit e.blk e.src e.unit = none

theorem enqueue_unitless (s : State) {x y : Fx} (b src cls total : Nat) (inj : Bool) (h : y.peat.closed = x.peat.closed) :
    Unitless x (enqueue s y b src cls total inj) :=
  ⟨(enqueue_closed s y b src cls total inj).trans h, fun e he => namedUnit_of_twb e.unit (enqueue_events s y b src cls total inj e he)⟩

/-- An event that names no unit retires none, so the recorder closes no interval for it. -/
theorem countOne_unitless (s : State) (x : Fx) (e : Ev) (hu : namedUnit e.blk e.src e.unit = none) : Unitless x (countOne s x e) := by
  unfold countOne
  simp only [hu, countUnit]
  split
  · exact ⟨rfl, by simp⟩
  · simp only [Bool.false_eq_true, if_false, List.append_nil]
    split
    · exact enqueue_unitless s _ _ _ _ _ rfl
    · split
      · exact enqueue_unitless s _ _ _ _ _ rfl
      · exact ⟨rfl, by simp⟩

theorem countAll_closed (s : State) (k : Nat) (x : Fx) (es : List Ev) (hes : ∀ e ∈ es, namedUnit e.blk e.src e.unit = none) :
    (countAll s k x es).peat.closed = x.peat.closed := by
  induction k generalizing x es with
  | zero => rfl
  | succ k ih =>
    cases es with
    | nil => rfl
    | cons e t =>
      obtain ⟨hx, hmore⟩ := countOne_unitless s x e (hes e (by simp))
      simp only [countAll]
      rw [ih _ _ fun e' he' => (List.mem_append.mp he').elim (fun h => hes e' (by simp [h])) (hmore e'), hx]

theorem raiseEvs_closed (s : State) (es : List Ev) (hes : ∀ e ∈ es, namedUnit e.blk e.src e.unit = none) :
    (s.raiseEvs es).peat.closed = s.peat.closed := countAll_closed s _ _ es hes

/-! ### The commit of a record (R375, R376) -/

theorem Rec.drain_of_nothing_due {c : Rec} (hh : c.p.hold = []) (hp : c.p.pend = []) : c.drain = c := by
  unfold Rec.drain; simp only [hh, hp]; split <;> rfl

/-- A record that has a place stands there; PEAT sources 10 and 11 may count. -/
theorem Rec.store_of_place {c : Rec} {r : PeatRec} {i : Nat} (h : c.p.place r = some i) :
    (c.store r).p.slots = NMap.put (fun _ => {}) c.p.slots i r ∧ (c.store r).p.newest = some i ∧
      (c.store r).p.hold = c.p.hold ∧ (c.store r).p.pend = c.p.pend ∧ ∀ n ∈ (c.store r).counts, n ∈ c.counts ∨ n = 10 ∨ n = 11 := by
  simp only [Rec.store, h]
  refine ⟨trivial, trivial, trivial, trivial, fun n hn => ?_⟩
  simp only [List.mem_append, List.mem_ite_nil_right, List.mem_singleton] at hn
  tauto

/-- The last codeword of a commit with nothing else due: the record stands, and nothing is being written. -/
theorem Rec.complete_of_place {c : Rec} {r : PeatRec} {i : Nat} (hw : c.p.writing = some (some r)) (hi : c.p.place r = some i)
    (hh : c.p.hold = []) (hp : c.p.pend = []) :
    c.complete.p.slots = NMap.put (fun _ => {}) c.p.slots i r ∧ c.complete.p.newest = some i ∧ c.complete.p.writing = none ∧
      ∀ n ∈ c.complete.counts, n ∈ c.counts ∨ n = 10 ∨ n = 11 := by
  obtain ⟨hslots, hnew, hhold, hpend, hcounts⟩ := Rec.store_of_place hi
  simp only [Rec.complete, hw]
  rw [Rec.drain_of_nothing_due (by exact hhold.trans hh) (by exact hpend.trans hp)]
  exact ⟨hslots, hnew, rfl, hcounts⟩

/-- The last codeword of a record, as the state shows it: PEAT sources 10 and 11, which may count, name no unit. -/
theorem commit_of_record (s : State) {r : PeatRec} {i : Nat} (hleft : s.peat.left ≤ 1) (hw : s.peat.writing = some (some r))
    (hi : s.peat.place r = some i) (hh : s.peat.hold = []) (hp : s.peat.pend = []) :
    (s.recorder Rec.codeword).peat.slot i = r ∧ (s.recorder Rec.codeword).peat.newest = some i ∧
      (s.recorder Rec.codeword).peat.writing = none ∧
      ∀ j, j ≠ i → (s.recorder Rec.codeword).peat.slot j = s.peat.slot j := by
  let c : Rec := { p := s.peat, m := s.mram }
  have hc : Rec.codeword c = c.complete := by simp [Rec.codeword, c, Nat.not_lt.mpr hleft]
  obtain ⟨hslots, hnew, hnone, hcounts⟩ := Rec.complete_of_place (c := c) hw hi hh hp
  have hclosed : (s.recorder Rec.codeword).peat.closed = c.complete.p.closed := by
    rw [State.recorder, hc]
    refine raiseEvs_closed _ _ fun e he => ?_
    obtain ⟨n, hn, rfl⟩ := List.mem_map.mp he
    rcases hcounts n hn with h | rfl | rfl
    · simp [c] at h
    · rfl
    · rfl
  have hs : (s.recorder Rec.codeword).peat.slots = NMap.put (fun _ => {}) s.peat.slots i r :=
    (congrArg PeatState.slots hclosed).trans hslots
  refine ⟨?_, (congrArg PeatState.newest hclosed).trans hnew, (congrArg PeatState.writing hclosed).trans hnone, fun j hj => ?_⟩
  · rw [PeatState.slot, hs, NMap.get_put_same]
  · rw [PeatState.slot, hs, NMap.get_put_ne _ _ _ hj, PeatState.slot]

/-- A codeword of a record that is not its last: the next one takes its place at the port (R36, R375). -/
theorem codeword_goes_on (s : State) (h : 1 < s.peat.left) :
    s.recorder Rec.codeword = { s with
      mram := { s.mram with queue := MramJob.peat.insert s.mram.queue }.next, peat := { s.peat with left := s.peat.left - 1 } } := by
  simp only [State.recorder, Rec.codeword, h, if_true]; rfl

/-! ### The other writes (R36) -/

/-- A bit set in a vector of flags. -/
theorem getLsbD_putBits_one {w : Nat} (v : BitVec w) (l k : Nat) (hl : l < w) :
    (BitVec.ofNat w (putBits v.toNat l 1 1)).getLsbD k = (v.getLsbD k || decide (k = l)) := by
  rw [BitVec.getLsbD_ofNat, testBit_putBits]
  by_cases hk : k = l
  · simp [hk, hl]
  · rw [if_neg (by omega)]
    by_cases hw : k < w <;> simp [hk, hw, BitVec.getLsbD] 
    exact Nat.testBit_lt_two_pow (lt_of_lt_of_le v.isLt (Nat.pow_le_pow_right (by decide) (by omega)))

theorem preloadStop_base (s : State) : s.preloadStop.base = s.base := by
  unfold State.preloadStop; split
  · rfl
  · rfl

/-- Step 3 of R273 powers the device down. -/
theorem powerDown_base (s : State) (h : s.sys.entering ≠ none) : s.powerDown.base = { s.base with power := .sleep } := by
  obtain ⟨⟨cause, no, tag⟩, he⟩ := Option.ne_none_iff_exists'.mp h
  have hb : ((((s.preloadStop).reqEnd no tag 2).record 2 1 3 cause).bump Reg.LICHEN_SLEEP_COUNT 1).base = s.base :=
    (bump_base _ _ _).trans ((record_base _ _ _ _ _).trans ((reqEnd_base _ _ _ _).trans (preloadStop_base s)))
  unfold State.powerDown
  rw [he]
  exact congrArg (fun b : Base => { b with power := .sleep }) hb

end Sys2Proof.Machine

open Sys2Proof Sys2Proof.Machine

/-- Settles O16, by the kind of the write in flight. -/
theorem mramWriteEnds : Obligations.MramWriteEnds := by
  unfold Obligations.MramWriteEnds
  intro s
  refine ⟨fun h => ⟨_, rfl, ?_⟩, fun h => ⟨_, rfl, ?_⟩, fun e h => ⟨_, rfl, ?_⟩, fun h => ⟨_, rfl, ?_⟩, fun l hl h => ⟨_, rfl, ?_⟩,
    fun h he => ⟨_, rfl, ?_⟩, fun h hleft => ⟨_, rfl, ?_⟩, fun r i h hleft hw hi hh hp => ⟨_, rfl, ?_⟩⟩ <;>
    simp only [mramWriteComplete, h]
  · rfl
  · rfl
  · rfl
  · refine ⟨?_, fun k => ?_⟩
    · simp only [State.saved, ConvState.save, hl, if_true]; rfl
    · simp only [State.saved, ConvState.save, hl, if_true]
      exact getLsbD_putBits_one _ l k hl
  · have hb := powerDown_base { s with mram := s.mram.next } he
    obtain ⟨hpower, -, hnow, hcfg, -⟩ := after_keeps s (State.powerDown { s with mram := s.mram.next })
    rw [hpower, hnow, hcfg]
    exact ⟨congrArg Base.power hb, congrArg Base.cfg hb, congrArg Base.now hb⟩
  · exact codeword_goes_on s hleft
  · obtain ⟨hsame, hnew, hnone, hrest⟩ := commit_of_record s hleft hw hi hh hp
    exact ⟨hsame, hnew, hnone, hrest, rfl⟩
end

section
/-! SUPPORT. What a network-protection mute leaves alone (R192, R193) beside what the end of an instant does: the loop engine, the
housekeeping converters, the count of all-late ticks, and the direction gates but for the mute itself. -/

namespace Sys2Proof.Machine

/-- The loop engine, the housekeeping converters, the governors' direction records, and LOOP source 12. -/
structure Aside where
  loop : LoopState
  hk : HkState
  govDl : GovDir
  govUl : GovDir
  allLate : Src

def State.aside (s : State) : Aside :=
  { loop := s.loop, hk := s.hk, govDl := s.govDl, govUl := s.govUl, allLate := s.flt.source 17 12 }

theorem raiseEvs_aside (s : State) (es : List Ev) (h : ∀ e ∈ es, 32 * 17 + 12 ≠ 32 * e.blk + e.src) :
    (s.raiseEvs es).aside = s.aside := by
  have hsrc : (s.raiseEvs es).flt.source 17 12 = s.flt.source 17 12 :=
    countAll_source_ne s _ s.fx es 17 12 h (by unfold chained; omega)
  simp only [State.aside, hsrc]; rfl

theorem raise_aside (s : State) (b n : Nat) (u : Option Nat) (h : 32 * 17 + 12 ≠ 32 * b + n) : (s.raise b n u).aside = s.aside :=
  raiseEvs_aside s _ (by simpa using h)

theorem raiseIf_aside (s : State) (c : Bool) (b n : Nat) (u : Option Nat) (h : 32 * 17 + 12 ≠ 32 * b + n) :
    (s.raiseIf c b n u).aside = s.aside := by
  cases c
  · rfl
  · exact raise_aside s b n u h

theorem peatClose_aside (s : State) (c d : Nat) : (s.peatClose c d).aside = s.aside := by
  refine (raiseEvs_aside _ _ fun e he => ?_).trans rfl
  have := Fx.peatClose_events s s.fx c d e he
  omega

theorem setDir_aside (s : State) (d : Dir) (r : DirRec) : (s.setDir d r).aside = s.aside := by cases d <;> rfl

theorem setPlaying_aside (s : State) (d : Dir) (p : Option Playing) : (s.setPlaying d p).aside = s.aside := by cases d <;> rfl

theorem reqEnd_aside (s : State) (no tag status : Nat) : (s.reqEnd no tag status).aside = s.aside := by
  unfold State.reqEnd; split
  · rfl
  · split
    · rfl
    · split <;> rfl

theorem dbOutcome_aside (s : State) (db : Option Nat) (result code : Nat) : (s.dbOutcome db result code).aside = s.aside := by
  cases db <;> rfl

theorem signal_aside (s : State) (v : Nat) : (s.signal v).aside = s.aside := by
  unfold State.signal; split
  · rfl
  · split
    · exact raise_aside _ 5 10 none (by decide)
    · split
      · exact raise_aside _ 5 10 none (by decide)
      · split <;> rfl

theorem patStop_aside (s : State) (d : Dir) : (s.patStop d).aside = s.aside := by
  unfold State.patStop; split
  · rfl
  · exact (signal_aside _ _).trans (setPlaying_aside s d none)

theorem abandonTrans_aside (s : State) (d : Dir) : (s.abandonTrans d).aside = s.aside := by
  unfold State.abandonTrans; split
  · rfl
  · dsimp only
    have hout : ∀ (r : DirRec) (t : Trans), (((s.setDir d r).reqEnd t.no t.tag 4).dbOutcome t.doorbell 5 0).aside = s.aside :=
      fun r t => (dbOutcome_aside _ _ _ _).trans ((reqEnd_aside _ _ _ _).trans (setDir_aside s d r))
    split
    · exact setDir_aside s d _
    · split
      · exact hout _ _
      · exact Eq.trans rfl (hout _ _)

theorem setEcho_aside (s : State) (d : Dir) (n : Nat) (r : EchoRec) : (s.setEcho d n r).aside = s.aside := rfl

theorem setGov_aside (s : State) (d : Dir) (g : Nat) (r : GovRec) : (s.setGov d g r).aside = s.aside := rfl

theorem record_aside (s : State) (fromCode toCode dir cause : Nat) : (s.record fromCode toCode dir cause).aside = s.aside := rfl

theorem echoHold_aside (s : State) (d : Dir) : (s.echoHold d).aside = s.aside :=
  foldl_keeps State.aside _ (fun s n => s.echoHoldSlot d n) (fun s n => setEcho_aside s d n _) s

theorem echoDiscard_aside (s : State) (d : Dir) : (s.echoDiscard d).aside = s.aside := by
  unfold State.echoDiscard
  exact foldl_keeps State.aside _ _ (fun s n => setEcho_aside s d n _) s

theorem capGovs_aside (s : State) (d : Dir) (gs : List Nat) : (gs.foldl (fun s g => s.capGov d g) s).aside = s.aside :=
  foldl_keeps State.aside _ _ (fun s g => setGov_aside s d g _) s

theorem toMuted_aside (s : State) (d : Dir) : (s.toMuted d).aside = s.aside := by
  have h : ((((s.abandonTrans d).patStop d).echoHold d)).aside = s.aside :=
    (echoHold_aside _ d).trans ((patStop_aside _ d).trans (abandonTrans_aside s d))
  unfold State.toMuted; dsimp only
  split
  · exact (setDir_aside _ d _).trans h
  · exact (record_aside _ _ _ _ _).trans ((setDir_aside _ d _).trans h)

theorem peatMute_aside (s : State) (b src u : Nat) : (s.peatMute b src u).aside = s.aside := (peatClose_aside _ _ _).trans rfl

theorem bothMuted_aside (s0 s : State) : (State.bothMuted s0 s).aside = s.aside := raiseIf_aside s _ 0 13 none (by decide)

theorem dirMuted_of_aside {s t : State} (h : t.aside = s.aside) (d : Dir) : t.dirMuted d = s.dirMuted d := by
  cases d
  · exact congrArg (fun a : Aside => a.govDl.mute.isSome) h
  · exact congrArg (fun a : Aside => a.govUl.mute.isSome) h

theorem govDir_of_aside {s t : State} (h : t.aside = s.aside) (d : Dir) : t.govDir d = s.govDir d := by
  cases d
  · exact congrArg Aside.govDl h
  · exact congrArg Aside.govUl h

theorem setGovDir_aside {s t : State} (h : t.aside = s.aside) (d : Dir) (g : GovDir) :
    (t.setGovDir d g).aside = (s.setGovDir d g).aside := by
  cases d
  · exact congrArg (fun a : Aside => { a with govDl := g }) h
  · exact congrArg (fun a : Aside => { a with govUl := g }) h

/-- LOOP source 12 is no source of the mutes. -/
theorem dirSource_ne_allLate (d : Dir) (c : MuteCause) : 32 * 17 + 12 ≠ 32 * (15 + d.num) + c.dirSource := by
  cases d <;> cases c <;> decide

/-- A mute of a direction: its mute and its count, where it is not muted already (R192, R194). -/
theorem muteDir_aside (s : State) (d : Dir) (c : MuteCause) : (s.muteDir d c).aside =
    if s.dirMuted d then s.aside
    else (s.setGovDir d { s.govDir d with mute := some c, count := satAdd 65535 (s.govDir d).count 1 }).aside := by
  have h1 := raise_aside s (15 + d.num) c.dirSource (some 16) (dirSource_ne_allLate d c)
  unfold State.muteDir
  extract_lets b s1 sOsc r s2 g s3 sCap s4
  have h2 : s2.aside = s.aside := by
    simp only [s2]
    split
    · exact (setDir_aside _ d _).trans ((echoDiscard_aside _ d).trans h1)
    · exact h1
  have h4 : s4.aside = s3.aside := by
    simp only [s4]
    split
    · exact (toMuted_aside _ d).trans (capGovs_aside s3 d _)
    · exact capGovs_aside s3 d _
  rw [dirMuted_of_aside h2]
  split
  · exact h2
  · rw [bothMuted_aside, peatMute_aside, h4, setGovDir_aside h2,
      show g = s.govDir d from govDir_of_aside h2 d]

/-- Which directions are muted after a mute. -/
theorem dirMuted_muteDir (s : State) (d e : Dir) (c : MuteCause) : (s.muteDir d c).dirMuted e = (s.dirMuted e || decide (e = d)) := by
  have h := muteDir_aside s d c
  split at h
  next hm =>
    rw [dirMuted_of_aside h]
    by_cases he : e = d <;> simp_all
  next =>
    rw [dirMuted_of_aside h, State.dirMuted, govDir_setGovDir]
    by_cases he : e = d <;> simp [he, State.dirMuted]

theorem muteDir_loop (s : State) (d : Dir) (c : MuteCause) : (s.muteDir d c).loop = s.loop := by
  have h := congrArg Aside.loop (muteDir_aside s d c)
  split at h
  · exact h
  · exact h.trans (setGovDir_loop s d _)

theorem muteDir_hk (s : State) (d : Dir) (c : MuteCause) : (s.muteDir d c).hk = s.hk := by
  have h := congrArg Aside.hk (muteDir_aside s d c)
  split at h
  · exact h
  · exact h.trans (setGovDir_hk s d _)

theorem muteDir_allLate (s : State) (d : Dir) (c : MuteCause) : (s.muteDir d c).flt.source 17 12 = s.flt.source 17 12 := by
  have h := congrArg Aside.allLate (muteDir_aside s d c)
  split at h
  · exact h
  · exact h.trans (by rw [State.aside, setGovDir_flt])

end Sys2Proof.Machine
end

section
/-! SUPPORT. The parts of a missed deadline (R206, R208): mutes that follow leave the loop engine and its registers alone, the laws
made late stay late, and LATE_COUNT and TIMING show it. -/

namespace Sys2Proof.Machine

/-! ### Mutes of slots, and mutes that follow as a direction comes to transmit (R35, R190) -/

theorem muteSlot_still (s : State) (d : Dir) (n : Nat) (c : MuteCause) : (s.muteSlot d n c).still = s.still := by
  unfold State.muteSlot; extract_lets g b s1 r s2 s3 s4 s5 s6
  have h6 : s6.still = s.still :=
    (peatMute_still s5 b g g).trans ((echoHoldSlot_still s4 d n).trans ((bumpF_still s3 _ _ _ _ (mem_gateCount d)).trans
      ((capGov_still s2 d g).trans ((setGov_still s1 d g _).trans (raise_still s b g _)))))
  split
  · exact raise_still s b g _
  · split
    · exact (bothMuted_still _ _).trans ((toMuted_still s6 d).trans h6)
    · exact h6

theorem donorMutes_still (s : State) (n : Nat) (struck : Bool) : (s.donorMutes n struck).still = s.still := by
  unfold State.donorMutes
  refine (foldl_keeps State.still _ _ (fun t m => ?_) _).trans ?_
  · split
    · exact muteSlot_still t .ul m _
    · rfl
  · split
    · exact muteSlot_still s .dl n _
    · rfl

theorem muteAgain_still (s : State) : s.muteAgain.still = s.still := by
  unfold State.muteAgain; extract_lets s1
  have h1 : s1.still = s.still := by
    refine foldl_keeps State.still _ _ (fun t n => ?_) s
    split
    · rfl
    · exact donorMutes_still t n false
  split
  · refine (foldl_keeps State.still _ _ (fun t d => ?_) s1).trans h1
    split
    · exact muteDir_still t d _
    · rfl
  · exact h1

/-- The loop engine and the housekeeping converters. -/
def State.engines (s : State) : LoopState × HkState := (s.loop, s.hk)

theorem engines_of_aside {s t : State} (h : t.aside = s.aside) : t.engines = s.engines :=
  congrArg (fun a : Aside => (a.loop, a.hk)) h

theorem muteDir_engines (s : State) (d : Dir) (c : MuteCause) : (s.muteDir d c).engines = s.engines :=
  Prod.ext (muteDir_loop s d c) (muteDir_hk s d c)

theorem raise_engines (s : State) (b n : Nat) (u : Option Nat) : (s.raise b n u).engines = s.engines := rfl

theorem bumpF_aside (s : State) (a lo w k : Nat) : (s.bumpF a lo w k).aside = s.aside := rfl

theorem muteSlot_engines (s : State) (d : Dir) (n : Nat) (c : MuteCause) : (s.muteSlot d n c).engines = s.engines := by
  unfold State.muteSlot; extract_lets g b s1 r s2 s3 s4 s5 s6
  have h1 : s1.engines = s.engines := raise_engines s b g _
  have h6 : s6.aside = s1.aside :=
    (peatMute_aside s5 b g g).trans ((setEcho_aside s4 d n _).trans ((bumpF_aside s3 _ _ _ _).trans
      ((setGov_aside s2 d g _).trans (setGov_aside s1 d g _))))
  split
  · exact h1
  · split
    · exact (engines_of_aside ((bothMuted_aside _ _).trans ((toMuted_aside s6 d).trans h6))).trans h1
    · exact (engines_of_aside h6).trans h1

theorem donorMutes_engines (s : State) (n : Nat) (struck : Bool) : (s.donorMutes n struck).engines = s.engines := by
  unfold State.donorMutes
  refine (foldl_keeps State.engines _ _ (fun t m => ?_) _).trans ?_
  · split
    · exact muteSlot_engines t .ul m _
    · rfl
  · split
    · exact muteSlot_engines s .dl n _
    · rfl

theorem muteAgain_engines (s : State) : s.muteAgain.engines = s.engines := by
  unfold State.muteAgain; extract_lets s1
  have h1 : s1.engines = s.engines := by
    refine foldl_keeps State.engines _ _ (fun t n => ?_) s
    split
    · rfl
    · exact donorMutes_engines t n false
  split
  · refine (foldl_keeps State.engines _ _ (fun t d => ?_) s1).trans h1
    split
    · exact muteDir_engines t d _
    · rfl
  · exact h1

/-- A register that the end of an instant does not write. -/
theorem st_of_still {s t : State} (h : t.still = s.still) {a : Nat} (ha : a ∉ instantRegs) : t.st a = s.st a := by
  have h' := congrArg (fun x => x.regs a) h
  simpa [State.still, ha] using h'

/-! ### Late laws (R208) -/

/-- The laws and the status registers. -/
def State.lawsSts (s : State) : NMap Law × RegFile := (s.loop.laws, s.sts)

theorem law_of_lawsSts {s t : State} (h : t.lawsSts = s.lawsSts) (j : Nat) : t.loop.law j = s.loop.law j :=
  congrArg (fun x : NMap Law × RegFile => NMap.get (fun _ => ({} : Law)) x.1 j) h

theorem st_of_lawsSts {s t : State} (h : t.lawsSts = s.lawsSts) (a : Nat) : t.st a = s.st a := st_of_sts (congrArg Prod.snd h) a

theorem raiseIf_lawsSts (s : State) (c : Bool) (b n : Nat) (u : Option Nat) : (s.raiseIf c b n u).lawsSts = s.lawsSts := by
  cases c <;> rfl

theorem lockActs_lawsSts (s : State) (item index who : Nat) : (s.lockActs item index who).lawsSts = s.lawsSts := by
  unfold State.lockActs; dsimp only; split <;> rfl

theorem selectNow_lawsSts (s : State) (d : Dir) (g : Nat) (was : Bool) : (s.selectNow d g was).lawsSts = s.lawsSts := by
  unfold State.selectNow; dsimp only
  split
  · exact (lockActs_lawsSts _ _ _ _).trans rfl
  · rfl

theorem setTrace_lawsSts (s : State) (u : Nat) (t : TraceUnit) (b : BogState) :
    State.lawsSts { s.setTrace u t with bog := b } = s.lawsSts := rfl

theorem traceAmend_lawsSts (s : State) : s.traceAmend.lawsSts = s.lawsSts := by
  unfold State.traceAmend
  refine foldl_keeps State.lawsSts _ _ (fun t u => ?_) s
  dsimp only
  split
  · split
    · exact setTrace_lawsSts t u _ _
    · rfl
  · rfl

theorem lateRaise_lawsSts (s : State) (late : List Nat) : (s.lateRaise late).lawsSts = s.lawsSts := by
  unfold State.lateRaise; simp only [raiseIf_lawsSts]

@[simp] theorem LoopState.law_setLaw_same (l : LoopState) (j : Nat) (x : Law) : (l.setLaw j x).law j = x := by
  simp [LoopState.law, LoopState.setLaw]

theorem LoopState.law_setLaw_ne (l : LoopState) (x : Law) {j k : Nat} (h : k ≠ j) : (l.setLaw j x).law k = l.law k := by
  simp [LoopState.law, LoopState.setLaw, NMap.get_put_ne _ _ _ h]

/-- The laws after one of them is made late: it alone changes, and it is late. -/
theorem makeLate_law (s : State) (j : Nat) : ((s.makeLate j).loop.law j).late = true ∧
    ∀ k, k ≠ j → (s.makeLate j).loop.law k = s.loop.law k := by
  unfold State.makeLate; extract_lets old x s1
  have h1 : (s1.loop.law j).late = true ∧ ∀ k, k ≠ j → s1.loop.law k = s.loop.law k :=
    ⟨by simp [s1], fun k hk => LoopState.law_setLaw_ne _ _ hk⟩
  split
  · exact h1
  · exact h1

theorem makeLate_st (s : State) (j : Nat) {a : Nat} (ha : a ≠ Reg.LOOP_VCORE_STAT) : (s.makeLate j).st a = s.st a := by
  unfold State.makeLate; extract_lets old x s1
  split
  · exact (st_setVcore_ne _ _ ha).trans rfl
  · rfl

theorem makeLate_keeps_late (s : State) (j k : Nat) (h : (s.loop.law k).late = true) : ((s.makeLate j).loop.law k).late = true := by
  obtain ⟨hj, hk⟩ := makeLate_law s j
  by_cases hkj : k = j
  · exact hkj ▸ hj
  · rw [hk k hkj]; exact h

/-- Every law of a list is late once each has been made late, and one that was late stays so. -/
theorem makeLates_late (js : List Nat) (s : State) :
    (∀ k, (s.loop.law k).late = true → ((js.foldl (fun s j => s.makeLate j) s).loop.law k).late = true) ∧
      ∀ j ∈ js, ((js.foldl (fun s j => s.makeLate j) s).loop.law j).late = true := by
  induction js generalizing s with
  | nil => exact ⟨fun _ h => h, by simp⟩
  | cons j js ih =>
    obtain ⟨hkeep, hjs⟩ := ih (s.makeLate j)
    refine ⟨fun k h => hkeep k (makeLate_keeps_late s j k h), fun k hk => ?_⟩
    rcases List.mem_cons.mp hk with rfl | hk
    · exact hkeep k (makeLate_law s k).1
    · exact hjs k hk

theorem makeLates_st (js : List Nat) (s : State) {a : Nat} (ha : a ≠ Reg.LOOP_VCORE_STAT) :
    (js.foldl (fun s j => s.makeLate j) s).st a = s.st a :=
  foldl_keeps (fun s => s.st a) _ _ (fun s j => makeLate_st s j ha) s

/-- LATE_COUNT counts one tick (R225). -/
theorem lateNote_count (s : State) (all : Bool) :
    (s.lateNote all).stF Reg.LOOP_LATE_COUNT 0 16 = satAdd 65535 (s.stF Reg.LOOP_LATE_COUNT 0 16) 1 := by
  unfold State.lateNote; extract_lets n s1
  rw [stF_setStF_disjoint _ _ _ (by decide) (by decide), stF_bumpF_same _ _ _ (by decide)]
  rfl

theorem lateNote_law (s : State) (all : Bool) (j : Nat) : (s.lateNote all).loop.law j = s.loop.law j := rfl

/-- A register of two halves that both read 65,535. -/
theorem st_of_halves (s : State) (a : Nat) (hlo : s.stF a 0 16 = 65535) (hhi : s.stF a 16 16 = 65535) : s.st a = 0xFFFFFFFF := by
  have hlt : s.st a < 2 ^ 32 := BitVec.isLt _
  simp only [State.stF, bitsAt] at hlo hhi
  omega

/-- TIMING after a tick that missed its deadline (R225). -/
theorem st_timing_late (s : State) :
    ((s.setStF Reg.LOOP_TIMING 0 16 65535).setStF Reg.LOOP_TIMING 16 16 65535).st Reg.LOOP_TIMING = 0xFFFFFFFF := by
  refine st_of_halves _ _ ?_ ?_
  · rw [stF_setStF_disjoint _ _ _ (by decide) (by decide), stF_setStF_same _ _ _ (by decide)]; rfl
  · rw [stF_setStF_same _ _ _ (by decide)]; rfl

end Sys2Proof.Machine
end

section
/-! SUPPORT. The loop engine's other commands: LOOP_DEADLINE (R206, R208), LOOP_ALL_LATE_10 (R35) and PLAUSIBILITY_RUN_COMPLETE (R221). -/

namespace Sys2Proof.Machine

/-- What the directions' part of a missed deadline leaves alone: the governors select again, and their records are written again. -/
theorem deadlineGovs_lawsSts (js : List Nat) (s : State) (d : Dir) :
    (let gs := (s.govsOn d).filter (fun g => [0, 1, 2, 3, 4].any (fun l => js.contains (lawIndex d g l)))
      let s1 := gs.foldl (fun s g => s.selectNow d g (s.govRec d g).lockClamped) s
      let s2 := s1.raiseIf (!gs.isEmpty) (15 + d.num) 24
      gs.foldl (fun s g => s.govRecAmend d g) s2).lawsSts = s.lawsSts := by
  refine (foldl_keeps State.lawsSts _ _ (fun t g => ?_) _).trans ((raiseIf_lawsSts _ _ _ _ _).trans
    (foldl_keeps State.lawsSts _ _ (fun t g => selectNow_lawsSts t d g _) s))
  rfl

@[simp] theorem setStF_loop (s : State) (a lo len v : Nat) : (s.setStF a lo len v).loop = s.loop := rfl

@[simp] theorem setStF_flt (s : State) (a lo len v : Nat) : (s.setStF a lo len v).flt = s.flt := rfl

/-- A deadline that abandons laws: they are late, the tick is counted, and TIMING shows 65,535 (R208, R225). -/
theorem loopDeadline_late (late : List (Fin 192)) (s : State) (hup : s.isUp = true) (htime : s.syn.timeRuns = true)
    (hin : s.engineOut = false) (hjs : s.computed.dropWhile (fun j => !(late.map Fin.val).contains j) ≠ []) :
    (∀ j ∈ s.computed.dropWhile (fun j => !(late.map Fin.val).contains j), ((loopDeadline late s).loop.law j).late = true) ∧
      (loopDeadline late s).stF Reg.LOOP_LATE_COUNT 0 16 = satAdd 65535 (s.stF Reg.LOOP_LATE_COUNT 0 16) 1 ∧
      (loopDeadline late s).st Reg.LOOP_TIMING = 0xFFFFFFFF := by
  unfold loopDeadline; extract_lets on js s1 s2 s3 s4
  have hne : js.isEmpty = false := List.isEmpty_eq_false_iff.mpr hjs
  rw [if_neg (by simp [hup, htime, hin, hne])]
  have h3 : s3.lawsSts = s2.lawsSts := foldl_keeps State.lawsSts _ _ (deadlineGovs_lawsSts js) s2
  have h5 : s4.traceAmend.lawsSts = s4.lawsSts := traceAmend_lawsSts s4
  have h6 := muteAgain_still s4.traceAmend
  have hloop : s4.traceAmend.muteAgain.loop = s4.traceAmend.loop := congrArg Prod.fst (muteAgain_engines s4.traceAmend)
  refine ⟨fun j hj => ?_, ?_, ?_⟩
  · rw [hloop, law_of_lawsSts h5]
    rw [setStF_loop, setStF_loop, law_of_lawsSts h3, lateNote_law, law_of_lawsSts (lateRaise_lawsSts s1 js)]
    exact (makeLates_late js s).2 j hj
  · have hst : s4.traceAmend.muteAgain.st Reg.LOOP_LATE_COUNT = s2.st Reg.LOOP_LATE_COUNT := by
      rw [st_of_still h6 (by decide), st_of_lawsSts h5, st_setStF_ne _ _ _ _ (by decide), st_setStF_ne _ _ _ _ (by decide),
        st_of_lawsSts h3]
    have h1 : (s1.lateRaise js).st Reg.LOOP_LATE_COUNT = s.st Reg.LOOP_LATE_COUNT :=
      (st_of_lawsSts (lateRaise_lawsSts s1 js) _).trans (makeLates_st js s (by decide))
    rw [stF_of_st hst, lateNote_count, stF_of_st h1]
  · rw [st_of_still h6 (by decide), st_of_lawsSts h5]
    exact st_timing_late s3

/-- What ten all-late ticks do before they mute (R35): the event, and the core voltage's hold at 0.85 V. -/
def State.allLateHold (s : State) : State :=
  let x := { s with loop := { s.loop with hold085 := true, goodTicks := 0, lateTicks := max 10 s.loop.lateTicks } }.raise 17 12
  (x.setStF Reg.LOOP_LATE_COUNT 16 8 x.loop.lateTicks).setVcore vcoreTop

theorem loopAllLate10_eq (s : State) (hup : s.regsUp = true) :
    loopAllLate10 s = (s.allLateHold.muteDir .dl .loopEngine).muteDir .ul .loopEngine := by
  unfold loopAllLate10 State.ifUp; rw [if_pos hup]; rfl

theorem allLateHold_counts (s : State) : Counts 17 12 s s.allLateHold := by
  unfold State.allLateHold
  rw [Counts, setVcore_flt, setStF_flt]
  exact raise_counts_of_flt 17 12 none (by unfold chained; decide) (by decide) rfl

theorem allLateHold_hold085 (s : State) : s.allLateHold.loop.hold085 = true := by
  simp [State.allLateHold]

theorem allLateHold_vcoreCmd (s : State) : s.allLateHold.stF Reg.LOOP_VCORE_STAT 0 12 = 850 :=
  (vcoreCmd_setVcore _ _).trans (by decide)

/-- Ten ticks that missed every law mute both directions at 0.85 V (R35). -/
theorem loopAllLate10_acts (s : State) (hup : s.regsUp = true) :
    Counts 17 12 s (loopAllLate10 s) ∧ (loopAllLate10 s).loop.hold085 = true ∧
      (loopAllLate10 s).stF Reg.LOOP_VCORE_STAT 0 12 = 850 ∧ ∀ d, (loopAllLate10 s).dirMuted d = true := by
  rw [loopAllLate10_eq s hup]
  refine ⟨?_, ?_, ?_, fun d => ?_⟩
  · rw [Counts, muteDir_allLate, muteDir_allLate]
    exact allLateHold_counts s
  · rw [muteDir_loop, muteDir_loop, allLateHold_hold085]
  · have hst := (st_of_still (muteDir_still (s.allLateHold.muteDir .dl .loopEngine) .ul .loopEngine) (a := Reg.LOOP_VCORE_STAT) (by decide)).trans
      (st_of_still (muteDir_still s.allLateHold .dl .loopEngine) (by decide))
    rw [stF_of_st hst, allLateHold_vcoreCmd]
  · rw [dirMuted_muteDir, dirMuted_muteDir]; cases d <;> simp

/-- An event after a change of the loop engine's part. -/
theorem raise_onlyCounts_loop (s : State) (l : LoopState) (b n : Nat) (u : Option Nat) :
    OnlyCounts s { State.raise { s with loop := l } b n u with loop := s.loop } :=
  ⟨rfl, countParts_of_fixed (raiseEvs_fixed { s with loop := l } _)⟩

/-- A plausibility run that has reached TICKS counts its lane's source of its side, and begins again (R221). -/
theorem plausibilityRunComplete_counts (s : State) (lane : Fin 4) (high : Bool) (hup : s.isUp = true) (hfull : s.plausFull lane high = true) :
    Counts 17 (if high = true then lane.val else 4 + lane.val) s (plausibilityRunComplete lane high s) ∧
      (plausibilityRunComplete lane high s).loop = { s.loop with plaus := NMap.put (fun _ => 0) s.loop.plaus lane 0 } ∧
      OnlyCounts s { plausibilityRunComplete lane high s with loop := s.loop } := by
  have hsrc : ¬chained (32 * 17 + if high = true then lane.val else 4 + lane.val) := by
    unfold chained; split <;> omega
  simp only [plausibilityRunComplete, hup, hfull, Bool.and_self, if_true]
  exact ⟨raise_counts_of_flt (x := { s with loop := _ }) 17 _ none hsrc (by decide) rfl, rfl, raise_onlyCounts_loop s _ 17 _ none⟩

end Sys2Proof.Machine
end

section
/-! SUPPORT. A tick and the housekeeping converters: no step of LOOP_TICK writes what they hold (R206, R321), so that VIN at its end is
the reading that they had (R348). -/

namespace Sys2Proof.Machine

/-! ### What a tick leaves of the housekeeping converters -/

@[simp] theorem setStF_hk (s : State) (a lo len v : Nat) : (s.setStF a lo len v).hk = s.hk := rfl
@[simp] theorem bumpF_hk (s : State) (a lo w k : Nat) : (s.bumpF a lo w k).hk = s.hk := rfl
@[simp] theorem bump_hk (s : State) (a k : Nat) : (s.bump a k).hk = s.hk := rfl

theorem hk_loop (s : State) (l : LoopState) : State.hk { s with loop := l } = s.hk := rfl

/-- A fold keeps the converters where each of its steps does. -/
theorem foldl_hk {α : Type} (l : List α) (f : State → α → State) (h : ∀ s a, (f s a).hk = s.hk) (s : State) :
    (l.foldl f s).hk = s.hk := foldl_keeps State.hk l f h s

/-- A fold with an answer beside the state likewise. -/
theorem foldl_fst_hk {α β : Type} (l : List α) (f : State × β → α → State × β) (h : ∀ x a, (f x a).1.hk = x.1.hk)
    (x : State × β) : (l.foldl f x).1.hk = x.1.hk := foldl_keeps (fun x : State × β => x.1.hk) l f h x

theorem hk_of_offBog {s t : State} (h : t.offBog = s.offBog) : t.hk = s.hk := by
  have h' := congrArg State.hk h
  exact h'

@[simp] theorem regStream_hk (s : State) (n t : Nat) : (s.regStream n t).hk = s.hk := hk_of_offBog (regStream_offBog s n t)

@[simp] theorem toTick_hk (s : State) : s.toTick.hk = s.hk := foldl_hk _ _ (fun s n => regStream_hk s n s.now) _

@[simp] theorem watchFifos_hk (s : State) : s.watchFifos.hk = s.hk := foldl_hk _ _ (fun s d => setDir_hk s d _) s

@[simp] theorem marginTick_hk (s : State) (i : TickIn) : (s.marginTick i).hk = s.hk := by
  unfold State.marginTick; dsimp only
  refine (foldl_hk _ _ (fun s l => ?_) _).trans ?_
  · simp
  · split <;> simp

@[simp] theorem slotMeters_hk (s : State) (i : TickIn) (d : Dir) (n : Nat) : (s.slotMeters i d n).hk = s.hk := by
  unfold State.slotMeters; dsimp only
  exact (raiseIf_hk ..).trans ((setEcho_hk ..).trans ((setSt_hk ..).trans (setSt_hk ..)))

@[simp] theorem sumClips_hk (s : State) (i : TickIn) (d : Dir) : (s.sumClips i d).hk = s.hk := by simp [State.sumClips]

@[simp] theorem chanTick_hk (s : State) (i : TickIn) : (s.chanTick i).hk = s.hk := by
  refine (raiseIf_hk _ _ _ _ _).trans (foldl_hk _ _ (fun s d => ?_) s)
  exact (sumClips_hk _ i d).trans (foldl_hk _ _ (fun s n => slotMeters_hk s i d n) s)

@[simp] theorem markFlagged_hk (s : State) (l : Nat) : (s.markFlagged l).hk = s.hk := hk_of_offBog (markFlagged_offBog s l)

@[simp] theorem laneTick_hk (s : State) (i : TickIn) (l : Nat) : (s.laneTick i l).hk = s.hk := by
  simp [State.laneTick, apply_ite State.hk]

@[simp] theorem slotDue_hk (s : State) (d : Dir) (n : Nat) : (s.slotDue d n).hk = s.hk := rfl

@[simp] theorem deliver_hk (s : State) (d : Dir) (n : Nat) (noGain : Bool) : (s.deliver d n noGain).hk = s.hk := by
  simp [State.deliver]

@[simp] theorem clampNote_hk (s : State) (d : Dir) : (s.clampNote d).hk = s.hk := (raise_hk ..).trans (bump_hk ..)

@[simp] theorem deliverAll_hk (s : State) (d : Dir) (noGain : List Nat) : (s.deliverAll d noGain).hk = s.hk := by
  unfold State.deliverAll; extract_lets lacks s1 s2 s3
  have h3 : s3.hk = s.hk := (raiseIf_hk _ _ _ _ _).trans
    ((foldl_hk _ _ (fun s n => deliver_hk s d n _) _).trans (foldl_hk _ _ (fun s n => slotDue_hk s d n) s))
  split
  · exact (clampNote_hk s3 d).trans h3
  · exact h3

@[simp] theorem lockActs_hk (s : State) (item index who : Nat) : (s.lockActs item index who).hk = s.hk := by
  simp [State.lockActs, apply_ite State.hk]

@[simp] theorem mossClamp_hk (s : State) (d : Dir) (n : Nat) : (s.mossClamp d n).hk = s.hk := by
  unfold State.mossClamp; split <;> simp

@[simp] theorem adapt_hk (s : State) (d : Dir) (n : Nat) : (s.adapt d n).hk = s.hk := by
  simp [State.adapt, apply_ite State.hk]

@[simp] theorem cacheEst_hk (s : State) (d : Dir) (n : Nat) (newly : Bool) : (s.cacheEst d n newly).hk = s.hk := by
  simp [State.cacheEst, apply_ite State.hk]

@[simp] theorem blockEffect_hk (s : State) (d : Dir) (n : Nat) : (s.blockEffect d n).hk = s.hk := by
  unfold State.blockEffect; dsimp only; split <;> simp

@[simp] theorem oscillation_hk (s : State) (d : Dir) (n crit path : Nat) (rho : Int) : (s.oscillation d n crit path rho).hk = s.hk := by
  simp [State.oscillation, State.oscStat, apply_ite State.hk, muteDir_hk]

@[simp] theorem estTest_hk (s : State) (d : Dir) (n : Nat) : (s.estTest d n).hk = s.hk := by
  simp [State.estTest, apply_ite State.hk]

@[simp] theorem capNote_hk (s : State) (d : Dir) (n : Nat) : (s.capNote d n).hk = s.hk := by simp [State.capNote]

@[simp] theorem defaultNote_hk (s : State) (d : Dir) (n : Nat) : (s.defaultNote d n).hk = s.hk := by
  simp [State.defaultNote, apply_ite State.hk]

@[simp] theorem probeTick_hk (s : State) (d : Dir) (n : Nat) : (s.probeTick d n).hk = s.hk := rfl

@[simp] theorem echoTick_hk (s : State) : s.echoTick.hk = s.hk :=
  foldl_hk _ _ (fun s d => foldl_hk _ _ (fun s n => by simp) s) s

@[simp] theorem pendingDone_hk (s : State) (j code : Nat) : (s.pendingDone j code).hk = s.hk := by
  simp [State.pendingDone, apply_ite State.hk]

@[simp] theorem latchOne_hk (s : State) (j : Nat) : (s.latchOne j).hk = s.hk := by
  simp [State.latchOne, apply_ite State.hk]

@[simp] theorem latch_hk (s : State) : s.latch.hk = s.hk := foldl_hk _ _ (fun s j => latchOne_hk s j) s

@[simp] theorem boundaryStep_hk (s : State) : s.boundaryStep.hk = s.hk := by
  unfold State.boundaryStep; dsimp only; split
  · rfl
  · split <;> rfl

@[simp] theorem marginStep_hk (s : State) : s.marginStep.hk = s.hk := by simp [State.marginStep]

@[simp] theorem throttleStep_hk (s : State) : s.throttleStep.hk = s.hk := by
  have hfold : ∀ (b n : Nat) (t : State), (dirs.foldl (fun s d => s.raiseIf (!(s.enabled d).isEmpty) (b + d.num) n) t).hk = t.hk :=
    fun b n t => foldl_hk _ _ (fun s d => raiseIf_hk s _ _ _ _) t
  simp [State.throttleStep, apply_ite State.hk, hfold]

@[simp] theorem peakStep_hk (s : State) : s.peakStep.hk = s.hk := by
  unfold State.peakStep; dsimp only
  split
  · exact setSt_hk ..
  · split
    · exact setSt_hk ..
    · rfl

@[simp] theorem thermTick_hk (s : State) (power : List Nat) : (s.thermTick power).hk = s.hk := by
  simp [State.thermTick, State.quietStep, State.holdStep, State.sensorStep, State.modelStep]

@[simp] theorem gtxStep_hk (s : State) (lane : Nat) : (s.gtxStep lane).hk = s.hk := by simp [State.gtxStep, apply_ite State.hk]

@[simp] theorem gFixStep_hk (s : State) (d : Dir) : (s.gFixStep d).hk = s.hk := by
  simp [State.gFixStep]

@[simp] theorem runLaw_hk (s : State) (j : Nat) (m : IMode) (e xin xacc : Int) : (s.runLaw j m e xin xacc).1.hk = s.hk := by
  simp [State.runLaw, apply_ite Prod.fst, apply_ite State.hk]

@[simp] theorem setVcore_hk (s : State) (q : Nat) : (s.setVcore q).hk = s.hk := rfl

@[simp] theorem vcoreTick_hk (s : State) (i : TickIn) : (s.vcoreTick i).1.hk = s.hk := by
  have hlaw : ∀ (run : Bool) (e f : Int),
      (if run = true then (s.vcoreStart run).runLaw 160 .free e f 0 else (s.vcoreStart run, false)).1.hk = s.hk := by
    intro run e f
    split
    · exact (runLaw_hk ..).trans (hk_loop ..)
    · exact hk_loop ..
  unfold State.vcoreTick; dsimp only
  refine (raiseIf_hk ..).trans ((hk_loop ..).trans ((setSt_hk ..).trans ((setVcore_hk ..).trans ((setSt_hk ..).trans ?_))))
  exact (hk_loop ..).trans (hlaw _ _ _)

@[simp] theorem auxTick_hk (s : State) (j : Nat) : (s.auxTick j).1.hk = s.hk := runLaw_hk s j _ _ _ _

@[simp] theorem govLaw_hk (s latched : State) (i : TickIn) (d : Dir) (g l : Nat) : (s.govLaw latched i d g l).1.hk = s.hk :=
  runLaw_hk s _ _ _ _ _

@[simp] theorem selectNow_hk (s : State) (d : Dir) (g : Nat) (was : Bool) : (s.selectNow d g was).hk = s.hk := by
  simp [State.selectNow, apply_ite State.hk]

@[simp] theorem govsTick_hk (s : State) (i : TickIn) : (s.govsTick i).1.hk = s.hk := by
  unfold State.govsTick; dsimp only
  refine (foldl_hk _ _ (fun s d => foldl_hk _ _ (fun s g => selectNow_hk s d g _) _) _).trans ?_
  refine (foldl_fst_hk _ _ (fun x l => ?_) _).trans (foldl_hk _ _ (fun s d => foldl_hk _ _ (fun s g => setGov_hk s d g _) _) _)
  refine foldl_fst_hk _ _ (fun x d => ?_) x
  refine foldl_fst_hk _ _ (fun x g => ?_) x
  exact govLaw_hk ..

@[simp] theorem lawsTick_hk (s : State) (i : TickIn) : (s.lawsTick i).hk = s.hk := by
  unfold State.lawsTick; dsimp only
  rw [raiseIf_hk]
  refine (foldl_fst_hk _ _ (fun x l => ?_) _).trans ((govsTick_hk ..).trans (vcoreTick_hk s i))
  exact auxTick_hk x.1 l

@[simp] theorem lateNote_hk (s : State) (all : Bool) : (s.lateNote all).hk = s.hk :=
  (setStF_hk ..).trans ((bumpF_hk ..).trans (hk_loop ..))

@[simp] theorem lateRaise_hk (s : State) (late : List Nat) : (s.lateRaise late).hk = s.hk := by simp [State.lateRaise]

@[simp] theorem lateTick_hk (s : State) : s.lateTick.hk = s.hk := by
  unfold State.lateTick; split
  · exact (foldl_hk _ _ (fun s d => raiseIf_hk s _ _ _ _) _).trans ((lateRaise_hk _ _).trans (lateNote_hk s true))
  · exact (setStF_hk ..).trans (hk_loop ..)

@[simp] theorem muteAgain_hk (s : State) : s.muteAgain.hk = s.hk := congrArg Prod.snd (muteAgain_engines s)

@[simp] theorem laneRedStep_hk (s : State) (i : TickIn) (d : Dir) : (s.laneRedStep i d).hk = s.hk := by
  simp [State.laneRedStep, apply_ite State.hk]

@[simp] theorem l3Measure_hk (s : State) (i : TickIn) (d : Dir) (g : Nat) : (s.l3Measure i d g).hk = s.hk := by
  cases d <;> simp [State.l3Measure]

@[simp] theorem causeNote_hk (s : State) (d : Dir) : (s.causeNote d).hk = s.hk := by
  unfold State.causeNote; dsimp only
  refine (foldl_hk _ _ (fun s g => ?_) _).trans ?_
  · split <;> simp [apply_ite State.hk]
  · split <;> simp [apply_ite State.hk]

@[simp] theorem plausLane_hk (s : State) (i : TickIn) (l : Nat) : (s.plausLane i l).hk = s.hk := by
  unfold State.plausLane; dsimp only; split <;> simp [apply_ite State.hk]

@[simp] theorem regRecord_hk (s : State) (n : Nat) (v : List Byte) : (s.regRecord n v).1.hk = s.hk := by
  unfold State.regRecord; dsimp only; split <;> rfl

@[simp] theorem recordTo_hk (s : State) (kind : Nat) (sel : Nat → Bool) (v : List Byte) : (s.recordTo kind sel v).1.hk = s.hk := by
  refine foldl_fst_hk _ _ (fun x n => ?_) _
  dsimp only; split <;> simp

@[simp] theorem govRecTick_hk (s : State) (d : Dir) (g : Nat) : (s.govRecTick d g).hk = s.hk := by
  simp [State.govRecTick, apply_ite State.hk]

@[simp] theorem setTrace_hk (s : State) (u : Nat) (t : TraceUnit) : (s.setTrace u t).hk = s.hk := rfl

@[simp] theorem spill_hk (s : State) (u : Nat) (v : List Byte) : (s.spill u v).1.hk = s.hk := by
  simp [State.spill, apply_ite Prod.fst, apply_ite State.hk]

@[simp] theorem traceTick_hk (s : State) (u : Nat) : (s.traceTick u).1.hk = s.hk := by
  simp [State.traceTick, apply_ite Prod.fst, apply_ite State.hk]

@[simp] theorem traceEvents_hk (s : State) : s.traceEvents.hk = s.hk := foldl_hk _ _ (fun s u => setTrace_hk s u _) s

@[simp] theorem traceAll_hk (s : State) : s.traceAll.hk = s.hk := by
  unfold State.traceAll; dsimp only
  refine (raiseIf_hk _ _ _ _ _).trans ((foldl_fst_hk _ _ (fun x u => ?_) _).trans (traceEvents_hk s))
  exact traceTick_hk x.1 u

@[simp] theorem superviseTick_hk (s : State) (i : TickIn) : (s.superviseTick i).hk = s.hk := by
  unfold State.superviseTick; dsimp only
  refine (traceAll_hk _).trans ((foldl_hk _ _ (fun s d => foldl_hk _ _ (fun s g => govRecTick_hk s d g) s) _).trans
    ((foldl_hk _ _ (fun s l => plausLane_hk s i l) _).trans (foldl_hk _ _ (fun s d => ?_) s)))
  exact (causeNote_hk _ d).trans ((foldl_hk _ _ (fun s g => l3Measure_hk s i d g) _).trans (laneRedStep_hk s i d))

end Sys2Proof.Machine
end

section
/-! SUPPORT. LOOP_TICK as a whole (R26, R206, R348): its steps up to the supply's, what SUPPLY shows after it, and the statement about the
loop engine's commands. -/

namespace Sys2Proof.Machine

/-- The tick's steps before the supply's: meters, gains, the loop engine, supervision and the recorder's interval (R206). -/
def State.tickToSupply (s : State) (i : TickIn) : State :=
  let s := (s.toTick.marginTick i).chanTick i
  let s := laneNums.foldl (fun s l => s.laneTick i l) s
  let s := dirs.foldl (fun s d => s.deliverAll d (i.noGain.map Fin.val)) s
  let s := s.echoTick
  let s := s.latch.thermTick i.power
  let s := dirs.foldl (fun s d => s.gFixStep d) s
  let s := ((s.lawsTick i).timingTick i).lateTick
  let s := (s.muteAgain.superviseTick i)
  s.peatTick i

theorem loopTick_of_running (i : TickIn) (s : State) (hup : s.isUp = true) (htime : s.syn.timeRuns = true) :
    loopTick i s = { ((s.tickToSupply i).supplyTick i).playTick.injectTick with watch := {} } := by
  unfold loopTick
  rw [if_neg (by simp [hup, htime])]
  rfl

theorem loopTick_of_stopped (i : TickIn) (s : State) (h : s.isUp = false ∨ s.syn.timeRuns = false) : loopTick i s = s := by
  unfold loopTick
  rw [if_pos (by rcases h with h | h <;> simp [h])]

@[simp] theorem peatTick_hk (s : State) (i : TickIn) : (s.peatTick i).hk = s.hk := rfl

@[simp] theorem timingTick_hk (s : State) (i : TickIn) : (s.timingTick i).hk = s.hk := setSt_hk ..

theorem tickToSupply_hk (s : State) (i : TickIn) : (s.tickToSupply i).hk = s.hk := by
  unfold State.tickToSupply
  simp only [peatTick_hk, superviseTick_hk, muteAgain_hk, lateTick_hk, timingTick_hk, lawsTick_hk, thermTick_hk, latch_hk, echoTick_hk,
    foldl_hk _ _ (fun s d => gFixStep_hk s d), foldl_hk _ _ (fun s d => deliverAll_hk s d (i.noGain.map Fin.val)),
    foldl_hk _ _ (fun s l => laneTick_hk s i l), chanTick_hk, marginTick_hk, toTick_hk]

/-- Device time reaches the next tick boundary; power state, levels and configuration stand. -/
theorem tickToSupply_base (s : State) (i : TickIn) :
    (s.tickToSupply i).base = { s.base with now := (s.now / 98304 + 1) * 98304 } := by
  unfold State.tickToSupply
  simp only [peatTick_base, superviseTick_base, muteAgain_base, lateTick_base, timingTick_base, lawsTick_base, thermTick_base, latch_base,
    echoTick_base, foldl_base _ _ (fun s d => gFixStep_base s d), foldl_base _ _ (fun s d => deliverAll_base s d (i.noGain.map Fin.val)),
    foldl_base _ _ (fun s l => laneTick_base s i l), chanTick_base, marginTick_base]
  exact toTick_base s

theorem loopTick_base (i : TickIn) (s : State) (hup : s.isUp = true) (htime : s.syn.timeRuns = true) :
    (loopTick i s).base = { s.base with now := (s.now / 98304 + 1) * 98304 } := by
  rw [loopTick_of_running i s hup htime]
  exact (base_upd ..).trans <| (injectTick_base _).trans ((playTick_base _).trans ((supplyTick_base _ i).trans (tickToSupply_base s i)))

/-- VIN depends on what the converters hold and on the configuration alone. -/
theorem base_cfg (s : State) : s.base.cfg = s.cfg := rfl

theorem vinMv_eq (s : State) : s.vinMv = State.vinMv { hk := s.hk, cfg := s.cfg } := rfl

theorem tickToSupply_vinMv (s : State) (i : TickIn) : (s.tickToSupply i).vinMv = s.vinMv := by
  have hcfg : (s.tickToSupply i).cfg = s.cfg := by rw [← base_cfg, tickToSupply_base]; rfl
  rw [vinMv_eq, tickToSupply_hk, hcfg]
  exact (vinMv_eq s).symm

theorem vinMv_lt (s : State) : s.vinMv < 65536 := Nat.lt_succ_of_le (Nat.min_le_left ..)

/-- The low half of a register written with its two halves. -/
theorem stF_low_setSt (s : State) (a lo hi : Nat) (h : lo < 65536) : (s.setSt a (lo + 65536 * hi)).stF a 0 16 = lo := by
  rw [State.stF, st_setSt_same, bitsAt_mod_word _ (by decide), bitsAt]
  omega

/-- What SUPPLY shows of VIN and of the input power after its step of a tick (R348). -/
theorem supplyTick_shows (s : State) (i : TickIn) :
    (s.supplyTick i).stF Reg.SUPPLY_VIN 0 16 = s.vinMv ∧ (s.supplyTick i).stF Reg.SUPPLY_P_IN 0 16 = min 65535 i.pIn := by
  unfold State.supplyTick; extract_lets v p least s1 s2 e b s3 mj s4
  have hst : ∀ a, a ≠ Reg.SUPPLY_E_START →
      (if s4.st (measT 2) = 0 then s4.setStF Reg.SUPPLY_E_START 16 16 mj else s4).st a = s2.st a := by
    intro a ha
    have h4 : s4.st a = s2.st a := by
      simp only [s4]; split
      · exact st_setStF_ne s3 _ _ _ ha
      · rfl
    split
    · exact (st_setStF_ne s4 _ _ _ ha).trans h4
    · exact h4
  have hvin : s2.st Reg.SUPPLY_VIN = s1.st Reg.SUPPLY_VIN := st_setSt_ne s1 _ (by decide)
  constructor
  · rw [stF_of_st ((hst Reg.SUPPLY_VIN (by decide)).trans hvin)]
    exact stF_low_setSt s _ v _ (vinMv_lt s)
  · rw [stF_of_st (hst Reg.SUPPLY_P_IN (by decide))]
    exact stF_low_setSt s1 _ p _ (by omega)

theorem playTick_st (s : State) {a : Nat} (ha : a ≠ Reg.BOG_PB_STAT) : s.playTick.st a = s.st a := by
  unfold State.playTick; dsimp only; split
  · exact st_setStF_ne s _ _ _ ha
  · rfl

theorem st_withWatch (s : State) (w : Watch) (a : Nat) : State.st { s with watch := w } a = s.st a := rfl

theorem sts_withFlt (s : State) (f : Flt) (b : BogState) : State.sts { s with flt := f, bog := b } = s.sts := rfl

theorem inject_sts (s : State) (b src : Nat) : (s.inject b src).sts = s.sts := sts_withFlt s _ _

theorem injectTick_sts (s : State) : s.injectTick.sts = s.sts := by
  refine foldl_keeps State.sts _ _ (fun t e => ?_) s
  dsimp only; split
  · exact inject_sts t _ _
  · rfl

theorem loopTick_shows (i : TickIn) (s : State) (hup : s.isUp = true) (htime : s.syn.timeRuns = true) :
    (loopTick i s).stF Reg.SUPPLY_VIN 0 16 = s.vinMv ∧ (loopTick i s).stF Reg.SUPPLY_P_IN 0 16 = min 65535 i.pIn := by
  obtain ⟨hvin, hpin⟩ := supplyTick_shows (s.tickToSupply i) i
  have hst : ∀ a, a ≠ Reg.BOG_PB_STAT → (loopTick i s).st a = ((s.tickToSupply i).supplyTick i).st a := by
    intro a ha
    rw [loopTick_of_running i s hup htime]
    exact (st_withWatch _ _ a).trans ((st_of_sts (injectTick_sts _) a).trans (playTick_st _ ha))
  exact ⟨(stF_of_st (hst Reg.SUPPLY_VIN (by decide)) 0 16).trans (hvin.trans (tickToSupply_vinMv s i)),
    (stF_of_st (hst Reg.SUPPLY_P_IN (by decide)) 0 16).trans hpin⟩

/-- A deadline that abandons no law changes nothing (R208). -/
theorem loopDeadline_of_none (late : List (Fin 192)) (s : State)
    (hjs : s.computed.dropWhile (fun j => !(late.map Fin.val).contains j) = []) : loopDeadline late s = s := by
  unfold loopDeadline
  rw [if_pos (by simp only [hjs]; simp)]

end Sys2Proof.Machine

open Sys2Proof Sys2Proof.Machine

/-- Settles O30: a tick by its steps up to the supply's and what follows them, a deadline by the laws it makes late, and the two
other commands each by its own lemma. -/
theorem loopTicks : Obligations.LoopTicks := by
  unfold Obligations.LoopTicks
  refine ⟨fun s i => ⟨fun hup htime => ⟨_, rfl, ?_⟩, fun h => ⟨_, rfl, loopTick_of_stopped i s h⟩⟩, fun s =>
    ⟨fun late hup htime hin => ⟨fun hjs => ⟨_, rfl, ?_⟩, fun hjs => ⟨_, rfl, loopDeadline_of_none late s hjs⟩⟩,
      fun hup => ⟨_, rfl, ?_⟩, fun lane high hup => ⟨fun hfull => ⟨_, rfl, plausibilityRunComplete_counts s lane high hup hfull⟩,
        fun hrun => ⟨_, rfl, ?_⟩⟩⟩⟩
  · have hb := loopTick_base i s hup htime
    obtain ⟨hvin, hpin⟩ := loopTick_shows i s hup htime
    exact ⟨congrArg Base.now hb, congrArg Base.power hb, congrArg Base.lev hb, congrArg Base.cfg hb, hvin, hpin⟩
  · have hb := loopDeadline_base late s
    obtain ⟨hlate, hcount, htiming⟩ := loopDeadline_late late s hup htime hin hjs
    exact ⟨hlate, hcount, htiming, congrArg Base.power hb, congrArg Base.now hb, congrArg Base.cfg hb⟩
  · have hb := loopAllLate10_base s
    obtain ⟨hcount, hhold, hcmd, hmuted⟩ := loopAllLate10_acts s hup
    exact ⟨hcount, hhold, hcmd, hmuted, congrArg Base.power hb, congrArg Base.now hb, congrArg Base.cfg hb⟩
  · simp [plausibilityRunComplete, hrun]
end

section
/-! SUPPORT. Requests (R45): what a refusal of a host's request changes, and how a host's request arrives at the request table of a device
that is calm. -/

namespace Sys2Proof.Machine

/-! ### What a refusal changes -/

theorem reqEnd_eq (s : State) (no tag status : Nat) : s.reqEnd no tag status = { s with sys := (s.reqEnd no tag status).sys } := by
  unfold State.reqEnd
  split
  · rfl
  · split
    · rfl
    · split <;> rfl

theorem reqEnd_sys_congr {s t : State} (h : s.sys = t.sys) (no tag status : Nat) :
    (s.reqEnd no tag status).sys = (t.reqEnd no tag status).sys := by
  unfold State.reqEnd
  rw [h]
  split
  · exact h
  · split
    · rfl
    · split
      · rfl
      · exact h

/-- Of SYS, the end of a request changes what REQ_STATUS shows. -/
theorem reqEnd_sys (s : State) (no tag status : Nat) : (s.reqEnd no tag status).sys = { s.sys with
    shown := (s.reqEnd no tag status).sys.shown, shadow := (s.reqEnd no tag status).sys.shadow
    reqTag := (s.reqEnd no tag status).sys.reqTag, reqStatus := (s.reqEnd no tag status).sys.reqStatus } := by
  unfold State.reqEnd
  split
  · rfl
  · split
    · rfl
    · split <;> rfl

theorem reqEnd_of_shown (s : State) {no : Nat} (tag status : Nat) (h0 : no ≠ 0) (h : s.sys.shown = no) :
    s.reqEnd no tag status = { s with sys := { s.sys with reqTag := tag, reqStatus := status } } := by
  unfold State.reqEnd
  rw [if_neg h0, if_pos h]

/-- A request with no part of its own in the fall-back: not an automatic return, not a resume, not from a doorbell. -/
def Req.plain (q : Req) : Prop := q.tag ≠ 0xFD ∧ q.isResume = false ∧ q.doorbell = none

theorem refuse_of_plain (s : State) (q : Req) (code src : Nat) (hq : q.plain) :
    s.refuse q code src = ((s.setSt Reg.SYS_REFUSE_CODE (code + 65536 * q.tag)).reqEnd q.no q.tag 3).raise 0 src := by
  obtain ⟨htag, hres, hdb⟩ := hq
  simp [State.refuse, htag, hres, hdb, State.dbOutcome, State.raiseIf]

theorem refuse_plain_sys (s : State) (q : Req) (code src : Nat) (hq : q.plain) :
    (s.refuse q code src).sys = (s.reqEnd q.no q.tag 3).sys := by
  rw [refuse_of_plain s q code src hq, raise_sys]
  exact reqEnd_sys_congr (setSt_sys s _ _) _ _ _

/-- What the refusal of a plain request changes, of a state that differs from s in SYS alone: REFUSE_CODE and the count, beside REQ_STATUS. -/
theorem refuse_plain_changes (s : State) (y : Sys) (q : Req) (code src : Nat) (hq : q.plain) (hsrc : src < 32) :
    OnlyStatusCounts [Reg.SYS_REFUSE_CODE] s { State.refuse { s with sys := y } q code src with sys := s.sys } ∧
      (State.refuse { s with sys := y } q code src).st Reg.SYS_REFUSE_CODE = (code + 65536 * q.tag) % 2 ^ 32 ∧
      Counts 0 src s (State.refuse { s with sys := y } q code src) := by
  rw [refuse_of_plain _ q code src hq, reqEnd_eq]
  refine ⟨⟨rfl, ?_, fun a ha => ?_⟩, ?_, ?_⟩
  · exact countParts_of_fixed ((raiseEvs_fixed _ _).trans rfl)
  · exact st_setSt_ne s _ (by simpa using ha)
  · exact st_setSt_same s _ _
  · exact raise_counts_of_flt 0 src none (by unfold chained; omega) (by decide) rfl

/-! ### A host's request of a device that is calm -/

/-- The request that a host's write of SYS.REQUEST makes. -/
def State.hostReq (s : State) (t : Target) (scope tag : Nat) : Req :=
  { target := t, scope := scope, tag := hostTag tag, cause := 0, no := s.sys.serial + 1 }

/-- The state in which a request that nothing waits before is handled: REQ_STATUS shows it as PENDING. -/
def State.taken (s : State) (q : Req) : State :=
  (State.sessionNote { s with sys := { s.sys with serial := q.no } } q.target).reqShow q 1

theorem hostRequest_of_calm (s : State) (t : Target) (scope tag : Nat) (h : Calm s) :
    s.hostRequest t scope tag = (s.taken (s.hostReq t scope tag)).handle (s.hostReq t scope tag) := by
  obtain ⟨hup, -, -, -, hreq, hbehind, hent, -⟩ := h
  have hwait : State.waiting { s with sys := { s.sys with serial := s.sys.serial + 1 } } = none := by simp [State.waiting, hreq, hbehind]
  have hab : s.sleepAbandon = s := by simp [State.sleepAbandon, hent]
  rw [State.hostRequest, hab, State.request, if_neg (by simp [hup])]
  dsimp only
  rw [hwait]
  rfl

theorem hostTag_lt (t : Nat) (h : t < 256) : hostTag t < 256 := by unfold hostTag; split <;> omega

theorem hostReq_plain (s : State) (t : Target) (scope tag : Nat) : (s.hostReq t scope tag).plain :=
  ⟨by simp only [State.hostReq, hostTag]; split <;> omega, rfl, rfl⟩

/-- No automatic return runs where no transition does. -/
theorem overtakeReturns_of_idle (s : State) (ds : List Dir) (h : ∀ d, (s.dirRec d).trans = none) : s.overtakeReturns ds = s := by
  induction ds with
  | nil => rfl
  | cons d ds ih => simpa [State.overtakeReturns, h d] using ih

/-- The request table below its SHUTDOWN rows, where no transition runs (R45): a refusal, -/
theorem handle_of_refusal {s : State} {q : Req} {c : Nat} (hup : s.power = .up) (ht : q.target ≠ .bad) (hs : q.scope ≠ 0)
    (h : ∀ d, (s.dirRec d).trans = none) (hc : s.refusal q = some c) : s.handle q = s.refuse q c 0 := by
  have hno : (s.reqDirs q).any (fun d => (s.dirRec d).trans.isSome) = false := by simp [h]
  rw [State.handle, if_neg (by simp [ht, hs]), if_neg (by simp [hup]), if_neg (by simp [hup])]
  simp only [overtakeReturns_of_idle s _ h, ite_self, hno, Bool.false_eq_true, if_false, hc]

/-- or a start, where nothing is waited for. -/
theorem handle_of_start {s : State} {q : Req} (hup : s.power = .up) (ht : q.target ≠ .bad) (hs : q.scope ≠ 0)
    (h : ∀ d, (s.dirRec d).trans = none) (hc : s.refusal q = none) (ha : s.reqAwaits q = 0) (hk : s.sys.check = none) :
    s.handle q = s.startReq q := by
  have hno : (s.reqDirs q).any (fun d => (s.dirRec d).trans.isSome) = false := by simp [h]
  rw [State.handle, if_neg (by simp [ht, hs]), if_neg (by simp [hup]), if_neg (by simp [hup])]
  simp only [overtakeReturns_of_idle s _ h, ite_self, hno, Bool.false_eq_true, if_false, hc, ha, hk]
  simp

theorem handle_of_unrequestable {s : State} {q : Req} (h : q.target = .bad ∨ q.scope = 0) : s.handle q = s.refuse q 0x0A02 0 := by
  rw [State.handle, if_pos h]

/-- Service while SERVICE_EN reads 0, -/
theorem refusal_of_disabled {s : State} {q : Req} (hair : s.reqAir q = true) (hen : s.sys.serviceEn = false) : s.refusal q = some 0x0A04 := by
  simp [State.refusal, hair, hen]

/-- and of a direction without an enabled, unretired slot. -/
theorem refusal_of_slotless {s : State} {q : Req} {d : Dir} (hair : s.reqAir q = true) (hen : s.sys.serviceEn = true)
    (hd : d ∈ s.reqDirs q) (hlive : s.liveSlots d = []) : s.refusal q = some 0x0A07 := by
  have hany : (s.reqDirs q).any (fun d => (s.liveSlots d).isEmpty) = true := List.any_eq_true.mpr ⟨d, hd, by simp [hlive]⟩
  simp [State.refusal, hair, hen, hany]

theorem calm_idle {s : State} (h : Calm s) (d : Dir) : (s.dirRec d).trans = none := by
  obtain ⟨-, hdl, hul, -⟩ := h
  cases d
  · exact hdl
  · exact hul

/-- What a refused request of a calm device shows: the code with the tag, REQ_STATUS with its tag, one count, and both directions as they
were. -/
def Refused (tag code : Nat) (s t : State) : Prop :=
  OnlyStatusCounts [Reg.SYS_REFUSE_CODE] s { t with sys := s.sys } ∧ t.st Reg.SYS_REFUSE_CODE = code + 65536 * hostTag tag ∧
    t.sys.reqStatus = 3 ∧ t.sys.reqTag = hostTag tag ∧ Counts 0 0 s t ∧ t.sys.dl = s.sys.dl ∧ t.sys.ul = s.sys.ul ∧ t.sys.pendingReq = none

theorem hostRequest_refused {s : State} (t : Target) {scope tag code : Nat} (htag : tag < 256) (hcode : code < 65536) (hcalm : Calm s)
    (h : (s.taken (s.hostReq t scope tag)).handle (s.hostReq t scope tag) = (s.taken (s.hostReq t scope tag)).refuse (s.hostReq t scope tag) code 0) :
    Refused tag code s (s.hostRequest t scope tag) := by
  rw [hostRequest_of_calm s t scope tag hcalm, h]
  generalize hq : s.hostReq t scope tag = q
  have hplain : q.plain := hq ▸ hostReq_plain s t scope tag
  have hno : q.no ≠ 0 := hq ▸ Nat.succ_ne_zero s.sys.serial
  have hqtag : q.tag = hostTag tag := hq ▸ rfl
  obtain ⟨honly, hst, hcount⟩ := refuse_plain_changes s (s.taken q).sys q code 0 hplain (by decide)
  have hsys := refuse_plain_sys (s.taken q) q code 0 hplain
  rw [reqEnd_of_shown (s.taken q) q.tag 3 hno rfl, hqtag] at hsys
  rw [hqtag] at hst
  have hlt := hostTag_lt tag htag
  obtain ⟨-, -, -, -, hreq, -⟩ := hcalm
  exact ⟨honly, hst.trans (Nat.mod_eq_of_lt (by omega)), congrArg Sys.reqStatus hsys, congrArg Sys.reqTag hsys, hcount,
    (congrArg Sys.dl hsys).trans rfl, (congrArg Sys.ul hsys).trans rfl, (congrArg Sys.pendingReq hsys).trans hreq⟩

theorem taken_idle {s : State} (h : Calm s) (q : Req) (d : Dir) : ((s.taken q).dirRec d).trans = none := by
  have hd := calm_idle h d
  cases d
  · exact hd
  · exact hd

end Sys2Proof.Machine

open Sys2Proof Sys2Proof.Machine

/-- Settles O17: each row of the request table's top refuses the request, and a refusal changes nothing else. -/
theorem requestsRefused : Obligations.RequestsRefused := by
  unfold Obligations.RequestsRefused
  intro s scope tag hcalm
  have hup : ∀ q : Req, (s.taken q).power = .up := fun q => hcalm.1
  refine ⟨fun target hbad => ⟨_, rfl, ?_⟩, fun full hscope hen => ⟨_, rfl, ?_⟩, fun full d hd hen hlive => ⟨_, rfl, ?_⟩⟩
  · exact hostRequest_refused _ tag.isLt (by decide) hcalm (handle_of_unrequestable hbad)
  · exact hostRequest_refused _ tag.isLt (by decide) hcalm
      (handle_of_refusal (hup _) (by cases full <;> simp [State.hostReq]) hscope (taken_idle hcalm _)
        (refusal_of_disabled (by cases full <;> rfl) hen))
  · have hscope : scope.val ≠ 0 := fun h0 => by simp [h0, bitAt] at hd
    have hmem : d ∈ dirs.filter (fun d => bitAt scope.val d.num) := List.mem_filter.mpr ⟨by cases d <;> decide, hd⟩
    exact hostRequest_refused _ tag.isLt (by decide) hcalm
      (handle_of_refusal (hup _) (by cases full <;> simp [State.hostReq]) hscope (taken_idle hcalm _)
        (refusal_of_slotless (by cases full <;> rfl) hen (by cases full <;> exact hmem) hlive))

end

section
/-! SUPPORT. Transitions (R43, R214, R299): the operations that start one leave SYS as it is but for the record of their direction, and the
statement about the requests that start them. -/

namespace Sys2Proof.Machine

/-! ### Operations that leave SYS alone -/

theorem foldl_sys {α : Type} (l : List α) (f : State → α → State) (h : ∀ s a, (f s a).sys = s.sys) (s : State) :
    (l.foldl f s).sys = s.sys := foldl_keeps State.sys l f h s

@[simp] theorem pendingDone_sys (s : State) (j code : Nat) : (s.pendingDone j code).sys = s.sys := by
  unfold State.pendingDone; dsimp only; split <;> rfl

@[simp] theorem lawsStart_sys (s : State) (d : Dir) : (s.lawsStart d).sys = s.sys := by
  unfold State.lawsStart
  refine foldl_sys _ _ (fun s k => ?_) s
  extract_lets j x s1 x1
  have h1 : s1.sys = s.sys := by
    simp only [s1]
    split
    · rfl
    · rfl
  split
  · split
    · exact (pendingDone_sys _ _ _).trans h1
    · exact (pendingDone_sys _ _ _).trans h1
  · exact h1

@[simp] theorem echoHoldSlot_sys (s : State) (d : Dir) (n : Nat) : (s.echoHoldSlot d n).sys = s.sys := rfl

@[simp] theorem echoHold_sys (s : State) (d : Dir) : (s.echoHold d).sys = s.sys := foldl_sys _ _ (fun s n => echoHoldSlot_sys s d n) s

@[simp] theorem dbOutcome_sys (s : State) (db : Option Nat) (result code : Nat) : (s.dbOutcome db result code).sys = s.sys := by
  cases db <;> rfl

@[simp] theorem signal_sys (s : State) (v : Nat) : (s.signal v).sys = s.sys := by
  unfold State.signal
  split
  · rfl
  · split
    · rfl
    · split
      · rfl
      · split <;> rfl

@[simp] theorem setPlaying_sys (s : State) (d : Dir) (p : Option Playing) : (s.setPlaying d p).sys = s.sys := by cases d <;> rfl

@[simp] theorem patStop_sys (s : State) (d : Dir) : (s.patStop d).sys = s.sys := by
  unfold State.patStop
  split
  · rfl
  · exact (signal_sys _ _).trans (setPlaying_sys s d none)

theorem dirRec_of_sys {s t : State} (h : t.sys = s.sys) (d : Dir) : t.dirRec d = s.dirRec d := by
  cases d
  · exact congrArg Sys.dl h
  · exact congrArg Sys.ul h

/-! ### Operations on the record of one direction -/

/-- Of SYS, nothing has changed between s and t but the record of direction d. -/
def OnlyDir (d : Dir) (s t : State) : Prop := t.sys = (s.setDir d (t.dirRec d)).sys

theorem onlyDir_of_sys {s t : State} (d : Dir) (h : t.sys = s.sys) : OnlyDir d s t := by
  unfold OnlyDir
  rw [dirRec_of_sys h]
  cases d <;> exact h

theorem onlyDir_refl (d : Dir) (s : State) : OnlyDir d s s := onlyDir_of_sys d rfl

theorem onlyDir_setDir (d : Dir) (s : State) (r : DirRec) : OnlyDir d s (s.setDir d r) := by cases d <;> rfl

theorem OnlyDir.trans {d : Dir} {s t u : State} (h : OnlyDir d s t) (k : OnlyDir d t u) : OnlyDir d s u := by
  unfold OnlyDir at *
  cases d
  · simp only [State.setDir] at *; rw [k, h]
  · simp only [State.setDir] at *; rw [k, h]

/-- The other direction's record stands. -/
theorem OnlyDir.other {d : Dir} {s t : State} (h : OnlyDir d s t) : t.dirRec d.other = s.dirRec d.other := by
  cases d
  · exact (congrArg Sys.ul h).trans rfl
  · exact (congrArg Sys.dl h).trans rfl

theorem OnlyDir.ne {d e : Dir} {s t : State} (h : OnlyDir d s t) (he : e ≠ d) : t.dirRec e = s.dirRec e := by
  have hk := h.other
  cases d <;> cases e
  · exact absurd rfl he
  · exact hk
  · exact hk
  · exact absurd rfl he

/-- And so does all of SYS but the two records. -/
theorem OnlyDir.rest {d : Dir} {s t : State} (h : OnlyDir d s t) : t.sys = { s.sys with dl := t.sys.dl, ul := t.sys.ul } := by
  unfold OnlyDir at h
  rw [h]
  cases d <;> rfl

theorem patEnd_onlyDir (s : State) (d : Dir) : OnlyDir d s (s.patEnd d) := by
  unfold State.patEnd
  split
  · exact (onlyDir_setDir d s _).trans (onlyDir_of_sys d (patStop_sys _ d))
  · exact onlyDir_of_sys d (patStop_sys s d)

/-- A pattern's end leaves in the record which pattern it was. -/
theorem patEnd_dirRec (s : State) (d : Dir) :
    (s.patEnd d).dirRec d = { s.dirRec d with leftPat := ((s.patEnd d).dirRec d).leftPat } := by
  unfold State.patEnd
  split
  · rw [dirRec_of_sys (patStop_sys _ d), dirRec_setDir_same]
  · rw [dirRec_of_sys (patStop_sys s d)]

theorem now_of_still {s t : State} (h : t.still = s.still) : t.now = s.now := congrArg Still.now h

/-- Before a transition's own record is written: laws close, a pattern ends, estimates are held. -/
def State.transPrep (s : State) (d : Dir) (t : Trans) : State :=
  let s := if t.toAir s && !s.onAir d then s.lawsStart d else s
  let s := if s.dirSt d = .playback && t.target != .playback then s.patEnd d else s
  if !t.toAir s then s.echoHold d else s

theorem beginTrans_eq (s : State) (d : Dir) (t : Trans) : s.beginTrans d t =
    (s.transPrep d t).setDir d { (s.transPrep d t).dirRec d with trans := some { t with start := (s.transPrep d t).now } } := rfl

theorem transPrep_still (s : State) (d : Dir) (t : Trans) : (s.transPrep d t).still = s.still := by
  unfold State.transPrep; extract_lets s1 s2
  have h1 : s1.still = s.still := by
    simp only [s1]; split
    · exact lawsStart_still s d
    · rfl
  have h2 : s2.still = s.still := by
    simp only [s2]; split
    · exact (patEnd_still s1 d).trans h1
    · exact h1
  split
  · exact (echoHold_still s2 d).trans h2
  · exact h2

theorem transPrep_dir (s : State) (d : Dir) (t : Trans) : OnlyDir d s (s.transPrep d t) ∧
    (s.transPrep d t).dirRec d = { s.dirRec d with leftPat := ((s.transPrep d t).dirRec d).leftPat } := by
  unfold State.transPrep; extract_lets s1 s2
  have h1 : s1.sys = s.sys := by
    simp only [s1]; split
    · exact lawsStart_sys s d
    · rfl
  have h2 : OnlyDir d s s2 ∧ s2.dirRec d = { s.dirRec d with leftPat := (s2.dirRec d).leftPat } := by
    simp only [s2]; split
    · refine ⟨(onlyDir_of_sys d h1).trans (patEnd_onlyDir s1 d), ?_⟩
      rw [← dirRec_of_sys h1 d]
      exact patEnd_dirRec s1 d
    · refine ⟨onlyDir_of_sys d h1, ?_⟩
      rw [dirRec_of_sys h1 d]
  split
  · refine ⟨h2.1.trans (onlyDir_of_sys d (echoHold_sys s2 d)), ?_⟩
    rw [dirRec_of_sys (echoHold_sys s2 d)]
    exact h2.2
  · exact h2

theorem beginTrans_onlyDir (s : State) (d : Dir) (t : Trans) : OnlyDir d s (s.beginTrans d t) := by
  rw [beginTrans_eq]
  exact (transPrep_dir s d t).1.trans (onlyDir_setDir d _ _)

/-- A transition that starts: it stands in its direction's record, and the state of the direction stays. -/
theorem beginTrans_dirRec (s : State) (d : Dir) (t : Trans) : (s.beginTrans d t).dirRec d =
    { s.dirRec d with trans := some { t with start := s.now }, leftPat := ((s.beginTrans d t).dirRec d).leftPat } := by
  obtain ⟨-, hrec⟩ := transPrep_dir s d t
  rw [beginTrans_eq, dirRec_setDir_same, now_of_still (transPrep_still s d t)]
  exact congrArg (fun r : DirRec => { r with trans := some { t with start := s.now } }) hrec

theorem beginTrans_dirSt (s : State) (d e : Dir) (t : Trans) : (s.beginTrans d t).dirSt e = s.dirSt e := by
  by_cases he : e = d
  · subst he
    exact (congrArg DirRec.st (beginTrans_dirRec s e t)).trans rfl
  · exact congrArg DirRec.st ((beginTrans_onlyDir s d t).ne he)

/-! ### Requests for STANDBY, LISTEN and service (R45) -/

/-- The state that a request for STANDBY, LISTEN or service takes a direction to; FULL acts as CAUTIOUS. -/
def Target.aim : Target → DirState
  | .listen => .listen
  | .cautious | .full => .cautious
  | _ => .standby

/-- The states of a direction that has no transition to make for the request. -/
def Target.met : Target → DirState → Bool
  | .listen, x => x = .listen
  | .cautious, x | .full, x => x = .cautious || x = .full || x = .muted
  | _, x => x = .standby

/-- A request for STANDBY, LISTEN or service. -/
def Target.moves : Target → Bool
  | .standby | .listen | .cautious | .full => true
  | _ => false

/-- The transition that a request starts. -/
def Req.trans (q : Req) : Trans := { target := q.target.aim, cause := q.cause, no := q.no, tag := q.tag, doorbell := q.doorbell }

theorem startDir_of_met {s : State} {q : Req} {d : Dir} (hq : q.target.moves = true) (h : q.target.met (s.dirSt d) = true) :
    s.startDir q d = s := by
  cases ht : q.target with
  | standby | listen => simp_all [State.startDir, Target.met]
  | cautious | full =>
    have hst : s.dirSt d = .cautious ∨ s.dirSt d = .full ∨ s.dirSt d = .muted := by simpa [ht, Target.met, or_assoc] using h
    simp [State.startDir, ht, hst]
  | playback _ | sleep | bad => simp [ht, Target.moves] at hq

theorem startDir_of_unmet {s : State} {q : Req} {d : Dir} (hq : q.target.moves = true) (htag : q.tag ≠ 0xFD)
    (h : q.target.met (s.dirSt d) = false) : s.startDir q d = s.beginTrans d q.trans := by
  cases ht : q.target with
  | standby | listen => simp_all [State.startDir, Target.met, Req.trans, Target.aim]
  | cautious | full =>
    have hst : ¬(s.dirSt d = .cautious ∨ s.dirSt d = .full ∨ s.dirSt d = .muted) := by
      simpa [ht, Target.met, and_assoc] using h
    simp [State.startDir, ht, hst, htag, Req.trans, Target.aim]
  | playback _ | sleep | bad => simp [ht, Target.moves] at hq

/-- A direction after a request: it stands as it was, or its transition runs. -/
def Started (q : Req) (s t : State) (d : Dir) : Prop :=
  (q.target.met (s.dirSt d) = true → t.dirRec d = s.dirRec d) ∧
    (q.target.met (s.dirSt d) = false → (t.dirRec d).trans = some { q.trans with start := s.now } ∧ t.dirSt d = s.dirSt d)

theorem Started.congr {q : Req} {s s' t t' : State} {d : Dir} (h : Started q s t d) (hs : s'.dirRec d = s.dirRec d) (hn : s'.now = s.now)
    (ht : t'.dirRec d = t.dirRec d) : Started q s' t' d := by
  simpa only [Started, State.dirSt, hs, hn, ht] using h

theorem startDir_started {s : State} {q : Req} (d : Dir) (hq : q.target.moves = true) (htag : q.tag ≠ 0xFD) :
    OnlyDir d s (s.startDir q d) ∧ (s.startDir q d).still = s.still ∧ Started q s (s.startDir q d) d := by
  cases h : q.target.met (s.dirSt d) with
  | true =>
    rw [startDir_of_met hq h]
    exact ⟨onlyDir_refl d s, rfl, fun _ => rfl, fun h' => by simp [h] at h'⟩
  | false =>
    rw [startDir_of_unmet hq htag h]
    exact ⟨beginTrans_onlyDir s d _, beginTrans_still s d _, fun h' => by simp [h] at h',
      fun _ => ⟨congrArg DirRec.trans (beginTrans_dirRec s d q.trans), beginTrans_dirSt s d d _⟩⟩

/-- Every direction that a request names starts or stands; every other one stands, and SYS changes in their records alone. -/
theorem startDirs_started {q : Req} (hq : q.target.moves = true) (htag : q.tag ≠ 0xFD) (ds : List Dir) (hnd : ds.Nodup) (s : State) :
    let t := ds.foldl (fun s d => s.startDir q d) s
    t.still = s.still ∧ t.sys = { s.sys with dl := t.sys.dl, ul := t.sys.ul } ∧
      ∀ d, (d ∈ ds → Started q s t d) ∧ (d ∉ ds → t.dirRec d = s.dirRec d) := by
  induction ds generalizing s with
  | nil => exact ⟨rfl, rfl, fun d => ⟨fun h => absurd h List.not_mem_nil, fun _ => rfl⟩⟩
  | cons e ds ih =>
    obtain ⟨he, hnd⟩ := List.nodup_cons.mp hnd
    obtain ⟨honly, hstill, hstart⟩ := startDir_started (s := s) e hq htag
    obtain ⟨istill, isys, idir⟩ := ih hnd (s.startDir q e)
    refine ⟨istill.trans hstill, ?_, fun d => ⟨fun hd => ?_, fun hd => ?_⟩⟩
    · rw [List.foldl_cons, isys, honly.rest]
    · by_cases hde : d = e
      · subst hde
        exact hstart.congr rfl rfl ((idir d).2 he)
      · exact ((idir d).1 ((List.mem_cons.mp hd).resolve_left hde)).congr (honly.ne hde).symm (now_of_still hstill).symm rfl
    · obtain ⟨hde, hds⟩ := not_or.mp (fun h => hd (List.mem_cons.mpr h))
      exact ((idir d).2 hds).trans (honly.ne hde)

/-- The transition that a request has started runs for it in exactly the directions that it names and that do not stand there yet. -/
theorem runsReq_of_started {q : Req} {s t : State} (h0 : ∀ d, (s.dirRec d).trans = none) (p : Dir → Bool)
    (h : ∀ d, (p d = true → Started q s t d) ∧ (p d = false → t.dirRec d = s.dirRec d)) :
    t.runsReq q.no = dirs.any (fun d => p d && !q.target.met (s.dirSt d)) := by
  refine congrArg (List.any dirs) (funext fun d => ?_)
  obtain ⟨hin, hout⟩ := h d
  cases hp : p d with
  | false => simp [hout hp, h0 d]
  | true =>
    obtain ⟨hmet, hunmet⟩ := hin hp
    cases hm : q.target.met (s.dirSt d) with
    | true => simp [hmet hm, h0 d]
    | false => simp [(hunmet hm).1, Req.trans]

theorem startReq_of_moves {s : State} {q : Req} (hq : q.target.moves = true) (hdb : q.doorbell = none) :
    s.startReq q = ((s.reqDirs q).foldl (fun s d => s.startDir q d) s).reqEnd q.no q.tag
      (if ((s.reqDirs q).foldl (fun s d => s.startDir q d) s).runsReq q.no then 1 else 2) := by
  unfold State.startReq
  cases ht : q.target with
  | standby | listen | cautious | full =>
    simp only [hdb, State.dbOutcome]
    split <;> rfl
  | playback _ | sleep | bad => simp [ht, Target.moves] at hq

/-- What service needs of the directions that a request names: SERVICE_EN, a slot, and the locks (R45). -/
def Serviceable (s : State) (scope : Nat) : Prop :=
  s.sys.serviceEn = true ∧ (∀ d, bitAt scope d.num = true → s.liveSlots d ≠ []) ∧ s.awaited scope = 0

/-- The directions of a scope, as the scope's bits. -/
theorem packBits_scope (scope : Fin 4) :
    packBits 2 (fun i => (dirs.filter (fun d => bitAt scope.val d.num)).contains (dirOf i)) = scope.val := by
  revert scope; decide

theorem reqDirs_of_moves {s : State} {q : Req} (hq : q.target.moves = true) :
    s.reqDirs q = dirs.filter (fun d => bitAt q.scope d.num) := by
  cases ht : q.target with
  | standby | listen | cautious | full => simp only [State.reqDirs, ht]
  | playback _ | sleep | bad => simp [ht, Target.moves] at hq

theorem refusal_of_moves {s : State} {q : Req} (hq : q.target.moves = true) (hair : s.reqAir q = true → Serviceable s q.scope) :
    s.refusal q = none := by
  have hen : (s.reqAir q && !s.sys.serviceEn) = false := by
    cases ha : s.reqAir q with
    | false => rfl
    | true => simp [(hair ha).1]
  have hlive : (s.reqAir q && (s.reqDirs q).any (fun d => (s.liveSlots d).isEmpty)) = false := by
    cases ha : s.reqAir q with
    | false => rfl
    | true =>
      have hsome : ∀ d ∈ s.reqDirs q, s.liveSlots d ≠ [] := fun d hd => by
        rw [reqDirs_of_moves hq] at hd
        exact (hair ha).2.1 d (List.mem_filter.mp hd).2
      simpa using hsome
  simp only [State.refusal, hen, hlive, Bool.false_eq_true, if_false]
  cases ht : q.target with
  | playback _ => simp [ht, Target.moves] at hq
  | standby | listen | cautious | full | sleep | bad => rfl

theorem reqAwaits_of_moves {s : State} {q : Req} (scope : Fin 4) (hq : q.target.moves = true) (hscope : q.scope = scope)
    (hres : q.isResume = false) (hair : s.reqAir q = true → Serviceable s q.scope) : s.reqAwaits q = 0 := by
  have hpack : s.reqScope q = q.scope := by
    rw [State.reqScope, reqDirs_of_moves hq, hscope, packBits_scope]
  cases ha : s.reqAir q with
  | false => simp [State.reqAwaits, ha, hres]
  | true => simpa [State.reqAwaits, ha, hpack] using (hair ha).2.2

/-- A request for STANDBY, LISTEN or service that nothing holds or refuses. -/
theorem hostRequest_starts {s : State} (t : Target) (scope : Fin 4) (tag : Nat) (hcalm : Calm s) (hscope : scope.val ≠ 0)
    (ht : t.moves = true) (hair : t.aim = .cautious → Serviceable s scope) :
    let q := s.hostReq t scope tag
    let u := s.hostRequest t scope tag
    (∀ d, (bitAt scope.val d.num = true → Started q s u d) ∧ (bitAt scope.val d.num = false → u.dirRec d = s.dirRec d)) ∧
      u.sys.reqTag = hostTag tag ∧
      u.sys.reqStatus = (if dirs.any (fun d => bitAt scope.val d.num && !t.met (s.dirSt d)) then 1 else 2) ∧ u.base = s.base := by
  intro q u
  have hq : q.target.moves = true := ht
  have hidle : ∀ d, ((s.taken q).dirRec d).trans = none := taken_idle hcalm q
  have hserv : (s.taken q).reqAir q = true → Serviceable (s.taken q) q.scope := fun ha => hair <| by
    cases t with
    | cautious | full => rfl
    | standby | listen => cases ha
    | playback _ | sleep | bad => cases ht
  have hstart : (s.taken q).handle q = (s.taken q).startReq q := by
    obtain ⟨hup, -, -, hcheck, -⟩ := hcalm
    exact handle_of_start hup (fun hb => by simp [hb, Target.moves] at hq) hscope hidle (refusal_of_moves hq hserv)
      (reqAwaits_of_moves scope hq rfl rfl hserv) hcheck
  have hnd : (dirs.filter (fun d => bitAt scope.val d.num)).Nodup := List.Nodup.filter _ (by decide)
  obtain ⟨hstill, hsys, hdir⟩ := startDirs_started hq (hostReq_plain s t scope tag).1 _ hnd (s.taken q)
  generalize hx : (dirs.filter (fun d => bitAt scope.val d.num)).foldl (fun s d => s.startDir q d) (s.taken q) = x at hstill hsys hdir
  have hu : u = x.reqEnd q.no q.tag (if x.runsReq q.no then 1 else 2) := by
    rw [show u = (s.taken q).handle q from hostRequest_of_calm s t scope tag hcalm, hstart, startReq_of_moves hq rfl, reqDirs_of_moves hq, ← hx]
    rfl
  have hmem : ∀ d, d ∈ dirs.filter (fun d => bitAt scope.val d.num) ↔ bitAt scope.val d.num = true := fun d => by
    cases d <;> simp [dirs]
  have hxdir : ∀ d, (bitAt scope.val d.num = true → Started q s x d) ∧ (bitAt scope.val d.num = false → x.dirRec d = s.dirRec d) := fun d =>
    ⟨fun hd => ((hdir d).1 ((hmem d).mpr hd)).congr (by cases d <;> rfl) rfl rfl,
      fun hd => ((hdir d).2 (fun hm => by simp [(hmem d).mp hm] at hd)).trans (by cases d <;> rfl)⟩
  have hruns := runsReq_of_started (calm_idle hcalm) (fun d => bitAt scope.val d.num) hxdir
  rw [hruns, reqEnd_of_shown (no := q.no) x q.tag _ (show q.no ≠ 0 from Nat.succ_ne_zero _) ((congrArg Sys.shown hsys).trans rfl)] at hu
  have hudir : ∀ d, u.dirRec d = x.dirRec d := fun d => by rw [hu]; cases d <;> rfl
  refine ⟨fun d => ⟨fun hd => ((hxdir d).1 hd).congr rfl rfl (hudir d), fun hd => (hudir d).trans ((hxdir d).2 hd)⟩, ?_, ?_, ?_⟩
  · rw [hu]; rfl
  · rw [hu]; rfl
  · rw [hu]; exact base_of_still hstill

end Sys2Proof.Machine

open Sys2Proof Sys2Proof.Machine

/-- Settles O18: the directions named go through `startDir` one by one, and the request's outcome shows whether a transition runs for it. -/
theorem requestsStartTransitions : Obligations.RequestsStartTransitions := by
  unfold Obligations.RequestsStartTransitions
  intro s scope tag hcalm hscope tr begun
  have hbegun : ∀ t : Target, t.moves = true → (t.aim = .cautious → Serviceable s scope) → begun t.aim t.met (s.hostRequest t scope tag) := by
    intro t ht hair
    obtain ⟨hdir, htag, hstatus, hbase⟩ := hostRequest_starts t scope tag hcalm hscope ht hair
    refine ⟨fun d => ⟨fun h => ?_, fun hd hm => ((hdir d).1 hd).2 hm⟩, htag, hstatus, (congrArg Base.power hbase).trans hcalm.1,
      congrArg Base.cfg hbase, congrArg Base.now hbase⟩
    cases hd : bitAt scope.val d.num with
    | false => exact (hdir d).2 hd
    | true => exact ((hdir d).1 hd).1 (h.resolve_left (by simp [hd]))
  refine ⟨⟨_, rfl, hbegun .standby rfl nofun⟩, ⟨_, rfl, hbegun .listen rfl nofun⟩, fun full hen hlive hlock => ⟨_, rfl, ?_⟩⟩
  cases full
  · exact hbegun .cautious rfl fun _ => ⟨hen, hlive, hlock⟩
  · exact hbegun .full rfl fun _ => ⟨hen, hlive, hlock⟩

end

section
/-! SUPPORT. The counterexample to the statement about real events (R30, R357): an image word with reserved bits set. -/

namespace Sys2Proof.Machine

/-- A device that is up, whose image holds a word with its reserved bits set at WAKE_CTRL. -/
def reservedImage : State := { power := .up, boot := { imageCfg := [(Reg.SYS_WAKE_CTRL, 0xFFFFFFFF)] } }

/-- The register parity error of WAKE_CTRL. -/
def wakeCtrlParity : Detect := { event := 759, kind := .real, unit := some Reg.SYS_WAKE_CTRL }

/-- The mended register takes the image word without its reserved bits, -/
theorem mended_reservedImage : (faultDetected [wakeCtrlParity] reservedImage).rd Reg.SYS_WAKE_CTRL ≠ 0xFFFFFFFF := by decide

/-- and the image holds them. -/
theorem image_reservedImage : State.rd { reservedImage with cfg := reservedImage.boot.imageCfg } Reg.SYS_WAKE_CTRL = 0xFFFFFFFF := by decide

end Sys2Proof.Machine

open Sys2Proof Sys2Proof.Machine

/-- Refutes O10: a control register that is mended takes its image value with the reserved bits cleared, as every write of it does, and
the statement admits an image whose words have reserved bits set. -/
theorem not_faultDetectedCounts : ¬ Obligations.FaultDetectedCounts := by
  unfold Obligations.FaultDetectedCounts
  intro h
  obtain ⟨-, hmend, -⟩ := h.2 reservedImage 759 (some Reg.SYS_WAKE_CTRL) (by decide) (by decide)
  obtain ⟨t, hexec, hrd, -⟩ := hmend _ rfl rfl (by decide)
  have hcfg : t.cfg = (faultDetected [wakeCtrlParity] reservedImage).cfg := by
    have hafter : reservedImage.after (faultDetected [wakeCtrlParity] reservedImage) = reservedImage.after t := Host.Outcome.next.inj hexec
    obtain ⟨-, -, -, hdone, -⟩ := after_keeps reservedImage (faultDetected [wakeCtrlParity] reservedImage)
    obtain ⟨-, -, -, hsaid, -⟩ := after_keeps reservedImage t
    rw [← hsaid, ← hafter, hdone]
  have hsame : t.rd Reg.SYS_WAKE_CTRL = (faultDetected [wakeCtrlParity] reservedImage).rd Reg.SYS_WAKE_CTRL := by
    simp only [State.rd, hcfg]
  exact mended_reservedImage (hsame.symm.trans (hrd.trans image_reservedImage))

end

section
/-! SUPPORT. The modes of a state: SYS, what `Base` holds, and the two registers that record a transition (R55). Operations on other parts
leave them, and TRANSITION_END and the promotion to FULL are read off them. -/

namespace Sys2Proof.Machine

structure Modes where
  sys : Sys
  base : Base
  last : Nat
  count : Nat

def State.modes (s : State) : Modes :=
  { sys := s.sys, base := s.base, last := s.st Reg.SYS_LAST_TRANSITION, count := s.st Reg.SYS_TRANSITION_COUNT }

theorem foldl_modes {α : Type} (l : List α) (f : State → α → State) (h : ∀ s a, (f s a).modes = s.modes) (s : State) :
    (l.foldl f s).modes = s.modes := foldl_keeps State.modes l f h s

theorem setSt_modes (s : State) (a n : Nat) (hlast : a ≠ Reg.SYS_LAST_TRANSITION) (hcount : a ≠ Reg.SYS_TRANSITION_COUNT) :
    (s.setSt a n).modes = s.modes := by
  simp only [State.modes, st_setSt_ne s n hlast.symm, st_setSt_ne s n hcount.symm]
  rfl

theorem setWide_modes (s : State) (a n : Nat) (hlast : a ≠ Reg.SYS_LAST_TRANSITION ∧ a + 4 ≠ Reg.SYS_LAST_TRANSITION)
    (hcount : a ≠ Reg.SYS_TRANSITION_COUNT ∧ a + 4 ≠ Reg.SYS_TRANSITION_COUNT) : (s.setWide a n).modes = s.modes :=
  (setSt_modes _ _ _ hlast.2 hcount.2).trans (setSt_modes s _ _ hlast.1 hcount.1)

theorem setDir_modes (s : State) (d : Dir) (r : DirRec) : (s.setDir d r).modes = { s.modes with sys := (s.setDir d r).sys } := by
  cases d <;> rfl

theorem raiseIf_modes (s : State) (c : Bool) (b n : Nat) (u : Option Nat) : (s.raiseIf c b n u).modes = s.modes := by cases c <;> rfl

/-- A status register read as one field of 32 bits. -/
theorem stF_word (s : State) (a : Nat) : s.stF a 0 32 = s.st a := by
  rw [State.stF, bitsAt, Nat.pow_zero, Nat.div_one]
  exact Nat.mod_eq_of_lt (BitVec.isLt _)

theorem record_modes (s : State) (a b c e : Nat) : (s.record a b c e).modes = { s.modes with
    last := (a + 16 * b + 256 * c + 4096 * e) % 2 ^ 32, count := satAdd (2 ^ 32 - 1) (s.st Reg.SYS_TRANSITION_COUNT) 1 } := by
  have hlast := (st_bumpF_ne (s.setSt Reg.SYS_LAST_TRANSITION (a + 16 * b + 256 * c + 4096 * e)) 0 32 1
    (by decide : Reg.SYS_LAST_TRANSITION ≠ Reg.SYS_TRANSITION_COUNT)).trans (st_setSt_same s _ _)
  have hcount := stF_bumpF_same (s.setSt Reg.SYS_LAST_TRANSITION (a + 16 * b + 256 * c + 4096 * e)) Reg.SYS_TRANSITION_COUNT 1
    (by decide : 0 + 32 ≤ 32)
  rw [stF_word, stF_word, st_setSt_ne s _ (by decide)] at hcount
  rw [State.record, State.bump, State.modes, hlast, hcount]
  rfl

theorem echoStartSlot_modes (s : State) (d : Dir) (n : Nat) (cold : Bool) : (s.echoStartSlot d n cold).modes = s.modes := rfl

theorem echoStart_modes (s : State) (d : Dir) (cold : Bool) : (s.echoStart d cold).modes = s.modes :=
  foldl_modes _ _ (fun s n => echoStartSlot_modes s d n cold) s

theorem echoHold_modes (s : State) (d : Dir) : (s.echoHold d).modes = s.modes :=
  foldl_modes _ _ (fun s n => show (s.echoHoldSlot d n).modes = s.modes from rfl) s

theorem setSlot_modes (s : State) (d : Dir) (n : Nat) (r : SlotRec) : (s.setSlot d n r).modes = s.modes := rfl

theorem seat_modes (s : State) (d : Dir) (g : Nat) : (s.seat d g).modes = s.modes := rfl

theorem seatAll_modes (s : State) (d : Dir) : (s.seatAll d).modes = s.modes :=
  (foldl_modes _ _ (fun s n => setSlot_modes s d n { s.slotRec d n with opened := s.slotElig d n }) _).trans
    (foldl_modes _ _ (fun s g => seat_modes s d g) s)

theorem openFirst_modes (s : State) (d : Dir) : (s.openFirst d).modes = s.modes := by
  refine foldl_modes _ _ (fun s n => ?_) s
  split
  · rfl
  · exact (echoStartSlot_modes _ d n false).trans ((setSlot_modes _ d n _).trans (seat_modes s d _))

theorem markT_modes (s : State) (k : Nat) : (s.markT k).modes = s.modes := by
  unfold State.markT
  split
  · exact setSt_modes s _ _ (by unfold measT Reg.SYS_LAST_TRANSITION; omega) (by unfold measT Reg.SYS_TRANSITION_COUNT; omega)
  · rfl

theorem paRamp_modes (s : State) (d : Dir) : (s.paRamp d).modes = s.modes :=
  foldl_modes _ _ (fun s l => by split <;> rfl) s

theorem paOff_modes (s : State) (d : Dir) : (s.paOff d).modes = s.modes :=
  foldl_modes _ _ (fun s l => by split <;> rfl) s

theorem noteGate_modes (s : State) (d : Dir) : (s.noteGate d).modes = s.modes := by
  unfold State.noteGate
  extract_lets now was s1
  have h1 : s1.modes = s.modes := by
    simp only [s1]
    split
    · exact setSt_modes s _ _ (by cases d <;> decide) (by cases d <;> decide)
    · rfl
  exact (setSt_modes s1 _ _ (by cases d <;> decide) (by cases d <;> decide)).trans h1

theorem signal_modes (s : State) (v : Nat) : (s.signal v).modes = s.modes := by
  unfold State.signal
  split
  · rfl
  · split
    · rfl
    · split
      · rfl
      · split
        · rfl
        · exact setSt_modes s _ _ (by decide) (by decide)

theorem patStop_modes (s : State) (d : Dir) : (s.patStop d).modes = s.modes := by
  unfold State.patStop
  split
  · rfl
  · refine (signal_modes _ _).trans ?_
    cases d <;> rfl

theorem patHold_modes (s : State) (d : Dir) (p : Nat) (r : Bool) : (s.patHold d p r).modes = s.modes := by
  unfold State.patHold
  dsimp only
  split
  · exact echoHold_modes s d
  · split
    · rfl
    · split
      · rfl
      · exact echoHold_modes s d

theorem patStart_modes (s : State) (d : Dir) (p : Nat) (x : DirState) : (s.patStart d p x).modes = s.modes := by
  unfold State.patStart
  refine (patHold_modes _ d p _).trans ((setWide_modes _ _ _ ?_ ?_).trans ((setSt_modes _ _ _ ?_ ?_).trans ?_))
  · cases d <;> decide
  · cases d <;> decide
  · decide
  · decide
  · cases d <;> rfl

/-! ### The end of a transition -/

theorem serviceStart_modes (s : State) (d : Dir) (x : DirState) : (s.serviceStart d x).modes =
    { s.modes with sys := (s.setDir d { s.dirRec d with cold := false }).sys } := by
  unfold State.serviceStart
  extract_lets cold s1 s2
  have h1 : s1.modes = s.modes := echoStart_modes s d cold
  have h2 : s2.modes = s.modes := by
    simp only [s2]
    split
    · exact h1
    · exact (seatAll_modes s1 d).trans h1
  have hsys : s2.sys = s.sys := congrArg Modes.sys h2
  have hset : (s2.setDir d { s2.dirRec d with cold := false }).sys = (s.setDir d { s.dirRec d with cold := false }).sys := by
    cases d <;> simp only [State.setDir, State.dirRec, hsys]
  exact (markT_modes _ 1).trans ((setDir_modes s2 d _).trans (congrArg₂ (fun (m : Modes) y => { m with sys := y }) h2 hset))

theorem setDir_self_sys (s : State) (d : Dir) : (s.setDir d { s.dirRec d with cold := (s.dirRec d).cold }).sys = s.sys := by cases d <;> rfl

/-- On arriving, a direction may lose the mark of a cold start, and nothing else of the modes changes. -/
theorem arrive_modes (s : State) (d : Dir) (t : Trans) (x : DirState) : ∃ c, (s.arrive d t x).modes =
    { s.modes with sys := (s.setDir d { s.dirRec d with cold := c }).sys } := by
  have hsame : ∀ {u : State}, u.modes = s.modes → ∃ c, u.modes = { s.modes with sys := (s.setDir d { s.dirRec d with cold := c }).sys } :=
    fun h => ⟨(s.dirRec d).cold, h.trans (by rw [setDir_self_sys]; rfl)⟩
  unfold State.arrive
  split
  · split
    · split
      · exact hsame rfl
      · exact hsame (seatAll_modes s d)
    · exact ⟨false, (paRamp_modes _ d).trans (serviceStart_modes s d x)⟩
  · split
    · exact hsame ((paRamp_modes _ d).trans (patStart_modes s d _ _))
    · exact hsame rfl
  · exact hsame rfl

theorem resumed_modes (s : State) (t : Trans) (x : DirState) : (s.resumed t x).modes = s.modes := by unfold State.resumed; split <;> rfl

/-- What the end of a request leaves of SYS for whoever waits. -/
def Sys.waits (y : Sys) : DirRec × DirRec × Option (Req × Wait) × Option Req × Option (Nat × Nat × Nat) :=
  (y.dl, y.ul, y.pendingReq, y.behind, y.sleepNext)

/-- Of the modes, the request's outcome changes what REQ_STATUS shows. -/
theorem transDone_modes (s : State) (t : Trans) : (s.transDone t).modes = { s.modes with sys := (s.transDone t).sys } ∧
    (s.transDone t).sys.waits = s.sys.waits := by
  unfold State.transDone
  split
  · rw [dbOutcome_sys, reqEnd_sys, reqEnd_eq]
    refine ⟨?_, rfl⟩
    cases t.doorbell
    · exact congrArg (fun y => { s.modes with sys := y }) (reqEnd_sys s t.no t.tag 2)
    · exact congrArg (fun y => { s.modes with sys := y }) (reqEnd_sys s t.no t.tag 2)
  · exact ⟨rfl, rfl⟩

/-- Where nothing waits for the transition's end, nothing follows it. -/
theorem afterTrans_of_none (s : State) (d : Dir) (hreq : s.sys.pendingReq = none) (hbehind : s.sys.behind = none)
    (hsleep : s.sys.sleepNext = none) : s.afterTrans d none = s := by
  simp [State.afterTrans, State.retry, State.unbehind, State.trySleep, hreq, hbehind, hsleep]

/-- The record in which a direction's transition ends. -/
theorem transRec_congr {s t : State} (d : Dir) (tr : Trans) (hsys : t.sys = s.sys) (hprot : tr.target = .cautious → t.protMuted d = s.protMuted d) :
    t.transRec d tr = s.transRec d tr := by
  have hmuted : (tr.target = .cautious && t.protMuted d) = (tr.target = .cautious && s.protMuted d) := by
    by_cases h : tr.target = .cautious
    · simp [h, hprot h]
    · simp [h]
  simp only [State.transRec, dirRec_of_sys hsys, hmuted]

/-- The state in which a direction's ending record has been written, -/
def State.transWritten (s : State) (d : Dir) (t : Trans) : State :=
  let s1 := if t.swaps (s.dirRec d).st then s.patStop d else s
  s.bothMuted (s1.setDir d (s1.transRec d t))

/-- and in which the two registers record it. -/
def State.transRecorded (s : State) (d : Dir) (t : Trans) : State :=
  if t.swaps (s.dirRec d).st then s.transWritten d t
  else (s.transWritten d t).record (s.dirRec d).st.code ((s.transWritten d t).dirSt d).code d.bit t.cause

/-- What follows before the next thing that waited. -/
def State.transArrived (s : State) (d : Dir) (t : Trans) : State :=
  (((((s.transRecorded d t).resumed t (s.dirRec d).st).arrive d t (s.dirRec d).st).paOff d).noteGate d).transDone t

theorem finishTrans_eq {s : State} {d : Dir} {t : Trans} (h : (s.dirRec d).trans = some t) :
    s.finishTrans d = (s.transArrived d t).afterTrans d (s.dirRec d).after := by
  simp only [State.finishTrans, h]
  rfl

theorem finishTrans_of_none {s : State} {d : Dir} (h : (s.dirRec d).trans = none) : s.finishTrans d = s := by
  simp only [State.finishTrans, h]

theorem swaps_target {t : Trans} {x : DirState} (h : t.swaps x = true) : t.target = .playback := by
  simp only [Trans.swaps, Bool.and_eq_true, decide_eq_true_eq] at h
  exact h.2

theorem transWritten_modes (s : State) (d : Dir) (t : Trans) : (s.transWritten d t).modes =
    { s.modes with sys := (s.setDir d (s.transRec d t)).sys } := by
  unfold State.transWritten
  extract_lets s1
  have h1 : s1.modes = s.modes ∧ s1.transRec d t = s.transRec d t := by
    simp only [s1]
    split
    next hswap =>
      have hmodes := patStop_modes s d
      exact ⟨hmodes, transRec_congr d t (congrArg Modes.sys hmodes) (fun h => by simp [swaps_target hswap] at h)⟩
    next => exact ⟨rfl, rfl⟩
  obtain ⟨hmodes, hrec⟩ := h1
  have hsys : s1.sys = s.sys := congrArg Modes.sys hmodes
  have hset : (s1.setDir d (s.transRec d t)).sys = (s.setDir d (s.transRec d t)).sys := by
    cases d <;> simp only [State.setDir, hsys]
  rw [hrec]
  exact (raiseIf_modes _ _ 0 13 none).trans ((setDir_modes s1 d _).trans (congrArg₂ (fun (m : Modes) y => { m with sys := y }) hmodes hset))

theorem transWritten_dirRec (s : State) (d : Dir) (t : Trans) : (s.transWritten d t).dirRec d = s.transRec d t :=
  (dirRec_of_sys (congrArg Modes.sys (transWritten_modes s d t)) d).trans (dirRec_setDir_same s d _)

theorem transRecorded_modes (s : State) (d : Dir) (t : Trans) : ∃ last count, (s.transRecorded d t).modes =
      { s.modes with sys := (s.setDir d (s.transRec d t)).sys, last := last, count := count } ∧
    (t.swaps (s.dirSt d) = false →
      last = ((s.dirSt d).code + 16 * (s.transRec d t).st.code + 256 * d.bit + 4096 * t.cause) % 2 ^ 32 ∧
      count = satAdd (2 ^ 32 - 1) (s.st Reg.SYS_TRANSITION_COUNT) 1) := by
  have hwritten := transWritten_modes s d t
  unfold State.transRecorded
  split
  next hswap => exact ⟨_, _, hwritten, fun h => absurd (hswap.symm.trans h) (by decide)⟩
  next =>
    have hcount : (s.transWritten d t).st Reg.SYS_TRANSITION_COUNT = s.st Reg.SYS_TRANSITION_COUNT := congrArg Modes.count hwritten
    have hst : (s.transWritten d t).dirSt d = (s.transRec d t).st := congrArg DirRec.st (transWritten_dirRec s d t)
    refine ⟨_, _, (record_modes _ _ _ _ _).trans ?_, fun _ => ⟨rfl, rfl⟩⟩
    rw [hwritten, hcount, hst]
    rfl

theorem setDir_setDir_sys {x s : State} {d : Dir} {r : DirRec} (f : DirRec → DirRec) (h : x.sys = (s.setDir d r).sys) :
    (x.setDir d (f (x.dirRec d))).sys = (s.setDir d (f r)).sys := by
  rw [dirRec_of_sys h d, dirRec_setDir_same]
  cases d
  · simp only [State.setDir] at *
    rw [h]
  · simp only [State.setDir] at *
    rw [h]

/-- The direction's record is its ending record, but for the mark of a cold start; the other one and what could wait stand. -/
theorem transArrived_ends (s : State) (d : Dir) (t : Trans) :
    let u := s.transArrived d t
    (∃ c, u.sys.waits = (s.setDir d { s.transRec d t with cold := c }).sys.waits) ∧ u.base = s.base ∧
      (t.swaps (s.dirSt d) = false →
        u.st Reg.SYS_LAST_TRANSITION = ((s.dirSt d).code + 16 * (s.transRec d t).st.code + 256 * d.bit + 4096 * t.cause) % 2 ^ 32 ∧
        u.st Reg.SYS_TRANSITION_COUNT = satAdd (2 ^ 32 - 1) (s.st Reg.SYS_TRANSITION_COUNT) 1) := by
  intro u
  obtain ⟨last, count, hrecorded, hregs⟩ := transRecorded_modes s d t
  obtain ⟨c, harrive⟩ := arrive_modes ((s.transRecorded d t).resumed t (s.dirRec d).st) d t (s.dirRec d).st
  obtain ⟨hdone, hwaits⟩ :=
    transDone_modes (((((s.transRecorded d t).resumed t (s.dirRec d).st).arrive d t (s.dirRec d).st).paOff d).noteGate d) t
  let x := (s.transRecorded d t).resumed t (s.dirRec d).st
  have hresumed := (resumed_modes (s.transRecorded d t) t (s.dirRec d).st).trans hrecorded
  have hgate := (noteGate_modes _ d).trans ((paOff_modes _ d).trans harrive)
  have hsys : (x.setDir d { x.dirRec d with cold := c }).sys = (s.setDir d { s.transRec d t with cold := c }).sys :=
    setDir_setDir_sys (fun r => { r with cold := c }) (congrArg Modes.sys hresumed)
  have hkept : ∀ {α : Type} (f : Modes → α), (∀ m y, f { m with sys := y } = f m) → f u.modes = f x.modes := fun f hf =>
    (congrArg f hdone).trans ((hf _ _).trans ((congrArg f hgate).trans (hf _ _)))
  refine ⟨⟨c, hwaits.trans (congrArg Sys.waits ((congrArg Modes.sys hgate).trans hsys))⟩, ?_, fun hswap => ⟨?_, ?_⟩⟩
  · exact (hkept Modes.base fun _ _ => rfl).trans (congrArg Modes.base hresumed)
  · exact ((hkept Modes.last fun _ _ => rfl).trans (congrArg Modes.last hresumed)).trans (hregs hswap).1
  · exact ((hkept Modes.count fun _ _ => rfl).trans (congrArg Modes.count hresumed)).trans (hregs hswap).2

/-- What TRANSITION_END's end gives the two directions, and that nothing waits which did not. -/
theorem waits_setDir {u s : State} {d : Dir} {r : DirRec} (h : u.sys.waits = (s.setDir d r).sys.waits) :
    u.dirRec d = r ∧ u.dirRec d.other = s.dirRec d.other ∧
      u.sys.pendingReq = s.sys.pendingReq ∧ u.sys.behind = s.sys.behind ∧ u.sys.sleepNext = s.sys.sleepNext := by
  simp only [Sys.waits, Prod.mk.injEq] at h
  obtain ⟨hdl, hul, hreq, hbehind, hsleep⟩ := h
  cases d
  · exact ⟨hdl, hul, hreq, hbehind, hsleep⟩
  · exact ⟨hul, hdl, hreq, hbehind, hsleep⟩

end Sys2Proof.Machine

open Sys2Proof Sys2Proof.Machine

/-- Settles O21: the direction takes its ending record, and arriving changes at most its mark of a cold start. -/
theorem transitionEnds : Obligations.TransitionEnds := by
  unfold Obligations.TransitionEnds
  intro s d hup
  refine ⟨fun hnone => ⟨transitionEnd d s, rfl, ?_⟩, fun tr htr hafter hreq hbehind hsleep => ⟨transitionEnd d s, rfl, ?_⟩⟩
  · rw [transitionEnd, State.ifUp, if_pos hup, finishTrans_of_none hnone]
  · rw [transitionEnd, State.ifUp, if_pos hup, finishTrans_eq htr, hafter]
    obtain ⟨⟨c, hwaits⟩, hbase, hregs⟩ := transArrived_ends s d tr
    obtain ⟨hrec, hother, hreq', hbehind', hsleep'⟩ := waits_setDir hwaits
    rw [afterTrans_of_none _ d (hreq'.trans hreq) (hbehind'.trans hbehind) (hsleep'.trans hsleep)]
    have htarget : (s.transRec d tr).st = if tr.target = .cautious ∧ s.protMuted d = true then DirState.muted else tr.target := by
      simp [State.transRec]
    refine ⟨(congrArg DirRec.st hrec).trans htarget, congrArg DirRec.trans hrec, (congrArg DirRec.running hrec).trans ?_, hother,
      congrArg Base.cfg hbase, congrArg Base.now hbase, fun hpat => ?_⟩
    · show (tr.target != .standby) = decide (tr.target ≠ .standby)
      cases tr.target <;> rfl
    · rw [← htarget]
      exact hregs (by simpa [Trans.swaps] using hpat)

end

section
/-! SUPPORT. The waits that end (R45, R47, R70): the refused lock wait, the promotion to FULL, and the entry to SLEEP, whose recorder
counts of Peat alone. -/

namespace Sys2Proof.Machine

theorem power_of_base {s t : State} (h : t.base = s.base) : t.power = s.power := congrArg Base.power h

theorem cfg_of_base {s t : State} (h : t.base = s.base) : t.cfg = s.cfg := congrArg Base.cfg h

theorem now_of_base {s t : State} (h : t.base = s.base) : t.now = s.now := congrArg Base.now h

/-! ### The lock wait -/

theorem unbehind_of_none {s : State} (h : s.sys.behind = none) : s.unbehind = s := by simp [State.unbehind, h]

theorem lockWaitExpired_of_locks {s : State} {q : Req} {deadline : Nat} (h : s.sys.pendingReq = some (q, .locks deadline)) : lockWaitExpired s =
    (State.refuse { s with sys := { s.sys with pendingReq := none } } q 0x0A01 (firstAwaited (s.reqAwaits q))).unbehind := by
  simp only [lockWaitExpired, h]

theorem firstAwaited_lt (bits : Nat) : firstAwaited bits < 32 := by
  unfold firstAwaited
  split
  · decide
  · split <;> decide

/-! ### The promotion to FULL -/

theorem openFirst_front (s : State) (d : Dir) : (s.openFirst d).front = s.front := by
  refine foldl_keeps State.front _ _ (fun s n => ?_) s
  split <;> rfl

theorem markT_front (s : State) (k : Nat) : (s.markT k).front = s.front := by unfold State.markT; split <;> rfl

theorem promote_modes (s : State) (d : Dir) : (s.promote d).modes = { s.modes with
    sys := (s.setDir d { s.dirRec d with st := .full }).sys
    last := (3 + 16 * 4 + 256 * d.bit + 4096 * 2) % 2 ^ 32, count := satAdd (2 ^ 32 - 1) (s.st Reg.SYS_TRANSITION_COUNT) 1 } := by
  refine (openFirst_modes _ d).trans ((markT_modes _ 2).trans ((record_modes _ _ _ _ _).trans ?_))
  cases d <;> rfl

theorem promote_front (s : State) (d : Dir) : (s.promote d).front = s.front := by
  refine (openFirst_front _ d).trans ((markT_front _ 2).trans ?_)
  cases d <;> rfl

/-! ### The entry to SLEEP -/

/-- Events of other sources leave a source's record. -/
theorem raiseEvs_source_ne (s : State) (es : List Ev) (b n : Nat) (hes : ∀ e ∈ es, 32 * b + n ≠ 32 * e.blk + e.src)
    (hc : ¬chained (32 * b + n)) : (s.raiseEvs es).flt.source b n = s.flt.source b n := countAll_source_ne s _ s.fx es b n hes hc

/-- The recorder counts of Peat alone. -/
theorem recorder_source_ne (s : State) (f : Rec → Rec) {b n : Nat} (hb : b ≠ 21) (hn : n < 32)
    (hf : ∀ k ∈ (f { p := s.peat, m := s.mram }).counts, k < 32) (hc : ¬chained (32 * b + n)) :
    (s.recorder f).flt.source b n = s.flt.source b n := by
  refine raiseEvs_source_ne _ _ b n (fun e he => ?_) hc
  obtain ⟨k, hk, rfl⟩ := List.mem_map.mp he
  have := hf k hk
  dsimp only
  omega

theorem peatClose_source_ne (s : State) (cause detail : Nat) {b n : Nat} (hb : b ≠ 21) (hn : n < 32) (hc : ¬chained (32 * b + n)) :
    (s.peatClose cause detail).flt.source b n = s.flt.source b n := by
  refine raiseEvs_source_ne _ _ b n (fun e he => ?_) hc
  have := Fx.peatClose_events s s.fx cause detail e he
  omega

theorem sleepStart_sys (s : State) (cause no tag : Nat) : (s.sleepStart cause no tag).sys =
    { s.sys with entering := some (cause, no, tag), sleepNext := none, wakeSession := false } := rfl

theorem sleepStart_source_ne (s : State) (cause no tag : Nat) {b n : Nat} (hb : b ≠ 21) (hn : n < 32) (hc : ¬chained (32 * b + n)) :
    (s.sleepStart cause no tag).flt.source b n = s.flt.source b n := by
  refine Eq.trans (b := ((s.recorder (fun c => Rec.drain { c with p := { c.p with frozen := false, freezePending := false } })).peatClose
    8 0).flt.source b n) rfl ?_
  rw [peatClose_source_ne _ 8 0 hb hn hc, recorder_source_ne s _ hb hn (by simp) hc]

theorem trySleep_of_standby {s : State} {cause no tag : Nat} (hnext : s.sys.sleepNext = some (cause, no, tag)) (hup : s.power = .up)
    (hst : ∀ d, s.dirSt d = .standby) (htr : ∀ d, (s.dirRec d).trans = none) : s.trySleep = s.sleepStart cause no tag := by
  simp only [State.trySleep, hnext]
  exact if_pos ⟨hst .dl, hst .ul, htr .dl, htr .ul, hup⟩

theorem enterStandby_of_standby {s : State} {d : Dir} (cause : Nat) (hup : s.power ≠ .shutdown) (hst : s.dirSt d = .standby)
    (htr : (s.dirRec d).trans = none) : s.enterStandby d cause = s := by
  simp [State.enterStandby, hup, hst, htr]

/-- The state in which a wake session has ended: SYS source 10 has counted, and SLEEP is asked for. -/
def State.lingered (s : State) : State :=
  State.raise { s with sys := { s.sys with wakeSession := false, sleepNext := some (6, 0, 0) } } 0 10

theorem lingered_dirRec (s : State) (d : Dir) : s.lingered.dirRec d = s.dirRec d := by cases d <;> rfl

/-- A wake session without another request, both directions in STANDBY, begins the entry to SLEEP. -/
theorem wakeSessionLingerExpired_of_calm {s : State} (hcalm : Calm s) (hsession : s.sys.wakeSession = true) (hlinger : s.sys.lingerOff = false)
    (hst : ∀ d, s.dirSt d = .standby) : wakeSessionLingerExpired s = s.lingered.sleepStart 6 0 0 := by
  have hup : s.lingered.power = .up := hcalm.1
  have hstand : ∀ d, s.lingered.dirSt d = .standby := fun d => (congrArg DirRec.st (lingered_dirRec s d)).trans (hst d)
  have hidle : ∀ d, (s.lingered.dirRec d).trans = none := fun d => (congrArg DirRec.trans (lingered_dirRec s d)).trans (calm_idle hcalm d)
  have henter : ∀ d, s.lingered.enterStandby d 6 = s.lingered := fun d => enterStandby_of_standby 6 (by simp [hup]) (hstand d) (hidle d)
  calc wakeSessionLingerExpired s
      = (dirs.foldl (fun s d => s.enterStandby d 6) s.lingered).trySleep := if_pos (by simp [hcalm.1, hsession, hlinger])
    _ = s.lingered.trySleep := by simp only [dirs, List.foldl_cons, List.foldl_nil, henter]
    _ = s.lingered.sleepStart 6 0 0 := trySleep_of_standby rfl hup hstand hidle

end Sys2Proof.Machine

open Sys2Proof Sys2Proof.Machine

/-- Settles O20: the refusal of a plain request, the promotion's record, and the entry to SLEEP from STANDBY. -/
theorem waitsEnd : Obligations.WaitsEnd := by
  unfold Obligations.WaitsEnd
  refine ⟨fun s q deadline hreq htag hres hbehind hdb => ⟨_, rfl, ?_⟩, fun s d hup hst hidle =>
    ⟨fun hfull => ⟨promotionToFull d s, rfl, ?_⟩, fun hfull => ⟨promotionToFull d s, rfl, ?_⟩⟩,
    fun s hcalm hsession hlinger hdl hul => ⟨_, rfl, ?_⟩⟩
  · have hplain : q.plain := ⟨htag, hres, hdb⟩
    obtain ⟨honly, hcode, hcount⟩ := refuse_plain_changes s { s.sys with pendingReq := none } q 0x0A01 (firstAwaited (s.reqAwaits q)) hplain
      (firstAwaited_lt _)
    have hsys := (refuse_plain_sys { s with sys := { s.sys with pendingReq := none } } q 0x0A01 (firstAwaited (s.reqAwaits q)) hplain).trans
      (reqEnd_sys _ q.no q.tag 3)
    rw [lockWaitExpired_of_locks hreq, unbehind_of_none ((congrArg Sys.behind hsys).trans hbehind)]
    refine ⟨congrArg Sys.pendingReq hsys, hcode.trans (by omega), hcount, (congrArg Sys.dl hsys).trans rfl, (congrArg Sys.ul hsys).trans rfl, honly⟩
  · rw [promotionToFull, if_pos ⟨hup, hst, hidle, hfull⟩]
    have hmodes := promote_modes s d
    have hsys : (s.promote d).sys = (s.setDir d { s.dirRec d with st := .full }).sys := congrArg Modes.sys hmodes
    refine ⟨?_, ?_, ?_, congrArg Base.cfg (congrArg Modes.base hmodes), congrArg Base.now (congrArg Modes.base hmodes), promote_front s d⟩
    · exact (dirRec_of_sys hsys d).trans (dirRec_setDir_same s d _)
    · exact (dirRec_of_sys hsys d.other).trans ((onlyDir_setDir d s _).other)
    · refine (congrArg Modes.last hmodes).trans (Nat.mod_eq_of_lt ?_)
      cases d <;> decide
  · rw [promotionToFull, if_neg (by simp [hfull])]
  · have hst : ∀ d, s.dirSt d = .standby := fun d => by cases d <;> assumption
    rw [wakeSessionLingerExpired_of_calm hcalm hsession hlinger hst]
    have hbase : (s.lingered.sleepStart 6 0 0).base = s.base := base_of_still (sleepStart_still s.lingered 6 0 0)
    have hfree : ¬chained (32 * 0 + 10) := by unfold chained; decide
    have hcount : Counts 0 10 s (s.lingered.sleepStart 6 0 0) := by
      rw [Counts, sleepStart_source_ne s.lingered 6 0 0 (by decide) (by decide) hfree]
      exact raise_counts_of_flt 0 10 none hfree (by decide) rfl
    have hsys := sleepStart_sys s.lingered 6 0 0
    exact ⟨congrArg Sys.entering hsys, congrArg Sys.wakeSession hsys, hcount, (congrArg Sys.dl hsys).trans rfl, (congrArg Sys.ul hsys).trans rfl,
      cfg_of_base hbase, now_of_base hbase⟩

end

section
/-! SUPPORT. What a unit's return to service leaves (R359, R361): the image and check data that a start has read, the records of all units,
and SYS where both directions are settled. -/

namespace Sys2Proof.Machine

/-! ### Events that name no unit -/

theorem countOne_units (s : State) (x : Fx) (e : Ev) (hu : namedUnit e.blk e.src e.unit = none) :
    (countOne s x e).1.flt.units = x.flt.units := by
  have hmark : ∀ (f : Flt) b src makes, (markHdr f b src makes).units = f.units := fun f b src makes => by
    unfold markHdr
    dsimp only
    split <;> rfl
  unfold countOne
  simp only [hu, countUnit]
  split
  · rfl
  · simp only [Bool.false_eq_true, if_false]
    split
    · rw [enqueue_flt]
      exact hmark _ _ _ _
    · split
      · rw [enqueue_flt]
        exact hmark _ _ _ _
      · exact hmark _ _ _ _

theorem countAll_units (s : State) (k : Nat) (x : Fx) (es : List Ev) (hes : ∀ e ∈ es, namedUnit e.blk e.src e.unit = none) :
    (countAll s k x es).flt.units = x.flt.units := by
  induction k generalizing x es with
  | zero => rfl
  | succ k ih =>
    cases es with
    | nil => rfl
    | cons e t =>
      obtain ⟨-, hmore⟩ := countOne_unitless s x e (hes e (by simp))
      simp only [countAll]
      rw [ih _ _ fun e' he' => (List.mem_append.mp he').elim (fun h => hes e' (by simp [h])) (hmore e'),
        countOne_units s x e (hes e (by simp))]

/-- Events that name no unit leave the records of all units. -/
theorem raiseEvs_units (s : State) (es : List Ev) (hes : ∀ e ∈ es, namedUnit e.blk e.src e.unit = none) :
    (s.raiseEvs es).flt.units = s.flt.units := countAll_units s _ _ es hes

theorem raise_units (s : State) {b n : Nat} (h : sourceUnits b n = []) : (s.raise b n).flt.units = s.flt.units :=
  raiseEvs_units s _ (by simp [namedUnit, h])

theorem peatClose_unitless (s : State) (cause detail : Nat) :
    ∀ e ∈ (s.fx.peatClose s cause detail).2, namedUnit e.blk e.src e.unit = none := fun e he => by
  obtain ⟨n, hn, rfl⟩ := List.mem_map.mp he
  rcases Rec.close_counts _ _ _ _ _ n hn with h | rfl | rfl
  · exact absurd h List.not_mem_nil
  · rfl
  · rfl

theorem peatClose_units (s : State) (cause detail : Nat) : (s.peatClose cause detail).flt.units = s.flt.units :=
  raiseEvs_units _ _ (peatClose_unitless s cause detail)

/-! ### The start's data and the units -/

structure Kept where
  boot : BootState
  units : NMap UnitRec

def State.kept (s : State) : Kept := { boot := s.boot, units := s.flt.units }

theorem kept_of_parts {s t : State} (hboot : t.boot = s.boot) (hunits : t.flt.units = s.flt.units) : t.kept = s.kept := by
  rw [State.kept, hboot, hunits]
  rfl

theorem boot_of_still {s t : State} (h : t.still = s.still) : t.boot = s.boot := congrArg Still.boot h

theorem foldl_kept {α : Type} (l : List α) (f : State → α → State) (h : ∀ s a, (f s a).kept = s.kept) (s : State) :
    (l.foldl f s).kept = s.kept := foldl_keeps State.kept l f h s

theorem raise_kept (s : State) {b n : Nat} (h : sourceUnits b n = []) : (s.raise b n).kept = s.kept := kept_of_parts rfl (raise_units s h)

theorem raiseIf_kept (s : State) (c : Bool) {b n : Nat} (h : sourceUnits b n = []) : (s.raiseIf c b n).kept = s.kept := by
  cases c
  · rfl
  · exact raise_kept s h

theorem peatClose_kept (s : State) (cause detail : Nat) : (s.peatClose cause detail).kept = s.kept :=
  kept_of_parts rfl (peatClose_units s cause detail)

theorem setDir_kept (s : State) (d : Dir) (r : DirRec) : (s.setDir d r).kept = s.kept := by cases d <;> rfl

theorem setLoop_kept (s : State) (l : LoopState) : State.kept { s with loop := l } = s.kept := rfl

theorem setSt_kept (s : State) (a n : Nat) : (s.setSt a n).kept = s.kept := rfl

theorem lawStatus_kept (s : State) (code j f : Nat) : (s.lawStatus code j f).kept = s.kept := setSt_kept s _ _

theorem pendingDone_kept (s : State) (j code : Nat) : (s.pendingDone j code).kept = s.kept := by
  unfold State.pendingDone
  dsimp only
  split <;> rfl

theorem lawsStart_kept (s : State) (d : Dir) : (s.lawsStart d).kept = s.kept := by
  unfold State.lawsStart
  refine foldl_kept _ _ (fun s k => ?_) s
  extract_lets j x s1 x1
  have h1 : s1.kept = s.kept := by
    simp only [s1]
    split
    · exact (raise_kept _ rfl).trans ((lawStatus_kept _ 6 j 0).trans (setLoop_kept s _))
    · rfl
  split
  · split
    · exact (raise_kept _ rfl).trans ((pendingDone_kept _ j 7).trans ((setLoop_kept s1 _).trans h1))
    · exact (pendingDone_kept _ j 0).trans ((setLoop_kept s1 _).trans h1)
  · exact h1

theorem setPcie_kept (s : State) (p : PcieState) : State.kept { s with pcie := p } = s.kept := rfl

theorem bumpF_kept (s : State) (a lo w k : Nat) : (s.bumpF a lo w k).kept = s.kept := setSt_kept s a _

theorem signal_kept (s : State) (v : Nat) : (s.signal v).kept = s.kept := by
  unfold State.signal
  split
  · rfl
  · split
    · exact (raise_kept _ rfl).trans (setPcie_kept s _)
    · split
      · exact raise_kept s rfl
      · split
        · exact setPcie_kept s _
        · exact bumpF_kept s _ 0 32 1

theorem patStop_kept (s : State) (d : Dir) : (s.patStop d).kept = s.kept := by
  unfold State.patStop
  split
  · rfl
  · refine (signal_kept _ _).trans ?_
    cases d <;> rfl

theorem patEnd_kept (s : State) (d : Dir) : (s.patEnd d).kept = s.kept := by
  unfold State.patEnd
  split
  · exact (patStop_kept _ d).trans (setDir_kept s d _)
  · exact patStop_kept s d

theorem echoHoldSlot_kept (s : State) (d : Dir) (n : Nat) : (s.echoHoldSlot d n).kept = s.kept := rfl

theorem echoHold_kept (s : State) (d : Dir) : (s.echoHold d).kept = s.kept := foldl_kept _ _ (fun s n => echoHoldSlot_kept s d n) s

theorem transPrep_kept (s : State) (d : Dir) (t : Trans) : (s.transPrep d t).kept = s.kept := by
  unfold State.transPrep
  extract_lets s1 s2
  have h1 : s1.kept = s.kept := by
    simp only [s1]
    split
    · exact lawsStart_kept s d
    · rfl
  have h2 : s2.kept = s.kept := by
    simp only [s2]
    split
    · exact (patEnd_kept s1 d).trans h1
    · exact h1
  split
  · exact (echoHold_kept s2 d).trans h2
  · exact h2

theorem beginTrans_kept (s : State) (d : Dir) (t : Trans) : (s.beginTrans d t).kept = s.kept := by
  rw [beginTrans_eq]
  exact (setDir_kept _ d _).trans (transPrep_kept s d t)

/-! ### The restore procedures -/

theorem setSyn_kept (s : State) (y : Syn) (r : SynRec) : (s.setSyn y r).kept = s.kept := by cases y <;> rfl

theorem setCache_kept (s : State) (y : Syn) (l : List CacheEntry) : (s.setCache y l).kept = s.kept := by cases y <;> rfl

theorem lockStart_kept (s : State) (y : Syn) : (s.lockStart y).kept = s.kept := by
  unfold State.lockStart
  dsimp only
  split
  · exact setSyn_kept s y _
  · split
    · exact (setCache_kept _ y _).trans (setSyn_kept s y _)
    · exact (bumpF_kept _ _ 24 8 1).trans (setSyn_kept s y _)

theorem restoreLane_kept (s : State) (tx : Bool) (l : Nat) : (s.restoreLane tx l).kept = s.kept := by cases tx <;> rfl

theorem setGov_kept (s : State) (d : Dir) (g : Nat) (r : GovRec) : (s.setGov d g r).kept = s.kept := rfl

theorem setSlot_kept (s : State) (d : Dir) (n : Nat) (r : SlotRec) : (s.setSlot d n r).kept = s.kept := rfl

theorem gateWait_kept (s : State) (d : Dir) (n c : Nat) : (s.gateWait d n c).kept = s.kept := rfl

theorem restoreSlot_kept (s : State) (d : Dir) (n : Nat) : (s.restoreSlot d n).kept = s.kept :=
  (setGov_kept _ d _ _).trans ((gateWait_kept _ d n 5).trans (setSlot_kept s d n _))

theorem setEcho_kept (s : State) (d : Dir) (n : Nat) (r : EchoRec) : (s.setEcho d n r).kept = s.kept := rfl

theorem echoStartSlot_kept (s : State) (d : Dir) (n : Nat) (cold : Bool) : (s.echoStartSlot d n cold).kept = s.kept := rfl

theorem restoreEcho_kept (s : State) (d : Dir) (n : Nat) : (s.restoreEcho d n).kept = s.kept :=
  (setEcho_kept _ d n _).trans (echoStartSlot_kept s d n true)

theorem restoreEchoes_kept (s : State) (d : Dir) : (s.restoreEchoes d).kept = s.kept :=
  (foldl_kept _ _ (fun s n => setEcho_kept s d n _) _).trans (foldl_kept _ _ (fun s n => echoStartSlot_kept s d n false) s)

theorem restoreLaw_kept (s : State) (j : Nat) : (s.restoreLaw j).kept = s.kept := rfl

theorem restoreDir_kept (s : State) (d : Dir) : (s.restoreDir d).kept = s.kept := by
  unfold State.restoreDir
  split
  · exact beginTrans_kept s d _
  · rfl

theorem unmuteDir_kept (s : State) (d : Dir) : (s.unmuteDir d).kept = s.kept := by
  refine (restoreDir_kept _ d).trans ?_
  cases d <;> rfl

theorem unmuteSlot_kept (s : State) (d : Dir) (n : Nat) : (s.unmuteSlot d n).kept = s.kept :=
  (restoreDir_kept _ d).trans ((echoStartSlot_kept _ d n false).trans ((gateWait_kept _ d n 2).trans (setGov_kept s d _ _)))

theorem restoreGov_kept (s : State) (d : Dir) (u : Nat) : (s.restoreGov d u).kept = s.kept := by
  unfold State.restoreGov
  split
  · split
    · exact unmuteDir_kept s d
    · rfl
  · split
    · exact unmuteSlot_kept s d _
    · exact restoreSlot_kept s d _

theorem setPeat_kept (s : State) (p : PeatState) : State.kept { s with peat := p } = s.kept := rfl

theorem restorePeat_kept (s : State) : s.restorePeat.kept = s.kept :=
  (setPeat_kept _ _).trans ((peatClose_kept _ 11 0).trans ((raiseIf_kept _ _ rfl).trans (setPeat_kept s _)))

/-- A restore procedure leaves the start's data, and the records of all units, whatever its unit. -/
theorem restoreBlock_kept (s : State) (b u : Nat) : (s.restoreBlock b u).kept = s.kept := by
  unfold State.restoreBlock
  split
  · exact lockStart_kept s _
  · exact restoreLane_kept s _ u
  · exact restoreLane_kept s _ u
  · split
    · exact restoreLane_kept s _ u
    · exact restoreLane_kept s _ _
  · split
    · exact restoreSlot_kept s _ u
    · rfl
  · split
    · exact restoreSlot_kept s _ u
    · rfl
  · split
    · exact restoreEcho_kept s _ _
    · exact restoreEchoes_kept s _
  · exact restoreGov_kept s _ u
  · exact restoreGov_kept s _ u
  · split
    · exact restoreLaw_kept s u
    · rfl
  · split <;> rfl
  · exact restorePeat_kept s
  · split
    · exact restoreLane_kept s _ u
    · split
      · exact restoreLane_kept s _ _
      · split
        · exact restoreSlot_kept s _ _
        · rfl
  · rfl

end Sys2Proof.Machine
end

section
/-! SUPPORT. The start of a check and the end of a wake (R46, R65): nothing between keeps the start's data or the base from standing. -/

namespace Sys2Proof.Machine

/-! ### SERVICE_EN written (R46, R65) -/

theorem sleepAbandon_of_none {s : State} (h : s.sys.entering = none) : s.sleepAbandon = s := by simp [State.sleepAbandon, h]

theorem enableService_of_up {s : State} (o : Origin) (hup : s.power = .up) (hen : s.sys.serviceEn = false) (hent : s.sys.entering = none) :
    s.enableService o = s.startCheck o false (originTag o) (originCause o) := by
  simp [State.enableService, hup, hen, sleepAbandon_of_none hent]

theorem enableService_of_enabled {s : State} (o : Origin) (hup : s.power = .up) (hen : s.sys.serviceEn = true) : s.enableService o = s := by
  simp [State.enableService, hup, hen]

theorem enableService_of_waking {s : State} (o : Origin) (h : s.power = .waking) : s.enableService o = s.holdEnable true := by
  simp [State.enableService, h]

theorem serviceEnClear_of_waking {s : State} (h : s.power = .waking) : serviceEnClear s = s.holdEnable false := by
  simp [serviceEnClear, h]

/-- The state in which a wake holds one write of SERVICE_EN. -/
def State.enableHeld (s : State) (v : Bool) : State :=
  { s with sys := { s.sys with
    wakeHeldEn := [v], serviceEn := false, serial := s.sys.serial + 1, shown := s.sys.serial + 1, shadow := none
    wakeHeldNo := s.sys.serial + 1, reqTag := 0, reqStatus := 1 } }

/-- A write of SERVICE_EN in a wake that holds none yet: what it reads already changes nothing, -/
theorem holdEnable_of_eq {s : State} {v : Bool} (hheld : s.sys.wakeHeldEn = []) (h : s.sys.serviceEn = v) : s.holdEnable v = s := by
  simp [State.holdEnable, hheld, h]

/-- and another value is held; SERVICE_EN reads 0 either way. -/
theorem holdEnable_of_ne {s : State} {v : Bool} (hheld : s.sys.wakeHeldEn = []) (h : s.sys.serviceEn = !v) : s.holdEnable v = s.enableHeld v := by
  cases v <;> simp [State.holdEnable, State.enableHeld, hheld, h]

/-! ### The end of a wake (R65) -/

theorem enterStandby_boot (s : State) (d : Dir) (cause : Nat) : (s.enterStandby d cause).boot = s.boot :=
  boot_of_still (enterStandby_still s d cause)

theorem retry_boot (s : State) (w : Wait → Bool) : (s.retry w).boot = s.boot := by
  unfold State.retry
  split
  · split
    · exact (boot_of_still (handle_still _ _)).trans rfl
    · rfl
  · rfl

theorem abandonCheck_boot (s : State) : s.abandonCheck.boot = s.boot := by unfold State.abandonCheck; split <;> rfl

theorem foldl_boot {α : Type} (l : List α) (f : State → α → State) (h : ∀ s a, (f s a).boot = s.boot) (s : State) :
    (l.foldl f s).boot = s.boot := foldl_keeps State.boot l f h s

theorem backInService_boot (s : State) (b u : Nat) (history : List Nat) : (s.backInService b u history).boot = s.boot := rfl

theorem restoreBlock_boot (s : State) (b u : Nat) : (s.restoreBlock b u).boot = s.boot := congrArg Kept.boot (restoreBlock_kept s b u)

theorem returnUnits_boot (s : State) : s.returnUnits.boot = s.boot := by
  unfold State.returnUnits
  extract_lets out s1
  have hfold : s1.boot = s.boot := foldl_boot _ _ (fun s e => (restoreBlock_boot _ _ _).trans (backInService_boot s _ _ _)) s
  exact hfold

theorem peatReconfig_boot (s : State) : s.peatReconfig.boot = s.boot :=
  (congrArg Kept.boot (peatClose_kept _ 7 0)).trans ((boot_of_still (recorder_still _ Rec.drain)).trans rfl)

theorem reconfigure_boot (s : State) : s.reconfigure.boot = s.boot := by
  unfold State.reconfigure
  refine (peatReconfig_boot _).trans ((returnUnits_boot _).trans ?_)
  split
  · exact (retry_boot _ _).trans (abandonCheck_boot s)
  · exact (foldl_boot _ _ (fun s d => enterStandby_boot s d 0) _).trans (boot_of_still (overtakeReturns_still _ dirs))

theorem reqEnd_boot (s : State) (no tag status : Nat) : (s.reqEnd no tag status).boot = s.boot := boot_of_still (reqEnd_still s no tag status)

theorem sleepAbandon_boot (s : State) : s.sleepAbandon.boot = s.boot := by
  unfold State.sleepAbandon
  split
  · rfl
  · exact reqEnd_boot s _ _ 4

theorem holdEnable_boot (s : State) (v : Bool) : (s.holdEnable v).boot = s.boot := by unfold State.holdEnable; split <;> rfl

theorem enableService_boot (s : State) (o : Origin) : (s.enableService o).boot = s.boot := by
  unfold State.enableService
  split
  · exact holdEnable_boot s true
  · split
    · rfl
    · exact sleepAbandon_boot s

theorem heldEnable_boot (s : State) (v : Bool) : (s.heldEnable v).boot = s.boot := by
  unfold State.heldEnable
  cases v
  · exact (reqEnd_boot _ _ 0 2).trans (reconfigure_boot s)
  · dsimp only
    rw [if_pos rfl]
    split
    · exact enableService_boot s .host
    · exact (reqEnd_boot _ _ 0 2).trans (enableService_boot s .host)

theorem wakeHeld_boot (s : State) : s.wakeHeld.boot = s.boot := (foldl_boot _ _ (fun s v => heldEnable_boot s v) _).trans rfl

theorem applyReturn_boot (s : State) : s.applyReturn.boot = s.boot := by
  unfold State.applyReturn
  split
  · rfl
  · split
    · rfl
    · exact boot_of_still (request_still s _)

theorem calRestore_base (s : State) (fail : BitVec 8) : (s.calRestore fail).base = s.base := calDone_base s _ _ fail

theorem base_bog (s : State) (b : BogState) : State.base { s with bog := b } = s.base := rfl

theorem base_free (s : State) (n : Nat) : State.base { s with free := n } = s.base := rfl

/-- The locks and the calibration that a wake restores. -/
theorem wakeLocks_base (s : State) (band : BandCal) (w : WakeInfo) :
    ((((s.lockAtStart .c w.lockC band).lockAtStart .d w.lockD band).lockAtStart .u w.lockU band).calRestore w.calFail).base = s.base :=
  (calRestore_base _ _).trans ((lockAtStart_base _ .u _ _).trans ((lockAtStart_base _ .d _ _).trans (lockAtStart_base s .c _ _)))

/-- The restored state is up, its configuration, levels and time as they were. -/
theorem wakeRestore_base (s : State) (w : WakeInfo) : (s.wakeRestore w).base = { s.base with power := .up } := by
  unfold State.wakeRestore
  extract_lets s1 s2 s3
  have h3 : s3.base = { s.base with power := .up } := by
    refine (readback_base s2 _).trans ?_
    simp only [s2]
    split <;> rfl
  exact (base_bog _ _).trans ((wakeLocks_base _ _ w).trans ((base_free s3 _).trans h3))

/-- The state in STANDBY before WAKE_CTRL.RETURN and the held writes. -/
def State.wakeStood (s : State) (w : WakeInfo) : State :=
  let s := ((s.wakeRestore w).record 1 2 3 6).setSt (measT 0) (max 1 w.tStandby)
  { s with
    boot := { s.boot with standbyAt := s.now, waitUs := 0 }
    peat := { s.peat with openI := { openedAt := s.peat.opsec, limit := s.interval, born := some s.now } } }

theorem wakeStood_base (s : State) (w : WakeInfo) : (s.wakeStood w).base = { s.base with power := .up } := by
  unfold State.wakeStood
  extract_lets s1
  have hset : s1.base = { s.base with power := .up } := (setSt_base _ _ _).trans ((record_base _ 1 2 3 6).trans (wakeRestore_base s w))
  exact hset

theorem wakeComplete_of_waking {s : State} (w : WakeInfo) (h : s.power = .waking) : wakeComplete w s =
    (State.wakeHeld (if (s.wakeStood w).sys.wakeSession then s.wakeStood w else (s.wakeStood w).applyReturn)).retry (fun x => x = Wait.wake) := by
  rw [wakeComplete, if_neg (by simp [h])]
  rfl

/-- What follows STANDBY keeps the base and the start's data. -/
theorem wakeComplete_keeps {s : State} (w : WakeInfo) (h : s.power = .waking) :
    (wakeComplete w s).base = { s.base with power := .up } ∧ (wakeComplete w s).boot = (s.wakeStood w).boot := by
  rw [wakeComplete_of_waking w h]
  refine ⟨(retry_base _ _).trans ((wakeHeld_base _).trans ?_), (retry_boot _ _).trans ((wakeHeld_boot _).trans ?_)⟩
  · split
    · exact wakeStood_base s w
    · exact (applyReturn_base _).trans (wakeStood_base s w)
  · split
    · rfl
    · exact applyReturn_boot _

end Sys2Proof.Machine

open Sys2Proof Sys2Proof.Machine

/-- Settles O22: a write of SERVICE_EN starts the check or is held, and the wake's end keeps what `Base` holds. -/
theorem checkStartsAndWakeEnds : Obligations.CheckStartsAndWakeEnds := by
  unfold Obligations.CheckStartsAndWakeEnds
  refine ⟨fun s o => ⟨fun hup hen hent => ⟨s.enableService o, rfl, ?_⟩, fun hup hen => ⟨s.enableService o, rfl, enableService_of_enabled o hup hen⟩,
    fun hwake hheld => ?_⟩, fun s w => ⟨fun hwake => ⟨_, rfl, ?_⟩, fun hwake => ⟨wakeComplete w s, rfl, ?_⟩⟩⟩
  · rw [enableService_of_up o hup hen hent]
    exact ⟨rfl, _, rfl, rfl, rfl, rfl, rfl, rfl, rfl, rfl, rfl⟩
  · cases hen : s.sys.serviceEn with
    | true =>
      exact ⟨⟨s.enableService o, rfl, (enableService_of_waking o hwake).trans (holdEnable_of_eq hheld hen)⟩,
        serviceEnClear s, rfl, (serviceEnClear_of_waking hwake).trans (holdEnable_of_ne hheld hen)⟩
    | false =>
      exact ⟨⟨s.enableService o, rfl, (enableService_of_waking o hwake).trans (holdEnable_of_ne hheld hen)⟩,
        serviceEnClear s, rfl, (serviceEnClear_of_waking hwake).trans (holdEnable_of_eq hheld hen)⟩
  · obtain ⟨hbase, hboot⟩ := wakeComplete_keeps w hwake
    obtain ⟨hpower, hlev, hnow, hcfg, haboot, -⟩ := after_keeps s (wakeComplete w s)
    refine ⟨hpower.trans (congrArg Base.power hbase), hcfg.trans (congrArg Base.cfg hbase), hlev.trans (congrArg Base.lev hbase),
      hnow.trans (congrArg Base.now hbase), ?_⟩
    rw [haboot, hboot]
    exact congrArg Base.now (wakeRestore_base s w)
  · rw [wakeComplete, if_pos (by simpa using hwake)]

end

section
/-! SUPPORT. A reconfiguration (R50, R361, R376): both directions settle in STANDBY or on their way there, so that no unit's return starts
a transition; the retired units come back; the recorder thaws. -/

namespace Sys2Proof.Machine

/-! ### Both directions settle -/

/-- Every direction stands in STANDBY or has a transition. -/
def Settled (s : State) : Prop := ∀ d, s.dirSt d = .standby ∨ (s.dirRec d).trans.isSome = true

theorem settled_congr {s t : State} (h : t.sys = s.sys) (hs : Settled s) : Settled t := fun d => by
  rw [State.dirSt, dirRec_of_sys h]
  exact hs d

theorem setCache_sys (s : State) (y : Syn) (l : List CacheEntry) : (s.setCache y l).sys = s.sys := by cases y <;> rfl

theorem enterStandby_onlyDir (s : State) (d : Dir) (cause : Nat) : OnlyDir d s (s.enterStandby d cause) := by
  unfold State.enterStandby
  split
  · exact onlyDir_setDir d s _
  · split
    · split
      · exact onlyDir_refl d s
      · exact onlyDir_setDir d s _
    · split
      · exact onlyDir_refl d s
      · exact beginTrans_onlyDir s d _

/-- On the way to STANDBY a direction without a transition starts one, or stands there. -/
theorem enterStandby_of_idle {s : State} {d : Dir} (cause : Nat) (hup : s.power ≠ .shutdown) (htr : (s.dirRec d).trans = none)
    (hst : s.dirSt d ≠ .standby) : s.enterStandby d cause = s.beginTrans d { target := .standby, cause := cause } := by
  simp [State.enterStandby, hup, hst, htr]

/-- A direction that has been sent to STANDBY: it starts a transition to it, stands there, or keeps the transition that it has. -/
structure SentHome (s t : State) (d : Dir) : Prop where
  settled : t.dirSt d = .standby ∨ (t.dirRec d).trans.isSome = true
  starts : s.dirSt d ≠ .standby → (s.dirRec d).trans = none → (t.dirRec d).trans = some { target := .standby, cause := 0, start := s.now }
  stands : s.dirSt d = .standby → (s.dirRec d).trans = none → t.dirRec d = s.dirRec d

theorem SentHome.congr {s s' t t' : State} {d : Dir} (h : SentHome s t d) (hs : s'.dirRec d = s.dirRec d) (hn : s'.now = s.now)
    (ht : t'.dirRec d = t.dirRec d) : SentHome s' t' d := by
  obtain ⟨hsettled, hstarts, hstands⟩ := h
  constructor
  · simpa only [State.dirSt, ht] using hsettled
  · simpa only [State.dirSt, hs, hn, ht] using hstarts
  · simpa only [State.dirSt, hs, ht] using hstands

theorem enterStandby_sentHome {s : State} (d : Dir) (hup : s.power ≠ .shutdown) : SentHome s (s.enterStandby d 0) d := by
  cases htr : (s.dirRec d).trans with
  | none =>
    by_cases hst : s.dirSt d = .standby
    · rw [enterStandby_of_standby 0 hup hst htr]
      exact ⟨.inl hst, fun h => absurd hst h, fun _ _ => rfl⟩
    · rw [enterStandby_of_idle 0 hup htr hst]
      have htrans := congrArg DirRec.trans (beginTrans_dirRec s d { target := .standby, cause := 0 })
      exact ⟨.inr (by rw [htrans]; rfl), fun _ _ => htrans, fun h => absurd h hst⟩
  | some t =>
    refine ⟨.inr ?_, fun _ h => ?_, fun _ h => ?_⟩
    · simp only [State.enterStandby, if_neg hup, htr]
      split
      · simp [htr]
      · simp
    · rw [htr] at h; cases h
    · rw [htr] at h; cases h

/-- Both directions are sent to STANDBY, and SYS changes in their records alone. -/
theorem sendHome {s : State} (hup : s.power ≠ .shutdown) :
    let t := dirs.foldl (fun s d => s.enterStandby d 0) s
    (∀ d, SentHome s t d) ∧ t.sys.serviceEn = s.sys.serviceEn ∧ t.still = s.still := by
  intro t
  have hstill := enterStandby_still s .dl 0
  have hdl := enterStandby_onlyDir s .dl 0
  have hul := enterStandby_onlyDir (s.enterStandby .dl 0) .ul 0
  have hpower : (s.enterStandby .dl 0).power ≠ .shutdown := by rw [power_of_base (base_of_still hstill)]; exact hup
  refine ⟨fun d => ?_, ?_, (enterStandby_still _ .ul 0).trans hstill⟩
  · cases d
    · exact (enterStandby_sentHome .dl hup).congr rfl rfl (hul.ne (by decide))
    · exact (enterStandby_sentHome .ul hpower).congr (hdl.ne (by decide)).symm (now_of_still hstill).symm rfl
  · exact ((congrArg Sys.serviceEn hul.rest).trans rfl).trans ((congrArg Sys.serviceEn hdl.rest).trans rfl)

/-! ### No return to service starts a transition -/

theorem restoreDir_of_settled {s : State} (h : Settled s) (d : Dir) : s.restoreDir d = s := by
  unfold State.restoreDir
  rw [if_neg]
  rcases h d with hst | htr
  · simp [hst]
  · simp [Option.isNone_iff_eq_none, Option.ne_none_iff_isSome, htr]

theorem lockStart_sys (s : State) (y : Syn) : (s.lockStart y).sys = s.sys := by
  unfold State.lockStart
  dsimp only
  split
  · exact setSyn_sys s y _
  · split
    · exact (setCache_sys _ y _).trans (setSyn_sys s y _)
    · exact (setSt_sys _ _ _).trans (setSyn_sys s y _)

theorem restoreLane_sys (s : State) (tx : Bool) (l : Nat) : (s.restoreLane tx l).sys = s.sys := by cases tx <;> rfl

theorem gateWait_sys (s : State) (d : Dir) (n c : Nat) : (s.gateWait d n c).sys = s.sys := setSlot_sys s d n _

theorem restoreSlot_sys (s : State) (d : Dir) (n : Nat) : (s.restoreSlot d n).sys = s.sys :=
  (setGov_sys _ d _ _).trans ((gateWait_sys _ d n 5).trans (setSlot_sys s d n _))

theorem echoStartSlot_sys (s : State) (d : Dir) (n : Nat) (cold : Bool) : (s.echoStartSlot d n cold).sys = s.sys := setEcho_sys s d n _

theorem restoreEcho_sys (s : State) (d : Dir) (n : Nat) : (s.restoreEcho d n).sys = s.sys :=
  (setEcho_sys _ d n _).trans (echoStartSlot_sys s d n true)

theorem restoreEchoes_sys (s : State) (d : Dir) : (s.restoreEchoes d).sys = s.sys :=
  (foldl_sys _ _ (fun s n => setEcho_sys s d n _) _).trans (foldl_sys _ _ (fun s n => echoStartSlot_sys s d n false) s)

theorem unmuteDir_sys {s : State} (h : Settled s) (d : Dir) : (s.unmuteDir d).sys = s.sys := by
  have hset := setGovDir_sys s d { s.govDir d with mute := none, causeAt := none, over0 := 0, over1 := 0 }
  exact (congrArg State.sys (restoreDir_of_settled (settled_congr hset h) d)).trans hset

theorem unmuteSlot_sys {s : State} (h : Settled s) (d : Dir) (n : Nat) : (s.unmuteSlot d n).sys = s.sys := by
  have hset := (echoStartSlot_sys _ d n false).trans ((gateWait_sys _ d n 2).trans
    (setGov_sys s d (govOf n) { s.govRec d (govOf n) with mute := none, causeAt := none }))
  exact (congrArg State.sys (restoreDir_of_settled (settled_congr hset h) d)).trans hset

theorem restoreGov_sys {s : State} (h : Settled s) (d : Dir) (u : Nat) : (s.restoreGov d u).sys = s.sys := by
  unfold State.restoreGov
  split
  · split
    · exact unmuteDir_sys h d
    · rfl
  · split
    · exact unmuteSlot_sys h d _
    · exact restoreSlot_sys s d _

theorem setPeat_sys (s : State) (p : PeatState) : State.sys { s with peat := p } = s.sys := rfl

theorem restorePeat_sys (s : State) : s.restorePeat.sys = s.sys :=
  (setPeat_sys _ _).trans ((peatClose_sys _ 11 0).trans ((raiseIf_sys _ _ 21 13 none).trans (setPeat_sys s _)))

/-- Where both directions are settled, a unit's return leaves SYS. -/
theorem restoreBlock_sys {s : State} (h : Settled s) (b u : Nat) : (s.restoreBlock b u).sys = s.sys := by
  unfold State.restoreBlock
  split
  · exact lockStart_sys s _
  · exact restoreLane_sys s _ u
  · exact restoreLane_sys s _ u
  · split
    · exact restoreLane_sys s _ u
    · exact restoreLane_sys s _ _
  · split
    · exact restoreSlot_sys s _ u
    · rfl
  · split
    · exact restoreSlot_sys s _ u
    · rfl
  · split
    · exact restoreEcho_sys s _ _
    · exact restoreEchoes_sys s _
  · exact restoreGov_sys h _ u
  · exact restoreGov_sys h _ u
  · split <;> rfl
  · split <;> rfl
  · exact restorePeat_sys s
  · split
    · exact restoreLane_sys s _ u
    · split
      · exact restoreLane_sys s _ _
      · split
        · exact restoreSlot_sys s _ _
        · rfl
  · rfl

end Sys2Proof.Machine
end

section
/-! SUPPORT. The units that a reconfiguration takes back (R361), the thaw of the recorder (R376), and the statement. -/

namespace Sys2Proof.Machine

/-! ### The records of the units -/

/-- A key that reads another value than the default is listed. -/
theorem exists_mem_of_get_ne {α : Type} (d : Nat → α) {m : NMap α} {k : Nat} (h : NMap.get d m k ≠ d k) : ∃ e ∈ m, e.1 = k := by
  induction m with
  | nil => exact absurd rfl h
  | cons e t ih =>
    by_cases he : e.1 = k
    · exact ⟨e, List.mem_cons_self, he⟩
    · obtain ⟨j, w⟩ := e
      obtain ⟨x, hx, hk⟩ := ih (by simpa [NMap.get, he] using h)
      exact ⟨x, List.mem_cons_of_mem _ hx, hk⟩

/-- The record of a unit by its key. -/
def Flt.unitAt (f : Flt) (k : Nat) : UnitRec := NMap.get (fun _ => {}) f.units k

theorem unitAt_congr {f g : Flt} (k : Nat) (h : f.units = g.units) : f.unitAt k = g.unitAt k := by rw [Flt.unitAt, h, Flt.unitAt]

/-- One unit that comes back. -/
def State.takeBack (s : State) (e : Nat × UnitRec) : State := (s.backInService (e.1 / 256) (e.1 % 256) []).restoreBlock (e.1 / 256) (e.1 % 256)

theorem takeBack_unitAt (s : State) (e : Nat × UnitRec) (k : Nat) :
    (s.takeBack e).flt.unitAt k = if k = e.1 then {} else s.flt.unitAt k := by
  have hunits : (s.takeBack e).flt.units = (s.backInService (e.1 / 256) (e.1 % 256) []).flt.units :=
    congrArg Kept.units (restoreBlock_kept _ _ _)
  rw [Flt.unitAt, hunits, State.backInService, Flt.setUnit, NMap.get_put, Nat.div_add_mod]
  rfl

/-- Each unit of a list comes back; every other one stands as it was. -/
theorem foldl_takeBack_unitAt (l : List (Nat × UnitRec)) (s : State) (k : Nat) :
    (l.foldl State.takeBack s).flt.unitAt k = if k ∈ l.map Prod.fst then {} else s.flt.unitAt k := by
  induction l generalizing s with
  | nil => rfl
  | cons e l ih =>
    rw [List.foldl_cons, ih, takeBack_unitAt]
    by_cases hl : k ∈ l.map Prod.fst
    · simp [hl]
    · simp [hl]

theorem backInService_sys (s : State) (b u : Nat) (history : List Nat) : (s.backInService b u history).sys = s.sys := rfl

theorem foldl_takeBack_sys (l : List (Nat × UnitRec)) {s : State} (h : Settled s) : (l.foldl State.takeBack s).sys = s.sys := by
  induction l generalizing s with
  | nil => rfl
  | cons e l ih =>
    have hback := backInService_sys s (e.1 / 256) (e.1 % 256) []
    have he : (s.takeBack e).sys = s.sys := (restoreBlock_sys (settled_congr hback h) _ _).trans hback
    exact (ih (settled_congr he h)).trans he

/-- The retired units of a state. -/
def State.retired (s : State) : List (Nat × UnitRec) := s.flt.units.filter (fun e => s.unitSt (e.1 / 256) (e.1 % 256) = .retired)

theorem mem_retired {s : State} {k : Nat} : k ∈ s.retired.map Prod.fst ↔ (s.flt.unitAt k).st = .retired := by
  have hkey : ∀ j, s.unitSt (j / 256) (j % 256) = (s.flt.unitAt j).st := fun j => by
    rw [State.unitSt, Flt.unit, Nat.div_add_mod]
    rfl
  constructor
  · rintro hk
    obtain ⟨e, he, rfl⟩ := List.mem_map.mp hk
    simpa [hkey] using (List.mem_filter.mp he).2
  · intro hst
    obtain ⟨e, he, rfl⟩ := exists_mem_of_get_ne (fun _ => ({} : UnitRec)) (m := s.flt.units) (k := k) fun h => by
      rw [Flt.unitAt, h] at hst
      cases hst
    exact List.mem_map.mpr ⟨e, List.mem_filter.mpr ⟨he, by simpa [hkey] using hst⟩, rfl⟩

theorem foldl_units {α : Type} (l : List α) (f : Flt → α → Flt) (h : ∀ x a, (f x a).units = x.units) (x : Flt) :
    (l.foldl f x).units = x.units := foldl_keeps Flt.units l f h x

theorem endSevere_units (f : Flt) (b n : Nat) : (f.endSevere b n).units = f.units := rfl

theorem setWord_units (f : Flt) (a n : Nat) : (f.setWord a n).units = f.units := rfl

/-- A unit's record without its history of restores. -/
def UnitRec.cleared (r : UnitRec) : UnitRec := { r with restores := [] }

theorem returnUnits_unitAt (s : State) (k : Nat) :
    s.returnUnits.flt.unitAt k = ((s.retired.foldl State.takeBack s).flt.unitAt k).cleared := by
  unfold State.returnUnits
  extract_lets out s1 f1 f2
  have h1 : f1.units = s1.flt.units :=
    foldl_units _ _ (fun f e => foldl_units _ _ (fun f n => endSevere_units f _ n) f) _
  have h2 : f2.unitAt k = (f1.unitAt k).cleared := NMap.get_mapVal _ f1.units _ k rfl
  have h3 : f1.unitAt k = (s.retired.foldl State.takeBack s).flt.unitAt k := unitAt_congr k h1
  rw [← h3, ← h2]
  refine unitAt_congr k (foldl_units _ _ (fun f b => ?_) f2)
  dsimp only
  split
  · rfl
  · exact setWord_units f _ _

theorem returnUnits_sys {s : State} (h : Settled s) : s.returnUnits.sys = s.sys := by
  unfold State.returnUnits
  extract_lets out s1
  have hfold : s1.sys = s.sys := foldl_takeBack_sys s.retired h
  exact hfold

/-- No unit is retired any more, and a fenced one stays fenced. -/
theorem returnUnits_st (s : State) (k : Nat) : (s.returnUnits.flt.unitAt k).st =
    if (s.flt.unitAt k).st = .retired then UState.inService else (s.flt.unitAt k).st := by
  rw [returnUnits_unitAt, UnitRec.cleared, foldl_takeBack_unitAt]
  by_cases h : (s.flt.unitAt k).st = .retired
  · rw [if_pos h, if_pos (mem_retired.mpr h)]
  · rw [if_neg h, if_neg (fun hk => h (mem_retired.mp hk))]

/-! ### The recorder (R376) -/

theorem Rec.drain_frozen (c : Rec) : c.drain.p.frozen = c.p.frozen := by
  unfold Rec.drain
  split
  · rfl
  · split
    · rfl
    · split
      · rfl
      · split <;> rfl

theorem Rec.push_frozen (s : State) (c : Rec) (kind cause detail : Nat) : (Rec.push s c kind cause detail).p.frozen = c.p.frozen :=
  Rec.drain_frozen _

theorem Rec.close_frozen (s : State) (out : Bool) (c : Rec) (cause detail : Nat) : (Rec.close s out c cause detail).p.frozen = c.p.frozen := by
  unfold Rec.close
  split
  · rfl
  · dsimp only
    split
    · split
      · split
        · rfl
        · exact Rec.push_frozen s _ 3 cause detail
      · exact Rec.drain_frozen _
    · split
      · rfl
      · exact Rec.push_frozen s c 1 cause detail

theorem peatClose_frozen (s : State) (cause detail : Nat) : (s.peatClose cause detail).peat.frozen = s.peat.frozen :=
  (congrArg PeatState.frozen (raiseEvs_closed (s.withFx (s.fx.peatClose s cause detail).1) _ (peatClose_unitless s cause detail))).trans
    (Rec.close_frozen _ _ _ _ _)

theorem recorder_drain_frozen (s : State) : (s.recorder Rec.drain).peat.frozen = s.peat.frozen :=
  (congrArg PeatState.frozen (raiseEvs_closed _ _ (by simp))).trans (Rec.drain_frozen _)

theorem recorder_drain_units (s : State) : (s.recorder Rec.drain).flt.units = s.flt.units := (raiseEvs_units _ _ (by simp)).trans rfl

/-- A reconfiguration of Peat: the freeze ends and the layout takes effect; SYS and the units stand. -/
theorem peatReconfig_keeps (s : State) : s.peatReconfig.peat.frozen = false ∧ s.peatReconfig.peat.layout = bitAt (s.rd Reg.PEAT_CFG) 0 ∧
    s.peatReconfig.sys = s.sys ∧ s.peatReconfig.flt.units = s.flt.units := by
  unfold State.peatReconfig
  extract_lets p s1 s2
  have hfrozen : s2.peat.frozen = false := (peatClose_frozen s1 7 0).trans (recorder_drain_frozen _)
  have hcfg : s2.cfg = s.cfg := cfg_of_base ((peatClose_base s1 7 0).trans ((recorder_base _ Rec.drain).trans rfl))
  have hsys : s2.sys = s.sys := (peatClose_sys s1 7 0).trans rfl
  have hunits : s2.flt.units = s.flt.units := (peatClose_units s1 7 0).trans (recorder_drain_units _)
  refine ⟨hfrozen, ?_, hsys, hunits⟩
  show bitAt (s2.rd Reg.PEAT_CFG) 0 = bitAt (s.rd Reg.PEAT_CFG) 0
  rw [State.rd, State.rd, hcfg]

/-! ### The reconfiguration -/

theorem abandonTrans_of_none {s : State} {d : Dir} (h : (s.dirRec d).trans = none) : s.abandonTrans d = s := by
  simp only [State.abandonTrans, h]

/-- The record of a direction whose transition is abandoned. -/
def DirRec.abandoned (r : DirRec) : DirRec := { r with trans := none, running := r.running && r.st != .standby }

/-- Of SYS, an abandoned transition changes its direction's record, and what REQ_STATUS and the superseded tag show. -/
theorem abandonTrans_sys {s : State} {d : Dir} {t : Trans} (h : (s.dirRec d).trans = some t) : ∃ shown shadow tag status sup,
    (s.abandonTrans d).sys = { (s.setDir d (s.dirRec d).abandoned).sys with
      shown := shown, shadow := shadow, reqTag := tag, reqStatus := status, supTag := sup } := by
  simp only [State.abandonTrans, h]
  split
  · exact ⟨_, _, _, _, _, rfl⟩
  · split
    · rw [dbOutcome_sys, reqEnd_sys]
      exact ⟨_, _, _, _, _, rfl⟩
    · rw [dbOutcome_sys, reqEnd_sys]
      exact ⟨_, _, _, _, _, rfl⟩

theorem abandonTrans_other {s : State} {d e : Dir} {t : Trans} (h : (s.dirRec d).trans = some t) (he : e ≠ d) :
    (s.abandonTrans d).dirRec e = s.dirRec e := by
  obtain ⟨_, _, _, _, _, hsys⟩ := abandonTrans_sys h
  refine Eq.trans ?_ ((onlyDir_setDir d s (s.dirRec d).abandoned).ne he)
  cases e
  · exact (congrArg Sys.dl hsys).trans rfl
  · exact (congrArg Sys.ul hsys).trans rfl

/-- Overtaking an automatic return leaves SERVICE_EN, and a direction without a transition. -/
theorem overtakeReturn_keeps (s : State) (e : Dir) : (s.overtakeReturns [e]).sys.serviceEn = s.sys.serviceEn ∧
    ∀ d, (s.dirRec d).trans = none → (s.overtakeReturns [e]).dirRec d = s.dirRec d := by
  simp only [State.overtakeReturns, List.foldl_cons, List.foldl_nil]
  split
  next t htr =>
    split
    · refine ⟨?_, fun d hd => abandonTrans_other htr fun hde => ?_⟩
      · obtain ⟨_, _, _, _, _, hsys⟩ := abandonTrans_sys htr
        refine (congrArg Sys.serviceEn hsys).trans ?_
        cases e <;> rfl
      · rw [← hde, hd] at htr
        cases htr
    · exact ⟨rfl, fun _ _ => rfl⟩
  next => exact ⟨rfl, fun _ _ => rfl⟩

theorem overtakeReturns_keeps (s : State) : (s.overtakeReturns dirs).sys.serviceEn = s.sys.serviceEn ∧
    ∀ d, (s.dirRec d).trans = none → (s.overtakeReturns dirs).dirRec d = s.dirRec d := by
  obtain ⟨hen, hdir⟩ := overtakeReturn_keeps s .dl
  obtain ⟨hen', hdir'⟩ := overtakeReturn_keeps (s.overtakeReturns [.dl]) .ul
  exact ⟨hen'.trans hen, fun d hd => (hdir' d (by rw [hdir d hd]; exact hd)).trans (hdir d hd)⟩

/-- The directions of a reconfiguration without a check on their way to STANDBY. -/
def State.homed (s : State) : State :=
  dirs.foldl (fun s d => s.enterStandby d 0) (State.overtakeReturns { s with sys := { s.sys with serviceEn := false } } dirs)

theorem reqEnd_kept (s : State) (no tag status : Nat) : (s.reqEnd no tag status).kept = s.kept := by rw [reqEnd_eq]; rfl

theorem dbOutcome_kept (s : State) (db : Option Nat) (result code : Nat) : (s.dbOutcome db result code).kept = s.kept := by cases db <;> rfl

theorem setSys_kept (s : State) (y : Sys) : State.kept { s with sys := y } = s.kept := rfl

theorem abandonTrans_kept (s : State) (d : Dir) : (s.abandonTrans d).kept = s.kept := by
  have hset := setDir_kept s d (s.dirRec d).abandoned
  unfold State.abandonTrans
  split
  · rfl
  next t _ =>
    have hend := (dbOutcome_kept _ t.doorbell 5 0).trans ((reqEnd_kept _ t.no t.tag 4).trans hset)
    split
    · exact hset
    · split
      · exact hend
      · exact (setSys_kept _ _).trans hend

theorem enterStandby_kept (s : State) (d : Dir) (cause : Nat) : (s.enterStandby d cause).kept = s.kept := by
  unfold State.enterStandby
  split
  · exact setDir_kept s d _
  · split
    · split
      · rfl
      · exact setDir_kept s d _
    · split
      · rfl
      · exact beginTrans_kept s d _

theorem overtakeReturns_kept (s : State) (ds : List Dir) : (s.overtakeReturns ds).kept = s.kept := by
  refine foldl_kept _ _ (fun s d => ?_) s
  split
  · split
    · exact abandonTrans_kept s d
    · rfl
  · rfl

theorem homed_kept (s : State) : s.homed.kept = s.kept :=
  (foldl_kept _ _ (fun s d => enterStandby_kept s d 0) _).trans ((overtakeReturns_kept _ dirs).trans (setSys_kept s _))

theorem reconfigure_of_unchecked {s : State} (h : s.sys.check = none) : s.reconfigure = s.homed.returnUnits.peatReconfig := by
  unfold State.reconfigure
  rw [if_neg (by simp [h])]
  rfl

theorem homed_keeps {s : State} (hup : s.power = .up) : Settled s.homed ∧ s.homed.sys.serviceEn = false ∧ s.homed.still = s.still ∧
    (∀ d, s.dirSt d ≠ .standby → (s.dirRec d).trans = none →
      (s.homed.dirRec d).trans = some { target := .standby, cause := 0, start := s.now }) ∧
    ∀ d, s.dirSt d = .standby → (s.dirRec d).trans = none → s.homed.dirRec d = s.dirRec d := by
  have hstill := overtakeReturns_still { s with sys := { s.sys with serviceEn := false } } dirs
  obtain ⟨hen, hover⟩ := overtakeReturns_keeps { s with sys := { s.sys with serviceEn := false } }
  have hrec : ∀ d, State.dirRec { s with sys := { s.sys with serviceEn := false } } d = s.dirRec d := fun d => by cases d <;> rfl
  have hpower : (State.overtakeReturns { s with sys := { s.sys with serviceEn := false } } dirs).power ≠ .shutdown := by
    rw [power_of_base (base_of_still hstill), hup]
    decide
  obtain ⟨hsent, hserv, hhome⟩ := sendHome hpower
  have hkept : ∀ d, (s.dirRec d).trans = none → SentHome s s.homed d := fun d hd =>
    (hsent d).congr ((hover d (by rw [hrec]; exact hd)).trans (hrec d)).symm (now_of_still hstill).symm rfl
  exact ⟨fun d => (hsent d).settled, hserv.trans hen, hhome.trans hstill, fun d hst hd => (hkept d hd).starts hst hd,
    fun d hst hd => (hkept d hd).stands hst hd⟩

end Sys2Proof.Machine

open Sys2Proof Sys2Proof.Machine

/-- Settles O24: the directions are sent home, the units come back under settled directions, and the recorder thaws. -/
theorem reconfiguration : Obligations.Reconfiguration := by
  unfold Obligations.Reconfiguration
  intro s
  refine ⟨fun hup hen hcheck => ⟨serviceEnClear s, rfl, ?_⟩, fun hup hen => ⟨serviceEnClear s, rfl, ?_⟩⟩
  · have hclear : serviceEnClear s = s.homed.returnUnits.peatReconfig := by
      rw [serviceEnClear, if_neg (by simp [hup]), if_neg (by simp [State.isUp, hup, hen]), reconfigure_of_unchecked hcheck]
    rw [hclear]
    obtain ⟨hsettled, hoff, hstill, hstarts, hstands⟩ := homed_keeps hup
    obtain ⟨hfrozen, hlayout, hpeatSys, hpeatUnits⟩ := peatReconfig_keeps s.homed.returnUnits
    have hsys := hpeatSys.trans (returnUnits_sys hsettled)
    have hret := (returnUnits_base s.homed).trans (base_of_still hstill)
    have hbase := (peatReconfig_base s.homed.returnUnits).trans hret
    have hst : ∀ b u, (s.homed.returnUnits.peatReconfig).unitSt b u =
        if s.unitSt b u = .retired then UState.inService else s.unitSt b u := fun b u => by
      have hunits := unitAt_congr (256 * b + u) (congrArg Kept.units (homed_kept s))
      have hback := returnUnits_st s.homed (256 * b + u)
      rw [hunits] at hback
      exact (congrArg UnitRec.st (unitAt_congr (256 * b + u) hpeatUnits)).trans hback
    refine ⟨(congrArg Sys.serviceEn hsys).trans hoff, power_of_base hbase, cfg_of_base hbase, now_of_base hbase, fun d hd htr => ?_,
      fun d hd htr => ?_, fun b u _ => ?_, fun b u _ hf => ?_, hfrozen, ?_⟩
    · rw [dirRec_of_sys hsys]
      exact hstarts d hd htr
    · rw [dirRec_of_sys hsys]
      exact hstands d hd htr
    · rw [hst]
      split
      · decide
      · assumption
    · rw [hst, hf]
      rfl
    · rw [hlayout, State.rd, cfg_of_base hret, State.rd]
  · rw [serviceEnClear, if_neg (by intro h; simp [State.isUp, h] at hup), if_pos (by simp [hen])]

end

section
/-! SUPPORT. Thermal shutdown and its resume (R44, R49, R346): what the shutdown does to a direction, and what its other steps leave. -/

namespace Sys2Proof.Machine

/-! ### The directions and the requests that wait -/

/-- The records of the directions, and the requests that wait. -/
def Sys.requests (y : Sys) : DirRec × DirRec × Option (Req × Wait) × Option Req := (y.dl, y.ul, y.pendingReq, y.behind)

theorem requests_eq_iff {y z : Sys} :
    y.requests = z.requests ↔ y.dl = z.dl ∧ y.ul = z.ul ∧ y.pendingReq = z.pendingReq ∧ y.behind = z.behind := by
  simp only [Sys.requests, Prod.mk.injEq]

theorem requests_setDir {u s : State} {d : Dir} {r : DirRec} (h : u.sys.requests = (s.setDir d r).sys.requests) :
    u.dirRec d = r ∧ u.dirRec d.other = s.dirRec d.other ∧ u.sys.pendingReq = s.sys.pendingReq ∧ u.sys.behind = s.sys.behind := by
  obtain ⟨hdl, hul, hreq, hbehind⟩ := requests_eq_iff.mp h
  cases d
  · exact ⟨hdl, hul, hreq, hbehind⟩
  · exact ⟨hul, hdl, hreq, hbehind⟩

/-- What a direction's record is written over does not matter. -/
theorem setDir_requests {u s : State} {r r' : DirRec} (d : Dir) (h : u.sys.requests = (s.setDir d r').sys.requests) :
    (u.setDir d r).sys.requests = (s.setDir d r).sys.requests := by
  obtain ⟨hdl, hul, hreq, hbehind⟩ := requests_eq_iff.mp h
  refine requests_eq_iff.mpr ?_
  cases d
  · exact ⟨rfl, hul, hreq, hbehind⟩
  · exact ⟨hdl, rfl, hreq, hbehind⟩

theorem dirRec_of_requests {s t : State} (h : t.sys.requests = s.sys.requests) (d : Dir) : t.dirRec d = s.dirRec d := by
  obtain ⟨hdl, hul, -⟩ := requests_eq_iff.mp h
  cases d
  · exact hdl
  · exact hul

/-- An abandoned transition leaves its direction's record as it is but for the transition and what runs with it. -/
theorem abandonTrans_requests (s : State) (d : Dir) : ∃ r : DirRec, r.trans = none ∧ r.st = s.dirSt d ∧
    (s.abandonTrans d).sys.requests = (s.setDir d r).sys.requests := by
  cases htr : (s.dirRec d).trans with
  | none =>
    refine ⟨s.dirRec d, htr, rfl, ?_⟩
    rw [abandonTrans_of_none htr]
    cases d <;> rfl
  | some t =>
    obtain ⟨_, _, _, _, _, hsys⟩ := abandonTrans_sys htr
    exact ⟨(s.dirRec d).abandoned, rfl, rfl, (congrArg Sys.requests hsys).trans rfl⟩

theorem reqEnd_requests (s : State) (no tag status : Nat) : (s.reqEnd no tag status).sys.requests = s.sys.requests := by
  rw [reqEnd_sys]
  rfl

theorem abandonCheck_requests (s : State) : s.abandonCheck.sys.requests = s.sys.requests := by unfold State.abandonCheck; split <;> rfl

theorem sleepAbandon_requests (s : State) : s.sleepAbandon.sys.requests = s.sys.requests := by
  unfold State.sleepAbandon
  split
  · rfl
  · exact reqEnd_requests s _ _ 4

theorem dropSleep_requests (s : State) : s.dropSleep.sys.requests = s.sys.requests := by
  unfold State.dropSleep
  split
  · exact reqEnd_requests s _ _ 4
  · exact sleepAbandon_requests s

theorem preloadStop_sys (s : State) : s.preloadStop.sys = s.sys := by unfold State.preloadStop; split <;> rfl

/-! ### A direction goes to SHUTDOWN -/

/-- What a direction in SHUTDOWN shows, and the state to resume to by the state that it came from (R44). -/
structure InShutdown (st : DirState) (r : DirRec) : Prop where
  state : r.st = .shutdown
  trans : r.trans = none
  running : r.running = false
  realign : r.realign = false
  service : st = .cautious ∨ st = .full ∨ st = .muted → r.resume = .cautious
  listen : st = .listen → r.resume = .listen
  standby : st = .standby → r.resume = .standby

theorem resumeState_of_service {s : State} {d : Dir} (h : s.dirSt d = .cautious ∨ s.dirSt d = .full ∨ s.dirSt d = .muted) :
    s.resumeState d = .cautious := by
  rcases h with h | h | h <;> simp only [State.resumeState, h]

theorem resumeState_of_listen {s : State} {d : Dir} (h : s.dirSt d = .listen) : s.resumeState d = .listen := by
  simp only [State.resumeState, h]

theorem resumeState_of_standby {s : State} {d : Dir} (h : s.dirSt d = .standby) : s.resumeState d = .standby := by
  simp only [State.resumeState, h]

/-- The record of a direction that goes to SHUTDOWN with a state to resume to. -/
def DirRec.shut (r : DirRec) (to_ : DirState) : DirRec :=
  { r with st := .shutdown, resume := to_, after := none, running := false, measured := false, realign := false, realignDue := false
           leftPat := none }

theorem dirShutdown_eq (s : State) (d : Dir) : s.dirShutdown d = (((s.abandonTrans d).patStop d).echoHold d).setDir d
    (((((s.abandonTrans d).patStop d).echoHold d).dirRec d).shut ((s.abandonTrans d).resumeState d)) := rfl

theorem dirShutdown_requests (s : State) (d : Dir) : ∃ r : DirRec, InShutdown (s.dirSt d) r ∧
    (s.dirShutdown d).sys.requests = (s.setDir d r).sys.requests := by
  obtain ⟨r, htr, hst, hreq⟩ := abandonTrans_requests s d
  have hrec := (requests_setDir hreq).1
  have hdir : (s.abandonTrans d).dirSt d = s.dirSt d := (congrArg DirRec.st hrec).trans hst
  refine ⟨r.shut ((s.abandonTrans d).resumeState d), ⟨rfl, htr, rfl, rfl, fun h => ?_, fun h => ?_, fun h => ?_⟩, ?_⟩
  · exact resumeState_of_service (by rwa [hdir])
  · exact resumeState_of_listen (hdir.trans h)
  · exact resumeState_of_standby (hdir.trans h)
  · have hheld : (((s.abandonTrans d).patStop d).echoHold d).sys = (s.abandonTrans d).sys := (echoHold_sys _ d).trans (patStop_sys _ d)
    have hrec' := (dirRec_of_sys hheld d).trans hrec
    rw [dirShutdown_eq, hrec']
    exact setDir_requests d ((congrArg Sys.requests hheld).trans hreq)

theorem dirShutdown_still (s : State) (d : Dir) : (s.dirShutdown d).still = s.still :=
  (setDir_still _ d _).trans ((echoHold_still _ d).trans ((patStop_still _ d).trans (abandonTrans_still s d)))

/-- Both directions go to SHUTDOWN, and no request that waits is touched. -/
theorem dirsShutdown (s : State) : let t := dirs.foldl (fun s d => s.dirShutdown d) s
    (∀ d, InShutdown (s.dirSt d) (t.dirRec d)) ∧ t.sys.pendingReq = s.sys.pendingReq ∧ t.sys.behind = s.sys.behind ∧ t.still = s.still := by
  intro t
  obtain ⟨r, hr, hdl⟩ := dirShutdown_requests s .dl
  obtain ⟨r', hr', hul⟩ := dirShutdown_requests (s.dirShutdown .dl) .ul
  obtain ⟨hrec, hother, hreq, hbehind⟩ := requests_setDir hdl
  obtain ⟨hrec', hother', hreq', hbehind'⟩ := requests_setDir hul
  have hst : (s.dirShutdown .dl).dirSt .ul = s.dirSt .ul := congrArg DirRec.st hother
  refine ⟨fun d => ?_, hreq'.trans hreq, hbehind'.trans hbehind, (dirShutdown_still _ .ul).trans (dirShutdown_still s .dl)⟩
  cases d
  · rw [show t.dirRec .dl = r from hother'.trans hrec]
    exact hr
  · rw [show t.dirRec .ul = r' from hrec', ← hst]
    exact hr'

/-! ### What the other steps leave -/

theorem sys_of_offBog {s t : State} (h : t.offBog = s.offBog) : t.sys = s.sys := by
  have hsys := congrArg State.sys h
  exact hsys

theorem setBog_sys (s : State) (b : BogState) : State.sys { s with bog := b } = s.sys := rfl

theorem fresh_sys (s : State) : s.fresh.2.sys = s.sys := rfl

theorem oldestTime_sys (s : State) (n : Nat) (r : RegionRec) : (s.oldestTime n r).2.sys = s.sys := by
  unfold State.oldestTime
  split
  · rfl
  · split
    · exact (fresh_sys s.fresh.2).trans (fresh_sys s)
    · rfl

theorem regHeader_sys (s : State) (n : Nat) : (s.regHeader n).sys = s.sys :=
  (setBog_sys _ _).trans (oldestTime_sys s n (s.bog.region n))

theorem setPcie_sys (s : State) (p : PcieState) : State.sys { s with pcie := p } = s.sys := rfl

theorem regionDone_sys (s : State) (n : Nat) : (s.regionDone n).sys = s.sys := (signal_sys _ n).trans (setPcie_sys s _)

theorem regFinish_sys (s : State) (n extra : Nat) : (s.regFinish n extra).sys = s.sys := by
  unfold State.regFinish
  extract_lets s1 r s2 s3 r'
  have h1 : s1.sys = s.sys := sys_of_offBog (regStream_offBog s n s.now)
  have h2 : s2.sys = s1.sys := setBog_sys s1 _
  have h3 : s3.sys = s2.sys := regHeader_sys s2 n
  exact (regionDone_sys _ n).trans ((setBog_sys s3 _).trans (h3.trans (h2.trans h1)))

theorem regHalt_sys (s : State) (n : Nat) : (s.regHalt n).sys = s.sys := by
  unfold State.regHalt
  split
  · exact regFinish_sys s n 32
  · rfl

/-- What a shutdown's steps keep of the registers: the configuration, device time and SHUT_STAT. -/
def State.shutLedger (s : State) : RegFile × Nat × Nat := (s.cfg, s.now, s.st Reg.THERM_SHUT_STAT)

theorem shutLedger_eq_iff {s t : State} : t.shutLedger = s.shutLedger ↔
    t.cfg = s.cfg ∧ t.now = s.now ∧ t.st Reg.THERM_SHUT_STAT = s.st Reg.THERM_SHUT_STAT := by
  simp only [State.shutLedger, Prod.mk.injEq]

theorem shutLedger_of_still {s t : State} (h : t.still = s.still) : t.shutLedger = s.shutLedger := by
  have hbase := base_of_still h
  rw [State.shutLedger, cfg_of_base hbase, now_of_base hbase, st_of_still h (by decide)]
  rfl

theorem abandonCheck_shutLedger (s : State) : s.abandonCheck.shutLedger = s.shutLedger := by
  unfold State.abandonCheck
  split
  · rfl
  · have hst := st_setStF_ne { s with sys := { s.sys with check := none, serviceEn := false } } 0 2 3
      (by decide : Reg.THERM_SHUT_STAT ≠ Reg.CFG_CHECK_STATUS)
    rw [State.shutLedger, hst]
    rfl

theorem sleepAbandon_shutLedger (s : State) : s.sleepAbandon.shutLedger = s.shutLedger := by
  unfold State.sleepAbandon
  split
  · rfl
  next no tag _ =>
    have hend : (s.reqEnd no tag 4).shutLedger = s.shutLedger := shutLedger_of_still (reqEnd_still s no tag 4)
    exact hend

theorem dropSleep_shutLedger (s : State) : s.dropSleep.shutLedger = s.shutLedger := by
  unfold State.dropSleep
  split
  next no tag _ =>
    have hend : (s.reqEnd no tag 4).shutLedger = s.shutLedger := shutLedger_of_still (reqEnd_still s no tag 4)
    exact hend
  · exact sleepAbandon_shutLedger s

theorem preloadStop_shutLedger (s : State) : s.preloadStop.shutLedger = s.shutLedger := by
  unfold State.preloadStop
  split <;> rfl

/-! ### The shutdown -/

/-- The shutdown's event, and SHUT_STAT. -/
def State.shutBegun (s : State) (sensed : Bool) : State :=
  ((s.raise 2 (if sensed then 17 else 16)).bumpF Reg.THERM_SHUT_STAT 0 16 1).setStF Reg.THERM_SHUT_STAT 16 1 (ofBool sensed)

/-- Check, entry to SLEEP, preload, directions and captures have ended. -/
def State.shutHalted (s : State) (sensed : Bool) : State :=
  regionNums.foldl (fun s n => s.regHalt n)
    (dirs.foldl (fun s d => s.dirShutdown d) (s.shutBegun sensed).abandonCheck.dropSleep.preloadStop)

def SynRec.off (r : SynRec) : SynRec := { r with locked := false, busy := false, calibrating := false }

/-- The device stands in SHUTDOWN, its synthesisers off. -/
def State.shutOff (s : State) : State :=
  { s with
    power := .shutdown, bog := { s.bog with awake := 0 }, therm := { s.therm with resuming := false }
    syn := { s.syn with c := s.syn.c.off, d := s.syn.d.off, u := s.syn.u.off } }

/-- The emergency record of the shutdown. -/
def State.shutRecord (s : State) (sensed : Bool) (c : Rec) : Rec :=
  c.emergency 4 (64 + (if sensed then 17 else 16) + bitsOf 16 (sat16 s.tMax) * 65536)

theorem shutHot_eq {s : State} (sensed : Bool) (hregs : s.regsUp = true) (hpower : s.power ≠ .shutdown) : s.shutHot sensed =
    (((s.shutHalted sensed).shutOff.recorder ((s.shutHalted sensed).shutOff.shutRecord sensed)).record s.devCode 8 3 5).refusePending := by
  rw [State.shutHot, if_neg (by simp [hregs, hpower])]
  extract_lets src from_ s1 s2 s3 s4 s5
  have h5 : s5 = s.shutHalted sensed := rfl
  clear_value s5
  rw [← h5]
  rfl

theorem shutBegun_base (s : State) (sensed : Bool) : (s.shutBegun sensed).base = s.base :=
  (setStF_base _ _ 16 1 _).trans ((bumpF_base _ _ 0 16 1).trans (raise_base s 2 _ none))

theorem shutBegun_sys (s : State) (sensed : Bool) : (s.shutBegun sensed).sys = s.sys :=
  (setSt_sys _ _ _).trans ((setSt_sys _ _ _).trans (raise_sys s 2 _ none))

theorem shutBegun_count (s : State) (sensed : Bool) :
    (s.shutBegun sensed).stF Reg.THERM_SHUT_STAT 0 16 = satAdd 65535 (s.stF Reg.THERM_SHUT_STAT 0 16) 1 := by
  rw [State.shutBegun, stF_setStF_disjoint _ _ _ (by decide) (by decide), stF_bumpF_same _ _ _ (by decide),
    stF_of_st (st_of_sts (raise_sts s 2 _ none) _)]
  norm_num

theorem shutHalted_shutLedger (s : State) (sensed : Bool) : (s.shutHalted sensed).shutLedger = (s.shutBegun sensed).shutLedger :=
  (foldl_keeps State.shutLedger _ _ (fun s n => shutLedger_of_still (regHalt_still s n)) _).trans
    ((shutLedger_of_still (dirsShutdown _).2.2.2).trans
      ((preloadStop_shutLedger _).trans ((dropSleep_shutLedger _).trans (abandonCheck_shutLedger _))))

/-- Both directions are in SHUTDOWN; what waits is as it was. -/
theorem shutHalted_directions (s : State) (sensed : Bool) : (∀ d, InShutdown (s.dirSt d) ((s.shutHalted sensed).dirRec d)) ∧
    (s.shutHalted sensed).sys.pendingReq = s.sys.pendingReq ∧ (s.shutHalted sensed).sys.behind = s.sys.behind := by
  have hclear : (s.shutBegun sensed).abandonCheck.dropSleep.preloadStop.sys.requests = s.sys.requests :=
    (congrArg Sys.requests (preloadStop_sys _)).trans ((dropSleep_requests _).trans
      ((abandonCheck_requests _).trans (congrArg Sys.requests (shutBegun_sys s sensed))))
  obtain ⟨-, -, hreqClear, hbehindClear⟩ := requests_eq_iff.mp hclear
  have hhalt : (s.shutHalted sensed).sys = _ := foldl_sys _ _ regHalt_sys _
  obtain ⟨hdir, hreq, hbehind, -⟩ := dirsShutdown (s.shutBegun sensed).abandonCheck.dropSleep.preloadStop
  refine ⟨fun d => ?_, ?_, ?_⟩
  · rw [dirRec_of_sys hhalt, State.dirSt, ← dirRec_of_requests hclear d]
    exact hdir d
  · rw [hhalt, hreq, hreqClear]
  · rw [hhalt, hbehind, hbehindClear]

theorem refusePending_of_none {s : State} (hreq : s.sys.pendingReq = none) (hbehind : s.sys.behind = none) : s.refusePending = s := by
  simp [State.refusePending, hreq, hbehind]

/-- Switching off keeps SYS, the configuration, device time and SHUT_STAT. -/
theorem shutOff_keeps (s : State) : s.shutOff.sys = s.sys ∧ s.shutOff.shutLedger = s.shutLedger := ⟨rfl, rfl⟩

theorem recorder_sys (s : State) (f : Rec → Rec) : (s.recorder f).sys = s.sys := (raiseEvs_sys _ _).trans rfl

theorem record_sys (s : State) (a b c e : Nat) : (s.record a b c e).sys = s.sys := (setSt_sys _ _ _).trans (setSt_sys s _ _)

theorem recorder_syn (s : State) (f : Rec → Rec) : (s.recorder f).syn = s.syn := (raiseEvs_syn _ _).trans rfl

theorem record_syn (s : State) (a b c e : Nat) : (s.record a b c e).syn = s.syn := (setSt_syn _ _ _).trans (setSt_syn s _ _)

/-- The device once it stands in SHUTDOWN. -/
theorem shutDone_keeps (s : State) (f : Rec → Rec) (x : Nat) : let t := (s.shutOff.recorder f).record x 8 3 5
    t.power = .shutdown ∧ t.sys = s.sys ∧ t.syn = s.shutOff.syn ∧ t.shutLedger = s.shutLedger := by
  intro t
  have hstill := (record_still _ x 8 3 5).trans (recorder_still s.shutOff f)
  obtain ⟨hsys, hledger⟩ := shutOff_keeps s
  exact ⟨(power_of_base (base_of_still hstill)).trans rfl, (record_sys _ x 8 3 5).trans ((recorder_sys _ f).trans hsys),
    (record_syn _ x 8 3 5).trans (recorder_syn _ f), (shutLedger_of_still hstill).trans hledger⟩

/-! ### The resume -/

theorem resumeTo_base (s : State) (t : Target) (st : DirState) (named : Nat) : (s.resumeTo t st named).base = s.base := by
  unfold State.resumeTo
  dsimp only
  split
  · rfl
  · split
    · rfl
    · exact request_base s _

theorem resumeHeld_base (s : State) : s.resumeHeld.base = s.base := by
  unfold State.resumeHeld
  split
  · exact (handle_base _ _).trans rfl
  · rfl

theorem echoForget_base (s : State) : s.echoForget.base = s.base := rfl

/-- The resumed device is up, its configuration as it was. -/
theorem shutdownResume_base {s : State} (lc ld lu : LockUs) (hpower : s.power = .shutdown) (hquiet : 600000 ≤ s.therm.quiet) :
    (shutdownResume lc ld lu s).base = { s.base with power := .up } := by
  rw [shutdownResume, if_neg (by simp [hpower, hquiet])]
  exact (resumeTo_base _ _ _ _).trans ((resumeTo_base _ _ _ _).trans ((resumeTo_base _ _ _ _).trans ((resumeHeld_base _).trans
    ((echoForget_base _).trans ((lockAtStart_base _ .u _ _).trans ((lockAtStart_base _ .d _ _).trans ((lockAtStart_base _ .c _ _).trans
      (base_free _ _))))))))

end Sys2Proof.Machine

open Sys2Proof Sys2Proof.Machine

/-- Settles O15: what each step of a shutdown leaves, and the base of a resume. -/
theorem shutdownAndResume : Obligations.ShutdownAndResume := by
  unfold Obligations.ShutdownAndResume
  intro s
  refine ⟨fun sensed hhot hregs hpower hreq hbehind => ⟨thermalShutdown sensed s, rfl, ?_⟩, fun sensed hcool => ⟨thermalShutdown sensed s, rfl, ?_⟩,
    fun lc ld lu hquiet => ⟨shutdownResume lc ld lu s, rfl, ?_⟩, fun lc ld lu hpower hquiet => ⟨_, rfl, ?_⟩⟩
  · obtain ⟨hdir, hreq', hbehind'⟩ := shutHalted_directions s sensed
    obtain ⟨hpower', hsys, hsyn, hledger⟩ := shutDone_keeps (s.shutHalted sensed) ((s.shutHalted sensed).shutOff.shutRecord sensed) s.devCode
    have hbase := shutBegun_base s sensed
    rw [thermalShutdown, if_pos hhot, shutHot_eq sensed hregs hpower, refusePending_of_none (by rw [hsys, hreq', hreq]) (by rw [hsys, hbehind', hbehind])]
    obtain ⟨hcfg, hnow, hst⟩ := shutLedger_eq_iff.mp (hledger.trans (shutHalted_shutLedger s sensed))
    refine ⟨hpower', hcfg.trans (cfg_of_base hbase), hnow.trans (now_of_base hbase), fun d => ?_, by rw [hsyn]; rfl, by rw [hsyn]; rfl,
      by rw [hsyn]; rfl, (stF_of_st hst 0 16).trans (shutBegun_count s sensed)⟩
    rw [State.dirSt, dirRec_of_sys hsys]
    obtain ⟨hstate, htrans, hrunning, hrealign, hservice, hlisten, hstandby⟩ := hdir d
    exact ⟨hstate, htrans, hrunning, hrealign, hservice, hlisten, hstandby⟩
  · rw [thermalShutdown, if_neg (by simp [hcool])]
  · rw [shutdownResume, if_pos (by simp [hquiet])]
  · have hbase := shutdownResume_base lc ld lu hpower hquiet
    obtain ⟨hup, -, -, hcfg, -⟩ := after_keeps s (shutdownResume lc ld lu s)
    exact ⟨hup.trans (congrArg Base.power hbase), hcfg.trans (congrArg Base.cfg hbase)⟩

end

section
/-! SUPPORT. What the mutes, the transitions that start and the playback that a lock page ends all leave alone: the synthesisers, the
sources of their block, and of the recorder its clocks and the emergency slot (R121, R192, R193, R372). -/

namespace Sys2Proof.Machine

/-! ### The recorder's clocks and its emergency slot -/

/-- OPSEC, the power-cycle count, the emergency slot and the codeword on its way to it. -/
def PeatState.clocks (p : PeatState) : Nat × Nat × Option PeatRec × Option PeatRec := (p.opsec, p.pcc, p.emergency, p.emergencyNext)

theorem clocks_of_closed {p q : PeatState} (h : q.closed = p.closed) : q.clocks = p.clocks := by
  have h' := congrArg PeatState.clocks h
  exact h'

theorem Rec.drain_clocks (c : Rec) : c.drain.p.clocks = c.p.clocks := by
  unfold Rec.drain
  split
  · rfl
  · split
    · rfl
    · split
      · rfl
      · split <;> rfl

theorem Rec.push_clocks (s : State) (c : Rec) (kind cause detail : Nat) : (Rec.push s c kind cause detail).p.clocks = c.p.clocks :=
  Rec.drain_clocks _

theorem Rec.close_clocks (s : State) (out : Bool) (c : Rec) (cause detail : Nat) : (Rec.close s out c cause detail).p.clocks = c.p.clocks := by
  unfold Rec.close
  split
  · rfl
  · dsimp only
    split
    · split
      · split
        · rfl
        · exact Rec.push_clocks s _ 3 cause detail
      · exact Rec.drain_clocks _
    · split
      · rfl
      · exact Rec.push_clocks s c 1 cause detail

theorem enqueue_clocks (s : State) (x : Fx) (b src cls total : Nat) (inj : Bool) :
    (enqueue s x b src cls total inj).1.peat.clocks = x.peat.clocks := clocks_of_closed (enqueue_closed s x b src cls total inj)

theorem Fx.peatClose_clocks (s : State) (x : Fx) (cause detail : Nat) : (x.peatClose s cause detail).1.peat.clocks = x.peat.clocks :=
  Rec.close_clocks s _ { p := x.peat, m := x.mram } cause detail

theorem clocks_openI (p : PeatState) (i : Interval) : PeatState.clocks { p with openI := i } = p.clocks := rfl

theorem countOne_clocks (s : State) (x : Fx) (e : Ev) : (countOne s x e).1.peat.clocks = x.peat.clocks := by
  unfold countOne
  simp only [apply_ite Prod.fst, apply_ite Fx.peat, apply_ite PeatState.clocks, enqueue_clocks, Fx.peatClose_clocks, clocks_openI, ite_self]

theorem raiseEvs_clocks (s : State) (es : List Ev) : (s.raiseEvs es).peat.clocks = s.peat.clocks := by
  have hall : ∀ (k : Nat) (x : Fx) (es : List Ev), (countAll s k x es).peat.clocks = x.peat.clocks := by
    intro k
    induction k with
    | zero => exact fun _ _ => rfl
    | succ k ih =>
      rintro x (_ | ⟨e, es⟩)
      · rfl
      · exact (ih _ _).trans (countOne_clocks s x e)
  exact hall _ _ es

/-! ### What is spared -/

/-- The synthesisers, the sources of block SYN, and the recorder's clocks. -/
structure Spared where
  syn : SynState
  sources : Fin 32 → Src
  clocks : Nat × Nat × Option PeatRec × Option PeatRec

def State.spared (s : State) : Spared := { syn := s.syn, sources := fun n => s.flt.source 6 n, clocks := s.peat.clocks }

theorem foldl_spared {α : Type} (l : List α) (f : State → α → State) (h : ∀ s a, (f s a).spared = s.spared) (s : State) :
    (l.foldl f s).spared = s.spared := foldl_keeps State.spared l f h s

/-- Events of other blocks. -/
theorem raiseEvs_spared (s : State) (es : List Ev) (h : ∀ e ∈ es, (32 * e.blk + e.src) / 32 ≠ 6) : (s.raiseEvs es).spared = s.spared := by
  have hsrc : ∀ n : Fin 32, (s.raiseEvs es).flt.source 6 n = s.flt.source 6 n := fun n =>
    raiseEvs_source_ne s es 6 n (fun e he => by have := h e he; omega) (by unfold chained; omega)
  simp only [State.spared, hsrc, raiseEvs_clocks]
  rfl

theorem raise_spared (s : State) (b n : Nat) (u : Option Nat) (h : (32 * b + n) / 32 ≠ 6) : (s.raise b n u).spared = s.spared :=
  raiseEvs_spared s _ (by simpa using h)

theorem raiseIf_spared (s : State) (c : Bool) (b n : Nat) (u : Option Nat) (h : (32 * b + n) / 32 ≠ 6) :
    (s.raiseIf c b n u).spared = s.spared := by
  cases c
  · rfl
  · exact raise_spared s b n u h

theorem peatClose_spared (s : State) (cause detail : Nat) : (s.peatClose cause detail).spared = s.spared := by
  have hx : (s.withFx (s.fx.peatClose s cause detail).1).spared = s.spared :=
    congrArg (fun c => { s.spared with clocks := c }) (Fx.peatClose_clocks s s.fx cause detail)
  refine (raiseEvs_spared _ _ fun e he => ?_).trans hx
  have := Fx.peatClose_events s s.fx cause detail e he
  omega

theorem setDir_spared (s : State) (d : Dir) (r : DirRec) : (s.setDir d r).spared = s.spared := by cases d <;> rfl

theorem setPlaying_spared (s : State) (d : Dir) (p : Option Playing) : (s.setPlaying d p).spared = s.spared := by cases d <;> rfl

theorem setGovDir_spared (s : State) (d : Dir) (g : GovDir) : (s.setGovDir d g).spared = s.spared := by cases d <;> rfl

theorem reqEnd_spared (s : State) (no tag status : Nat) : (s.reqEnd no tag status).spared = s.spared := by rw [reqEnd_eq]; rfl

theorem dbOutcome_spared (s : State) (db : Option Nat) (result code : Nat) : (s.dbOutcome db result code).spared = s.spared := by
  cases db <;> rfl

theorem setPcie_spared (s : State) (p : PcieState) : State.spared { s with pcie := p } = s.spared := rfl

theorem signal_spared (s : State) (v : Nat) : (s.signal v).spared = s.spared := by
  unfold State.signal
  split
  · rfl
  · split
    · exact (raise_spared _ 5 10 none (by decide)).trans (setPcie_spared s _)
    · split
      · exact raise_spared s 5 10 none (by decide)
      · split <;> rfl

theorem patStop_spared (s : State) (d : Dir) : (s.patStop d).spared = s.spared := by
  unfold State.patStop
  split
  · rfl
  · exact (signal_spared _ _).trans (setPlaying_spared s d none)

theorem patEnd_spared (s : State) (d : Dir) : (s.patEnd d).spared = s.spared := by
  unfold State.patEnd
  split
  · exact (patStop_spared _ d).trans (setDir_spared s d _)
  · exact patStop_spared s d

theorem setEcho_spared (s : State) (d : Dir) (n : Nat) (r : EchoRec) : (s.setEcho d n r).spared = s.spared := rfl

theorem echoHold_spared (s : State) (d : Dir) : (s.echoHold d).spared = s.spared := foldl_spared _ _ (fun s n => setEcho_spared s d n _) s

theorem setLoop_spared (s : State) (l : LoopState) : State.spared { s with loop := l } = s.spared := rfl

theorem setSt_spared (s : State) (a n : Nat) : (s.setSt a n).spared = s.spared := rfl

theorem record_spared (s : State) (fromCode toCode dir cause : Nat) : (s.record fromCode toCode dir cause).spared = s.spared :=
  (setSt_spared _ _ _).trans (setSt_spared s _ _)

theorem pendingDone_spared (s : State) (j code : Nat) : (s.pendingDone j code).spared = s.spared := by
  unfold State.pendingDone
  dsimp only
  split <;> rfl

theorem lawsStart_spared (s : State) (d : Dir) : (s.lawsStart d).spared = s.spared := by
  unfold State.lawsStart
  refine foldl_spared _ _ (fun s k => ?_) s
  extract_lets j x s1 x1
  have h1 : s1.spared = s.spared := by
    simp only [s1]
    split
    · exact (raise_spared _ 17 15 none (by decide)).trans ((setSt_spared _ _ _).trans (setLoop_spared s _))
    · rfl
  split
  · split
    · exact (raise_spared _ 17 15 none (by decide)).trans ((pendingDone_spared _ j 7).trans ((setLoop_spared s1 _).trans h1))
    · exact (pendingDone_spared _ j 0).trans ((setLoop_spared s1 _).trans h1)
  · exact h1

theorem transPrep_spared (s : State) (d : Dir) (t : Trans) : (s.transPrep d t).spared = s.spared := by
  unfold State.transPrep
  extract_lets s1 s2
  have h1 : s1.spared = s.spared := by
    simp only [s1]
    split
    · exact lawsStart_spared s d
    · rfl
  have h2 : s2.spared = s.spared := by
    simp only [s2]
    split
    · exact (patEnd_spared s1 d).trans h1
    · exact h1
  split
  · exact (echoHold_spared s2 d).trans h2
  · exact h2

theorem beginTrans_spared (s : State) (d : Dir) (t : Trans) : (s.beginTrans d t).spared = s.spared := by
  rw [beginTrans_eq]
  exact (setDir_spared _ d _).trans (transPrep_spared s d t)

theorem abandonTrans_spared (s : State) (d : Dir) : (s.abandonTrans d).spared = s.spared := by
  unfold State.abandonTrans
  split
  · rfl
  next t _ =>
    extract_lets r s1 s2 s3
    have h1 : s1.spared = s.spared := setDir_spared s d _
    have h3 : s3.spared = s.spared := (dbOutcome_spared _ _ _ _).trans ((reqEnd_spared _ _ _ _).trans h1)
    split
    · exact h1
    · split
      · exact h3
      · exact h3

theorem lockActs_spared (s : State) (item index who : Nat) : (s.lockActs item index who).spared = s.spared := by
  unfold State.lockActs
  dsimp only
  split
  · exact raise_spared _ 22 13 none (by decide)
  · rfl

/-! ### A mute of a direction (R192, R193) -/

theorem toMuted_spared (s : State) (d : Dir) : (s.toMuted d).spared = s.spared := by
  unfold State.toMuted
  extract_lets s1 from_ s2 r s3
  have h3 : s3.spared = s.spared :=
    (setDir_spared _ d _).trans ((echoHold_spared _ d).trans ((patStop_spared _ d).trans (abandonTrans_spared s d)))
  split
  · exact h3
  · exact (record_spared s3 _ _ _ _).trans h3

theorem peatMute_spared (s : State) (b src u : Nat) : (s.peatMute b src u).spared = s.spared := (peatClose_spared _ _ _).trans rfl

theorem bothMuted_spared (s0 s : State) : (State.bothMuted s0 s).spared = s.spared := raiseIf_spared s _ 0 13 none (by decide)

theorem dirSource_block (d : Dir) (c : MuteCause) : (32 * (15 + d.num) + c.dirSource) / 32 ≠ 6 := by
  cases d <;> cases c <;> decide

theorem muteDir_spared (s : State) (d : Dir) (c : MuteCause) : (s.muteDir d c).spared = s.spared := by
  unfold State.muteDir
  extract_lets b s1 sOsc r s2 g s3 sCap s4
  have h1 : s1.spared = s.spared := raise_spared s b c.dirSource (some 16) (dirSource_block d c)
  have h2 : s2.spared = s.spared := by
    simp only [s2]
    split
    · exact (setDir_spared _ d _).trans ((foldl_spared _ _ (fun s n => setEcho_spared s d n _) s1).trans h1)
    · exact h1
  have hcap : sCap.spared = s.spared := (foldl_spared _ _ (fun s g => show (s.capGov d g).spared = s.spared from rfl) s3).trans
    ((setGovDir_spared s2 d _).trans h2)
  have h4 : s4.spared = s.spared := by
    simp only [s4]
    split
    · exact (toMuted_spared sCap d).trans hcap
    · exact hcap
  split
  · exact h2
  · exact (bothMuted_spared s _).trans ((peatMute_spared s4 b _ 16).trans h4)

end Sys2Proof.Machine
end

section
/-! SUPPORT. Loss of power, RESET_N and the supply's extremes (R78, R276, R335, R336, R348): what a cut-off write leaves of the base and of
the recorder, and the statement about the supply's commands. -/

namespace Sys2Proof.Machine

/-! ### The write in flight at a loss of power (R36, R337) -/

/-- What both the base and the spared parts of a state show is unchanged between s and t. -/
def Sparing (s t : State) : Prop := t.spared = s.spared ∧ t.base = s.base

theorem Sparing.refl (s : State) : Sparing s s := ⟨rfl, rfl⟩

theorem Sparing.trans {s t u : State} (h : Sparing s t) (k : Sparing t u) : Sparing s u := ⟨k.1.trans h.1, k.2.trans h.2⟩

theorem foldl_sparing {α : Type} (l : List α) (f : State → α → State) (h : ∀ s a, Sparing s (f s a)) (s : State) : Sparing s (l.foldl f s) :=
  ⟨foldl_spared l f (fun s a => (h s a).1) s, foldl_base l f (fun s a => (h s a).2) s⟩

theorem raiseIf_sparing (s : State) (c : Bool) (b n : Nat) (h : (32 * b + n) / 32 ≠ 6) : Sparing s (s.raiseIf c b n) :=
  ⟨raiseIf_spared s c b n none h, raiseIf_base s c b n none⟩

theorem setLock_sparing (s : State) (l : LockState) : Sparing s { s with lock := l } := ⟨rfl, rfl⟩

theorem setBoot_sparing (s : State) (x : BootState) : Sparing s { s with boot := x } := ⟨rfl, rfl⟩

theorem bumpF_sparing (s : State) (a lo w k : Nat) : Sparing s (s.bumpF a lo w k) := ⟨rfl, rfl⟩

theorem touch_sparing (s : State) : Sparing s s.touch := by
  refine ⟨?_, touch_base s⟩
  unfold State.touch
  split <;> rfl

/-- A transition or a pattern to the air that the lock page forbids is stopped: its request ends, and LOCK's source counts. -/
theorem airStop_sparing (s : State) (d : Dir) : Sparing s (((s.abandonTrans d).raise 0 8).lockActs 6 0 8) :=
  ⟨(lockActs_spared _ 6 0 8).trans ((raise_spared _ 0 8 none (by decide)).trans (abandonTrans_spared s d)),
    (lockActs_base _ 6 0 8).trans ((raise_base _ 0 8 none).trans (base_of_still (abandonTrans_still s d)))⟩

theorem airForbidden_sparing (s : State) (d : Dir) : Sparing s (s.airForbidden d) := by
  unfold State.airForbidden
  split
  · exact .refl s
  · extract_lets sTrans s1 s2
    have h1 : Sparing s s1 := by
      simp only [s1]
      split
      · split
        · exact airStop_sparing s d
        · exact .refl s
      · exact .refl s
    split
    · exact h1
    · split
      · exact h1
      · exact (h1.trans (airStop_sparing s1 d)).trans ((raiseIf_sparing _ _ 0 7 (by decide)).trans
          ⟨beginTrans_spared _ d _, beginTrans_base _ d _⟩)

/-- A committed item of the lock page: what it writes, counts, closes and stops. -/
theorem lockApply_sparing (s : State) (j : LockJob) : Sparing s (s.lockApply j).1 := by
  unfold State.lockApply
  extract_lets a b old new strict used wasLocked l1 rec_ l2 key l3 s1 s2 s3 s4 s5 s6 s7 s8
  have h1 : Sparing s s1 := (setLock_sparing s l3).trans (touch_sparing _)
  have h2 : Sparing s1 s2 := bumpF_sparing s1 0xE104 0 16 1
  have h3 : Sparing s2 s3 := setBoot_sparing s2 _
  have h6 : Sparing s3 s6 := (raiseIf_sparing s3 _ 22 4 (by decide)).trans
    ((raiseIf_sparing s4 _ 22 5 (by decide)).trans (raiseIf_sparing s5 _ 22 10 (by decide)))
  have h7 : Sparing s6 s7 := ⟨peatClose_spared s6 9 _, peatClose_base s6 9 _⟩
  dsimp only
  exact ((((h1.trans h2).trans h3).trans h6).trans h7).trans (foldl_sparing dirs _ airForbidden_sparing s7)

theorem parts_of_clocks {p q : PeatState} (h : q.clocks = p.clocks) (hem : p.emergency = none) (hnext : p.emergencyNext = none) :
    q.opsec = p.opsec ∧ q.pcc = p.pcc ∧ q.emergency = none ∧ q.emergencyNext = none := by
  simpa only [PeatState.clocks, Prod.mk.injEq, hem, hnext] using h

/-- Where the emergency slot is empty, a record that comes to stand leaves it so. -/
theorem Rec.store_clocks {c : Rec} (r : PeatRec) (h : c.p.emergency = none) : (c.store r).p.clocks = c.p.clocks := by
  unfold Rec.store
  split
  · rfl
  · simp [PeatState.clocks, h]

theorem PeatState.cut_clocks {p : PeatState} (flying : Bool) (h : p.emergency = none) : (p.cut flying).clocks = p.clocks := by
  unfold PeatState.cut
  extract_lets left
  split
  · split
    · rfl
    · split
      · exact Rec.store_clocks _ h
      · split
        · rfl
        · split <;> rfl
  · rfl

theorem cutOff_base (s : State) : s.cutOff.base = s.base := by
  unfold State.cutOff
  extract_lets s1
  split
  · rfl
  · split
    · exact (lockApply_sparing s1 _).2
    · rfl
  · rfl
  · rfl
  · rfl

theorem cutOff_clocks {s : State} (h : s.peat.emergency = none) (hnext : s.peat.emergencyNext = none) :
    s.cutOff.peat.clocks = s.peat.clocks := by
  unfold State.cutOff
  extract_lets s1
  have h1 : s1.peat.clocks = s.peat.clocks := PeatState.cut_clocks _ h
  split
  · obtain ⟨hopsec, hpcc, -, hnext1⟩ := parts_of_clocks h1 h hnext
    show (s1.peat.opsec, s1.peat.pcc, s1.peat.emergencyNext, s1.peat.emergencyNext) = s.peat.clocks
    rw [PeatState.clocks, hopsec, hpcc, hnext1, h, hnext]
  · split
    · exact (congrArg Spared.clocks (lockApply_sparing s1 _).1).trans h1
    · exact h1
  · exact h1
  · exact h1
  · exact h1

/-- The write in flight ends, and the device is OFF. -/
theorem cutOff_powerOff_base (s : State) : s.cutOff.powerOff.base = { s.base with power := .off } := by
  rw [← cutOff_base s]
  rfl

theorem after_power_lev {s t : State} {b : Base} (h : t.base = b) : (s.after t).power = b.power ∧ (s.after t).lev = b.lev := by
  obtain ⟨hpower, hlev, -⟩ := after_keeps s t
  exact ⟨hpower.trans (congrArg Base.power h), hlev.trans (congrArg Base.lev h)⟩

/-! ### RESET_N (R78, R276, R426) -/

theorem resetNLow_unseen {ns : Nat} {r : Bool} (s : State) (h : resetSeen ns r = false) : resetNLow ns r s = s := by
  simp [resetNLow, h]

/-- In SLEEP a low shorter than 1 ms is remembered. -/
theorem resetNLow_short {ns : Nat} {r : Bool} {s : State} (h : resetSeen ns r = true) (hsleep : s.power = .sleep) (hns : ns < 1000000) :
    resetNLow ns r s = { s with lev := { s.lev with resetLow := true }, sys := { s.sys with shortLow := true } } := by
  simp [resetNLow, h, hsleep, Nat.not_le.mpr hns]

/-- Any other low that acts takes the device to OFF. -/
theorem resetNLow_base {ns : Nat} {r : Bool} {s : State} (h : resetSeen ns r = true) (hlong : s.power ≠ .sleep ∨ 1000000 ≤ ns) :
    (resetNLow ns r s).base = { s.base with power := .off, lev := { s.lev with resetLow := true } } := by
  rw [resetNLow, if_neg (by simp [h])]
  dsimp only
  split
  next hoff => rw [State.base, hoff]; rfl
  next hsleep => rw [if_pos (hlong.resolve_left (absurd hsleep)), cutOff_powerOff_base]; rfl
  next => rw [cutOff_powerOff_base]; rfl

/-! ### VIN_WARNING (R336) -/

/-- The power-loss record stands behind the write in flight. -/
def State.lossRecorded (s : State) (mv : Nat) : State := { s.cutOff with peat := s.cutOff.peat.powerLoss mv }

theorem vinWarning_base (mv : Nat) (s : State) :
    (vinWarning mv s).base = { s.base with power := .off, lev := { s.lev with vinValid := false } } := by
  have hrecord : ∀ s : State, (s.lossRecorded mv).powerOff.base = { s.base with power := .off } :=
    cutOff_powerOff_base
  unfold vinWarning
  extract_lets lev s1 s2 record
  split
  next hoff => rw [State.base, hoff]; rfl
  next => exact (cutOff_powerOff_base s1).trans rfl
  next => exact (cutOff_powerOff_base s1).trans rfl
  next =>
    split
    · exact (cutOff_powerOff_base s1).trans rfl
    · split
      next w s3 hfresh =>
        cases hfresh
        split
        · exact (hrecord s2).trans rfl
        · split
          · rfl
          · exact (hrecord _).trans rfl

/-- Up and with the hold-up reservoir charged: the source, then the record, then OFF. -/
theorem vinWarning_charged {s : State} (mv : Nat) (hup : s.power = .up) (hent : s.sys.entering = none) (hold : s.holdupOk = true) :
    vinWarning mv s = ((State.raise { s with lev := { s.lev with vinValid := false } } 1 0).lossRecorded mv).powerOff := by
  unfold vinWarning
  simp only [hup, hent, Option.isSome_none, Bool.false_eq_true, if_false]
  exact if_pos hold

/-- The record stands in the empty emergency slot. -/
theorem powerLoss_records {p : PeatState} (mv : Nat) (h : p.emergency = none) (hnext : p.emergencyNext = none) :
    ∃ r, (p.powerLoss mv).emergency = some r ∧ r.cause = 5 ∧ r.detail = mv % 65536 ∧ r.opsecClose = p.opsec ∧ r.pcc = p.pcc := by
  simp [PeatState.powerLoss, h, hnext]

theorem lossRecorded_records {s : State} (mv : Nat) (h : s.peat.emergency = none) (hnext : s.peat.emergencyNext = none) :
    ∃ r, (s.lossRecorded mv).peat.emergency = some r ∧ r.cause = 5 ∧ r.detail = mv % 65536 ∧ r.opsecClose = s.peat.opsec ∧
      r.pcc = s.peat.pcc := by
  obtain ⟨hopsec, hpcc, hcut, hcutNext⟩ := parts_of_clocks (cutOff_clocks h hnext) h hnext
  rw [← hopsec, ← hpcc]
  exact powerLoss_records mv hcut hcutNext

/-! ### The supply's extremes (R335, R348, R422) -/

theorem vinSource_counts (s : State) (n : Nat) (hn : n < 32) : Counts 1 n s (s.raise 1 n) ∧ OnlyCounts s (s.raise 1 n) :=
  ⟨raise_counts_of_flt 1 n none (by unfold chained; omega) (by decide) rfl, raise_onlyCounts s 1 n none⟩

theorem ifUp_of_regsUp {s : State} (f : State → State) (h : s.regsUp = true) : s.ifUp f = f s := if_pos h

/-- The write of a clear command: the upper half of its register, and nothing else. -/
theorem clearUpper_shows (s : State) (a v : Nat) : OnlyStatus [a] s (s.setStF a 16 16 v) ∧ (s.setStF a 16 16 v).stF a 16 16 = v % 2 ^ 16 ∧
    (s.setStF a 16 16 v).stF a 0 16 = s.stF a 0 16 :=
  ⟨setSt_onlyStatus s a _, stF_setStF_same s a v (by decide), stF_setStF_disjoint s a v (by decide) (by decide)⟩

theorem vinClr_eq {s : State} (v : Word) (h : s.regsUp = true) :
    vinClr v s = if v.getLsbD 0 then s.setStF Reg.SUPPLY_VIN 16 16 (s.stF Reg.SUPPLY_VIN 0 16) else s := by
  rw [vinClr, ifUp_of_regsUp _ h, bitAt_toNat]

theorem pClr_eq {s : State} (v : Word) (h : s.regsUp = true) :
    pClr v s = if v.getLsbD 0 then s.setStF Reg.SUPPLY_P_IN 16 16 0 else s := by
  rw [pClr, ifUp_of_regsUp _ h, bitAt_toNat]

end Sys2Proof.Machine

open Sys2Proof Sys2Proof.Machine

/-- Settles O14: the base of a loss of power and of a low that acts, the recorder's clocks up to the power-loss record, and each of the
other commands by its own equation. -/
theorem supplyCommands : Obligations.SupplyCommands := by
  unfold Obligations.SupplyCommands
  refine ⟨fun s => ⟨fun ns r hseen hlong => ⟨_, rfl, after_power_lev (resetNLow_base hseen hlong)⟩,
    fun ns r hseen hsleep hns => ⟨_, rfl, resetNLow_short hseen hsleep hns⟩, fun ns r h => ⟨_, rfl, resetNLow_unseen s h⟩,
    fun mv => ⟨_, rfl, after_power_lev (vinWarning_base mv s)⟩, fun mv hup hent hold hem hnext => ⟨_, rfl, ?_⟩⟩,
    fun s hup => ⟨⟨_, rfl, ?_⟩, ⟨_, rfl, ?_⟩, ⟨_, rfl, ?_⟩, fun v hv => ⟨⟨_, rfl, ?_⟩, ⟨_, rfl, ?_⟩⟩,
      fun v hv => ⟨⟨_, rfl, ?_⟩, ⟨_, rfl, ?_⟩⟩⟩⟩
  · let s1 : State := State.raise { s with lev := { s.lev with vinValid := false } } 1 0
    have hclocks : s1.peat.clocks = s.peat.clocks := raiseEvs_clocks _ _
    obtain ⟨hopsec, hpcc, hem1, hnext1⟩ := parts_of_clocks hclocks hem hnext
    rw [vinWarning_charged mv hup hent hold, ← hopsec, ← hpcc]
    exact ⟨rfl, lossRecorded_records mv hem1 hnext1⟩
  · rw [vinLow, hup]
    exact vinSource_counts s 1 (by decide)
  · rw [vinHigh, hup]
    exact vinSource_counts s 2 (by decide)
  · rw [vinHigh, hup]
    exact vinSource_counts s 3 (by decide)
  · rw [vinClr_eq v hup, if_pos hv]
    obtain ⟨honly, hupper, hlower⟩ := clearUpper_shows s Reg.SUPPLY_VIN (s.stF Reg.SUPPLY_VIN 0 16)
    exact ⟨honly, hupper.trans (Nat.mod_eq_of_lt (Nat.mod_lt _ (by decide))), hlower⟩
  · rw [pClr_eq v hup, if_pos hv]
    exact clearUpper_shows s Reg.SUPPLY_P_IN 0
  · rw [vinClr_eq v hup, hv, if_neg Bool.false_ne_true]
  · rw [pClr_eq v hup, hv, if_neg Bool.false_ne_true]
end

section
/-! SUPPORT. The lock sequence (R67, R120, R121): what a synthesiser that reaches lock shows, and what the start of the others, the
realignments that were due and the service request of a first lock leave of it. -/

namespace Sys2Proof.Machine

/-! ### What the bus shows of a synthesiser -/

/-- A synthesiser's record and cache, whether SYN_C's first lock is awaited and device time runs, LOCK_TIME, and the base. -/
structure Tuning where
  own : SynRec
  entries : List CacheEntry
  startPending : Bool
  timeRuns : Bool
  lockTime : Nat
  base : Base

def State.tuning (s : State) (y : Syn) : Tuning :=
  { own := s.synRec y, entries := s.cache y, startPending := s.syn.startPending, timeRuns := s.syn.timeRuns
    lockTime := s.st Reg.SYN_LOCK_TIME, base := s.base }

theorem tuning_of_parts {s t : State} (y : Syn) (hsyn : t.syn = s.syn) (hst : t.st Reg.SYN_LOCK_TIME = s.st Reg.SYN_LOCK_TIME)
    (hbase : t.base = s.base) : t.tuning y = s.tuning y := by
  cases y <;> simp only [State.tuning, State.synRec, State.cache, hsyn, hst, hbase]

theorem tuning_of_still {s t : State} (y : Syn) (hsyn : t.syn = s.syn) (h : t.still = s.still) : t.tuning y = s.tuning y :=
  tuning_of_parts y hsyn (congrArg (fun x : Still => x.regs Reg.SYN_LOCK_TIME) h) (base_of_still h)

theorem setSyn_tuning {y z : Syn} (s : State) (r : SynRec) (h : y ≠ z) : (s.setSyn z r).tuning y = s.tuning y := by
  cases y <;> cases z <;> simp [State.tuning, State.setSyn, State.synRec, State.cache, State.base, State.st] at h ⊢

theorem setCache_tuning {y z : Syn} (s : State) (l : List CacheEntry) (h : y ≠ z) : (s.setCache z l).tuning y = s.tuning y := by
  cases y <;> cases z <;> simp [State.tuning, State.setCache, State.synRec, State.cache, State.base, State.st] at h ⊢

theorem bumpF_tuning (s : State) (y : Syn) {a : Nat} (lo w k : Nat) (h : a ≠ Reg.SYN_LOCK_TIME) :
    (s.bumpF a lo w k).tuning y = s.tuning y := tuning_of_parts y rfl (st_bumpF_ne s lo w k h.symm) rfl

/-- The start of a lock sequence is the synthesiser's own matter. -/
theorem lockStart_tuning {y z : Syn} (s : State) (h : y ≠ z) : (s.lockStart z).tuning y = s.tuning y := by
  unfold State.lockStart
  extract_lets off
  split
  · exact setSyn_tuning s _ h
  · split
    · exact (setCache_tuning _ _ h).trans (setSyn_tuning s _ h)
    · exact (bumpF_tuning _ y 24 8 1 (by decide)).trans (setSyn_tuning s _ h)

/-! ### Step 3 of R120 ends -/

/-- The record of a synthesiser that has reached lock. -/
def SynRec.atLock (r : SynRec) : SynRec := { r with locked := true, busy := false, calibrating := false, found := false }

theorem addEntry_head (e : CacheEntry) (l : List CacheEntry) : (addEntry e l).head? = some e := rfl

theorem addEntry_length (e : CacheEntry) (l : List CacheEntry) : (addEntry e l).length ≤ 16 := List.length_take_le _ _

/-- What synthesiser y of s shows at lock after `us` µs: its record, behind a calibration its new entry, and LOCK_TIME; the rest stands. -/
def Locks (y : Syn) (us : Nat) (s : State) (u : Tuning) : Prop :=
  u.own = (s.synRec y).atLock ∧
  (∀ b, (s.synRec y).band = some b → (s.synRec y).found = true → u.entries.head? = some (s.newEntry y b) ∧ u.entries.length ≤ 16) ∧
  u.startPending = s.syn.startPending ∧ u.timeRuns = s.syn.timeRuns ∧ bitsAt u.lockTime (10 * synNum y) 10 = min 1023 us ∧ u.base = s.base

/-- The state in which step 3 has ended, before a cache entry is made. -/
def State.shownLocked (s : State) (y : Syn) (us : Nat) : State := (s.setSyn y (s.synRec y).atLock).lockTime y us

theorem setSt_tuning (s : State) (a n : Nat) (y : Syn) :
    (s.setSt a n).tuning y = { s.tuning y with lockTime := (s.setSt a n).st Reg.SYN_LOCK_TIME } := by
  cases y <;> rfl

theorem setSyn_same_tuning (s : State) (y : Syn) (r : SynRec) : (s.setSyn y r).tuning y = { s.tuning y with own := r } := by
  cases y <;> rfl

theorem shownLocked_tuning (s : State) (y : Syn) (us : Nat) : (s.shownLocked y us).tuning y =
    { s.tuning y with own := (s.synRec y).atLock, lockTime := (s.shownLocked y us).st Reg.SYN_LOCK_TIME } := by
  refine (setSt_tuning _ _ _ y).trans ?_
  rw [setSyn_same_tuning]
  rfl

theorem shownLocked_lockTime (s : State) (y : Syn) (us : Nat) :
    (s.shownLocked y us).stF Reg.SYN_LOCK_TIME (10 * synNum y) 10 = min 1023 us := by
  rw [State.shownLocked, State.lockTime, stF_setStF_same _ _ _ (by cases y <;> decide)]
  exact Nat.mod_eq_of_lt (by omega)

theorem synTemp_eq (s : State) : s.synTemp = State.synTemp { therm := s.therm, flt := s.flt } := rfl

/-- What a cache entry holds beside its band: a key of the configuration and the modelled temperature. -/
theorem newEntry_congr {s t : State} (y : Syn) (b : BandCal) (hcfg : t.cfg = s.cfg) (htherm : t.therm = s.therm) (hflt : t.flt = s.flt) :
    t.newEntry y b = s.newEntry y b := by
  have hkey : t.synKey y = s.synKey y := by cases y <;> simp only [State.synKey, State.fld, State.rd, hcfg]
  rw [State.newEntry, State.newEntry, hkey, synTemp_eq t, synTemp_eq s, htherm, hflt]

theorem shownLocked_newEntry (s : State) (y : Syn) (us : Nat) (b : BandCal) : (s.shownLocked y us).newEntry y b = s.newEntry y b :=
  newEntry_congr y b ((setSt_cfg _ _ _).trans (setSyn_cfg s y _)) ((setSt_therm _ _ _).trans (setSyn_therm s y _))
    ((setSt_flt _ _ _).trans (setSyn_flt s y _))

theorem cacheWrite_tuning (s : State) (y : Syn) (b : BandCal) : (s.cacheWrite y b).tuning y =
    { s.tuning y with entries := addEntry (s.newEntry y b) (s.cache y) } := by
  have hset : ∀ l : List CacheEntry, (s.setCache y l).tuning y = { s.tuning y with entries := l } := fun l => by cases y <;> rfl
  exact (tuning_of_parts y (mramWrite_syn _ _) rfl rfl).trans (hset _)

theorem lockEnd_locks (s : State) (y : Syn) (us : Nat) : Locks y us s ((s.lockEnd y us).tuning y) := by
  have hshown : ∀ u : Tuning, u = (s.shownLocked y us).tuning y → (s.synRec y).band = none ∨ (s.synRec y).found = false → Locks y us s u := by
    rintro u rfl hno
    rw [shownLocked_tuning]
    refine ⟨rfl, fun b hb hf => ?_, rfl, rfl, shownLocked_lockTime s y us, rfl⟩
    rcases hno with h | h <;> simp_all
  unfold State.lockEnd
  extract_lets r s1
  split
  next b hb =>
    split
    next hf =>
      rw [cacheWrite_tuning, show s1.newEntry y b = s.newEntry y b from shownLocked_newEntry s y us b,
        show s1.tuning y = _ from shownLocked_tuning s y us]
      refine ⟨rfl, fun b' hb' _ => ?_, rfl, rfl, shownLocked_lockTime s y us, rfl⟩
      obtain rfl : b = b' := Option.some.inj (hb.symm.trans hb')
      exact ⟨addEntry_head _ _, addEntry_length _ _⟩
    next hf => exact hshown _ rfl (.inr (Bool.eq_false_iff.mpr hf))
  next hb => exact hshown _ rfl (.inl hb)

/-- Behind SYN_C the LO synthesisers start. -/
theorem lockReached_locks (s : State) (y : Syn) (us : Nat) : Locks y us s ((s.lockReached y us).tuning y) := by
  cases y with
  | c =>
    have h : (s.lockReached .c us).tuning .c = (s.lockEnd .c us).tuning .c :=
      (lockStart_tuning _ (by decide)).trans (lockStart_tuning _ (by decide))
    rw [h]
    exact lockEnd_locks s .c us
  | d => exact lockEnd_locks s .d us
  | u => exact lockEnd_locks s .u us

theorem lockEnd_sys (s : State) (y : Syn) (us : Nat) : (s.lockEnd y us).sys = s.sys := by
  have h1 : (s.shownLocked y us).sys = s.sys := (setSt_sys _ _ _).trans (setSyn_sys s y _)
  unfold State.lockEnd
  extract_lets r s1
  split
  · split
    · exact (setCache_sys s1 y _).trans h1
    · exact h1
  · exact h1

theorem lockReached_sys (s : State) (y : Syn) (us : Nat) : (s.lockReached y us).sys = s.sys := by
  cases y with
  | c => exact (lockStart_sys _ .u).trans ((lockStart_sys _ .d).trans (lockEnd_sys s .c us))
  | d => exact lockEnd_sys s .d us
  | u => exact lockEnd_sys s .u us

/-! ### What follows a lock -/

/-- No request waits. -/
def NoneWaits (y : Sys) : Prop := y.pendingReq = none ∧ y.behind = none

theorem locksChanged_of_none {s : State} (h : NoneWaits s.sys) : s.locksChanged = s := by
  obtain ⟨hreq, hbehind⟩ := h
  rw [State.locksChanged, State.retry, hreq]
  exact unbehind_of_none hbehind

theorem realignStart_keeps (s : State) (d : Dir) (y : Syn) : (s.realignStart d).tuning y = s.tuning y ∧
    (NoneWaits s.sys → NoneWaits (s.realignStart d).sys) := by
  cases hrun : (s.dirRec d).running with
  | false =>
    have h : s.realignStart d = s := by simp [State.realignStart, hrun]
    rw [h]
    exact ⟨rfl, id⟩
  | true =>
    cases hre : (s.dirRec d).realign with
    | true =>
      rw [realignStart_of_realigning s d hre]
      exact ⟨rfl, id⟩
    | false =>
      obtain ⟨b, hb⟩ := realignStart_of_running s d hrun hre
      rw [hb]
      refine ⟨(bumpF_tuning _ y _ 16 1 (by decide)).trans
        (tuning_of_still y (setDir_syn _ d _) ((setDir_still _ d _).trans (still_bog s b))), ?_⟩
      intro h
      rw [State.bumpF, State.setStF, setSt_sys]
      cases d <;> exact h

theorem realignDueNow_keeps (s : State) (y : Syn) : s.realignDueNow.tuning y = s.tuning y ∧ (NoneWaits s.sys → NoneWaits s.realignDueNow.sys) := by
  have hstep : ∀ (s : State) (d : Dir), let t := if (s.dirRec d).realignDue && s.awaited d.bit = 0 then s.realignStart d else s
      t.tuning y = s.tuning y ∧ (NoneWaits s.sys → NoneWaits t.sys) := by
    intro s d
    dsimp only
    split
    · exact realignStart_keeps s d y
    · exact ⟨rfl, id⟩
  obtain ⟨hdl, hdlw⟩ := hstep s .dl
  obtain ⟨hul, hulw⟩ := hstep _ .ul
  exact ⟨hul.trans hdl, fun h => hulw (hdlw h)⟩

/-- The state but for the converters and the MRAM port. -/
def State.offConv (s : State) : State := { s with conv := {}, mram := {} }

theorem eq_withConv_of_offConv {s t : State} (h : t.offConv = s.offConv) : t = { s with conv := t.conv, mram := t.mram } := by
  have h' := congrArg (fun x : State => { x with conv := t.conv, mram := t.mram }) h
  exact h'

theorem recordMade_offConv (s : State) (tx : Bool) (l : Nat) : (s.recordMade tx l).offConv = s.offConv := rfl

/-- A calibration without a failure raises nothing. -/
theorem calDone_zero_offConv (s : State) (rx tx : BitVec 4) : (s.calDone rx tx 0).offConv = s.offConv := by
  unfold State.calDone
  extract_lets v s1 s2
  have hraise : ∀ (s : State) (b n k : Nat) (u : Option Nat), (s.raiseIf ((0 : BitVec 8).getLsbD k) b n u).offConv = s.offConv := by
    simp [State.raiseIf]
  exact (foldl_keeps State.offConv _ _ (fun s l => hraise s 8 _ _ _) s2).trans
    ((foldl_keeps State.offConv _ _ (fun s l => hraise s 7 _ _ _) s1).trans rfl)

theorem calibrate_zero (s : State) : ∃ v m, s.calibrate 0 = { s with conv := v, mram := m } := by
  unfold State.calibrate
  extract_lets ok s1
  refine ⟨_, _, eq_withConv_of_offConv ((foldl_keeps State.offConv _ _ (fun s l => ?_) s1).trans (calDone_zero_offConv s _ _))⟩
  have hzero : ∀ k, (0 : BitVec 8).getLsbD k = false := by simp
  simp only [hzero, Bool.false_eq_true, if_false]
  exact (recordMade_offConv _ true l).trans (recordMade_offConv s false l)

theorem holdReq_spared (s : State) (q : Req) (w : Wait) : (s.holdReq q w).spared = s.spared :=
  (dbOutcome_spared _ _ _ _).trans ((show _ = (s.reqEnd q.no q.tag 1).spared from rfl).trans (reqEnd_spared s _ _ _))

theorem refuse_plain_spared (s : State) (q : Req) (code src : Nat) (hq : q.plain) (hsrc : src < 32) : (s.refuse q code src).spared = s.spared := by
  rw [refuse_of_plain s q code src hq]
  exact (raise_spared _ 0 src none (by omega)).trans ((reqEnd_spared _ _ _ _).trans (setSt_spared s _ _))

theorem startReq_spared {s : State} {q : Req} (hq : q.plain) (hm : q.target.moves = true) : (s.startReq q).spared = s.spared := by
  have hstart : ∀ (s : State) (d : Dir), (s.startDir q d).spared = s.spared := fun s d => by
    cases h : q.target.met (s.dirSt d) with
    | true => rw [startDir_of_met hm h]
    | false =>
      rw [startDir_of_unmet hm hq.1 h]
      exact beginTrans_spared s d _
  rw [startReq_of_moves hm hq.2.2]
  exact (reqEnd_spared _ _ _ _).trans (foldl_spared _ _ hstart s)

/-- A request of the device itself for a state without playback: refused, held or started. -/
theorem handle_spared {s : State} {q : Req} (hq : q.plain) (hm : q.target.moves = true) (hcause : ¬(q.cause = 0 ∨ q.cause = 1)) :
    (s.handle q).spared = s.spared := by
  unfold State.handle
  simp only [hcause, if_false]
  split
  · exact refuse_plain_spared s q _ 0 hq (by decide)
  · split
    · split
      · exact holdReq_spared s q _
      · exact refuse_plain_spared s q _ 0 hq (by decide)
    · split
      · exact holdReq_spared s q _
      · split
        · exact holdReq_spared s q _
        · split
          · exact refuse_plain_spared s q _ 0 hq (by decide)
          · split
            · exact startReq_spared hq hm
            · split
              · exact holdReq_spared s q _
              · split
                · exact holdReq_spared s q _
                · exact startReq_spared hq hm

/-- The service request of a first lock. -/
theorem serviceRequest_tuning {s : State} (y : Syn) (h : NoneWaits s.sys) : (s.serviceRequest 0xFE 11).tuning y = s.tuning y := by
  obtain ⟨hreq, hbehind⟩ := h
  unfold State.serviceRequest
  extract_lets scope no q sys1 s1
  have hwait : s1.waiting = none := by simp [State.waiting, s1, sys1, hreq, hbehind]
  split
  · rfl
  · rw [hwait]
    exact tuning_of_still y (congrArg Spared.syn (handle_spared (s := s1.reqShow q 1) (q := q)
        ⟨(by decide : 0xFE ≠ 0xFD), rfl, rfl⟩ rfl (by decide : ¬(11 = 0 ∨ 11 = 1))))
      ((handle_still _ q).trans (reqShow_still s1 q 1))

theorem afterFirst_tuning {s : State} (y : Syn) (h : NoneWaits s.sys) : s.afterFirst.tuning y = s.tuning y := by
  unfold State.afterFirst
  rw [locksChanged_of_none h]
  dsimp only
  split
  · exact serviceRequest_tuning y h
  · rfl

end Sys2Proof.Machine
end

section
/-! SUPPORT. The commands of the lock sequence, each by its equation and what it leaves (R67, R120), and the start of a sequence. -/

namespace Sys2Proof.Machine

/-! ### Calibrations and locks (R67, R120) -/

theorem synRec_setSyn_ne {y z : Syn} (s : State) (r : SynRec) (h : z ≠ y) : (s.setSyn y r).synRec z = s.synRec z :=
  congrArg Tuning.own (setSyn_tuning s r h)

theorem setSyn_frame (s : State) (y : Syn) (r : SynRec) : s.setSyn y r = { s with syn := (s.setSyn y r).syn } := by cases y <;> rfl

theorem cache_setSyn (s : State) (y z : Syn) (r : SynRec) : (s.setSyn y r).cache z = s.cache z := by cases y <;> cases z <;> rfl

/-- An event of SYN after a change of the synthesisers alone. -/
theorem raise_syn_onlyCounts (s : State) (y : SynState) (n : Nat) (hn : n < 32) :
    Counts 6 n s (State.raise { s with syn := y } 6 n) ∧ OnlyCounts s { State.raise { s with syn := y } 6 n with syn := s.syn } :=
  ⟨raise_counts_of_flt 6 n none (by unfold chained; omega) (by decide) rfl, rfl, countParts_of_fixed (raiseEvs_fixed { s with syn := y } _)⟩

theorem bandCalibrationDone_of_found {s : State} {y : Syn} (b : BandCal) (hbusy : (s.synRec y).busy = true)
    (hcal : (s.synRec y).calibrating = true) : bandCalibrationDone y (some b) s =
      s.setSyn y { s.synRec y with calibrating := false, band := some b, found := true } := by
  simp [bandCalibrationDone, hbusy, hcal]

theorem bandCalibrationDone_of_missed {s : State} {y : Syn} (hbusy : (s.synRec y).busy = true) (hcal : (s.synRec y).calibrating = true) :
    bandCalibrationDone y none s = (s.raise 6 (3 + synNum y)).synGiveUp y := by
  simp [bandCalibrationDone, hbusy, hcal]

/-- A synthesiser in service tries again; one out of service changes nothing but itself. -/
theorem synGiveUp_of_inService {s : State} {y : Syn} (h : s.isOut 6 (synNum y) = false) : s.synGiveUp y = s := by
  simp [State.synGiveUp, h]

theorem synGiveUp_frame (s : State) (y : Syn) : s.synGiveUp y = { s with syn := (s.synGiveUp y).syn } := by
  unfold State.synGiveUp State.synOff
  split
  · exact setSyn_frame s y _
  · rfl

theorem synNum_lt (y : Syn) : synNum y < 3 := by cases y <;> decide

theorem synRec_of_syn {s t : State} (h : t.syn = s.syn) (y : Syn) : t.synRec y = s.synRec y := by
  cases y <;> simp only [State.synRec, h]

/-- A calibration that finds no band counts, and goes on while the synthesiser is in service. -/
theorem missedCalibration_goesOn (s : State) (y : Syn) : let t := (s.raise 6 (3 + synNum y)).synGiveUp y
    Counts 6 (3 + synNum y) s t ∧ (t.isOut 6 (synNum y) = false → t.synRec y = s.synRec y) ∧ OnlyCounts s { t with syn := s.syn } := by
  have hlt := synNum_lt y
  have hcount := raise_counts_of_flt (s := s) (x := s) 6 (3 + synNum y) none (by unfold chained; omega) (by decide) rfl
  have honly := raise_onlyCounts s 6 (3 + synNum y) none
  generalize hx : s.raise 6 (3 + synNum y) = x at hcount honly
  have hsyn : x.syn = s.syn := by rw [← hx, raise_syn]
  have hframe := synGiveUp_frame x y
  intro t
  have hflt : t.flt = x.flt := (congrArg State.flt hframe :)
  refine ⟨?_, fun hin => ?_, ?_⟩
  · rwa [Counts, hflt]
  · have hin' : x.isOut 6 (synNum y) = false := by rwa [State.isOut, State.isFenced, State.isRetired, State.unitSt, hflt] at hin
    rw [show t = x from synGiveUp_of_inService hin']
    exact synRec_of_syn hsyn y
  · have hback : { t with syn := s.syn } = x := by
      rw [← hsyn]
      exact (congrArg (fun u : State => { u with syn := x.syn }) hframe :)
    rwa [hback]

theorem warmLockTimeout_of_missed {s : State} {y : Syn} (hbusy : (s.synRec y).busy = true) (hcal : (s.synRec y).calibrating = false)
    (hfound : (s.synRec y).found = false) : warmLockTimeout y s =
      (s.setSyn y { s.synRec y with calibrating := true, band := none }).raise 6 (6 + synNum y) := by
  simp [warmLockTimeout, hbusy, hcal, hfound]

/-- A warm lock that misses calibrates in full, and counts its source. -/
theorem warmMissed_counts (s : State) (y : Syn) : let r := { s.synRec y with calibrating := true, band := none }
    let t := (s.setSyn y r).raise 6 (6 + synNum y)
    t.synRec y = r ∧ Counts 6 (6 + synNum y) s t ∧ OnlyCounts s { t with syn := s.syn } := by
  intro r t
  have hlt := synNum_lt y
  have hraised := raise_syn_onlyCounts s (s.setSyn y r).syn (6 + synNum y) (by omega)
  rw [← setSyn_frame s y r] at hraised
  refine ⟨?_, hraised⟩
  rw [← synRec_setSyn_same s y r]
  exact synRec_of_syn (raise_syn _ 6 _ none) y

/-- A lock that acts is SYN_C's first, or any other. -/
theorem synthLocked_of_first {s : State} {y : Syn} (us : Nat) (hbusy : (s.synRec y).busy = true) (hcal : (s.synRec y).calibrating = false)
    (hcan : s.synCan y = true) (hy : y = .c) (hfirst : s.syn.startPending = true) : synthLocked y us s =
      ((State.calibrate { s with syn := { s.syn with startPending := false, timeRuns := true } } 0).lockReached .c us).afterFirst := by
  subst hy
  simp [synthLocked, hbusy, hcal, hcan, hfirst]

theorem synthLocked_of_other {s : State} {y : Syn} (us : Nat) (hbusy : (s.synRec y).busy = true) (hcal : (s.synRec y).calibrating = false)
    (hcan : s.synCan y = true) (h : ¬(y = .c ∧ s.syn.startPending = true)) :
    synthLocked y us s = ((s.lockReached y us).realignDueNow).locksChanged := by
  simp [synthLocked, hbusy, hcal, hcan, h]

/-- A lock shows what `Locks` says of the state v that it finds: s itself, or s with device time started and the converters calibrated. -/
theorem synthLocked_locks {s : State} {y : Syn} (us : Nat) (hbusy : (s.synRec y).busy = true) (hcal : (s.synRec y).calibrating = false)
    (hcan : s.synCan y = true) (hwait : NoneWaits s.sys) : ∃ v : State, Locks y us v ((synthLocked y us s).tuning y) ∧
      v.synRec y = s.synRec y ∧ (∀ b, v.newEntry y b = s.newEntry y b) ∧ v.base = s.base ∧
      (y = .c → v.syn.startPending = false ∧ (s.syn.startPending = true → v.syn.timeRuns = true)) := by
  by_cases hfirst : y = .c ∧ s.syn.startPending = true
  · obtain ⟨rfl, hpending⟩ := hfirst
    obtain ⟨v, m, hv⟩ := calibrate_zero { s with syn := { s.syn with startPending := false, timeRuns := true } }
    refine ⟨{ s with syn := { s.syn with startPending := false, timeRuns := true }, conv := v, mram := m }, ?_, rfl,
      fun b => newEntry_congr .c b rfl rfl rfl, rfl, fun _ => ⟨rfl, fun _ => rfl⟩⟩
    rw [synthLocked_of_first us hbusy hcal hcan rfl hpending, hv, afterFirst_tuning .c (by rw [lockReached_sys]; exact hwait)]
    exact lockReached_locks _ .c us
  · obtain ⟨htuning, hwaits⟩ := realignDueNow_keeps (s.lockReached y us) y
    refine ⟨s, ?_, rfl, fun _ => rfl, rfl, fun hy => ⟨by simpa [hy] using hfirst, fun hp => absurd ⟨hy, hp⟩ hfirst⟩⟩
    rw [synthLocked_of_other us hbusy hcal hcan hfirst, locksChanged_of_none (hwaits (by rw [lockReached_sys]; exact hwait)), htuning]
    exact lockReached_locks s y us

/-! ### The start of a lock sequence -/

/-- The output goes off, and the sequence runs where it can. -/
theorem lockStart_own (s : State) (y : Syn) : ((s.lockStart y).synRec y).locked = false ∧ ((s.lockStart y).synRec y).busy = s.synCan y := by
  have hcache : ∀ (s : State) (l : List CacheEntry), (s.setCache y l).synRec y = s.synRec y := fun s l => by cases y <;> rfl
  have hcount : ∀ s : State, (s.bumpF Reg.SYN_CACHE_STAT 24 8 1).synRec y = s.synRec y := fun s =>
    congrArg Tuning.own (bumpF_tuning s y 24 8 1 (by decide))
  unfold State.lockStart
  extract_lets r off
  cases hcan : s.synCan y with
  | false =>
    rw [if_pos (by decide), synRec_setSyn_same]
    exact ⟨rfl, rfl⟩
  | true =>
    rw [if_neg (by decide)]
    split
    · rw [hcache, synRec_setSyn_same]
      exact ⟨rfl, rfl⟩
    · rw [hcount, synRec_setSyn_same]
      exact ⟨rfl, rfl⟩

/-- The state but for the synthesisers and the status registers. -/
def State.offSyn (s : State) : State := { s with syn := {}, sts := [] }

theorem setSyn_offSyn (s : State) (y : Syn) (r : SynRec) : (s.setSyn y r).offSyn = s.offSyn := by cases y <;> rfl

theorem setCache_offSyn (s : State) (y : Syn) (l : List CacheEntry) : (s.setCache y l).offSyn = s.offSyn := by cases y <;> rfl

theorem bumpF_offSyn (s : State) (a lo w k : Nat) : (s.bumpF a lo w k).offSyn = s.offSyn := rfl

theorem lockStart_offSyn (s : State) (y : Syn) : (s.lockStart y).offSyn = s.offSyn := by
  unfold State.lockStart
  extract_lets r off
  split
  · exact setSyn_offSyn s y _
  · split
    · exact (setCache_offSyn _ y _).trans (setSyn_offSyn s y _)
    · exact (bumpF_offSyn _ _ 24 8 1).trans (setSyn_offSyn s y _)

end Sys2Proof.Machine
end

section
/-! SUPPORT. A lost lock, and the reference's failure and return (R121): what the handling of a loss leaves of the synthesisers, their
sources and the base, and the mute of a direction that transmits; then the statement about the lock sequence. -/

namespace Sys2Proof.Machine

/-! ### The loss of SYN_C -/

/-- All three outputs are off. -/
def SynState.allOff (y : SynState) : SynState := { y with c := y.c.off, d := y.d.off, u := y.u.off }

def State.outputsOff (s : State) : State := { s with syn := s.syn.allOff }

theorem sparing_of_offBog {s t : State} (h : t.offBog = s.offBog) : Sparing s t :=
  ⟨(congrArg State.spared h :), (congrArg State.base h :)⟩

theorem markDir_offBog (s : State) (d : Dir) : (s.markDir d).offBog = s.offBog :=
  (markFlagged_offBog _ _).trans (markFlagged_offBog s _)

theorem muteDir_sparing (s : State) (d : Dir) (c : MuteCause) : Sparing s (s.muteDir d c) := ⟨muteDir_spared s d c, muteDir_base s d c⟩

theorem setDir_sparing (s : State) (d : Dir) (r : DirRec) : Sparing s (s.setDir d r) :=
  ⟨setDir_spared s d r, base_of_still (setDir_still s d r)⟩

/-- The outputs off, and the lanes of both directions marked. -/
def State.lossMarked (s : State) : State := (s.outputsOff.markDir .dl).markDir .ul

/-- What the loss does to a direction: a running one falls due for a realignment, and one that transmits is muted. -/
def State.lossDir (s : State) (d : Dir) : State :=
  let s := if (s.dirRec d).running then s.setDir d { s.dirRec d with realignDue := true } else s
  if s.transmits d then s.muteDir d .lockedSynth else s

theorem lossC_eq (s : State) : s.lossC = dirs.foldl State.lossDir s.lossMarked := rfl

theorem lossDir_sparing (s : State) (d : Dir) : Sparing s (s.lossDir d) := by
  unfold State.lossDir
  extract_lets r x
  have hx : Sparing s x := by
    simp only [x]
    split
    · exact setDir_sparing s d _
    · exact .refl s
  split
  · exact hx.trans (muteDir_sparing x d .lockedSynth)
  · exact hx

/-- The marks, the realignments that fall due and the mutes spare what the loss has left of the synthesisers. -/
theorem lossC_sparing (s : State) : Sparing s.outputsOff s.lossC := by
  have hmarked : Sparing s.outputsOff s.lossMarked :=
    sparing_of_offBog ((markDir_offBog (s.outputsOff.markDir .dl) .ul).trans (markDir_offBog s.outputsOff .dl))
  rw [lossC_eq]
  exact hmarked.trans (foldl_sparing dirs State.lossDir lossDir_sparing s.lossMarked)

theorem syn_of_spared {s t : State} (h : t.spared = s.spared) : t.syn = s.syn := congrArg Spared.syn h

theorem source_of_spared {s t : State} (h : t.spared = s.spared) (n : Fin 32) : t.flt.source 6 n = s.flt.source 6 n :=
  congrFun (congrArg Spared.sources h) n

theorem loseC_keeps (s : State) : s.loseC.syn = s.syn.allOff ∧ (∀ n : Fin 32, s.loseC.flt.source 6 n = (s.raise 6 0).flt.source 6 n) ∧
    s.loseC.base = s.base := by
  have hsyn : (s.raise 6 0).syn = s.syn := raise_syn s 6 0 none
  have hbase : (s.raise 6 0).base = s.base := raise_base s 6 0 none
  unfold State.loseC
  generalize s.raise 6 0 = x at hsyn hbase
  have hx : Sparing x (x.raise 0 11) := ⟨raise_spared x 0 11 none (by decide), raise_base x 0 11 none⟩
  obtain ⟨hspared, hbase'⟩ := lossC_sparing (x.raise 0 11)
  generalize x.raise 0 11 = z at hx hspared hbase'
  obtain ⟨hxs, hxb⟩ := hx
  refine ⟨?_, fun n => ?_, hbase'.trans (hxb.trans hbase)⟩
  · exact (syn_of_spared hspared).trans (congrArg SynState.allOff ((syn_of_spared hxs).trans hsyn))
  · exact (source_of_spared hspared n).trans (source_of_spared hxs n)

/-! ### Counts of SYN's sources -/

theorem raise_syn_counts (s : State) (n : Nat) (hn : n < 32) : Counts 6 n s (s.raise 6 n) :=
  raise_counts_of_flt 6 n none (by unfold chained; omega) (by decide) rfl

/-- The handling of the loss counts source 0, and leaves the total of any other source of SYN. -/
theorem loseC_counts (s : State) : Counts 6 0 s s.loseC := by
  obtain ⟨-, hsource, -⟩ := loseC_keeps s
  exact (congrArg Src.total (hsource 0)).trans (raise_syn_counts s 0 (by decide))

theorem loseC_source_ne (s : State) (n : Fin 32) (hn : n.val ≠ 0) : s.loseC.flt.source 6 n = s.flt.source 6 n := by
  obtain ⟨-, hsource, -⟩ := loseC_keeps s
  rw [hsource n, raise_source_ne s 6 n 6 0 none (by unfold chained; omega) (by omega)]

/-! ### LOSS_OF_LOCK (R121) -/

theorem lockStart_flt (s : State) (y : Syn) : (s.lockStart y).flt = s.flt := (congrArg State.flt (lockStart_offSyn s y) :)

theorem lockStart_dirMuted (s : State) (y : Syn) (d : Dir) : (s.lockStart y).dirMuted d = s.dirMuted d := by
  have h := congrArg (fun u : State => u.dirMuted d) (lockStart_offSyn s y)
  cases d <;> exact h

/-- An LO synthesiser loses its lock: its output is off, the lanes are marked, and its source counts. -/
def State.lostLo (s : State) (d : Dir) : State := ((s.synOff (dirSyn d)).markDir d).raise 6 (synNum (dirSyn d))

/-- The handling of the loss, before the synthesiser starts to relock: the direction is muted where it transmits. -/
def State.lossLo (s : State) (d : Dir) : State := if (s.lostLo d).transmits d then (s.lostLo d).muteDir d .lockedSynth else s.lostLo d

theorem lossOfLock_lo {s : State} (d : Dir) (h : (s.synRec (dirSyn d)).locked = true) :
    lossOfLock (dirSyn d) s = (s.lossLo d).lockStart (dirSyn d) := by
  simp only [lossOfLock, h, Bool.not_true, Bool.false_eq_true, if_false]
  cases d <;> rfl

theorem lossOfLock_c {s : State} (h : (s.synRec .c).locked = true) : lossOfLock .c s = s.loseC.lockStart .c := by
  simp only [lossOfLock, h, Bool.not_true, Bool.false_eq_true, if_false]

theorem lossLo_sparing (s : State) (d : Dir) : Sparing (s.lostLo d) (s.lossLo d) := by
  unfold State.lossLo
  split
  · exact muteDir_sparing _ d _
  · exact .refl _

theorem flt_of_offBog {s t : State} (h : t.offBog = s.offBog) : t.flt = s.flt := by
  have hflt := congrArg State.flt h
  exact hflt

theorem markDir_flt (s : State) (d : Dir) : (s.markDir d).flt = s.flt := flt_of_offBog (markDir_offBog s d)

theorem synOff_flt (s : State) (y : Syn) : (s.synOff y).flt = s.flt := setSyn_flt s y _

theorem lostLo_counts (s : State) (d : Dir) : Counts 6 (synNum (dirSyn d)) s (s.lostLo d) := by
  have hlt := synNum_lt (dirSyn d)
  exact raise_counts_of_flt 6 _ none (by unfold chained; omega) (by decide) ((markDir_flt _ d).trans (synOff_flt s _))

theorem lossLo_counts (s : State) (d : Dir) : Counts 6 (synNum (dirSyn d)) s (s.lossLo d) := by
  have hlt := synNum_lt (dirSyn d)
  have hsource := congrFun (congrArg Spared.sources (lossLo_sparing s d).1) ⟨synNum (dirSyn d), by omega⟩
  have hcount := lostLo_counts s d
  rw [Counts] at hcount ⊢
  exact (congrArg Src.total hsource).trans hcount

theorem lossLo_base (s : State) (d : Dir) : (s.lossLo d).base = s.base :=
  (lossLo_sparing s d).2.trans ((raise_base _ 6 _ none).trans ((sparing_of_offBog (markDir_offBog _ d)).2.trans (setSyn_base s _ _)))

/-- A lost lock counts, its output is off, and the base stands. -/
theorem lossOfLock_unlocks {s : State} (y : Syn) (h : (s.synRec y).locked = true) : Counts 6 (synNum y) s (lossOfLock y s) ∧
    ((lossOfLock y s).synRec y).locked = false ∧ (lossOfLock y s).base = s.base := by
  have hrelock : ∀ x : State, Counts 6 (synNum y) s x → x.base = s.base → Counts 6 (synNum y) s (x.lockStart y) ∧
      ((x.lockStart y).synRec y).locked = false ∧ (x.lockStart y).base = s.base := fun x hcount hbase =>
    ⟨by rwa [Counts, lockStart_flt], (lockStart_own x y).1, (lockStart_base x y).trans hbase⟩
  have hlo : ∀ d, dirSyn d = y → lossOfLock y s = (s.lossLo d).lockStart y := by
    rintro d rfl
    exact lossOfLock_lo d h
  cases y with
  | c =>
    rw [lossOfLock_c h]
    exact hrelock _ (loseC_counts s) (loseC_keeps s).2.2
  | d =>
    rw [hlo .dl rfl]
    exact hrelock _ (lossLo_counts s .dl) (lossLo_base s .dl)
  | u =>
    rw [hlo .ul rfl]
    exact hrelock _ (lossLo_counts s .ul) (lossLo_base s .ul)

/-! ### The mute of a direction that transmits (R121, R193) -/

/-- What decides whether direction d transmits: its record, its pattern, and the configuration. -/
def State.stage (s : State) (d : Dir) : DirRec × Option Playing × RegFile := (s.dirRec d, s.playing d, s.cfg)

theorem transmits_of_stage {s t : State} {d : Dir} (h : t.stage d = s.stage d) : t.transmits d = s.transmits d := by
  simp only [State.stage, Prod.mk.injEq] at h
  obtain ⟨hrec, hplay, hcfg⟩ := h
  simp only [State.transmits, State.dirSt, State.patTransmit, State.fld, State.rd, hrec, hplay, hcfg]; rfl

theorem raise_stage (s : State) (b n : Nat) (u : Option Nat) (d : Dir) : (s.raise b n u).stage d = s.stage d := by
  obtain ⟨-, hbog, -⟩ := raise_onlyCounts s b n u
  have hplay : (s.raise b n u).playing d = s.playing d := by
    cases d <;> simp only [State.playing] <;> rw [hbog]
  rw [State.stage, hplay]
  rfl

theorem stage_of_parts {s t : State} {d : Dir} (hsys : t.sys = s.sys) (hplay : t.playing d = s.playing d) (hcfg : t.cfg = s.cfg) :
    t.stage d = s.stage d := by
  rw [State.stage, dirRec_of_sys hsys, hplay, hcfg, State.stage]

/-- The marks of a lane keep whatever of the Bog the regions have no part in. -/
theorem markFlagged_bog {α : Type} (f : BogState → α) (hf : ∀ b n r, f (b.setRegion n r) = f b) (s : State) (l : Nat) :
    f (s.markFlagged l).bog = f s.bog := by
  unfold State.markFlagged
  dsimp only
  refine foldl_keeps f regionNums _ (fun b n => ?_) s.bog
  split
  · exact hf b n _
  · rfl

theorem markFlagged_playing (s : State) (l : Nat) (d : Dir) : (s.markFlagged l).playing d = s.playing d := by
  cases d
  · exact markFlagged_bog BogState.pbDl (fun _ _ _ => rfl) s l
  · exact markFlagged_bog BogState.pbUl (fun _ _ _ => rfl) s l

theorem markFlagged_stage (s : State) (l : Nat) (d : Dir) : (s.markFlagged l).stage d = s.stage d :=
  stage_of_parts (sys_of_offBog (markFlagged_offBog s l)) (markFlagged_playing s l d) (cfg_of_base (markFlagged_base s l))

theorem markDir_stage (s : State) (e d : Dir) : (s.markDir e).stage d = s.stage d :=
  (markFlagged_stage _ _ d).trans (markFlagged_stage s _ d)

theorem synOff_stage (s : State) (y : Syn) (d : Dir) : (s.synOff y).stage d = s.stage d := by cases y <;> rfl

theorem lostLo_stage (s : State) (d : Dir) : (s.lostLo d).stage d = s.stage d :=
  (raise_stage _ 6 _ none d).trans ((markDir_stage _ d d).trans (synOff_stage s _ d))

theorem setGovDir_stage (s : State) (e d : Dir) (g : GovDir) : (s.setGovDir e g).stage d = s.stage d :=
  stage_of_parts (setGovDir_sys s e g) (by cases d <;> simp only [State.playing, setGovDir_bog]) (setGovDir_cfg s e g)

theorem capGovs_stage (s : State) (e d : Dir) (gs : List Nat) : (gs.foldl (fun s g => s.capGov e g) s).stage d = s.stage d :=
  foldl_keeps (fun s : State => s.stage d) gs (fun s g => s.capGov e g) (fun _ _ => rfl) s

theorem toMuted_dirSt (s : State) (d : Dir) : (s.toMuted d).dirSt d = .muted := by
  unfold State.toMuted
  extract_lets s1 from_ s2 r s3
  have h3 : s3.dirSt d = .muted := congrArg DirRec.st (dirRec_setDir_same s2 d _)
  split
  · exact h3
  · exact (congrArg DirRec.st (dirRec_of_sys (record_sys s3 _ 5 d.bit 4) d)).trans h3

theorem peatMute_sys (s : State) (b src u : Nat) : (s.peatMute b src u).sys = s.sys := peatClose_sys _ _ _

theorem bothMuted_sys (s0 s : State) : (State.bothMuted s0 s).sys = s.sys := raiseIf_sys s _ 0 13 none

/-- A direction that transmits and is muted, for another cause than an oscillation, goes into the state MUTED (R193). -/
theorem muteDir_dirSt {s : State} {d : Dir} {c : MuteCause} (hc : c ≠ .oscillation) (hmuted : s.dirMuted d = false)
    (htransmits : s.transmits d = true) : (s.muteDir d c).dirSt d = .muted := by
  unfold State.muteDir
  extract_lets b s1 sOsc r s2 g s3 sCap s4
  have h2 : s2 = s1 := if_neg hc
  have hstage : sCap.stage d = s.stage d :=
    (capGovs_stage s3 d d _).trans ((setGovDir_stage s2 d d _).trans (h2 ▸ raise_stage s b _ _ d))
  have h4 : s4 = sCap.toMuted d := if_pos ((transmits_of_stage hstage).trans htransmits)
  have hfree : s2.dirMuted d = false := by
    rw [h2, dirMuted_of_aside (raise_aside s b c.dirSource (some 16) (dirSource_ne_allLate d c)), hmuted]
  rw [if_neg (by rw [hfree]; decide)]
  have hsys : (State.bothMuted s (s4.peatMute b c.dirSource 16)).sys = s4.sys := (bothMuted_sys s _).trans (peatMute_sys s4 _ _ _)
  calc (State.bothMuted s (s4.peatMute b c.dirSource 16)).dirSt d
      = s4.dirSt d := congrArg DirRec.st (dirRec_of_sys hsys d)
    _ = .muted := by rw [h4, toMuted_dirSt]

theorem dirMuted_of_offBog {s t : State} (h : t.offBog = s.offBog) (d : Dir) : t.dirMuted d = s.dirMuted d := by
  have hmuted := congrArg (fun u : State => u.dirMuted d) h
  cases d <;> exact hmuted

theorem synOff_dirMuted (s : State) (y : Syn) (d : Dir) : (s.synOff y).dirMuted d = s.dirMuted d := by cases y <;> cases d <;> rfl

theorem lostLo_dirMuted (s : State) (d e : Dir) : (s.lostLo d).dirMuted e = s.dirMuted e := by
  have hlt := synNum_lt (dirSyn d)
  exact (dirMuted_of_aside (raise_aside _ 6 _ none (by omega)) e).trans
    ((dirMuted_of_offBog (markDir_offBog _ d) e).trans (synOff_dirMuted s _ e))

/-- A direction that transmits on a synthesiser that loses its lock is muted, and MUTED where no mute stood. -/
theorem lossOfLock_mutes {s : State} {d : Dir} (hlocked : (s.synRec (dirSyn d)).locked = true) (htransmits : s.transmits d = true) :
    (lossOfLock (dirSyn d) s).dirMuted d = true ∧ (s.dirMuted d = false → (lossOfLock (dirSyn d) s).dirSt d = .muted) := by
  have hlost : (s.lostLo d).transmits d = true := (transmits_of_stage (lostLo_stage s d)).trans htransmits
  have hmute : s.lossLo d = (s.lostLo d).muteDir d .lockedSynth := if_pos hlost
  rw [lossOfLock_lo d hlocked]
  refine ⟨?_, fun hfree => ?_⟩
  · rw [lockStart_dirMuted, hmute, dirMuted_muteDir]
    simp
  · have hsys := lockStart_sys (s.lossLo d) (dirSyn d)
    refine (congrArg DirRec.st (dirRec_of_sys hsys d)).trans ?_
    rw [hmute]
    exact muteDir_dirSt (by decide) ((lostLo_dirMuted s d d).trans hfree) hlost

/-! ### The reference (R121) -/

/-- A reference that fails counts its source, and leaves SYN_C unlocked. -/
theorem refFails_unlocks (s : State) (n : Nat) (hn : 0 < n) (hlt : n < 32) : Counts 6 n s (s.refFails n) ∧
    (s.refFails n).syn.refPresent = s.syn.refPresent ∧ (s.refFails n).syn.refOk = s.syn.refOk ∧
    (s.refFails n).syn.c.locked = false ∧ (s.refFails n).base = s.base := by
  have hraise : ∀ x : State, x.flt.source 6 n = s.flt.source 6 n → Counts 6 n s (x.raise 6 n) := fun x hx => by
    have hcount := raise_syn_counts x n hlt
    rwa [Counts, hx] at hcount
  unfold State.refFails
  split
  next =>
    obtain ⟨hsyn, -, hbase⟩ := loseC_keeps s
    refine ⟨hraise _ (loseC_source_ne s ⟨n, hlt⟩ hn.ne'), ?_⟩
    rw [raise_syn, hsyn]
    exact ⟨rfl, rfl, rfl, (raise_base _ 6 n none).trans hbase⟩
  next hunlocked =>
    refine ⟨hraise s rfl, ?_⟩
    rw [raise_syn]
    refine ⟨rfl, rfl, ?_, raise_base s 6 n none⟩
    simp only [Bool.or_eq_true, not_or, Bool.not_eq_true] at hunlocked
    exact hunlocked.1

theorem bumpF_syn (s : State) (a lo w k : Nat) : (s.bumpF a lo w k).syn = s.syn := rfl

/-- The start of a lock sequence leaves what is known of the reference. -/
theorem lockStart_ref (s : State) (y : Syn) : (s.lockStart y).syn.refPresent = s.syn.refPresent ∧ (s.lockStart y).syn.refOk = s.syn.refOk := by
  have hrec : ∀ r, (s.setSyn y r).syn.refPresent = s.syn.refPresent ∧ (s.setSyn y r).syn.refOk = s.syn.refOk := fun r => by
    cases y <;> exact ⟨rfl, rfl⟩
  have hcache : ∀ (x : State) l, (x.setCache y l).syn.refPresent = x.syn.refPresent ∧ (x.setCache y l).syn.refOk = x.syn.refOk :=
    fun x l => by cases y <;> exact ⟨rfl, rfl⟩
  have hcount : ∀ x : State, (x.bumpF Reg.SYN_CACHE_STAT 24 8 1).syn = x.syn := fun x => bumpF_syn x _ 24 8 1
  unfold State.lockStart
  extract_lets r off
  split
  · exact hrec off
  · split
    · exact ⟨(hcache _ _).1.trans (hrec _).1, (hcache _ _).2.trans (hrec _).2⟩
    · rw [hcount]
      exact hrec _

theorem regsUp_of_up {s : State} (h : s.power = .up) : s.regsUp = true := by simp [State.regsUp, State.isUp, h]

/-- The state with a reference that is present and correct. -/
def State.refBack (s : State) : State := { s with syn := { s.syn with refPresent := true, refOk := true } }

theorem refclkReturn_starts {s : State} (hup : s.power = .up) (hlocked : s.syn.c.locked = false) (hbusy : s.syn.c.busy = false)
    (hpending : s.syn.startPending = false) : refclkReturn s = s.refBack.lockStart .c := by
  rw [refclkReturn, ifUp_of_regsUp _ (regsUp_of_up hup)]
  simp [State.refBack, hlocked, hbusy, hpending, hup]

theorem refBack_synCan {s : State} (h : s.isOut 6 0 = false) : s.refBack.synCan .c = true := by
  have hin : s.refBack.isOut 6 (synNum .c) = false := h
  rw [State.synCan, hin]
  rfl

end Sys2Proof.Machine

open Sys2Proof Sys2Proof.Machine

/-- Settles O28: each command of the lock sequence by its equation, `Locks` for a lock that is reached, and for a loss what its marks,
realignments and mutes spare of the synthesisers. -/
theorem synLocks : Obligations.SynLocks := by
  unfold Obligations.SynLocks
  refine ⟨fun s y hbusy => ⟨fun b hcal => ⟨_, rfl, ?_⟩, fun hcal hin => ⟨_, rfl, ?_⟩, fun hcal hfound => ⟨_, rfl, ?_⟩,
    fun us hcal hcan hreq hbehind => ⟨_, rfl, ?_⟩⟩,
    fun s hup => ⟨fun y hlocked => ⟨_, rfl, ?_⟩, fun d hlocked htransmits => ⟨_, rfl, lossOfLock_mutes hlocked htransmits⟩,
      ⟨_, rfl, ?_⟩, ⟨_, rfl, ?_⟩, fun hlocked hoff hpending hin => ⟨_, rfl, ?_⟩⟩⟩
  · rw [bandCalibrationDone_of_found b hbusy hcal]
    exact ⟨synRec_setSyn_same s y _, fun z hz => synRec_setSyn_ne s _ hz, cache_setSyn s y y _, setSyn_frame s y _⟩
  · rw [bandCalibrationDone_of_missed hbusy hcal]
    exact missedCalibration_goesOn s y
  · rw [warmLockTimeout_of_missed hbusy hcal hfound]
    exact warmMissed_counts s y
  · obtain ⟨v, hlocks, hown, hentry, hbase, hfirst⟩ := synthLocked_locks us hbusy hcal hcan ⟨hreq, hbehind⟩
    obtain ⟨hrec, hmade, hstart, hruns, htime, hbase'⟩ := hlocks
    rw [hown] at hrec hmade
    have hs := hbase'.trans hbase
    refine ⟨hrec, fun b hband hfound => ?_, fun hy => ?_, htime, cfg_of_base hs, now_of_base hs⟩
    · have hhead := hmade b hband hfound
      rw [hentry b] at hhead
      exact hhead
    · exact ⟨hstart.trans (hfirst hy).1, fun hp => hruns.trans ((hfirst hy).2 hp)⟩
  · obtain ⟨hcount, hoff, hbase⟩ := lossOfLock_unlocks y hlocked
    exact ⟨hcount, hoff, cfg_of_base hbase, now_of_base hbase⟩
  · rw [refclkAbsent, ifUp_of_regsUp _ (regsUp_of_up hup)]
    obtain ⟨hcount, hpresent, -, hunlocked, hbase⟩ :=
      refFails_unlocks { s with syn := { s.syn with refPresent := false } } 9 (by decide) (by decide)
    exact ⟨hcount, hpresent, hunlocked, cfg_of_base hbase⟩
  · rw [refclkFrequencyWrong, ifUp_of_regsUp _ (regsUp_of_up hup)]
    obtain ⟨hcount, -, hok, hunlocked, hbase⟩ :=
      refFails_unlocks { s with syn := { s.syn with refOk := false } } 10 (by decide) (by decide)
    exact ⟨hcount, hok, hunlocked, cfg_of_base hbase⟩
  · rw [refclkReturn_starts hup hlocked hoff hpending]
    obtain ⟨hpresent, hok⟩ := lockStart_ref s.refBack .c
    obtain ⟨hunlocked, hstarts⟩ := lockStart_own s.refBack .c
    exact ⟨hpresent, hok, hstarts.trans (refBack_synCan hin), hunlocked, cfg_of_base (lockStart_base s.refBack .c),
      lockStart_flt s.refBack .c⟩
end

section
/-! SUPPORT. The image's measurements and SYN_C's first lock (R75, R98, R121): what a measurement writes, what the payloads leave of the power
state, and what the later steps of a start leave of SYN_C's lock. -/

namespace Sys2Proof.Machine

/-! ### Measurements (R75, R98) -/

theorem BootState.entry_setEntry (b : BootState) (n st len dig k : Nat) :
    (b.setEntry n st len dig).entry k = if k = n then (st, len, dig) else b.entry k := NMap.get_put ..

theorem freshWide_eq (k : Nat) (s : State) : (State.freshWide k s).2 = { s with free := (State.freshWide k s).2.free } := by
  induction k generalizing s with
  | zero => rfl
  | succ k ih => exact (ih s.fresh.2).trans rfl

/-- A measurement writes its entry, partial at least where the engine has failed, and of the rest at most the model's counter. -/
theorem measure_eq (s : State) (n st len dig : Nat) : ∃ free st' dig', (st' = st ∨ st' = 3) ∧
    s.measure n st len dig = { s with free := free, boot := s.boot.setEntry n st' len dig' } := by
  unfold State.measure
  split
  · dsimp only
    rw [freshWide_eq 8 s]
    exact ⟨_, 3, _, .inr rfl, rfl⟩
  · exact ⟨s.free, st, dig, .inl rfl, rfl⟩

theorem placePayload_power (x : State × Nat × List Nat) (p : Payload) : (State.placePayload x p).1.power = x.1.power := by
  obtain ⟨s, top, placed⟩ := x
  unfold State.placePayload
  dsimp only
  split
  · rfl
  · exact raiseIf_power s _ 3 9 none

theorem placePayloads_power (ps : List Payload) (x : State × Nat × List Nat) :
    (ps.foldl State.placePayload x).1.power = x.1.power := foldl_keeps (fun x => x.1.power) ps _ placePayload_power x

/-- A preload that runs ends: entry 3 reads valid, or partial where the walk stopped. -/
theorem patternPreload_ends {s : State} (hslot : s.appliedSlot ≠ none) (hrun : s.boot.preloading = true) (hbog : s.bog.ready = true)
    (hup : s.isUp = true) : (patternPreload s).boot.preloading = false ∧ (patternPreload s).boot.preloadDone = true ∧
      (patternPreload s).power = s.power ∧ (((patternPreload s).boot.entry 3).1 = 2 ∨ ((patternPreload s).boot.entry 3).1 = 3) := by
  obtain ⟨l, hl⟩ := Option.ne_none_iff_exists'.mp hslot
  unfold patternPreload
  rw [hl]
  dsimp only
  rw [if_neg (by simp [hrun, hbog, hup])]
  generalize payloads l _ _ _ = walk
  have hpower := placePayloads_power walk.1 (s, 2 ^ 34, [])
  generalize walk.1.foldl State.placePayload (s, 2 ^ 34, []) = x at hpower ⊢
  generalize hstate : (if walk.2.isSome then 3 else 2) = st
  obtain ⟨free, st', dig, hst', hmeasure⟩ := measure_eq (State.raiseIf
    { x.1 with boot := { x.1.boot with preloading := false, preloadDone := true } } walk.2.isSome 3 7) 3 st _ _
  rw [hmeasure]
  refine ⟨?_, ?_, ?_, ?_⟩
  · exact (congrArg BootState.preloading (raiseIf_boot _ _ 3 7 none) :)
  · exact (congrArg BootState.preloadDone (raiseIf_boot _ _ 3 7 none) :)
  · exact (raiseIf_power _ _ 3 7 none).trans hpower
  · rw [BootState.entry_setEntry, if_pos rfl]
    have hst : st = 2 ∨ st = 3 := by
      rw [← hstate]
      split
      · exact .inr rfl
      · exact .inl rfl
    rcases hst' with rfl | rfl
    · exact hst
    · exact .inr rfl

/-- The digest over the five digests (R75). -/
def BootState.composite (b : BootState) : Nat := sha256 ([0, 1, 2, 3, 4].flatMap (fun n => digestBytes (b.entry n).2.2))

/-- The composite digest forms where entries 0, 1, 2 and 4 are valid, entry 3 has ended and entry 8 is empty. -/
theorem compositeDigest_forms {s : State} (hempty : (s.boot.entry 8).1 = 0) (hended : 2 ≤ (s.boot.entry 3).1)
    (hvalid : ∀ n, n ∈ [0, 1, 2, 4] → (s.boot.entry n).1 = 2) : compositeDigest s =
      { s with boot := s.boot.setEntry 8 (s.boot.entry 3).1 160 s.boot.composite } := by
  have hall : [0, 1, 2, 4].any (fun n => (s.boot.entry n).1 != 2) = false := by simpa using hvalid
  rw [compositeDigest]
  exact if_neg (by simp only [hall]; simp [hempty, hended])

/-! ### SYN_C's first lock (R121) -/

/-- SYN_C's record, whether its first lock is awaited, whether device time runs, and SYS and the base. -/
structure FirstLock where
  own : SynRec
  startPending : Bool
  timeRuns : Bool
  sys : Sys
  base : Base

def State.firstLock (s : State) : FirstLock :=
  { own := s.syn.c, startPending := s.syn.startPending, timeRuns := s.syn.timeRuns, sys := s.sys, base := s.base }

theorem foldl_firstLock {α : Type} (l : List α) (f : State → α → State) (h : ∀ s a, (f s a).firstLock = s.firstLock) (s : State) :
    (l.foldl f s).firstLock = s.firstLock := foldl_keeps State.firstLock l f h s

theorem raiseIf_firstLock (s : State) (c : Bool) (b n : Nat) (u : Option Nat) : (s.raiseIf c b n u).firstLock = s.firstLock := by
  cases c <;> rfl

theorem recordMade_firstLock (s : State) (tx : Bool) (l : Nat) : (s.recordMade tx l).firstLock = s.firstLock := rfl

theorem calDone_firstLock (s : State) (rx tx : BitVec 4) (fail : BitVec 8) : (s.calDone rx tx fail).firstLock = s.firstLock :=
  (foldl_firstLock _ _ (fun s _ => raiseIf_firstLock s _ 8 _ _) _).trans
    ((foldl_firstLock _ _ (fun s _ => raiseIf_firstLock s _ 7 _ _) _).trans rfl)

theorem calibrate_firstLock (s : State) (fail : BitVec 8) : (s.calibrate fail).firstLock = s.firstLock := by
  refine (foldl_firstLock _ _ (fun s l => ?_) _).trans (calDone_firstLock s _ _ fail)
  dsimp only
  split
  · split
    · rfl
    · exact recordMade_firstLock s true l
  · split
    · exact recordMade_firstLock s false l
    · exact (recordMade_firstLock _ true l).trans (recordMade_firstLock s false l)

theorem setSyn_firstLock (s : State) {y : Syn} (r : SynRec) (h : y ≠ .c) : (s.setSyn y r).firstLock = s.firstLock := by
  cases y
  · exact absurd rfl h
  · rfl
  · rfl

theorem setCache_firstLock (s : State) (y : Syn) (l : List CacheEntry) : (s.setCache y l).firstLock = s.firstLock := by cases y <;> rfl

theorem cacheWrite_firstLock (s : State) (y : Syn) (b : BandCal) : (s.cacheWrite y b).firstLock = s.firstLock := setCache_firstLock s y _

theorem lockTime_firstLock (s : State) (y : Syn) (us : Nat) : (s.lockTime y us).firstLock = s.firstLock := rfl

theorem lockEnd_firstLock (s : State) {y : Syn} (us : Nat) (h : y ≠ .c) : (s.lockEnd y us).firstLock = s.firstLock := by
  unfold State.lockEnd
  extract_lets r s1
  have h1 : s1.firstLock = s.firstLock := (lockTime_firstLock _ y us).trans (setSyn_firstLock s _ h)
  split
  · split
    · exact (cacheWrite_firstLock s1 y _).trans h1
    · exact h1
  · exact h1

theorem fresh_firstLock (s : State) : s.fresh.2.firstLock = s.firstLock := rfl

/-- A cold lock of an LO synthesiser leaves SYN_C's. -/
theorem lockCold_firstLock (s : State) {y : Syn} (l : LockUs) (h : y ≠ .c) : (s.lockCold y l).firstLock = s.firstLock := by
  unfold State.lockCold
  split
  · exact setSyn_firstLock s _ h
  · split
    · exact setSyn_firstLock s _ h
    · exact (lockEnd_firstLock _ _ h).trans ((setSyn_firstLock _ _ h).trans (fresh_firstLock s))

/-- Step 7 of a start: device time runs, and nothing of the start is pending. -/
theorem startConverters_firstLock (s : State) (fail : BitVec 8) (lockD lockU : LockUs) : (s.startConverters fail lockD lockU).firstLock =
    { s.firstLock with startPending := false, timeRuns := true } :=
  (lockCold_firstLock _ lockU (by decide)).trans ((lockCold_firstLock _ lockD (by decide)).trans ((calibrate_firstLock _ fail).trans rfl))

/-- A cold lock of SYN_C that is reached. -/
theorem lockCold_c_reached {s : State} (us : Nat) (h : s.synCan .c = true) : (s.lockCold .c (some us)).syn.c.locked = true ∧
    (s.lockCold .c (some us)).sys = s.sys ∧ (s.lockCold .c (some us)).base = s.base := by
  unfold State.lockCold
  rw [if_neg (by simp [h])]
  dsimp only
  generalize hx : s.fresh.2.setSyn .c _ = x
  obtain ⟨hown, -, -, -, -, hbase⟩ := lockEnd_locks x .c us
  have hsys : x.sys = s.sys := by rw [← hx]; rfl
  have hxbase : x.base = s.base := by rw [← hx]; rfl
  exact ⟨congrArg SynRec.locked hown, (lockEnd_sys x .c us).trans hsys, hbase.trans hxbase⟩

/-- The state in which a further 10 ms have passed without SYN_C's first lock. -/
def State.waited (s : State) : State := { s with boot := { s.boot with waitUs := s.boot.waitUs + 10000 } }

theorem synCStartRetry_of_pending {s : State} (l lockD lockU : LockUs) (fail : BitVec 8) (hpending : s.syn.startPending = true)
    (hup : s.power = .up) (hentering : s.sys.entering = none) : synCStartRetry l lockD lockU fail s =
      if !(s.waited.lockCold .c l).syn.c.locked then s.waited.lockCold .c l
      else ((s.waited.lockCold .c l).startConverters fail lockD lockU).afterFirst :=
  if_neg (by simp [hpending, hup, hentering])

/-- Where no request waits and SERVICE_EN reads 0, nothing follows the first lock. -/
theorem afterFirst_of_disabled {s : State} (h : NoneWaits s.sys) (hen : s.sys.serviceEn = false) : s.afterFirst = s := by
  rw [State.afterFirst, locksChanged_of_none h]
  exact if_neg (by simp [hen])

theorem synCStartRetry_reached {s : State} (us : Nat) (lockD lockU : LockUs) (fail : BitVec 8) (hpending : s.syn.startPending = true)
    (hup : s.power = .up) (hentering : s.sys.entering = none) (hcan : s.synCan .c = true) (hen : s.sys.serviceEn = false)
    (hwaits : NoneWaits s.sys) : ∃ r : SynRec, r.locked = true ∧ (synCStartRetry (some us) lockD lockU fail s).firstLock =
      { own := r, startPending := false, timeRuns := true, sys := s.sys, base := s.base } := by
  obtain ⟨hlocked, hsys, hbase⟩ := lockCold_c_reached (s := s.waited) us hcan
  rw [synCStartRetry_of_pending _ lockD lockU fail hpending hup hentering, hlocked]
  generalize s.waited.lockCold .c (some us) = x at hlocked hsys hbase ⊢
  have hlock := startConverters_firstLock x fail lockD lockU
  have hconv : (x.startConverters fail lockD lockU).sys = s.sys := (congrArg FirstLock.sys hlock).trans hsys
  rw [if_neg (by decide), afterFirst_of_disabled (hconv ▸ hwaits) (hconv ▸ hen), hlock]
  refine ⟨x.syn.c, hlocked, ?_⟩
  rw [State.firstLock, hsys, hbase]
  rfl

theorem synCStartRetry_missed {s : State} (lockD lockU : LockUs) (fail : BitVec 8) (hpending : s.syn.startPending = true)
    (hup : s.power = .up) (hentering : s.sys.entering = none) (hcan : s.synCan .c = true) : synCStartRetry none lockD lockU fail s =
      s.waited.setSyn .c { s.syn.c with locked := false, busy := true, calibrating := true, band := none } := by
  have hcold : s.waited.lockCold .c none =
      s.waited.setSyn .c { s.syn.c with locked := false, busy := true, calibrating := true, band := none } :=
    if_neg (by rw [show s.waited.synCan .c = true from hcan]; decide)
  rw [synCStartRetry_of_pending _ lockD lockU fail hpending hup hentering, hcold]
  rfl

end Sys2Proof.Machine

open Sys2Proof Sys2Proof.Machine

/-- Settles O13: the preload and the composite by their measurements, and the retried lock by what the later steps of a start leave of
SYN_C's. -/
theorem preloadAndSynC : Obligations.PreloadAndSynC := by
  unfold Obligations.PreloadAndSynC
  refine ⟨⟨fun s hslot hrun hbog hup => ⟨_, rfl, ?_⟩, fun s hempty hended hvalid => ⟨_, rfl, ?_⟩⟩,
    fun s us lockD lockU fail hpending hup hentering hcan => ⟨fun hen hreq hbehind => ⟨_, rfl, ?_⟩, ⟨_, rfl, ?_⟩⟩⟩
  · obtain ⟨hpower, -, -, -, hboot, -⟩ := after_keeps s (patternPreload s)
    rw [hpower, hboot]
    exact patternPreload_ends hslot hrun hbog hup
  · rw [compositeDigest_forms hempty hended hvalid]
    exact ⟨rfl, (BootState.entry_setEntry ..).trans (if_pos rfl), fun n hn => (BootState.entry_setEntry ..).trans (if_neg hn)⟩
  · obtain ⟨r, hlocked, hlock⟩ := synCStartRetry_reached us lockD lockU fail hpending hup hentering hcan hen ⟨hreq, hbehind⟩
    have hbase := congrArg FirstLock.base hlock
    exact ⟨congrArg FirstLock.startPending hlock, congrArg FirstLock.timeRuns hlock,
      (congrArg (fun x : FirstLock => x.own.locked) hlock).trans hlocked, (power_of_base hbase).trans hup, now_of_base hbase⟩
  · rw [synCStartRetry_missed lockD lockU fail hpending hup hentering hcan]
    exact ⟨hpending, rfl, rfl, rfl, rfl, rfl, rfl⟩
end

section
/-! SUPPORT. A check that passes (R46, R100): what its service request leaves of the check and of SERVICE_EN, whatever request waits, and what
the pass shows. -/

namespace Sys2Proof.Machine

/-! ### What requests leave of the check -/

/-- The check that runs, and SERVICE_EN. -/
def Sys.checking (y : Sys) : Option Check × Bool := (y.check, y.serviceEn)

theorem foldl_checking {α : Type} (l : List α) (f : State → α → State) (h : ∀ s a, (f s a).sys.checking = s.sys.checking) (s : State) :
    (l.foldl f s).sys.checking = s.sys.checking := foldl_keeps (fun s : State => s.sys.checking) l f h s

theorem checking_of_sys {s t : State} (h : t.sys = s.sys) : t.sys.checking = s.sys.checking := congrArg Sys.checking h

theorem ite_checking {s a b : State} {p : Prop} [Decidable p] (ha : a.sys.checking = s.sys.checking) (hb : b.sys.checking = s.sys.checking) :
    (if p then a else b).sys.checking = s.sys.checking := by
  split
  · exact ha
  · exact hb

theorem OnlyDir.checking {d : Dir} {s t : State} (h : OnlyDir d s t) : t.sys.checking = s.sys.checking :=
  (congrArg Sys.checking h.rest).trans rfl

theorem setDir_checking (s : State) (d : Dir) (r : DirRec) : (s.setDir d r).sys.checking = s.sys.checking := (onlyDir_setDir d s r).checking

theorem reqEnd_checking (s : State) (no tag status : Nat) : (s.reqEnd no tag status).sys.checking = s.sys.checking := by
  rw [reqEnd_sys]
  rfl

theorem reqEnd_dbOutcome_checking (s : State) (no tag status : Nat) (db : Option Nat) (result code : Nat) :
    ((s.reqEnd no tag status).dbOutcome db result code).sys.checking = s.sys.checking :=
  (checking_of_sys (dbOutcome_sys _ db result code)).trans (reqEnd_checking s no tag status)

theorem abandonTrans_checking (s : State) (d : Dir) : (s.abandonTrans d).sys.checking = s.sys.checking := by
  cases htr : (s.dirRec d).trans with
  | none => rw [abandonTrans_of_none htr]
  | some t =>
    obtain ⟨_, _, _, _, _, hsys⟩ := abandonTrans_sys htr
    exact (congrArg Sys.checking hsys).trans (setDir_checking s d _)

theorem overtakeReturns_checking (s : State) (ds : List Dir) : (s.overtakeReturns ds).sys.checking = s.sys.checking := by
  refine foldl_checking _ _ (fun s d => ?_) s
  split
  · split
    · exact abandonTrans_checking s d
    · rfl
  · rfl

theorem enterStandby_checking (s : State) (d : Dir) (cause : Nat) : (s.enterStandby d cause).sys.checking = s.sys.checking :=
  (enterStandby_onlyDir s d cause).checking

theorem fallBack_checking (s : State) (d : Dir) (cause : Nat) : (s.fallBack d cause).sys.checking = s.sys.checking :=
  ite_checking (setDir_checking s d _) (enterStandby_checking s d cause)

theorem refuse_checking (s : State) (q : Req) (code src : Nat) : (s.refuse q code src).sys.checking = s.sys.checking := by
  unfold State.refuse
  extract_lets s1 s2 s3 s4
  have h4 : s4.sys.checking = s.sys.checking :=
    (checking_of_sys (raiseIf_sys _ _ 5 8 none)).trans (reqEnd_dbOutcome_checking s1 q.no q.tag 3 _ _ _)
  exact ite_checking ((foldl_checking _ _ (fun s d => fallBack_checking s d 3) _).trans h4)
    (ite_checking ((foldl_checking _ _ (fun s d => fallBack_checking s d 5) _).trans h4) h4)

theorem holdReq_checking (s : State) (q : Req) (w : Wait) : (s.holdReq q w).sys.checking = s.sys.checking :=
  (checking_of_sys (dbOutcome_sys _ _ _ _)).trans (reqEnd_checking s q.no q.tag 1)

theorem startDir_checking (s : State) (q : Req) (d : Dir) : (s.startDir q d).sys.checking = s.sys.checking := by
  have hgo : ∀ t, (s.beginTrans d t).sys.checking = s.sys.checking := fun t => (beginTrans_onlyDir s d t).checking
  have hfull : ((s.patStop d).echoGoOn d).sys.checking = s.sys.checking :=
    (foldl_checking _ _ (fun s n => checking_of_sys (setEcho_sys s d n _)) _).trans (checking_of_sys (patStop_sys s d))
  have hresumed : ∀ r, ((((s.patStop d).echoGoOn d).setDir d r).record 7 4 d.bit q.cause).sys.checking = s.sys.checking :=
    fun r => (checking_of_sys (record_sys _ _ _ _ _)).trans ((setDir_checking _ d r).trans hfull)
  unfold State.startDir
  split
  · exact ite_checking rfl (ite_checking (hresumed _) (hgo _))
  · exact ite_checking rfl (ite_checking (hresumed _) (hgo _))
  · exact ite_checking rfl (hgo _)
  · exact ite_checking rfl (hgo _)
  · exact hgo _
  · rfl

theorem trySleep_checking (s : State) : s.trySleep.sys.checking = s.sys.checking := by
  unfold State.trySleep
  split
  · rfl
  · split
    · exact (congrArg Sys.checking (sleepStart_sys s _ _ _)).trans rfl
    · rfl

theorem startReq_checking (s : State) (q : Req) : (s.startReq q).sys.checking = s.sys.checking := by
  unfold State.startReq
  split
  · exact (trySleep_checking _).trans ((foldl_checking _ _ (fun s d => enterStandby_checking s d q.cause) _).trans
      (reqEnd_checking s q.no q.tag 1))
  · have hstart := foldl_checking (s.reqDirs q) _ (fun s d => startDir_checking s q d) s
    dsimp only
    split
    · exact (reqEnd_dbOutcome_checking _ q.no q.tag 1 _ _ _).trans hstart
    · exact (reqEnd_dbOutcome_checking _ q.no q.tag 2 _ _ _).trans hstart

/-- A request, whatever becomes of it, leaves the check and SERVICE_EN. -/
theorem handle_checking (s : State) (q : Req) : (s.handle q).sys.checking = s.sys.checking := by
  unfold State.handle
  extract_lets s1
  have h1 : s1.sys.checking = s.sys.checking := ite_checking (overtakeReturns_checking s _) rfl
  have hheld : ∀ w, (s1.holdReq q w).sys.checking = s.sys.checking := fun w => (holdReq_checking s1 q w).trans h1
  have hstarted : (s1.startReq q).sys.checking = s.sys.checking := (startReq_checking s1 q).trans h1
  refine ite_checking (refuse_checking s q _ 0) (ite_checking (ite_checking (holdReq_checking s q _) (refuse_checking s q _ 0))
    (ite_checking (holdReq_checking s q _) (ite_checking (hheld _) ?_)))
  split
  · exact (refuse_checking s1 q _ 0).trans h1
  · exact ite_checking hstarted (ite_checking (hheld _) (ite_checking (hheld _) hstarted))

theorem unbehind_checking (s : State) : s.unbehind.sys.checking = s.sys.checking := by
  unfold State.unbehind
  split
  · exact handle_checking _ _
  · rfl

theorem unbehind_still (s : State) : s.unbehind.still = s.still := by
  unfold State.unbehind
  split
  · exact handle_still _ _
  · rfl

theorem serviceRequest_keeps (s : State) (tag cause : Nat) : (s.serviceRequest tag cause).sys.checking = s.sys.checking ∧
    (s.serviceRequest tag cause).still = s.still := by
  unfold State.serviceRequest
  extract_lets scope no q sys1 s1
  split
  · exact ⟨rfl, rfl⟩
  · split
    · exact ⟨(unbehind_checking _).trans (handle_checking _ q), (unbehind_still _).trans (handle_still _ q)⟩
    · exact ⟨handle_checking _ q, handle_still _ q⟩

/-! ### The pass (R100) -/

/-- What a check that passes with a digest shows. -/
structure Passes (c : Check) (digest : Nat) (s t : State) : Prop where
  checking : t.sys.checking = (none, s.sys.serviceEn)
  boot : t.boot = { s.boot with digest := digest, passed := true }
  cfg : t.cfg = s.cfg
  status : t.st Reg.CFG_CHECK_STATUS = 1 + 4 * ofBool c.short
  time : t.st Reg.CFG_CHECK_TIME = s.st Reg.CFG_CHECK_TIME

/-- The state in which CHECK_DIGEST shows a digest. -/
def State.digestShown (s : State) (digest : Nat) : State :=
  (List.range 8).foldl (fun s w => s.setSt (Reg.CFG_CHECK_DIGEST w) (digestWord digest w)) s

theorem digestShown_keeps {β : Type} (p : State → β) (h : ∀ s a n, a ≠ Reg.CFG_CHECK_TIME → p (s.setSt a n) = p s) (s : State) (digest : Nat) :
    p (s.digestShown digest) = p s :=
  foldl_keeps p _ _ (fun s w => h s _ _ (by unfold Reg.CFG_CHECK_TIME Reg.CFG_CHECK_DIGEST; omega)) s

/-- The state of a check that has passed, before its service request. -/
def State.checkPassed (s : State) (c : Check) (digest : Nat) : State :=
  ((State.digestShown { s with sys := { s.sys with check := none }, boot := { s.boot with digest := digest, passed := true } } digest).setSt
    Reg.CFG_CHECK_STATUS (1 + 4 * ofBool c.short)).lawsPassed

theorem checkPasses_eq (s : State) (c : Check) (digest : Nat) :
    s.checkPasses c digest = (s.checkPassed c digest).serviceRequest c.tag c.cause := rfl

/-- Of the state, closing the open laws changes the loop engine alone. -/
theorem lawsPassed_eq (s : State) : ∃ l, s.lawsPassed = { s with loop := l } := ⟨_, rfl⟩

theorem checkPassed_passes (s : State) (c : Check) (digest : Nat) : Passes c digest s (s.checkPassed c digest) := by
  unfold State.checkPassed
  generalize hstored : ({ s with sys := { s.sys with check := none }, boot := { s.boot with digest := digest, passed := true } } : State) = x
  have hchecking := digestShown_keeps (fun s => s.sys.checking) (fun _ _ _ _ => rfl) x digest
  have hboot := digestShown_keeps State.boot (fun _ _ _ _ => rfl) x digest
  have hcfg := digestShown_keeps State.cfg (fun _ _ _ _ => rfl) x digest
  have htime := digestShown_keeps (fun s => s.st Reg.CFG_CHECK_TIME) (fun s _ _ ha => st_setSt_ne s _ ha.symm) x digest
  generalize x.digestShown digest = y at hchecking hboot hcfg htime ⊢
  obtain ⟨l, hlaws⟩ := lawsPassed_eq (y.setSt Reg.CFG_CHECK_STATUS (1 + 4 * ofBool c.short))
  subst hstored
  rw [hlaws]
  refine ⟨hchecking, hboot, hcfg, (st_setSt_same y _ _).trans (Nat.mod_eq_of_lt ?_), (st_setSt_ne y _ (by decide)).trans htime⟩
  cases c.short <;> decide

theorem checkPasses_passes (s : State) (c : Check) (digest : Nat) : Passes c digest s (s.checkPasses c digest) := by
  obtain ⟨hchecking, hstill⟩ := serviceRequest_keeps (s.checkPassed c digest) c.tag c.cause
  obtain ⟨hpassed, hboot, hcfg, hstatus, htime⟩ := checkPassed_passes s c digest
  rw [checkPasses_eq]
  exact ⟨hchecking.trans hpassed, (boot_of_still hstill).trans hboot, (cfg_of_base (base_of_still hstill)).trans hcfg,
    (st_of_still hstill (by decide)).trans hstatus, (st_of_still hstill (by decide)).trans htime⟩

/-! ### How a check ends (R100, R101) -/

/-- The state in which CHECK_TIME shows the time of a check. -/
def State.checkTimed (s : State) (us : Nat) : State := s.setSt Reg.CFG_CHECK_TIME us

theorem checkTimed_checkSet (s : State) (us : Nat) : (s.checkTimed us).checkSet = s.checkSet := rfl

theorem checkTimed_configDigest (s : State) (us : Nat) : (s.checkTimed us).configDigest = s.configDigest := rfl

/-- The codes of a full check that ends: those found, and 0x0F01 where the set has changed. -/
def Check.endCodes (c : Check) (now : CheckSet) : List Nat :=
  c.codes.eraseDups ++ (if c.touched = true ∨ c.snap ≠ now then [0x0F01] else [])

theorem checkComplete_of_full {s : State} {c : Check} (us : Nat) (h : s.sys.check = some c) (hshort : c.short = false)
    (hsecond : c.second = false) : checkComplete us s =
      if c.endCodes s.checkSet = [] then (s.checkTimed us).checkPasses c s.configDigest
      else (s.checkTimed us).checkRefuses c (c.endCodes s.checkSet) := by
  have hus : s.checkUs c us = us := if_neg (by simp [hsecond])
  have hcodes : c.codes.eraseDups ++ failsIf (c.touched || s.checkSet != c.snap) 0x0F01 = c.endCodes s.checkSet := by
    simp only [Check.endCodes, failsIf, Bool.or_eq_true, bne_iff_ne, ne_comm]
  rw [← hcodes, checkComplete, h]
  dsimp only
  rw [hus, if_neg (by simp [hshort])]
  rfl

theorem endCodes_eq_nil {c : Check} {now : CheckSet} : c.endCodes now = [] ↔ c.codes = [] ∧ c.touched = false ∧ c.snap = now := by
  have hdups : c.codes.eraseDups = [] ↔ c.codes = [] := by cases c.codes <;> simp [List.eraseDups_cons]
  simp [Check.endCodes, hdups]

theorem checkComplete_of_short {s : State} {c : Check} (us : Nat) (h : s.sys.check = some c) (hshort : c.short = true) :
    checkComplete us s =
      if s.boot.passed && s.configDigest = s.boot.digest then
        if c.touched then (s.checkTimed (s.checkUs c us)).checkRefuses c [0x0F01]
        else (s.checkTimed (s.checkUs c us)).checkPasses c s.boot.digest
      else (s.checkTimed (s.checkUs c us)).secondCheck c := by
  rw [checkComplete, h]
  dsimp only
  rw [if_pos hshort]
  rfl

theorem checkTimeout_of_check {s : State} {c : Check} (found : List Nat) (h : s.sys.check = some c) : checkTimeout found s =
    (s.checkTimed (s.checkUs c 3000)).checkRefuses c ((c.codes.filter (fun x => found.contains x)).eraseDups ++ [0x0F02]) := by
  rw [checkTimeout, h]
  rfl

/-- The full check that a short form's mismatch starts. -/
def Check.again (c : Check) (s : State) : Check :=
  { origin := c.origin, short := false, snap := s.checkSet, codes := s.checkCodes, cause := c.cause, tag := c.tag, touched := c.touched
    second := true }

theorem secondCheck_eq (s : State) (c : Check) :
    s.secondCheck c = { s.raise 3 10 with sys := { s.sys with serviceEn := true, check := some (c.again (s.raise 3 10)) } } := rfl

end Sys2Proof.Machine
end

section
/-! SUPPORT. A check that refuses (R100, R101): what it writes and counts, how it sends the directions to STANDBY, and that nothing of this
undoes what it shows. -/

namespace Sys2Proof.Machine

/-! ### What a refusal writes and counts -/

theorem rd_eq_of_cfg {s t : State} (h : t.cfg = s.cfg) (a : Nat) : t.rd a = s.rd a := by rw [State.rd, State.rd, h]

theorem classN_of_cfg {s t : State} (h : t.cfg = s.cfg) (b : Nat) : t.classN b = s.classN b := by
  unfold State.classN
  rw [rd_eq_of_cfg h]

theorem quietMs_of_cfg {s t : State} (h : t.cfg = s.cfg) (b : Nat) : t.quietMs b = s.quietMs b := by
  unfold State.quietMs
  rw [rd_eq_of_cfg h]

/-- One event with a DETAIL, of a block whose events no other block suppresses. -/
theorem raiseEvs_detail_source (s : State) {b n : Nat} (detail : Nat) (hc : ¬chained (32 * b + n)) (hb : b ∉ [5, 7, 8, 19]) :
    (s.raiseEvs [{ blk := b, src := n, detail := detail }]).flt.source b n =
      (s.flt.source b n).count (s.classN b) s.now (s.quietMs b) false detail := by
  simp only [List.mem_cons, List.not_mem_nil, or_false, not_or] at hb
  obtain ⟨h5, h7, h8, h19⟩ := hb
  have hs := suppressed_other s.flt b n (namedUnit b n none) h19 h5 h7 h8
  simp only [State.raiseEvs, State.withFx, List.length_cons, List.length_nil, countAll, List.nil_append]
  rw [countAll_source_ne _ _ _ _ _ _ _ hc, countOne_source]
  · simp [State.fx, hs]
  · intro e he hk
    exact hc (hk ▸ countOne_events _ _ _ e he)

/-- CHECK_STATUS of a refusal (R102). -/
def Check.refusedStatus (c : Check) (codes : List Nat) : Nat :=
  2 + 4 * ofBool c.short + 256 * min 255 codes.length + 65536 * codeClasses codes

/-- A refusal's registers and SERVICE_EN are written. -/
def State.refusalWritten (s : State) (c : Check) (codes : List Nat) : State :=
  (State.setSt { s with sys := { s.sys with check := none, serviceEn := false } } Reg.SYS_REFUSE_CODE
    (lowestCode codes + 65536 * c.tag)).setSt Reg.CFG_CHECK_STATUS (c.refusedStatus codes)

/-- Its sources are counted. -/
def State.refusalCounted (s : State) (c : Check) (codes : List Nat) : State :=
  (((s.refusalWritten c codes).raiseEvs [{ blk := 0, src := 5, detail := lowestCode codes }]).raiseIf (codes.contains 0x0F02) 0 6)

/-- And REQ_STATUS shows it, where a held write of SERVICE_EN began the check. -/
def State.checkRefused (s : State) (c : Check) (codes : List Nat) : State := (s.refusalCounted c codes).reqEnd c.no c.tag 3

theorem refusalWritten_sys (s : State) (c : Check) (codes : List Nat) :
    (s.refusalWritten c codes).sys = { s.sys with check := none, serviceEn := false } := (setSt_sys _ _ _).trans (setSt_sys _ _ _)

theorem refusalCounted_sys (s : State) (c : Check) (codes : List Nat) :
    (s.refusalCounted c codes).sys = { s.sys with check := none, serviceEn := false } :=
  (raiseIf_sys _ _ 0 6 none).trans ((raiseEvs_sys _ _).trans (refusalWritten_sys s c codes))

theorem refuseHeld_of_none {s : State} (h : s.sys.pendingReq = none) : s.refuseHeld = s := by simp only [State.refuseHeld, h]

/-- Where no request is pending and no wake's return refused, a refusal leaves the directions to go to STANDBY. -/
theorem checkRefuses_eq {s : State} {c : Check} (codes : List Nat) (hreq : s.sys.pendingReq = none) (htag : c.tag ≠ 0xFD) :
    s.checkRefuses c codes = (s.checkRefused c codes).checkStandby := by
  have hpending : (s.checkRefused c codes).sys.pendingReq = none := by
    rw [State.checkRefused, reqEnd_sys, refusalCounted_sys]
    exact hreq
  rw [← congrArg State.checkStandby (refuseHeld_of_none hpending)]
  simp only [State.checkRefuses, htag, decide_false, State.raiseIf]
  rfl

theorem checkRefused_sys (s : State) (c : Check) (codes : List Nat) : (s.checkRefused c codes).sys = { s.sys with
    check := none, serviceEn := false
    shown := (s.checkRefused c codes).sys.shown, shadow := (s.checkRefused c codes).sys.shadow
    reqTag := (s.checkRefused c codes).sys.reqTag, reqStatus := (s.checkRefused c codes).sys.reqStatus } := by
  rw [State.checkRefused, reqEnd_sys, refusalCounted_sys]

theorem checkRefused_dirRec (s : State) (c : Check) (codes : List Nat) (d : Dir) : (s.checkRefused c codes).dirRec d = s.dirRec d := by
  cases d
  · exact (congrArg Sys.dl (checkRefused_sys s c codes)).trans rfl
  · exact (congrArg Sys.ul (checkRefused_sys s c codes)).trans rfl

/-- The state without SYS, the status registers and what counting an event changes. -/
def State.offReport (s : State) : State := { s with sys := {}, sts := [], flt := {}, twb := {}, peat := {}, mram := {}, bog := {} }

theorem eq_withReport_of_offReport {s t : State} (h : t.offReport = s.offReport) :
    t = { s with sys := t.sys, sts := t.sts, flt := t.flt, twb := t.twb, peat := t.peat, mram := t.mram, bog := t.bog } := by
  have h' := congrArg (fun x : State =>
    { x with sys := t.sys, sts := t.sts, flt := t.flt, twb := t.twb, peat := t.peat, mram := t.mram, bog := t.bog }) h
  exact h'

theorem raiseEvs_offReport (s : State) (es : List Ev) : (s.raiseEvs es).offReport = s.offReport := rfl

theorem raiseIf_offReport (s : State) (c : Bool) (b n : Nat) (u : Option Nat) : (s.raiseIf c b n u).offReport = s.offReport := by
  cases c
  · rfl
  · exact raiseEvs_offReport s _

theorem reqEnd_offReport (s : State) (no tag status : Nat) : (s.reqEnd no tag status).offReport = s.offReport := by
  rw [reqEnd_eq]
  rfl

theorem setSt_offReport (s : State) (a n : Nat) : (s.setSt a n).offReport = s.offReport := rfl

theorem refusalWritten_flt (s : State) (c : Check) (codes : List Nat) : (s.refusalWritten c codes).flt = s.flt :=
  (setSt_flt _ _ _).trans (setSt_flt _ _ _)

theorem refusalWritten_now (s : State) (c : Check) (codes : List Nat) : (s.refusalWritten c codes).now = s.now :=
  (setSt_now _ _ _).trans (setSt_now _ _ _)

theorem refusalWritten_cfg (s : State) (c : Check) (codes : List Nat) : (s.refusalWritten c codes).cfg = s.cfg :=
  (setSt_cfg _ _ _).trans (setSt_cfg _ _ _)

theorem refusalWritten_offReport (s : State) (c : Check) (codes : List Nat) : (s.refusalWritten c codes).offReport = s.offReport :=
  ((setSt_offReport _ _ _).trans (setSt_offReport _ _ _)).trans rfl

/-- Of the state, a refusal before the directions go to STANDBY changes what reports it. -/
theorem checkRefused_offReport (s : State) (c : Check) (codes : List Nat) : (s.checkRefused c codes).offReport = s.offReport :=
  (reqEnd_offReport _ _ _ _).trans ((raiseIf_offReport _ _ 0 6 none).trans
    ((raiseEvs_offReport _ _).trans (refusalWritten_offReport s c codes)))

theorem refusalCounted_sts (s : State) (c : Check) (codes : List Nat) : (s.refusalCounted c codes).sts = (s.refusalWritten c codes).sts :=
  (raiseIf_sts _ _ 0 6 none).trans (raiseEvs_sts _ _)

theorem checkRefused_st (s : State) (c : Check) (codes : List Nat) (a : Nat) :
    (s.checkRefused c codes).st a = (s.refusalWritten c codes).st a := by
  refine st_of_sts ?_ a
  rw [State.checkRefused, reqEnd_eq]
  exact refusalCounted_sts s c codes

theorem checkRefused_flt (s : State) (c : Check) (codes : List Nat) : (s.checkRefused c codes).flt = (s.refusalCounted c codes).flt := by
  unfold State.checkRefused
  rw [reqEnd_eq]

/-- SYS source 5 counts with the lowest code as its DETAIL, -/
theorem checkRefused_source (s : State) (c : Check) (codes : List Nat) : (s.checkRefused c codes).flt.source 0 5 =
    (s.flt.source 0 5).count (s.classN 0) s.now (s.quietMs 0) false (lowestCode codes) := by
  rw [checkRefused_flt, ← refusalWritten_flt s c codes, ← refusalWritten_now s c codes, ← classN_of_cfg (refusalWritten_cfg s c codes),
    ← quietMs_of_cfg (refusalWritten_cfg s c codes)]
  have hdetail := raiseEvs_detail_source (s.refusalWritten c codes) (b := 0) (n := 5) (lowestCode codes) (by unfold chained; decide) (by decide)
  unfold State.refusalCounted State.raiseIf
  split
  · exact (raise_source_ne _ 0 5 0 6 none (by unfold chained; decide) (by decide)).trans hdetail
  · exact hdetail

/-- and source 6 where the check has timed out. -/
theorem checkRefused_timeout {s : State} {codes : List Nat} (c : Check) (h : 0x0F02 ∈ codes) :
    Counts 0 6 s (s.checkRefused c codes) := by
  have hother := raiseEvs_source_ne (s.refusalWritten c codes) [{ blk := 0, src := 5, detail := lowestCode codes }] 0 6
    (by simp) (by unfold chained; decide)
  rw [Counts, checkRefused_flt, State.refusalCounted, List.contains_iff_mem.mpr h, ← refusalWritten_flt s c codes]
  have hcount := raise_counts_of_flt (x := (s.refusalWritten c codes).raiseEvs [{ blk := 0, src := 5, detail := lowestCode codes }])
    0 6 none (by unfold chained; decide) (by decide) rfl
  rw [Counts, hother] at hcount
  exact hcount

end Sys2Proof.Machine
end

section
/-! SUPPORT. How a refused check sends the directions to STANDBY (R100, R449), what this spares of the refusal's report, and the statement. -/

namespace Sys2Proof.Machine

/-! ### What the way to STANDBY spares -/

/-- REFUSE_CODE, and the sources of block SYS. -/
def State.report (s : State) : Nat × (Fin 32 → Src) := (s.st Reg.SYS_REFUSE_CODE, fun n => s.flt.source 0 n)

theorem report_of_parts {s t : State} (hsts : t.sts = s.sts) (hflt : t.flt = s.flt) : t.report = s.report := by
  rw [State.report, st_of_sts hsts, hflt, State.report]

theorem raise_report (s : State) (b n : Nat) (u : Option Nat) (h : (32 * b + n) / 32 ≠ 0) : (s.raise b n u).report = s.report := by
  have hsrc : ∀ k : Fin 32, (s.raise b n u).flt.source 0 k = s.flt.source 0 k := fun k =>
    raise_source_ne s 0 k b n u (by unfold chained; omega) (by omega)
  simp only [State.report, hsrc]
  rfl

theorem setDir_report (s : State) (d : Dir) (r : DirRec) : (s.setDir d r).report = s.report :=
  report_of_parts (setDir_sts s d r) (setDir_flt s d r)

theorem msgSent_report (s : State) : s.msgSent.report = s.report :=
  Prod.ext (st_setSt_ne s _ (by decide)) rfl

theorem signal_report (s : State) (v : Nat) : (s.signal v).report = s.report := by
  unfold State.signal
  split
  · rfl
  · split
    · exact (raise_report _ 5 10 none (by decide)).trans (report_of_parts rfl rfl)
    · split
      · exact raise_report s 5 10 none (by decide)
      · split
        · exact report_of_parts rfl rfl
        · exact msgSent_report s

theorem patStop_report (s : State) (d : Dir) : (s.patStop d).report = s.report := by
  unfold State.patStop
  split
  · rfl
  · exact (signal_report _ _).trans (by cases d <;> rfl)

theorem patEnd_report (s : State) (d : Dir) : (s.patEnd d).report = s.report := by
  unfold State.patEnd
  split
  · exact (patStop_report _ d).trans (setDir_report s d _)
  · exact patStop_report s d

theorem echoHold_report (s : State) (d : Dir) : (s.echoHold d).report = s.report :=
  foldl_keeps State.report _ _ (fun s n => report_of_parts (setEcho_sts s d n _) (setEcho_flt s d n _)) s

theorem toAir_of_standby (s : State) {t : Trans} (h : t.target = .standby) : t.toAir s = false := by simp only [Trans.toAir, h]

/-- A transition to STANDBY closes no law record. -/
theorem beginTrans_report (s : State) (d : Dir) {t : Trans} (h : t.target = .standby) : (s.beginTrans d t).report = s.report := by
  have hprep : (s.transPrep d t).report = s.report := by
    unfold State.transPrep
    simp only [toAir_of_standby _ h, Bool.false_and, Bool.false_eq_true, if_false, Bool.not_false, if_true]
    refine (echoHold_report _ d).trans ?_
    split
    · exact patEnd_report s d
    · rfl
  rw [beginTrans_eq]
  exact (setDir_report _ d _).trans hprep

theorem enterStandby_report (s : State) (d : Dir) (cause : Nat) : (s.enterStandby d cause).report = s.report := by
  unfold State.enterStandby
  split
  · exact setDir_report s d _
  · split
    · split
      · rfl
      · exact setDir_report s d _
    · split
      · rfl
      · exact beginTrans_report s d rfl

theorem abandonTrans_report (s : State) (d : Dir) : (s.abandonTrans d).report = s.report := by
  have hend : ∀ (x : State) (no tag : Nat) (db : Option Nat), ((x.reqEnd no tag 4).dbOutcome db 5 0).report = x.report := fun x no tag db => by
    rw [reqEnd_eq]
    cases db <;> exact report_of_parts rfl rfl
  have hset := setDir_report s d (s.dirRec d).abandoned
  unfold State.abandonTrans
  split
  · rfl
  next t _ =>
    split
    · exact hset
    · split
      · exact (hend _ _ _ _).trans hset
      · exact ((report_of_parts rfl rfl).trans (hend _ t.no t.tag t.doorbell)).trans hset

/-! ### The directions -/

/-- A direction of a refused check goes to STANDBY. -/
def State.checkHome (s : State) (d : Dir) : State :=
  if s.dirSt d = .standby ∧ (s.dirRec d).trans = none then s else (s.abandonTrans d).enterStandby d 9

theorem checkStandby_eq (s : State) : s.checkStandby = (s.checkHome .dl).checkHome .ul := rfl

/-- What going to STANDBY leaves: the check and SERVICE_EN, the report, and all that the end of an instant leaves. -/
theorem checkHome_keeps (s : State) (d : Dir) : (s.checkHome d).sys.checking = s.sys.checking ∧ (s.checkHome d).report = s.report ∧
    (s.checkHome d).still = s.still := by
  unfold State.checkHome
  split
  · exact ⟨rfl, rfl, rfl⟩
  · exact ⟨(enterStandby_checking _ d 9).trans (abandonTrans_checking s d), (enterStandby_report _ d 9).trans (abandonTrans_report s d),
      (enterStandby_still _ d 9).trans (abandonTrans_still s d)⟩

theorem checkHome_of_standby {s : State} {d : Dir} (h : s.dirSt d = .standby ∧ (s.dirRec d).trans = none) : s.checkHome d = s := if_pos h

theorem checkHome_ne (s : State) {d e : Dir} (h : e ≠ d) : (s.checkHome d).dirRec e = s.dirRec e := by
  unfold State.checkHome
  split
  · rfl
  · refine ((enterStandby_onlyDir _ d 9).ne h).trans ?_
    cases htr : (s.dirRec d).trans with
    | none => rw [abandonTrans_of_none htr]
    | some t => exact abandonTrans_other htr h

theorem checkHome_starts {s : State} {d : Dir} (hup : s.power ≠ .shutdown) (hst : s.dirSt d ≠ .standby) :
    ((s.checkHome d).dirRec d).trans = some { target := .standby, cause := 9, start := s.now } := by
  obtain ⟨r, htr, hrst, hreq⟩ := abandonTrans_requests s d
  have hrec := (requests_setDir hreq).1
  have hstill := abandonTrans_still s d
  have hidle : ((s.abandonTrans d).dirRec d).trans = none := (congrArg DirRec.trans hrec).trans htr
  have hout : (s.abandonTrans d).dirSt d ≠ .standby := by
    rw [State.dirSt, hrec, hrst]
    exact hst
  have hpower : (s.abandonTrans d).power ≠ .shutdown := by
    rw [power_of_base (base_of_still hstill)]
    exact hup
  rw [State.checkHome, if_neg (fun h => hst h.1), enterStandby_of_idle 9 hpower hidle hout, beginTrans_dirRec, now_of_still hstill]

theorem checkStandby_keeps (s : State) : s.checkStandby.sys.checking = s.sys.checking ∧ s.checkStandby.report = s.report ∧
    s.checkStandby.still = s.still := by
  obtain ⟨hdl, hdlReport, hdlStill⟩ := checkHome_keeps s .dl
  obtain ⟨hul, hulReport, hulStill⟩ := checkHome_keeps (s.checkHome .dl) .ul
  exact ⟨hul.trans hdl, hulReport.trans hdlReport, hulStill.trans hdlStill⟩

/-- Every direction out of STANDBY starts its transition there, and one that stands there idle stays as it was. -/
theorem checkStandby_dirs {s : State} (hup : s.power ≠ .shutdown) :
    (∀ d, s.dirSt d ≠ .standby → (s.checkStandby.dirRec d).trans = some { target := .standby, cause := 9, start := s.now }) ∧
    ∀ d, s.dirSt d = .standby → (s.dirRec d).trans = none → s.checkStandby.dirRec d = s.dirRec d := by
  obtain ⟨-, -, hstill⟩ := checkHome_keeps s .dl
  have hdl : s.checkStandby.dirRec .dl = (s.checkHome .dl).dirRec .dl := checkHome_ne _ (by decide)
  have hul : (s.checkHome .dl).dirRec .ul = s.dirRec .ul := checkHome_ne s (by decide)
  have hpower : (s.checkHome .dl).power ≠ .shutdown := by
    rw [power_of_base (base_of_still hstill)]
    exact hup
  refine ⟨fun d hst => ?_, fun d hst htr => ?_⟩
  · cases d
    · rw [hdl]
      exact checkHome_starts hup hst
    · have hout : (s.checkHome .dl).dirSt .ul ≠ .standby := by
        rw [State.dirSt, hul]
        exact hst
      rw [checkStandby_eq, ← now_of_still hstill]
      exact checkHome_starts hpower hout
  · cases d
    · rw [hdl, checkHome_of_standby ⟨hst, htr⟩]
    · rw [checkStandby_eq, checkHome_of_standby (by rw [State.dirSt, hul]; exact ⟨hst, htr⟩), hul]

theorem checkStandby_of_standby {s : State} (h : ∀ d, s.dirSt d = .standby ∧ (s.dirRec d).trans = none) : s.checkStandby = s := by
  rw [checkStandby_eq, checkHome_of_standby (h .dl), checkHome_of_standby (h .ul)]

/-! ### The refusal as a whole -/

/-- What a check that refuses with these codes shows. -/
structure Refuses (c : Check) (codes : List Nat) (s t : State) : Prop where
  check : t.sys.check = none
  serviceEn : t.sys.serviceEn = false
  boot : t.boot = s.boot
  cfg : t.cfg = s.cfg
  code : t.st Reg.SYS_REFUSE_CODE = (lowestCode codes + 65536 * c.tag) % 2 ^ 32
  status : bitsAt (t.st Reg.CFG_CHECK_STATUS) 0 2 = 2
  counts : Counts 0 5 s t
  detail : (t.flt.source 0 5).detail = lowestCode codes

theorem refusedStatus_result (c : Check) (codes : List Nat) : bitsAt (c.refusedStatus codes % 2 ^ 32) 0 2 = 2 := by
  rw [bitsAt_mod_word _ (by decide), bitsAt, Check.refusedStatus]
  omega

theorem refusalWritten_code (s : State) (c : Check) (codes : List Nat) :
    (s.refusalWritten c codes).st Reg.SYS_REFUSE_CODE = (lowestCode codes + 65536 * c.tag) % 2 ^ 32 :=
  (st_setSt_ne _ _ (by decide)).trans (st_setSt_same _ _ _)

section
variable {s : State} {c : Check} (codes : List Nat) (hreq : s.sys.pendingReq = none) (htag : c.tag ≠ 0xFD)
include hreq htag

theorem checkRefuses_refuses : Refuses c codes s (s.checkRefuses c codes) := by
  rw [checkRefuses_eq codes hreq htag]
  obtain ⟨hchecking, hreport, hstill⟩ := checkStandby_keeps (s.checkRefused c codes)
  obtain ⟨hcheck, hen⟩ := Prod.mk.inj (hchecking.trans (congrArg Sys.checking (checkRefused_sys s c codes)))
  have hoff := checkRefused_offReport s c codes
  have hsource := (congrFun (congrArg Prod.snd hreport) 5).trans (checkRefused_source s c codes)
  refine ⟨hcheck, hen, (boot_of_still hstill).trans (congrArg State.boot hoff :), (cfg_of_base (base_of_still hstill)).trans
    (congrArg State.cfg hoff :), ?_, ?_, congrArg Src.total hsource, congrArg Src.detail hsource⟩
  · exact (congrArg Prod.fst hreport).trans ((checkRefused_st s c codes _).trans (refusalWritten_code s c codes))
  · rw [st_of_still hstill (by decide), checkRefused_st, State.refusalWritten, st_setSt_same]
    exact refusedStatus_result c codes

theorem checkRefuses_timeout (h : 0x0F02 ∈ codes) : Counts 0 6 s (s.checkRefuses c codes) := by
  obtain ⟨-, hreport, -⟩ := checkStandby_keeps (s.checkRefused c codes)
  have hsource : (s.checkRefused c codes).checkStandby.flt.source 0 6 = (s.checkRefused c codes).flt.source 0 6 :=
    congrFun (congrArg Prod.snd hreport) 6
  rw [checkRefuses_eq codes hreq htag, Counts, hsource]
  exact checkRefused_timeout c h

theorem checkRefuses_dirs (hup : s.power = .up) :
    (∀ d, s.dirSt d ≠ .standby → ((s.checkRefuses c codes).dirRec d).trans = some { target := .standby, cause := 9, start := s.now }) ∧
    ∀ d, s.dirSt d = .standby → (s.dirRec d).trans = none → (s.checkRefuses c codes).dirRec d = s.dirRec d := by
  have hoff := checkRefused_offReport s c codes
  have hpower : (s.checkRefused c codes).power = s.power := (congrArg State.power hoff :)
  have hnow : (s.checkRefused c codes).now = s.now := (congrArg State.now hoff :)
  have hdirs := checkStandby_dirs (s := s.checkRefused c codes) (by rw [hpower, hup]; decide)
  simp only [State.dirSt, checkRefused_dirRec, hnow] at hdirs
  rw [checkRefuses_eq codes hreq htag]
  exact hdirs

/-- With both directions in STANDBY a refusal changes what reports it and nothing else. -/
theorem checkRefuses_frame (h : ∀ d, s.dirSt d = .standby ∧ (s.dirRec d).trans = none) : (s.checkRefuses c codes).offReport = s.offReport := by
  rw [checkRefuses_eq codes hreq htag, checkStandby_of_standby (fun d => by rw [State.dirSt, checkRefused_dirRec]; exact h d)]
  exact checkRefused_offReport s c codes

end

end Sys2Proof.Machine

open Sys2Proof Sys2Proof.Machine

/-- Settles O23: each outcome by the branch of the check's end that it takes, `Passes` for a pass, and for a refusal `Refuses` with what the
directions do. -/
theorem checkOutcomes : Obligations.CheckOutcomes := by
  unfold Obligations.CheckOutcomes
  refine ⟨fun s c us hcheck hshort hsecond => ⟨fun hcodes htouched hsnap => ⟨_, rfl, ?_⟩, fun hfails hreq htag hup => ⟨_, rfl, ?_⟩⟩,
    fun s c hcheck => ⟨fun us hshort hsecond htouched hpassed hdigest => ⟨_, rfl, ?_⟩, fun us hshort hdigest => ⟨_, rfl, ?_⟩,
      fun found hreq htag => ⟨_, rfl, ?_⟩⟩⟩
  · rw [checkComplete_of_full us hcheck hshort hsecond, if_pos (endCodes_eq_nil.mpr ⟨hcodes, htouched, hsnap⟩)]
    obtain ⟨hchecking, hboot, hcfg, hstatus, htime⟩ := checkPasses_passes (s.checkTimed us) c s.configDigest
    obtain ⟨hnone, hen⟩ := Prod.mk.inj hchecking
    rw [hshort] at hstatus
    exact ⟨hnone, hen, congrArg BootState.passed hboot, congrArg BootState.digest hboot, hstatus, htime.trans (st_setSt_same s _ us), hcfg⟩
  · have hsome : c.endCodes s.checkSet ≠ [] := fun hnil => by
      obtain ⟨hcodes, htouched, hsnap⟩ := endCodes_eq_nil.mp hnil
      simp [hcodes, htouched, hsnap] at hfails
    rw [checkComplete_of_full us hcheck hshort hsecond, if_neg hsome]
    obtain ⟨hnone, hen, hboot, -, hcode, hstatus, hcounts, hdetail⟩ :=
      checkRefuses_refuses (s := s.checkTimed us) (c.endCodes s.checkSet) hreq htag
    obtain ⟨hstarts, hstands⟩ := checkRefuses_dirs (s := s.checkTimed us) (c.endCodes s.checkSet) hreq htag hup
    exact ⟨hnone, hen, hboot, hcode, hstatus, hcounts, hdetail, hstarts, hstands, fun hall =>
      eq_withReport_of_offReport (s := s) (checkRefuses_frame (s := s.checkTimed us) (c.endCodes s.checkSet) hreq htag hall)⟩
  · rw [checkComplete_of_short us hcheck hshort, if_pos (by simp [hpassed, hdigest]), if_neg (by simp [htouched])]
    obtain ⟨hchecking, hboot, -, hstatus, -⟩ := checkPasses_passes (s.checkTimed (s.checkUs c us)) c s.boot.digest
    rw [hshort] at hstatus
    exact ⟨congrArg Prod.fst hchecking, hboot.trans (by rw [← hpassed]; rfl), hstatus⟩
  · rw [checkComplete_of_short us hcheck hshort, if_neg (by simp [hdigest]), secondCheck_eq]
    exact ⟨raise_counts_of_flt 3 10 none (by unfold chained; decide) (by decide) rfl, rfl, rfl, _, rfl, rfl, rfl, rfl, rfl, rfl⟩
  · rw [checkTimeout_of_check found hcheck]
    generalize hcodes : (c.codes.filter (fun x => found.contains x)).eraseDups ++ [0x0F02] = codes
    obtain ⟨hnone, hen, hboot, hcfg, hcode, -, hcounts, -⟩ := checkRefuses_refuses (s := s.checkTimed (s.checkUs c 3000)) codes hreq htag
    exact ⟨hnone, hen, hcounts, checkRefuses_timeout (s := s.checkTimed (s.checkUs c 3000)) codes hreq htag (by simp [← hcodes]), hcode,
      hboot, hcfg⟩
end

section
/-! SUPPORT. Writes of the synthesiser registers (R108, R110, R120) and CACHE_CLR (R123): what a refusal changes, what an accepted write
stores, and what the lock sequence that it starts leaves of it. -/

namespace Sys2Proof.Machine

/-! ### Refusals (R110) -/

/-- A write of a synthesiser register is refused: its result and register in WRITE_STATUS, source 17, and nothing else. -/
def SynRefuses (result which : Nat) (s t : State) : Prop :=
  OnlyStatusCounts [Reg.SYN_WRITE_STATUS] s t ∧ t.st Reg.SYN_WRITE_STATUS = result + 4 * which ∧ Counts 6 17 s t

theorem synWriteStatus_refuses (s : State) {result which : Nat} (hpos : result ≠ 0) (hlt : result + 4 * which < 2 ^ 32) :
    SynRefuses result which s (s.synWriteStatus result which) := by
  have hraise : s.synWriteStatus result which = (s.setSt Reg.SYN_WRITE_STATUS (result + 4 * which)).raise 6 17 :=
    if_pos (bne_iff_ne.mpr hpos)
  rw [hraise]
  refine ⟨?_, ?_, ?_⟩
  · exact raise_onlyStatusCounts (t := s.setSt Reg.SYN_WRITE_STATUS (result + 4 * which)) 6 17 none (setSt_onlyStatus s _ _)
  · exact (st_setSt_same s _ _).trans (Nat.mod_eq_of_lt hlt)
  · exact raise_counts_of_flt 6 17 none (by unfold chained; decide) (by decide) rfl

theorem dirNum_lt (d : Dir) : d.num < 2 := by cases d <;> decide

theorem refSelWrite_of_busy {s : State} (v : Word) (hr : s.regsUp = true)
    (h : s.power ≠ .up ∨ s.sys.dl.st ≠ .standby ∨ s.sys.ul.st ≠ .standby) : refSelWrite v s = s.synWriteStatus 3 0 := by
  rw [refSelWrite, ifUp_of_regsUp _ hr]
  exact if_pos (by simpa [or_assoc] using h)

theorem loFreqWrite_of_range {s : State} {d : Dir} {v : Word} (hr : s.regsUp = true)
    (h : v.toNat % 2 ^ 23 < 400000 ∨ 6000000 < v.toNat % 2 ^ 23) : loFreqWrite d v s = s.synWriteStatus 1 (1 + d.num) := by
  rw [loFreqWrite, ifUp_of_regsUp _ hr]
  exact if_pos h

theorem loFreqWrite_of_transmits {s : State} {d : Dir} {v : Word} (hr : s.regsUp = true) (hlo : 400000 ≤ v.toNat % 2 ^ 23)
    (hhi : v.toNat % 2 ^ 23 ≤ 6000000) (h : s.transmits d = true) : loFreqWrite d v s = s.synWriteStatus 3 (1 + d.num) := by
  rw [loFreqWrite, ifUp_of_regsUp _ hr]
  exact (if_neg (by omega)).trans (if_pos h)

theorem loCtrlWrite_of_transmits {s : State} {d : Dir} {v : Word} (hr : s.regsUp = true) (h : s.transmits d = true)
    (hv : v.toNat % 4 ≠ s.rd (loCtrlReg d) % 4) : loCtrlWrite d v s = s.synWriteStatus 3 (3 + d.num) := by
  rw [loCtrlWrite, ifUp_of_regsUp _ hr]
  exact if_pos (by simp [h, hv])

/-! ### Accepted writes (R108, R110) -/

theorem wrc_of_unchecked {s : State} (h : s.sys.check = none) (a n : Nat) : s.wrc a n = s.wr a n := by
  have htouch : (s.wr a n).touch = s.wr a n := by
    unfold State.touch
    rw [wr_sys, h]
  simp [State.wrc, htouch]

/-- The state in which an accepted write stands: the register holds it, and WRITE_STATUS names the register with the result 0. -/
def State.synAccepted (s : State) (a n which : Nat) : State := (s.wr a n).setSt Reg.SYN_WRITE_STATUS (4 * which)

theorem wrc_synWriteStatus {s : State} (h : s.sys.check = none) (a n which : Nat) :
    (s.wrc a n).synWriteStatus 0 which = s.synAccepted a n which := by
  simp [wrc_of_unchecked h, State.synWriteStatus, State.synAccepted, State.raiseIf]

/-- A register whose fields are its low w bits takes a value of w bits. -/
theorem rd_wr_low (s : State) {a w : Nat} (n : Nat) {r : RegRow} (hrow : rowAt a = some r) (hmask : r.mask = 2 ^ w - 1) (hw : w ≤ 32) :
    (s.wr a n).rd a = n % 2 ^ w := by
  have hle : 2 ^ w ≤ 2 ^ 32 := Nat.pow_le_pow_right (by decide) hw
  have hlt := Nat.mod_lt n (Nat.two_pow_pos w)
  rw [rd_wr_same s a n hrow, hmask, Nat.and_two_pow_sub_one_eq_mod, Nat.mod_mod_of_dvd n (Nat.pow_dvd_pow 2 hw), Word.toNat_ofNat,
    Nat.mod_eq_of_lt (by omega)]

theorem rd_wr_refSel (s : State) (n : Nat) : (s.wr Reg.SYN_REF_SEL n).rd Reg.SYN_REF_SEL = n % 4 :=
  rd_wr_low (w := 2) s n rfl rfl (by decide)

theorem rd_wr_loFreq (s : State) (d : Dir) (n : Nat) : (s.wr (loFreqReg d) n).rd (loFreqReg d) = n % 2 ^ 23 := by
  cases d <;> exact rd_wr_low s n rfl rfl (by decide)

theorem rd_wr_loCtrl (s : State) (d : Dir) (n : Nat) : (s.wr (loCtrlReg d) n).rd (loCtrlReg d) = n % 16 := by
  cases d <;> exact rd_wr_low (w := 4) s n rfl rfl (by decide)

/-- What an accepted write of the register at a shows, and that it alone changes the configuration. -/
structure SynTakes (a n which : Nat) (s t : State) : Prop where
  rest : ∀ b, b ≠ a → t.rd b = s.rd b
  value : t.rd a = (s.wr a n).rd a
  status : t.st Reg.SYN_WRITE_STATUS = 4 * which

theorem synAccepted_takes (s : State) (a n : Nat) {which : Nat} (h : 4 * which < 2 ^ 32) :
    SynTakes a n which s (s.synAccepted a n which) where
  rest _ hb := rd_wr_ne s n hb
  value := rfl
  status := (st_setSt_same _ _ _).trans (Nat.mod_eq_of_lt h)

/-- What shows of an accepted write stands while the configuration and WRITE_STATUS do. -/
theorem SynTakes.of_stands {a n which : Nat} {s t u : State} (h : SynTakes a n which s t) (hcfg : u.cfg = t.cfg)
    (hst : u.st Reg.SYN_WRITE_STATUS = t.st Reg.SYN_WRITE_STATUS) : SynTakes a n which s u where
  rest b hb := (rd_eq_of_cfg hcfg b).trans (h.rest b hb)
  value := (rd_eq_of_cfg hcfg a).trans h.value
  status := hst.trans h.status

/-! ### The lock sequence after a write (R120) -/

/-- Of the status registers, the start of a lock sequence writes CACHE_STAT at most. -/
theorem lockStart_st_ne (s : State) (y : Syn) {a : Nat} (h : a ≠ Reg.SYN_CACHE_STAT) : (s.lockStart y).st a = s.st a := by
  have hrec : ∀ r, (s.setSyn y r).st a = s.st a := fun r => st_of_sts (setSyn_sts s y r) a
  have hcache : ∀ (x : State) l, (x.setCache y l).st a = x.st a := fun x l => by cases y <;> rfl
  unfold State.lockStart
  extract_lets off
  split
  · exact hrec _
  · split
    · exact (hcache _ _).trans (hrec _)
    · exact (st_bumpF_ne _ 24 8 1 h).trans (hrec _)

theorem SynTakes.lockStart {a n which : Nat} {s t : State} (h : SynTakes a n which s t) (y : Syn) :
    SynTakes a n which s (t.lockStart y) :=
  h.of_stands (cfg_of_base (lockStart_base t y)) (lockStart_st_ne t y (by decide))

theorem lockStart_synRec_ne (s : State) {y z : Syn} (h : z ≠ y) : (s.lockStart y).synRec z = s.synRec z :=
  congrArg Tuning.own (lockStart_tuning s h)

theorem synOff_synRec (s : State) (y : Syn) : (s.synOff y).synRec y = (s.synRec y).off := synRec_setSyn_same s y _

theorem SynTakes.synOff {a n which : Nat} {s t : State} (h : SynTakes a n which s t) (y : Syn) : SynTakes a n which s (t.synOff y) :=
  h.of_stands (setSyn_cfg t y _) (st_of_sts (setSyn_sts t y _) _)

/-- A relock of SYN_C stops the LO synthesisers, and SYN_C's sequence starts where it can. -/
theorem relockAll_starts (s : State) : (s.relockAll.synRec .c).locked = false ∧ (s.relockAll.synRec .c).busy = s.synCan .c ∧
    (s.relockAll.synRec .d).locked = false ∧ (s.relockAll.synRec .u).locked = false := by
  obtain ⟨hlocked, hbusy⟩ := lockStart_own ((s.synOff .d).synOff .u) .c
  refine ⟨hlocked, hbusy, ?_, ?_⟩
  · exact congrArg SynRec.locked (lockStart_synRec_ne ((s.synOff .d).synOff .u) (by decide))
  · exact congrArg SynRec.locked (lockStart_synRec_ne ((s.synOff .d).synOff .u) (by decide))

theorem refSelWrite_of_standby {s : State} (v : Word) (hup : s.power = .up) (hcheck : s.sys.check = none) (hdl : s.sys.dl.st = .standby)
    (hul : s.sys.ul.st = .standby) : refSelWrite v s = (s.synAccepted Reg.SYN_REF_SEL v.toNat 0).relockAll := by
  rw [refSelWrite, ifUp_of_regsUp _ (regsUp_of_up hup), ← wrc_synWriteStatus hcheck]
  exact if_neg (by simp [hup, hdl, hul])

/-- What lets an LO synthesiser start: LO_FREQ has no part in it. -/
theorem synCan_synAccepted_loFreq (s : State) (d : Dir) (n which : Nat) (y : Syn) :
    (s.synAccepted (loFreqReg d) n which).synCan y = s.synCan y := by
  have hctrl : ∀ e, (s.synAccepted (loFreqReg d) n which).loEn e = s.loEn e := fun e =>
    congrArg (bitAt · 0) (rd_wr_ne s n (by cases d <;> cases e <;> decide) : (s.wr (loFreqReg d) n).rd (loCtrlReg e) = s.rd (loCtrlReg e))
  cases y with
  | c => rfl
  | d => simp only [State.synCan, State.synWanted, hctrl]; rfl
  | u => simp only [State.synCan, State.synWanted, hctrl]; rfl

theorem judgeEn_of_disabled {s : State} (h : s.sys.serviceEn = false) : s.judgeEn = false := by simp [State.judgeEn, h]

theorem loFreqWrite_of_accepted {s : State} {d : Dir} {v : Word} (hup : s.power = .up) (hcheck : s.sys.check = none)
    (hlo : 400000 ≤ v.toNat % 2 ^ 23) (hhi : v.toNat % 2 ^ 23 ≤ 6000000) (htransmits : s.transmits d = false)
    (hen : s.sys.serviceEn = false) : loFreqWrite d v s =
      (s.synAccepted (loFreqReg d) (v.toNat % 2 ^ 23) (1 + d.num)).lockStart (dirSyn d) := by
  rw [loFreqWrite, ifUp_of_regsUp _ (regsUp_of_up hup), ← wrc_synWriteStatus hcheck]
  dsimp only
  rw [if_neg (by omega), if_neg (by simp [htransmits]), if_neg (by simp [judgeEn_of_disabled hen])]

/-- The synthesiser of a direction follows LO_EN: it starts as LO_EN goes to 1, and goes off as LO_EN goes to 0. -/
def State.followLoEn (s : State) (d : Dir) (old new : Bool) : State :=
  match old, new with
  | false, true => s.lockStart (dirSyn d)
  | true, false => s.synOff (dirSyn d)
  | _, _ => s

theorem SynTakes.followLoEn {a n which : Nat} {s t : State} (h : SynTakes a n which s t) (d : Dir) (old new : Bool) :
    SynTakes a n which s (t.followLoEn d old new) :=
  match old, new with
  | false, true => h.lockStart (dirSyn d)
  | true, false => h.synOff (dirSyn d)
  | false, false | true, true => h

theorem followLoEn_off (s : State) (d : Dir) : ((s.followLoEn d true false).synRec (dirSyn d)).locked = false ∧
    ((s.followLoEn d true false).synRec (dirSyn d)).busy = false :=
  ⟨congrArg SynRec.locked (synOff_synRec s _), congrArg SynRec.busy (synOff_synRec s _)⟩

theorem followLoEn_same (s : State) (d : Dir) (b : Bool) : s.followLoEn d b b = s := by cases b <;> rfl

/-- An accepted write of LO_CTRL acts on the synthesiser by the change of LO_EN. -/
theorem loCtrlWrite_of_accepted {s : State} {d : Dir} {v : Word} (hup : s.power = .up) (hcheck : s.sys.check = none)
    (htransmits : s.transmits d = false) (hen : s.sys.serviceEn = false) (hwaits : NoneWaits s.sys) : loCtrlWrite d v s =
      (s.synAccepted (loCtrlReg d) (v.toNat % 16) (3 + d.num)).followLoEn d (bitAt (s.rd (loCtrlReg d)) 0) (v.getLsbD 0) := by
  have hbit : bitAt (v.toNat % 16) 0 = v.getLsbD 0 := by
    rw [bitAt_eq_testBit, show 16 = 2 ^ 4 from rfl, Nat.testBit_mod_two_pow]
    simp [BitVec.getLsbD]
  have hoff : ((s.synAccepted (loCtrlReg d) (v.toNat % 16) (3 + d.num)).synOff (dirSyn d)).locksChanged =
      (s.synAccepted (loCtrlReg d) (v.toNat % 16) (3 + d.num)).synOff (dirSyn d) :=
    locksChanged_of_none (by rw [State.synOff, setSyn_sys]; exact hwaits)
  rw [loCtrlWrite, ifUp_of_regsUp _ (regsUp_of_up hup)]
  dsimp only
  rw [if_neg (by simp [htransmits]), if_neg (by simp [judgeEn_of_disabled hen]), wrc_synWriteStatus hcheck, hbit, hoff]
  cases v.getLsbD 0 <;> cases bitAt (s.rd (loCtrlReg d)) 0 <;> rfl

theorem dirSyn_other_ne (d : Dir) : dirSyn d.other ≠ dirSyn d := by cases d <;> decide

/-! ### CACHE_CLR (R123) -/

theorem cacheClr_of_regsUp {s : State} (v : Word) (hr : s.regsUp = true) : cacheClr v s = if v.getLsbD 0 then
    { s with syn := { s.syn with cacheC := [], cacheD := [], cacheU := [] }, mram := s.mram.submit (.cache .clear) } else s := by
  rw [cacheClr, ifUp_of_regsUp _ hr, bitAt_toNat]
  rfl

end Sys2Proof.Machine

open Sys2Proof Sys2Proof.Machine

/-- Settles O27: `SynRefuses` for each refused write, `SynTakes` for each accepted one, with what the lock sequence then does. -/
theorem synWrites : Obligations.SynWrites := by
  unfold Obligations.SynWrites
  refine ⟨fun s d v hr => ⟨fun hbusy => ⟨_, rfl, ?_⟩, fun hrange => ⟨_, rfl, ?_⟩, fun hlo hhi htransmits => ⟨_, rfl, ?_⟩,
      fun htransmits hv => ⟨_, rfl, ?_⟩⟩,
    fun s d v hup hcheck => ⟨fun hdl hul hcan => ⟨_, rfl, ?_⟩, fun hlo hhi htransmits hen => ⟨_, rfl, ?_⟩,
      fun hreq hbehind htransmits hen => ⟨_, rfl, ?_⟩, ⟨_, rfl, cacheClr_of_regsUp v (regsUp_of_up hup)⟩⟩⟩
  · rw [refSelWrite_of_busy v hr hbusy]
    exact synWriteStatus_refuses s (by decide) (by decide)
  · have hd := dirNum_lt d
    rw [loFreqWrite_of_range hr hrange]
    exact synWriteStatus_refuses s (by decide) (by omega)
  · have hd := dirNum_lt d
    rw [loFreqWrite_of_transmits hr hlo hhi htransmits]
    exact synWriteStatus_refuses s (by decide) (by omega)
  · have hd := dirNum_lt d
    rw [loCtrlWrite_of_transmits hr htransmits hv]
    exact synWriteStatus_refuses s (by decide) (by omega)
  · rw [refSelWrite_of_standby v hup hcheck hdl hul]
    obtain ⟨hrest, hvalue, hstatus⟩ := ((synAccepted_takes s Reg.SYN_REF_SEL v.toNat (which := 0) (by decide)).synOff .d).synOff .u
      |>.lockStart .c
    obtain ⟨hc, hbusy, hd, hu⟩ := relockAll_starts (s.synAccepted Reg.SYN_REF_SEL v.toNat 0)
    exact ⟨hvalue.trans (rd_wr_refSel s _), hstatus, hc, hbusy.trans hcan, hd, hu, hrest⟩
  · have hd := dirNum_lt d
    rw [loFreqWrite_of_accepted hup hcheck hlo hhi htransmits hen]
    generalize ht : s.synAccepted (loFreqReg d) (v.toNat % 2 ^ 23) (1 + d.num) = t
    have htakes : SynTakes (loFreqReg d) (v.toNat % 2 ^ 23) (1 + d.num) s t := ht ▸ synAccepted_takes s _ _ (by omega)
    obtain ⟨hrest, hvalue, hstatus⟩ := htakes.lockStart (dirSyn d)
    obtain ⟨hlocked, hbusy⟩ := lockStart_own t (dirSyn d)
    have hsyn : t.syn = s.syn := ht ▸ rfl
    have hcan : t.synCan (dirSyn d) = s.synCan (dirSyn d) := ht ▸ synCan_synAccepted_loFreq s d _ _ _
    refine ⟨hvalue.trans ((rd_wr_loFreq s d _).trans (Nat.mod_mod _ _)), hstatus, hlocked, hbusy.trans hcan, ?_, ?_, hrest⟩
    · exact (lockStart_synRec_ne t (dirSyn_other_ne d)).trans (synRec_of_syn hsyn _)
    · exact (lockStart_synRec_ne t (z := .c) (by cases d <;> decide)).trans (synRec_of_syn hsyn .c)
  · have hd := dirNum_lt d
    have hn := (rd_wr_loCtrl s d (v.toNat % 16)).trans (Nat.mod_mod _ _)
    rw [loCtrlWrite_of_accepted hup hcheck htransmits hen ⟨hreq, hbehind⟩]
    generalize ht : s.synAccepted (loCtrlReg d) (v.toNat % 16) (3 + d.num) = t
    have htakes : SynTakes (loCtrlReg d) (v.toNat % 16) (3 + d.num) s t := ht ▸ synAccepted_takes s _ _ (by omega)
    obtain ⟨hrest, hvalue, hstatus⟩ := htakes.followLoEn d (bitAt (s.rd (loCtrlReg d)) 0) (v.getLsbD 0)
    refine ⟨hvalue.trans hn, hstatus, fun hnew hold => ?_, fun hsame => ?_, hrest⟩
    · rw [hold, hnew]
      exact followLoEn_off t d
    · rw [hsame, followLoEn_same, ← ht]
      rfl
end

section
/-! SUPPORT. Over-range episodes (R114, R150, R151): bits of the converters' masks, the slots of a direction changed one by one, and what an
episode and its end show. -/

namespace Sys2Proof.Machine

/-! ### Bits and counts -/

/-- A bit written in a vector of flags. -/
theorem getLsbD_putBit {w : Nat} (v : BitVec w) {l : Nat} (k : Nat) (b : Bool) (hl : l < w) :
    (BitVec.ofNat w (putBits v.toNat l 1 (ofBool b))).getLsbD k = if k = l then b else v.getLsbD k := by
  rw [BitVec.getLsbD_ofNat, testBit_putBits]
  by_cases hk : k = l
  · cases b <;> simp [hk, hl, ofBool]
  · rw [if_neg (by omega), if_neg hk]
    by_cases hw : k < w
    · simp [hw, BitVec.getLsbD]
    · simp [hw, BitVec.getLsbD_of_ge v k (by omega)]

theorem bitAt_setStF_one (s : State) (a : Nat) {i : Nat} (h : i < 32) : bitAt ((s.setStF a i 1 1).st a) i = true :=
  decide_eq_true (stF_setStF_same s a 1 (by omega))

theorem stF_whole (s : State) (a : Nat) : s.stF a 0 32 = s.st a := by
  rw [State.stF, bitsAt, pow_zero, Nat.div_one]
  exact Nat.mod_eq_of_lt (BitVec.isLt _)

theorem st_bump_same (s : State) (a k : Nat) : (s.bump a k).st a = satAdd (2 ^ 32 - 1) (s.st a) k := by
  rw [← stF_whole, ← stF_whole]
  exact stF_bumpF_same s a k (by decide)

theorem st_bump_ne (s : State) (k : Nat) {a a' : Nat} (h : a' ≠ a) : (s.bump a k).st a' = s.st a' := st_bumpF_ne s 0 32 k h

/-! ### The slots of a direction -/

theorem slotRec_setSlot (s : State) (d : Dir) (m n : Nat) (r : SlotRec) :
    (s.setSlot d m r).slotRec d n = if n = m then r else s.slotRec d n := by
  simp [State.slotRec, State.setSlot, NMap.get_put, slotKey]

/-- Slots changed one by one, by a change f that looks at no slot but its own, each show that change of what they held. -/
theorem slotRec_foldl_setSlot (d : Dir) (f : State → Nat → SlotRec → SlotRec) (hf : ∀ s m r, f (s.setSlot d m r) = f s) {l : List Nat}
    (hl : l.Nodup) (s : State) (n : Nat) : (l.foldl (fun s n => s.setSlot d n (f s n (s.slotRec d n))) s).slotRec d n =
      if n ∈ l then f s n (s.slotRec d n) else s.slotRec d n := by
  induction l generalizing s with
  | nil => rfl
  | cons m l ih =>
    obtain ⟨hm, hl⟩ := List.nodup_cons.mp hl
    rw [List.foldl_cons, ih hl, hf, slotRec_setSlot]
    by_cases hn : n = m
    · subst hn
      simp [hm]
    · simp [hn]

/-- The state but for its slots. -/
def State.offSlots (s : State) : State := { s with slots := [] }

theorem eq_withSlots_of_offSlots {s t : State} (h : t.offSlots = s.offSlots) : t = { s with slots := t.slots } :=
  (congrArg (fun x : State => { x with slots := t.slots }) h :)

theorem foldl_setSlot_offSlots (d : Dir) (f : State → Nat → SlotRec) (l : List Nat) (s : State) :
    (l.foldl (fun s n => s.setSlot d n (f s n)) s).offSlots = s.offSlots :=
  foldl_keeps State.offSlots l (fun s n => s.setSlot d n (f s n)) (fun _ _ => rfl) s

theorem enabled_nodup (s : State) (d : Dir) : (s.enabled d).Nodup := List.Nodup.filter _ (by decide)

/-- The record with RECOVERING of branch b set. -/
def SlotRec.recover (b : Nat) (r : SlotRec) : SlotRec := { r with recovering := BitVec.ofNat 2 (putBits r.recovering.toNat b 1 1) }

theorem recoverBranch_frame (s : State) (d : Dir) (b : Nat) : s.recoverBranch d b = { s with slots := (s.recoverBranch d b).slots } :=
  eq_withSlots_of_offSlots (foldl_setSlot_offSlots d _ _ s)

theorem recoverBranch_slotRec {s : State} {d : Dir} {n : Nat} (b : Nat) (hn : n ∈ s.enabled d) :
    (s.recoverBranch d b).slotRec d n = (s.slotRec d n).recover b :=
  (slotRec_foldl_setSlot d (fun _ _ r => r.recover b) (fun _ _ _ => rfl) (enabled_nodup s d) s n).trans (if_pos hn)

theorem recovering_recover (r : SlotRec) {b : Nat} (hb : b < 2) : (r.recover b).recovering.getLsbD b = true := by
  rw [SlotRec.recover, getLsbD_putBits_one _ _ _ hb]
  simp

/-- A slot's branch b is clean GD after the episode's last OVR sample. -/
def State.cleaned (b : Nat) (d : Dir) (s : State) (n : Nat) (r : SlotRec) : SlotRec :=
  { r with cleanAt := if b = 0 then (s.now - episodeTail + s.slotGD d n, r.cleanAt.2) else (r.cleanAt.1, s.now - episodeTail + s.slotGD d n) }

theorem branchClean_frame (s : State) (d : Dir) (b : Nat) : s.branchClean d b = { s with slots := (s.branchClean d b).slots } :=
  eq_withSlots_of_offSlots (foldl_setSlot_offSlots d _ _ s)

theorem branchClean_slotRec {s : State} {d : Dir} {n : Nat} (b : Nat) (hn : n ∈ s.enabled d) :
    (s.branchClean d b).slotRec d n = s.cleaned b d n (s.slotRec d n) :=
  (slotRec_foldl_setSlot d (State.cleaned b d) (fun _ _ _ => rfl) (enabled_nodup s d) s n).trans (if_pos hn)

/-! ### An episode begins (R114, R151) -/

theorem setOvr_ovrNow (s : State) {l : Nat} (k : Nat) (on : Bool) (hl : l < 4) :
    (s.setOvr l on).conv.ovrNow.getLsbD k = if k = l then on else s.conv.ovrNow.getLsbD k := getLsbD_putBit _ k on hl

/-- The lane is in an episode, which has been counted and shows in PEAK. -/
def State.episodeShown (s : State) (l : Nat) : State :=
  ((((s.setOvr l true).markFlagged l).bump (Reg.RXC_OVR_EPISODES l) 1).raise 7 l).setStF (Reg.RXC_PEAK l) 14 1 1

theorem overRangeEpisode_of_running {s : State} {l : Fin 4} (hup : s.isUp = true) (hruns : s.rxRuns l = true)
    (hout : s.conv.ovrNow.getLsbD l = false) : overRangeEpisode l s =
      ((s.episodeShown l).recoverBranch (laneDir l) (l % 2)).raiseIf (!((s.episodeShown l).enabled (laneDir l)).isEmpty)
        (12 + (laneDir l).num) 24 := by
  simp only [overRangeEpisode, hup, hruns, hout, Bool.not_true, Bool.or_false, Bool.false_eq_true, if_false]
  rfl

/-- Before its count, an episode has changed the mask of episodes, OVR_EPISODES and the flags of the Bog's regions. -/
theorem episodeShown_eq (s : State) (l : Nat) : ∃ b, s.episodeShown l =
    ((State.bump { s.setOvr l true with bog := b } (Reg.RXC_OVR_EPISODES l) 1).raise 7 l).setStF (Reg.RXC_PEAK l) 14 1 1 :=
  ⟨_, congrArg (fun x : State => ((x.bump (Reg.RXC_OVR_EPISODES l) 1).raise 7 l).setStF (Reg.RXC_PEAK l) 14 1 1)
    (eq_withBog_of_offBog (markFlagged_offBog (s.setOvr l true) l))⟩

/-- The state but for the converters, the slots, the status registers and what counting an event changes. -/
def State.offEpisode (s : State) : State :=
  { s with conv := {}, slots := [], sts := [], flt := {}, twb := {}, peat := {}, mram := {}, bog := {} }

theorem eq_withEpisode_of_offEpisode {s t : State} (h : t.offEpisode = s.offEpisode) :
    t = { s with conv := t.conv, slots := t.slots, sts := t.sts, flt := t.flt, twb := t.twb, peat := t.peat, mram := t.mram
                 bog := t.bog } :=
  (congrArg (fun x : State => { x with
    conv := t.conv, slots := t.slots, sts := t.sts, flt := t.flt, twb := t.twb, peat := t.peat, mram := t.mram, bog := t.bog }) h :)

theorem setSt_offEpisode (s : State) (a n : Nat) : (s.setSt a n).offEpisode = s.offEpisode := rfl

theorem raise_offEpisode (s : State) (b n : Nat) (u : Option Nat) : (s.raise b n u).offEpisode = s.offEpisode := rfl

theorem raiseIf_offEpisode (s : State) (c : Bool) (b n : Nat) (u : Option Nat) : (s.raiseIf c b n u).offEpisode = s.offEpisode := by
  cases c <;> rfl

theorem episodeShown_offEpisode (s : State) (l : Nat) : (s.episodeShown l).offEpisode = s.offEpisode := by
  obtain ⟨b, hb⟩ := episodeShown_eq s l
  rw [hb, State.setStF, setSt_offEpisode, raise_offEpisode, State.bump, State.bumpF, State.setStF, setSt_offEpisode]
  rfl

theorem recoverBranch_offEpisode (s : State) (d : Dir) (b : Nat) : (s.recoverBranch d b).offEpisode = s.offEpisode :=
  (congrArg State.offEpisode (recoverBranch_frame s d b) :)

/-- A receive lane that runs is not fenced by CORE, so that its events count (R30, R354). -/
theorem rxRuns_unsuppressed {s : State} {l : Nat} (hl : l < 4) (h : s.rxRuns l = true) (u : Option Nat) : suppressed s.flt 7 l u = false := by
  have hin : s.rxOut l = false := by
    simp only [State.rxRuns, Bool.and_eq_true, Bool.not_eq_true'] at h
    exact h.2
  have hst : (s.flt.unit 23 l).st ≠ .fenced := by
    simp only [State.rxOut, Bool.or_eq_false_iff, State.isOut] at hin
    obtain ⟨⟨⟨-, hfenced, -⟩, -⟩, -⟩ := hin
    exact of_decide_eq_false hfenced
  unfold suppressed
  rw [Nat.mod_eq_of_lt hl]
  cases u <;> simp [hst]

/-- Another source's event leaves a count as it is. -/
theorem counts_raiseIf {b n : Nat} {s t : State} (h : Counts b n s t) (c : Bool) {b' n' : Nat} (u : Option Nat)
    (hc : ¬chained (32 * b + n)) (hne : 32 * b + n ≠ 32 * b' + n') : Counts b n s (t.raiseIf c b' n' u) := by
  cases c with
  | false => exact h
  | true => exact (congrArg Src.total (raise_source_ne t b n b' n' u hc hne)).trans h

theorem episodeShown_counts {s : State} {l : Nat} (hl : l < 4) (hruns : s.rxRuns l = true) : Counts 7 l s (s.episodeShown l) := by
  obtain ⟨b, hb⟩ := episodeShown_eq s l
  rw [hb]
  have hflt : (State.bump { s.setOvr l true with bog := b } (Reg.RXC_OVR_EPISODES l) 1).flt = s.flt := rfl
  generalize State.bump { s.setOvr l true with bog := b } (Reg.RXC_OVR_EPISODES l) 1 = x at hflt ⊢
  have hcount := raise_counts x 7 l none (by unfold chained; omega) (by rw [hflt]; exact rxRuns_unsuppressed hl hruns _)
  rwa [Counts, hflt] at hcount

/-- An episode's registers: OVR_EPISODES counts, and PEAK shows the overload. -/
theorem episodeShown_st (s : State) (l : Nat) :
    (s.episodeShown l).st (Reg.RXC_OVR_EPISODES l) = satAdd (2 ^ 32 - 1) (s.st (Reg.RXC_OVR_EPISODES l)) 1 ∧
    bitAt ((s.episodeShown l).st (Reg.RXC_PEAK l)) 14 = true ∧
    ∀ a, a ≠ Reg.RXC_OVR_EPISODES l → a ≠ Reg.RXC_PEAK l → (s.episodeShown l).st a = s.st a := by
  have hne : Reg.RXC_OVR_EPISODES l ≠ Reg.RXC_PEAK l := by unfold Reg.RXC_OVR_EPISODES Reg.RXC_PEAK; omega
  obtain ⟨b, hb⟩ := episodeShown_eq s l
  rw [hb]
  refine ⟨?_, bitAt_setStF_one _ _ (by decide), fun a hcount hpeak => ?_⟩
  · exact (st_setStF_ne _ _ _ _ hne).trans (st_bump_same { s.setOvr l true with bog := b } _ 1)
  · exact (st_setStF_ne _ _ _ _ hpeak).trans (st_bump_ne { s.setOvr l true with bog := b } 1 hcount)

theorem episodeShown_conv (s : State) (l : Nat) : (s.episodeShown l).conv = (s.setOvr l true).conv := by
  obtain ⟨b, hb⟩ := episodeShown_eq s l
  rw [hb]
  rfl

theorem counts_recoverBranch {b n : Nat} {s t : State} (h : Counts b n s t) (d : Dir) (k : Nat) : Counts b n s (t.recoverBranch d k) := by
  have hflt := congrArg State.flt (recoverBranch_frame t d k)
  rwa [Counts, hflt]

theorem cfg_of_offEpisode {s t : State} (h : t.offEpisode = s.offEpisode) : t.cfg = s.cfg := (congrArg State.cfg h :)

theorem enabled_of_cfg {s t : State} (h : t.cfg = s.cfg) (d : Dir) : t.enabled d = s.enabled d := by
  unfold State.enabled State.slotEn State.slotCfg State.rd
  rw [h]

/-- What an episode of lane l shows, once its slots recover and each block has counted. -/
theorem episode_begins {s : State} {l : Fin 4} (hruns : s.rxRuns l = true) (c : Bool) :
    let t := ((s.episodeShown l).recoverBranch (laneDir l) (l % 2)).raiseIf c (12 + (laneDir l).num) 24
    Counts 7 l s t ∧ t.conv.ovrNow.getLsbD l = true ∧ (∀ j : Fin 4, j ≠ l → t.conv.ovrNow.getLsbD j = s.conv.ovrNow.getLsbD j) ∧
    t.st (Reg.RXC_OVR_EPISODES l) = satAdd (2 ^ 32 - 1) (s.st (Reg.RXC_OVR_EPISODES l)) 1 ∧ bitAt (t.st (Reg.RXC_PEAK l)) 14 = true ∧
    (∀ n, n ∈ s.enabled (laneDir l) → (t.slotRec (laneDir l) n).recovering.getLsbD (l % 2) = true) ∧
    (∀ a, a ≠ Reg.RXC_OVR_EPISODES l → a ≠ Reg.RXC_PEAK l → t.st a = s.st a) ∧
    t = { s with conv := t.conv, slots := t.slots, sts := t.sts, flt := t.flt, twb := t.twb, peat := t.peat, mram := t.mram
                 bog := t.bog } := by
  have hoff := episodeShown_offEpisode s l
  have hcounts := episodeShown_counts l.isLt hruns
  obtain ⟨hepisodes, hpeak, hother⟩ := episodeShown_st s l
  have hconv := episodeShown_conv s l
  generalize s.episodeShown l = x at hoff hcounts hepisodes hpeak hother hconv ⊢
  have hframe := recoverBranch_frame x (laneDir l) (l % 2)
  intro t
  have htconv : t.conv = (s.setOvr l true).conv := (raiseIf_conv _ c _ 24 none).trans ((congrArg State.conv hframe :).trans hconv)
  have hst : ∀ a, t.st a = x.st a := st_of_sts ((raiseIf_sts _ c _ 24 none).trans ((congrArg State.sts hframe :)))
  have hslot : ∀ n, n ∈ s.enabled (laneDir l) → t.slotRec (laneDir l) n = (x.slotRec (laneDir l) n).recover (l % 2) := fun n hn => by
    have hslots : t.slots = (x.recoverBranch (laneDir l) (l % 2)).slots := raiseIf_slots _ c _ 24 none
    rw [State.slotRec, hslots]
    exact recoverBranch_slotRec _ (by rwa [enabled_of_cfg (cfg_of_offEpisode hoff)])
  refine ⟨?_, ?_, fun j hj => ?_, ?_, ?_, fun n hn => ?_, fun a hcount hpeak => ?_, ?_⟩
  · exact counts_raiseIf (counts_recoverBranch hcounts _ _) c none (by unfold chained; omega) (by omega)
  · rw [htconv, setOvr_ovrNow s _ _ l.isLt, if_pos rfl]
  · rw [htconv, setOvr_ovrNow s _ _ l.isLt, if_neg (Fin.val_ne_of_ne hj)]
  · rw [hst, hepisodes]
  · rw [hst, hpeak]
  · rw [hslot n hn]
    exact recovering_recover _ (Nat.mod_lt _ (by decide))
  · rw [hst, hother a hcount hpeak]
  · exact eq_withEpisode_of_offEpisode ((raiseIf_offEpisode _ c _ 24 none).trans ((recoverBranch_offEpisode x _ _).trans hoff))

/-! ### An episode ends (R114, R150) -/

theorem overRangeEpisodeEnd_of_episode {s : State} {l : Fin 4} (hup : s.isUp = true) (hin : s.conv.ovrNow.getLsbD l = true) :
    overRangeEpisodeEnd l s = (s.setOvr l false).branchClean (laneDir l) (l % 2) := by
  simp only [overRangeEpisodeEnd, hup, hin, Bool.not_true, Bool.or_false, Bool.false_eq_true, if_false]

theorem fin4_mod_two (l : Fin 4) : l % 2 = 0 ↔ (l : Nat) % 2 = 0 := by revert l; decide

/-- What the end of an episode shows: each enabled slot's branch is clean GD after the last OVR sample, and nothing else has changed. -/
theorem episode_ends (s : State) (l : Fin 4) : let t := (s.setOvr l false).branchClean (laneDir l) (l % 2)
    t.conv.ovrNow.getLsbD l = false ∧
    (∀ n, n ∈ s.enabled (laneDir l) → t.slotRec (laneDir l) n = { s.slotRec (laneDir l) n with cleanAt :=
      let c := (s.slotRec (laneDir l) n).cleanAt
      let e := s.now - 32 + s.slotGD (laneDir l) n
      if l % 2 = 0 then (e, c.2) else (c.1, e) }) ∧
    t = { s with conv := { s.conv with ovrNow := t.conv.ovrNow }, slots := t.slots } := by
  have hframe := branchClean_frame (s.setOvr l false) (laneDir l) (l % 2)
  intro t
  have hconv : t.conv = (s.setOvr l false).conv := (congrArg State.conv hframe :)
  refine ⟨?_, fun n hn => ?_, ?_⟩
  · rw [hconv, setOvr_ovrNow s _ _ l.isLt, if_pos rfl]
  · have hslot : t.slotRec (laneDir l) n = s.cleaned (l % 2) (laneDir l) n (s.slotRec (laneDir l) n) :=
      branchClean_slotRec (s := s.setOvr l false) _ hn
    rw [hslot]
    simp only [State.cleaned, fin4_mod_two, episodeTail]
  · rw [hconv]
    exact hframe

end Sys2Proof.Machine
end

section
/-! SUPPORT. The converters' other commands (R117, R118, R125), and the statement about the converters. -/

namespace Sys2Proof.Machine

/-! ### PEAK_CLR (R125) -/

/-- Lane l's part of PEAK_CLR. -/
def State.clearPeak (v : Word) (s : State) (l : Nat) : State := if bitAt v.toNat l then s.setSt (Reg.RXC_PEAK l) 0 else s

theorem peakClr_of_up {s : State} (v : Word) (hup : s.isUp = true) : peakClr v s = laneNums.foldl (State.clearPeak v) s :=
  ifUp_of_regsUp _ (by simp [State.regsUp, hup])

theorem clearPeak_st (v : Word) (s : State) (l a : Nat) :
    (s.clearPeak v l).st a = if a = Reg.RXC_PEAK l ∧ v.getLsbD l = true then 0 else s.st a := by
  unfold State.clearPeak
  rw [bitAt_toNat]
  cases v.getLsbD l with
  | false => simp
  | true => simp [st_setSt]

theorem rxcPeak_inj {k l : Nat} : Reg.RXC_PEAK k = Reg.RXC_PEAK l ↔ k = l := by unfold Reg.RXC_PEAK; omega

theorem laneNums_mem (l : Fin 4) : (l : Nat) ∈ laneNums := by revert l; decide

theorem foldl_clearPeak_st (v : Word) (l : List Nat) (s : State) (k : Nat) : (l.foldl (State.clearPeak v) s).st (Reg.RXC_PEAK k) =
    if k ∈ l ∧ v.getLsbD k = true then 0 else s.st (Reg.RXC_PEAK k) := by
  induction l generalizing s with
  | nil => simp
  | cons m l ih =>
    simp only [List.foldl_cons, ih, clearPeak_st, rxcPeak_inj, List.mem_cons]
    by_cases hk : k = m
    · subst hk
      by_cases hv : v.getLsbD k = true <;> simp [hv]
    · simp [hk]

theorem foldl_clearPeak_onlyStatus (v : Word) (l : List Nat) (s : State) :
    OnlyStatus (l.map Reg.RXC_PEAK) s (l.foldl (State.clearPeak v) s) := by
  induction l generalizing s with
  | nil => exact onlyStatus_refl _ s
  | cons m l ih =>
    obtain ⟨heq, hst⟩ := ih (s.clearPeak v m)
    have hone : s.clearPeak v m = { s with sts := (s.clearPeak v m).sts } := by
      unfold State.clearPeak
      split <;> rfl
    refine ⟨?_, fun a ha => ?_⟩
    · exact heq.trans (congrArg (fun x : State => { x with sts := (l.foldl (State.clearPeak v) (s.clearPeak v m)).sts }) hone)
    · rw [List.map_cons, List.mem_cons, not_or] at ha
      rw [List.foldl_cons, hst a ha.2, clearPeak_st, if_neg (fun h => ha.1 h.1)]

/-! ### LANE_RESTORE_COMPLETE (R117) -/

/-- The converters once lane l of the receive side, or of the transmit side, is back: no longer being restored, and calibrated if it has a
record. -/
def ConvState.restored (c : ConvState) (tx : Bool) (l : Nat) : ConvState :=
  let clear (m : BitVec 4) := BitVec.ofNat 4 (putBits m.toNat l 1 0)
  let cal (x records : BitVec 4) := BitVec.ofNat 4 (putBits x.toNat l 1 (ofBool (records.getLsbD l)))
  if tx then { c with txRestoring := clear c.txRestoring, txCal := cal c.txCal c.txRecords }
  else { c with rxRestoring := clear c.rxRestoring, rxCal := cal c.rxCal c.rxRecords }

theorem laneRestoreComplete_of_restoring {s : State} {tx : Bool} {l : Fin 4} (hup : s.isUp = true)
    (h : (if tx then s.conv.txRestoring else s.conv.rxRestoring).getLsbD l = true) :
    laneRestoreComplete tx l s = State.realignStart { s with conv := s.conv.restored tx l } (laneDir l) := by
  simp only [laneRestoreComplete, hup, h, Bool.not_true, Bool.or_false, Bool.false_eq_true, if_false]
  cases tx <;> rfl

theorem restored_rx (c : ConvState) {l : Nat} (hl : l < 4) : (c.restored false l).rxRestoring.getLsbD l = false ∧
    (c.restored false l).rxCal.getLsbD l = c.rxRecords.getLsbD l ∧ (c.restored false l).txRestoring = c.txRestoring :=
  ⟨(getLsbD_putBit _ l false hl).trans (if_pos rfl), (getLsbD_putBit _ l _ hl).trans (if_pos rfl), rfl⟩

theorem restored_tx (c : ConvState) {l : Nat} (hl : l < 4) : (c.restored true l).txRestoring.getLsbD l = false ∧
    (c.restored true l).txCal.getLsbD l = c.txRecords.getLsbD l ∧ (c.restored true l).rxRestoring = c.rxRestoring :=
  ⟨(getLsbD_putBit _ l false hl).trans (if_pos rfl), (getLsbD_putBit _ l _ hl).trans (if_pos rfl), rfl⟩

/-- A running direction is realigning after the start of a realignment, which leaves converters, configuration and fault state. -/
theorem realignStart_realigns {s : State} {d : Dir} (hrun : (s.dirRec d).running = true) : ((s.realignStart d).dirRec d).realign = true ∧
    (s.realignStart d).conv = s.conv ∧ (s.realignStart d).cfg = s.cfg ∧ (s.realignStart d).flt = s.flt := by
  cases hre : (s.dirRec d).realign with
  | true =>
    rw [realignStart_of_realigning s d hre]
    exact ⟨hre, rfl, rfl, rfl⟩
  | false =>
    obtain ⟨b, hb⟩ := realignStart_of_running s d hrun hre
    rw [hb, State.bumpF, State.setStF]
    refine ⟨?_, (setSt_conv _ _ _).trans (setDir_conv _ d _), (setSt_cfg _ _ _).trans (setDir_cfg _ d _),
      (setSt_flt _ _ _).trans (setDir_flt _ d _)⟩
    rw [dirRec_of_sys (setSt_sys _ _ _) d, dirRec_setDir_same]

/-! ### BACKGROUND_CAL_RECORD_REWRITE (R118) -/

theorem backgroundCalRecordRewrite_of_runs {s : State} {tx : Bool} {l : Fin 4} (h : (if tx then s.txRuns l else s.rxRuns l) = true) :
    backgroundCalRecordRewrite tx l s = s.recordMade tx l := by
  simp only [backgroundCalRecordRewrite, h, Bool.not_true, Bool.false_eq_true, if_false]

theorem recordMade_rx (s : State) {l : Nat} (hl : l < 4) : (s.recordMade false l).conv.rxRecords.getLsbD l = true ∧
    s.recordMade false l = { s with conv := { s.conv with rxRecords := (s.recordMade false l).conv.rxRecords }
                                    mram := s.mram.submit (.cache (.record l)) } :=
  ⟨(getLsbD_putBits_one s.conv.rxRecords l l hl).trans (by simp), rfl⟩

theorem recordMade_tx (s : State) {l : Nat} (hl : l < 4) : (s.recordMade true l).conv.txRecords.getLsbD l = true ∧
    s.recordMade true l = { s with conv := { s.conv with txRecords := (s.recordMade true l).conv.txRecords }
                                   mram := s.mram.submit (.cache (.record (l + 4))) } :=
  ⟨(getLsbD_putBits_one s.conv.txRecords l l hl).trans (by simp), rfl⟩

end Sys2Proof.Machine

open Sys2Proof Sys2Proof.Machine

/-- Settles O26: an episode by what `episodeShown` and the recovery of its slots leave, its end by the slots' clean times, and each other
command by its equation. -/
theorem converterCommands : Obligations.ConverterCommands := by
  unfold Obligations.ConverterCommands
  refine ⟨fun s l hup => ⟨fun hruns hout => ⟨_, rfl, ?_⟩, fun hin => ⟨_, rfl, ?_⟩⟩,
    fun s l hup => ⟨fun v => ⟨_, rfl, ?_⟩, fun hrestoring hrun => ⟨_, rfl, ?_⟩, fun hrestoring hrun => ⟨_, rfl, ?_⟩,
      fun hruns => ⟨_, rfl, ?_⟩, fun hruns => ⟨_, rfl, ?_⟩⟩⟩
  · rw [overRangeEpisode_of_running hup hruns hout]
    exact episode_begins hruns _
  · rw [overRangeEpisodeEnd_of_episode hup hin]
    exact episode_ends s l
  · rw [peakClr_of_up v hup]
    refine ⟨foldl_clearPeak_onlyStatus v laneNums s, (foldl_clearPeak_st v laneNums s l).trans ?_⟩
    simp only [laneNums_mem l, true_and]
  · obtain ⟨hre, hconv, hcfg, hflt⟩ := realignStart_realigns (s := { s with conv := s.conv.restored false l }) hrun
    obtain ⟨hdone, hcal, hother⟩ := restored_rx s.conv l.isLt
    rw [laneRestoreComplete_of_restoring (tx := false) hup hrestoring, hconv]
    exact ⟨hdone, hcal, hre, hother, hcfg, hflt⟩
  · obtain ⟨hre, hconv, hcfg, hflt⟩ := realignStart_realigns (s := { s with conv := s.conv.restored true l }) hrun
    obtain ⟨hdone, hcal, hother⟩ := restored_tx s.conv l.isLt
    rw [laneRestoreComplete_of_restoring (tx := true) hup hrestoring, hconv]
    exact ⟨hdone, hcal, hre, hother, hcfg, hflt⟩
  · rw [backgroundCalRecordRewrite_of_runs (tx := false) hruns]
    exact recordMade_rx s l.isLt
  · rw [backgroundCalRecordRewrite_of_runs (tx := true) hruns]
    exact recordMade_tx s l.isLt
end

section
/-! SUPPORT. The gates of a direction (R23, R153): what DIR_STAT as a number says of them, what it rests on, and the invariant that
every step keeps. -/

namespace Sys2Proof.Machine

/-! ### DIR_STAT as a number -/

theorem ofBool_le_one (b : Bool) : ofBool b ≤ 1 := by cases b <;> decide

theorem dirStat_lt (s : State) (d : Dir) : s.dirStat d < 512 := by
  unfold State.dirStat
  have h := ofBool_le_one
  grind

/-- GATE_OPEN is bit 0: every other flag of DIR_STAT has an even weight. -/
theorem bitAt_dirStat_zero (s : State) (d : Dir) : bitAt (s.dirStat d) 0 = s.gateOpen d := by
  have heven : (s.dirStat d) % 2 = ofBool (s.gateOpen d) % 2 := by
    simp only [State.dirStat]
    omega
  rw [bitAt, pow_zero, Nat.div_one, heven]
  cases s.gateOpen d <;> rfl

/-- An open gate has all that it needs. -/
theorem gateOpen_needs {s : State} {d : Dir} (h : s.gateOpen d = true) :
    s.power = .up ∧ s.onAir d = true ∧ s.dirMuted d = false ∧ (s.dirRec d).realign = false ∧ s.dirOut d = false ∧ s.branchesUp d ≠ [] := by
  simp only [State.gateOpen, Bool.and_eq_true, Bool.not_eq_true', decide_eq_true_eq, List.isEmpty_eq_false_iff] at h
  obtain ⟨⟨⟨⟨⟨⟨hpower, hair⟩, -⟩, hmute⟩, hrealign⟩, hout⟩, hup⟩ := h
  exact ⟨hpower, hair, hmute, hrealign, hout, hup⟩

/-! ### What DIR_STAT rests on -/

section
variable {s : State} {f : Flt} (h : ∀ b u, State.isOut { s with flt := f } b u = s.isOut b u)
include h

theorem rxOut_of_isOut (l : Nat) : State.rxOut { s with flt := f } l = s.rxOut l := by simp only [State.rxOut, h]

theorem txOut_of_isOut (l : Nat) : State.txOut { s with flt := f } l = s.txOut l := by simp only [State.txOut, h]

theorem dirOut_of_isOut (d : Dir) : State.dirOut { s with flt := f } d = s.dirOut d := by simp only [State.dirOut, h]

theorem branchesUp_of_isOut (d : Dir) : State.branchesUp { s with flt := f } d = s.branchesUp d := by
  simp only [State.branchesUp, rxOut_of_isOut h, txOut_of_isOut h]
  rfl

theorem gateOpen_of_isOut (d : Dir) : State.gateOpen { s with flt := f } d = s.gateOpen d := by
  simp only [State.gateOpen, dirOut_of_isOut h, branchesUp_of_isOut h]
  rfl

theorem lanesClosed_of_isOut (d : Dir) : State.lanesClosed { s with flt := f } d = s.lanesClosed d := by
  simp only [State.lanesClosed, branchesUp_of_isOut h]
  rfl

/-- Of the fault state, DIR_STAT rests on the units out of service alone. -/
theorem dirStat_of_isOut (d : Dir) : State.dirStat { s with flt := f } d = s.dirStat d := by
  simp only [State.dirStat, gateOpen_of_isOut h, lanesClosed_of_isOut h]
  rfl

end

theorem dirStat_setSt (s : State) (a n : Nat) (d : Dir) : (s.setSt a n).dirStat d = s.dirStat d := rfl

theorem dirStat_noteWatch (s : State) (d : Dir) : s.noteWatch.dirStat d = s.dirStat d := rfl

theorem noteGate_eq (s : State) (d : Dir) : s.noteGate d =
    (if (bitAt (s.st (Reg.CHAN_DIR_STAT d)) 0 && !bitAt (s.dirStat d) 0) = true then s.bumpF (Reg.CHAN_GATE_COUNT d) 0 16 1
     else s).setSt (Reg.CHAN_DIR_STAT d) (s.dirStat d) := rfl

theorem dirStat_noteGate (s : State) (d e : Dir) : (s.noteGate d).dirStat e = s.dirStat e := by
  rw [noteGate_eq, dirStat_setSt]
  split
  · exact dirStat_setSt s _ _ e
  · rfl

/-- The record of a unit after the handlings whose retry is over have closed. -/
theorem closeHandlings_unit (s : State) (b u : Nat) : (s.closeHandlings.flt.unit b u) =
    let r := s.flt.unit b u
    if r.st = .transient ∧ s.retrying ((256 * b + u) / 256) ((256 * b + u) % 256) = false then { restores := r.restores } else r :=
  NMap.get_mapVal _ _ _ _ (if_neg (by rintro ⟨h, -⟩; cases h))

/-- Only a unit in transient handling, which is in service, changes its state with that. -/
theorem closeHandlings_isOut (s : State) (b u : Nat) : s.closeHandlings.isOut b u = s.isOut b u := by
  simp only [State.isOut, State.isFenced, State.isRetired, State.unitSt, closeHandlings_unit]
  split
  · rename_i h
    simp [h.1]
  · rfl

theorem dirStat_closeHandlings (s : State) (d : Dir) : s.closeHandlings.dirStat d = s.dirStat d :=
  dirStat_of_isOut (closeHandlings_isOut s) d

/-! ### The end of an instant shows the gates -/

theorem st_noteGate_same (s : State) (d : Dir) : (s.noteGate d).st (Reg.CHAN_DIR_STAT d) = s.dirStat d := by
  rw [noteGate_eq, st_setSt_same, Nat.mod_eq_of_lt (lt_trans (dirStat_lt s d) (by decide))]

theorem st_noteGate_other (s : State) (d : Dir) : (s.noteGate d).st (Reg.CHAN_DIR_STAT d.other) = s.st (Reg.CHAN_DIR_STAT d.other) := by
  have hstat : Reg.CHAN_DIR_STAT d.other ≠ Reg.CHAN_DIR_STAT d := by cases d <;> decide
  have hcount : Reg.CHAN_DIR_STAT d.other ≠ Reg.CHAN_GATE_COUNT d := by cases d <;> decide
  rw [noteGate_eq, st_setSt_ne _ _ hstat]
  split
  · exact st_bumpF_ne s 0 16 1 hcount
  · rfl

theorem closeHandlings_noteWatch_sts {s : State} : s.noteWatch.closeHandlings.sts = s.sts := rfl

theorem settle_isUp (s : State) : s.settle.isUp = s.isUp := by
  obtain ⟨hpower, -⟩ := after_keeps s s
  have hpower : s.settle.power = s.power := hpower
  rw [State.isUp, State.isUp, hpower]

/-- While the device is up, the end of an instant leaves the direction as it is in DIR_STAT. -/
theorem settle_shows (s : State) (h : s.isUp = true) (d : Dir) : s.settle.st (Reg.CHAN_DIR_STAT d) = s.settle.dirStat d := by
  simp only [State.settle, h, Bool.not_true, Bool.false_eq_true, if_false]
  rw [dirStat_closeHandlings, dirStat_noteWatch, dirStat_noteGate, dirStat_noteGate]
  rw [st_of_sts closeHandlings_noteWatch_sts]
  cases d with
  | dl => exact (st_noteGate_other _ .ul).trans (st_noteGate_same _ .dl)
  | ul => rw [st_noteGate_same, dirStat_noteGate]

/-! ### The invariant -/

/-- Whatever a command's meaning gives goes through the end of the instant. -/
theorem exec_ends (c : Instr) (s : State) : ∃ t, exec c s = done s t := by cases c <;> exact ⟨_, rfl⟩

theorem gateInv_of_shown {s : State} (h : s.isUp = true → ∀ d, s.st (Reg.CHAN_DIR_STAT d) = s.dirStat d) : GateInv s := by
  intro hup d
  refine ⟨h hup d, fun hopen => gateOpen_needs ?_⟩
  rwa [h hup d, bitAt_dirStat_zero] at hopen

theorem gateInv_after (s t : State) : GateInv (s.after t) :=
  gateInv_of_shown fun hup d => settle_shows t ((settle_isUp t).symm.trans hup) d

end Sys2Proof.Machine

open Sys2Proof Sys2Proof.Machine

/-- Settles O6: a command's meaning ends with the instant, and the end of an instant leaves in DIR_STAT what the rest of the state says of the
direction; an idle step changes nothing. -/
theorem gateInvKept : Obligations.GateInvKept := by
  unfold Obligations.GateInvKept
  intro s t hs hstep
  unfold step at hstep
  split at hstep
  · cases hstep
    exact hs
  · rename_i c rest hq
    obtain ⟨u, hu⟩ := exec_ends c { s with pending := rest }
    cases hu.symm.trans hstep
    exact gateInv_after _ u
end

section
/-! SUPPORT. The writes of slot registers (R152): what the protection of service answers to each, what a stored and what a refused write
leave, and the statement about SLOT_REGISTER_WRITE. -/

namespace Sys2Proof.Machine

/-! ### Frames with counting in them -/

/-- The state but for status registers and what counting changes, and what counting leaves of the Bog and of the two-wire bus. -/
def State.uncounted (s : State) : State × (BogState × TwbState) :=
  ({ s with sts := [], flt := {}, twb := {}, peat := {}, mram := {}, bog := {} }, s.fx.fixed)

theorem onlyStatusCounts_of_uncounted {A : List Nat} {s t : State} (h : t.uncounted = s.uncounted) (hst : ∀ a, a ∉ A → t.st a = s.st a) :
    OnlyStatusCounts A s t := by
  obtain ⟨hrest, hfixed⟩ := Prod.ext_iff.mp h
  exact ⟨congrArg (fun x : State =>
    { x with sts := t.sts, flt := t.flt, twb := t.twb, peat := t.peat, mram := t.mram, bog := t.bog }) hrest,
    countParts_of_fixed hfixed, hst⟩

/-- The notes of malformed schedules keep what an event of SYNC source 8 keeps. -/
theorem schedNote_keeps {β : Type} (p : State → β) (h : ∀ s c, p (s.raiseIf c 11 8) = p s) (s : State) (was : Nat → Bool) :
    p (s.schedNote was) = p s :=
  foldl_keeps p _ _ (fun _ _ => h _ _) s

/-- A consumer's acting on a committed change keeps what the lock page's record and its event keep. -/
theorem lockActs_keeps {β : Type} (p : State → β) (hlock : ∀ s l, p { s with lock := l } = p s) (hraise : ∀ s, p (s.raise 22 13) = p s)
    (s : State) (item index who : Nat) : p (s.lockActs item index who) = p s := by
  unfold State.lockActs
  dsimp only
  split
  · exact (hraise _).trans (hlock s _)
  · rfl

/-! ### The protection of service (R152) -/

theorem rowAt_slotCfg (d : Dir) (n : Fin 17) : rowAt (Reg.CHAN_SLOT_CFG d n) = some ⟨0x100, 17, 0x20, .rw, 0x00000000, 0x0000FFF7, true⟩ := by
  cases d <;> revert n <;> decide

/-- ENABLE after a write of SLOT_CFG is bit 0 of what was written. -/
theorem slotEn_wr (s : State) (d : Dir) (n : Fin 17) (v : Word) :
    (s.wr (Reg.CHAN_SLOT_CFG d n) v.toNat).slotEn d n = v.getLsbD 0 := by
  rw [State.slotEn, State.slotCfg, rd_wr_same s _ _ (rowAt_slotCfg d n), Word.toNat_ofNat, bitAt_eq_testBit, BitVec.getLsbD]
  simp

theorem slotJudge_cfg_of_enable {s : State} {d : Dir} {n : Fin 17} {v : Word} (h : v.getLsbD 0 ≠ s.slotEn d n) :
    s.slotJudge d .cfg n v.toNat = 2 := by
  refine if_neg fun hrest => h ?_
  have hbit : ∀ x, bitAt (putBits x 4 4 0) 0 = bitAt x 0 := fun x => by
    rw [bitAt_eq_testBit, bitAt_eq_testBit, testBit_putBits]; rfl
  have h0 := congrArg (bitAt · 0) hrest
  simp only [hbit] at h0
  exact (slotEn_wr s d n v).symm.trans h0.symm

theorem slotJudge_cfg_of_rest {s : State} {d : Dir} {n : Nat} {v : Word}
    (h : putBits ((s.wr (Reg.CHAN_SLOT_CFG d n) v.toNat).slotCfg d n) 4 4 0 = putBits (s.slotCfg d n) 4 4 0) :
    s.slotJudge d .cfg n v.toNat = 0 := if_pos h.symm

/-- The trim of branch b in a written word, in 0.01 dB. -/
def trimIn (v : Word) (b : Nat) : Int := signedOf 16 (v.toNat / 2 ^ (16 * b))

theorem trimOut_iff (v : Word) (b : Nat) : trimOut v.toNat b = true ↔ trimIn v b < -600 ∨ 600 < trimIn v b := by
  simp [trimOut, trimIn]

theorem exists_lt_two {p : Nat → Prop} : (∃ b, b < 2 ∧ p b) ↔ p 0 ∨ p 1 := by
  rw [Nat.exists_lt_succ_right (n := 1), Nat.exists_lt_succ_right (n := 0)]
  simp

theorem trimOver_iff (s : State) (d : Dir) (n : Nat) (v : Word) :
    s.trimOver d n v.toNat = true ↔ ∃ b, b < 2 ∧ s.lock.gainMax d < s.target d (govOf n) + trimIn v b := by
  rw [exists_lt_two]
  simp [State.trimOver, trimIn]

theorem trimsOut_iff (v : Word) :
    (trimOut v.toNat 0 || trimOut v.toNat 1) = true ↔ ∃ b, b < 2 ∧ (trimIn v b < -600 ∨ 600 < trimIn v b) := by
  rw [exists_lt_two]
  simp [trimOut_iff]

theorem slotJudge_trim_of_out (s : State) (d : Dir) (n : Nat) {v : Word} (h : ∃ b, b < 2 ∧ (trimIn v b < -600 ∨ 600 < trimIn v b)) :
    s.slotJudge d .trim n v.toNat = 1 := if_pos ((trimsOut_iff v).mpr h)

section
variable {s : State} {d : Dir} {n : Nat} {v : Word} (hin : ∀ b, b < 2 → -600 ≤ trimIn v b ∧ trimIn v b ≤ 600)
include hin

theorem not_trimsOut : ¬(trimOut v.toNat 0 || trimOut v.toNat 1) = true := by
  rw [trimsOut_iff]
  rintro ⟨b, hb, hout⟩
  have := hin b hb
  omega

theorem slotJudge_trim_of_over (h : ∃ b, b < 2 ∧ s.lock.gainMax d < s.target d (govOf n) + trimIn v b) :
    s.slotJudge d .trim n v.toNat = 3 :=
  (if_neg (not_trimsOut hin)).trans (if_pos ((trimOver_iff s d n v).mpr h))

theorem slotJudge_trim_of_under (h : ∀ b, b < 2 → s.target d (govOf n) + trimIn v b ≤ s.lock.gainMax d) :
    s.slotJudge d .trim n v.toNat = 0 := by
  refine (if_neg (not_trimsOut hin)).trans (if_neg ?_)
  rw [trimOver_iff]
  rintro ⟨b, hb, hover⟩
  have := h b hb
  omega

end

/-! ### WRITE_STATUS -/

/-- What WRITE_STATUS shows of a write with result r. -/
def slotStatus (w : SlotReg) (n r : Nat) : Nat := r + 4 * slotRegShown w n + 256 * slotRegNum w

/-- The state in which WRITE_STATUS shows the write. -/
def State.slotShown (s : State) (d : Dir) (w : SlotReg) (n r : Nat) : State := s.setSt (Reg.CHAN_WRITE_STATUS d) (slotStatus w n r)

theorem slotStatus_lt (w : SlotReg) (n : Fin 17) {r : Nat} (h : r < 4) : slotStatus w n r < 2 ^ 32 := by
  have hn := n.isLt
  cases w <;> simp only [slotStatus, slotRegShown, slotRegNum] <;> omega

theorem slotShown_st_same (s : State) (d : Dir) (w : SlotReg) (n : Fin 17) {r : Nat} (h : r < 4) :
    (s.slotShown d w n r).st (Reg.CHAN_WRITE_STATUS d) = slotStatus w n r :=
  (st_setSt_same _ _ _).trans (Nat.mod_eq_of_lt (slotStatus_lt w n h))

theorem slotShown_st_ne (s : State) (d : Dir) (w : SlotReg) (n r : Nat) {a : Nat} (h : a ≠ Reg.CHAN_WRITE_STATUS d) :
    (s.slotShown d w n r).st a = s.st a := st_setSt_ne _ _ h

/-! ### A stored write -/

/-- The slot as an accepted write of SLOT_CFG in service leaves it: with the PRIORITY that it had. -/
def State.slotHeld (s : State) (d : Dir) (w : SlotReg) (n : Nat) : State := if w = .cfg && s.judgeEn then s.holdPrio d n else s

/-- TAPS after a write of a slot register. -/
def State.tapsFollow (s : State) (d : Dir) (w : SlotReg) (n : Nat) : State := if w = .cfg then s.setTaps d n else s

/-- The state after an accepted write of a slot register. -/
def State.slotStore (s : State) (d : Dir) (w : SlotReg) (n : Nat) (v : Word) : State :=
  (((s.slotHeld d w n).wrc (slotRegAddr d w n) v.toNat).schedNote (s.slotHeld d w n).malformed).tapsFollow d w n

/-- The write is stored: its register takes the value, its result is 0, a PRIORITY in service is held back, and nothing else has changed
but what counting changes, the slot's TAPS, and what a running check hears. -/
def SlotStores (d : Dir) (w : SlotReg) (n : Nat) (v : Word) (s t : State) : Prop :=
  t.cfg = (s.wr (slotRegAddr d w n) v.toNat).cfg ∧ t.st (Reg.CHAN_WRITE_STATUS d) = slotStatus w n 0 ∧
  t.slots = (if w = .cfg ∧ s.judgeEn = true then (s.holdPrio d n).slots else s.slots) ∧
  OnlyStatusCounts [Reg.CHAN_WRITE_STATUS d, Reg.ECHO_TAPS (slotKey d n)] s
    { t with cfg := s.cfg, slots := s.slots, sys := { t.sys with check := s.sys.check } }

theorem wrc_cfg (s : State) (a n : Nat) : (s.wrc a n).cfg = (s.wr a n).cfg := by
  unfold State.wrc
  dsimp only
  split
  · exact touch_cfg _
  · rfl

theorem wrc_sts (s : State) (a n : Nat) : (s.wrc a n).sts = s.sts := by
  unfold State.wrc
  dsimp only
  split
  · exact touch_sts _
  · rfl

theorem wrc_slots (s : State) (a n : Nat) : (s.wrc a n).slots = s.slots := by
  unfold State.wrc
  dsimp only
  split
  · exact touch_slots _
  · rfl

section
variable (s : State) (d : Dir) (w : SlotReg) (n : Nat) (v : Word)

theorem slotHeld_slots : (s.slotHeld d w n).slots = if w = .cfg ∧ s.judgeEn = true then (s.holdPrio d n).slots else s.slots := by
  simp only [State.slotHeld, Bool.and_eq_true, decide_eq_true_eq, apply_ite State.slots]

theorem slotStore_cfg : (s.slotStore d w n v).cfg = (s.wr (slotRegAddr d w n) v.toNat).cfg := by
  have htaps : ∀ x : State, (x.tapsFollow d w n).cfg = x.cfg := fun x => by unfold State.tapsFollow; split <;> rfl
  have hheld : (s.slotHeld d w n).cfg = s.cfg := by unfold State.slotHeld; split <;> rfl
  rw [State.slotStore, htaps, schedNote_keeps State.cfg (fun x c => raiseIf_cfg x c 11 8 none), wrc_cfg, State.wr, State.wr, hheld]

theorem slotStore_slots : (s.slotStore d w n v).slots = (s.slotHeld d w n).slots := by
  have htaps : ∀ x : State, (x.tapsFollow d w n).slots = x.slots := fun x => by unfold State.tapsFollow; split <;> rfl
  rw [State.slotStore, htaps, schedNote_keeps State.slots (fun x c => raiseIf_slots x c 11 8 none), wrc_slots]

theorem slotStore_st_ne {a : Nat} (h : a ≠ Reg.ECHO_TAPS (slotKey d n)) : (s.slotStore d w n v).st a = s.st a := by
  have htaps : ∀ x : State, (x.tapsFollow d w n).st a = x.st a := fun x => by
    unfold State.tapsFollow
    split
    · exact st_setSt_ne _ _ h
    · rfl
  have hheld : (s.slotHeld d w n).sts = s.sts := by unfold State.slotHeld; split <;> rfl
  rw [State.slotStore, htaps]
  refine st_of_sts ?_ a
  rw [schedNote_keeps State.sts (fun x c => raiseIf_sts x c 11 8 none), wrc_sts, hheld]

end

/-- The state but for what a stored write of a slot register changes, those parts being s's. -/
def State.slotRest (s x : State) : State × (BogState × TwbState) :=
  State.uncounted { x with cfg := s.cfg, slots := s.slots, sys := { x.sys with check := s.sys.check } }

theorem slotRest_raiseIf (s x : State) (c : Bool) (b n : Nat) : s.slotRest (x.raiseIf c b n) = s.slotRest x := by
  cases c
  · rfl
  · exact Prod.ext rfl (raiseEvs_fixed x _)

theorem slotRest_wrc (s x : State) (a n : Nat) : s.slotRest (x.wrc a n) = s.slotRest x := by
  have htouch : ∀ y : State, s.slotRest y.touch = s.slotRest y := fun y => by unfold State.touch; split <;> rfl
  unfold State.wrc
  dsimp only
  split
  · exact htouch _
  · rfl

theorem slotRest_slotStore (s x : State) (d : Dir) (w : SlotReg) (n : Nat) (v : Word) : s.slotRest (x.slotStore d w n v) = s.slotRest x := by
  have htaps : ∀ y : State, s.slotRest (y.tapsFollow d w n) = s.slotRest y := fun y => by unfold State.tapsFollow; split <;> rfl
  have hheld : s.slotRest (x.slotHeld d w n) = s.slotRest x := by unfold State.slotHeld; split <;> rfl
  rw [State.slotStore, htaps, schedNote_keeps s.slotRest (fun y c => slotRest_raiseIf s y c 11 8), slotRest_wrc, hheld]

theorem writeStatus_ne_taps (d : Dir) (k : Nat) : Reg.CHAN_WRITE_STATUS d ≠ Reg.ECHO_TAPS k := by
  cases d <;> simp only [Reg.CHAN_WRITE_STATUS, Reg.chanBase, Reg.ECHO_TAPS] <;> omega

theorem slotStore_stores (s : State) (d : Dir) (w : SlotReg) (n : Fin 17) (v : Word) :
    SlotStores d w n v s ((s.slotShown d w n 0).slotStore d w n v) := by
  refine ⟨slotStore_cfg _ d w n v, ?_, ?_, onlyStatusCounts_of_uncounted (slotRest_slotStore s (s.slotShown d w n 0) d w n v) fun a ha => ?_⟩
  · rw [slotStore_st_ne _ d w n v (writeStatus_ne_taps d _), slotShown_st_same s d w n (by decide)]
  · exact (slotStore_slots _ d w n v).trans (slotHeld_slots _ d w n)
  · simp only [List.mem_cons, List.not_mem_nil, or_false, not_or] at ha
    exact (slotStore_st_ne _ d w n v ha.2).trans (slotShown_st_ne s d w n 0 ha.1)

/-! ### A refused write -/

/-- The state after a refused write of a slot register. -/
def State.slotRefuse (s : State) (d : Dir) (w : SlotReg) (r : Nat) : State :=
  let t := s.raise (12 + d.num) (if w = .trim then 21 else 20)
  if r = 3 then t.lockActs 2 d.num 2 else t

/-- The write is refused: its result shows, its source counts, and nothing else has changed but what the lock page's consumers have acted
on. -/
def SlotRefuses (d : Dir) (w : SlotReg) (n r src : Nat) (s t : State) : Prop :=
  t.st (Reg.CHAN_WRITE_STATUS d) = slotStatus w n r ∧ Counts (12 + d.num) src s t ∧
  OnlyStatusCounts [Reg.CHAN_WRITE_STATUS d] s { t with lock := s.lock }

theorem slotRefuse_keeps {β : Type} (p : State → β) (hlock : ∀ s l, p { s with lock := l } = p s) (hraise : ∀ s, p (s.raise 22 13) = p s)
    (s : State) (d : Dir) (w : SlotReg) (r : Nat) :
    p (s.slotRefuse d w r) = p (s.raise (12 + d.num) (if w = .trim then 21 else 20)) := by
  unfold State.slotRefuse
  dsimp only
  split
  · exact lockActs_keeps p hlock hraise _ 2 d.num 2
  · rfl

theorem slotRefuse_sts (s : State) (d : Dir) (w : SlotReg) (r : Nat) : (s.slotRefuse d w r).sts = s.sts :=
  slotRefuse_keeps State.sts (fun _ _ => rfl) (fun _ => rfl) s d w r

theorem slotRefuse_counts {s x : State} (d : Dir) (w : SlotReg) (r : Nat) (h : x.flt = s.flt) :
    Counts (12 + d.num) (if w = .trim then 21 else 20) s (x.slotRefuse d w r) := by
  have hd := dirNum_lt d
  generalize hsrc : (if w = .trim then 21 else 20) = src
  have hlt : src = 20 ∨ src = 21 := by split at hsrc <;> omega
  have hc : ¬chained (32 * (12 + d.num) + src) := by unfold chained; omega
  have hkeep : ∀ y : State, (y.raise 22 13).flt.source (12 + d.num) src = y.flt.source (12 + d.num) src :=
    fun y => raise_source_ne y _ _ 22 13 none hc (by omega)
  have hsource := slotRefuse_keeps (fun y => y.flt.source (12 + d.num) src) (fun _ _ => rfl) hkeep x d w r
  have hcount := raise_counts_of_flt (12 + d.num) src none hc (by simp; omega) h
  rw [hsrc] at hsource
  rwa [Counts, hsource]

theorem uncounted_slotRefuse (s x : State) (d : Dir) (w : SlotReg) (r : Nat) :
    State.uncounted { x.slotRefuse d w r with lock := s.lock } = State.uncounted { x with lock := s.lock } :=
  have hraise : ∀ (y : State) b n, State.uncounted { y.raise b n with lock := s.lock } = State.uncounted { y with lock := s.lock } :=
    fun y _ _ => Prod.ext rfl (raiseEvs_fixed y _)
  (slotRefuse_keeps (fun y => State.uncounted { y with lock := s.lock }) (fun _ _ => rfl) (fun y => hraise y 22 13) x d w r).trans
    (hraise x _ _)

theorem slotRefuse_refuses (s : State) (d : Dir) (w : SlotReg) (n : Fin 17) {r : Nat} (h : r < 4) :
    SlotRefuses d w n r (if w = .trim then 21 else 20) s ((s.slotShown d w n r).slotRefuse d w r) := by
  refine ⟨?_, slotRefuse_counts d w r rfl, onlyStatusCounts_of_uncounted (uncounted_slotRefuse s _ d w r) fun a ha => ?_⟩
  · exact (st_of_sts (slotRefuse_sts _ d w r) _).trans (slotShown_st_same s d w n h)
  · exact (st_of_sts (slotRefuse_sts _ d w r) a).trans (slotShown_st_ne s d w n r (by simpa using ha))

/-! ### SLOT_REGISTER_WRITE -/

/-- The result of a write: 0 outside service. -/
def State.slotResult (s : State) (d : Dir) (w : SlotReg) (n : Nat) (v : Word) : Nat := if s.judgeEn then s.slotJudge d w n v.toNat else 0

section
variable {s : State} {d : Dir} {w : SlotReg} {n : Fin 17} {v : Word} (hup : s.regsUp = true)
include hup

theorem slotRegisterWrite_of_regsUp : slotRegisterWrite d w n v s =
    if s.slotResult d w n v = 0 then (s.slotShown d w n (s.slotResult d w n v)).slotStore d w n v
    else (s.slotShown d w n (s.slotResult d w n v)).slotRefuse d w (s.slotResult d w n v) := ifUp_of_regsUp _ hup

theorem slotRegisterWrite_stores (h : s.slotResult d w n v = 0) : Does (.slotRegisterWrite d w n v) s (SlotStores d w n v s) := by
  refine ⟨_, rfl, ?_⟩
  rw [slotRegisterWrite_of_regsUp hup, h]
  exact slotStore_stores s d w n v

theorem slotRegisterWrite_refuses {r : Nat} (h : s.slotResult d w n v = r) (hpos : r ≠ 0) (hlt : r < 4) :
    Does (.slotRegisterWrite d w n v) s (SlotRefuses d w n r (if w = .trim then 21 else 20) s) := by
  refine ⟨_, rfl, ?_⟩
  rw [slotRegisterWrite_of_regsUp hup, h, if_neg hpos]
  exact slotRefuse_refuses s d w n hlt

end

end Sys2Proof.Machine

open Sys2Proof Sys2Proof.Machine

/-- Settles O29: outside service the result is 0; in service the protection's judgement of each register is. The result decides whether the
write is stored or refused. -/
theorem slotRegisterWrites : Obligations.SlotRegisterWrites := by
  unfold Obligations.SlotRegisterWrites
  intro s d n v hup
  refine ⟨fun hfree w => slotRegisterWrite_stores hup (by simp [State.slotResult, hfree]), fun hserve => ?_⟩
  have hjudge : ∀ w, s.slotResult d w n v = s.slotJudge d w n v.toNat := fun w => if_pos hserve
  refine ⟨?_, ?_, fun hen => ?_, fun hrest => ?_, fun hout => ?_, fun hin => ⟨fun hover => ?_, fun hunder => ?_⟩⟩
  · exact slotRegisterWrite_refuses hup (hjudge .nco) (by decide) (by decide)
  · exact slotRegisterWrite_refuses hup (hjudge .branch) (by decide) (by decide)
  · exact slotRegisterWrite_refuses hup ((hjudge .cfg).trans (slotJudge_cfg_of_enable hen)) (by decide) (by decide)
  · exact slotRegisterWrite_stores hup ((hjudge .cfg).trans (slotJudge_cfg_of_rest hrest))
  · exact slotRegisterWrite_refuses hup ((hjudge .trim).trans (slotJudge_trim_of_out s d n hout)) (by decide) (by decide)
  · exact slotRegisterWrite_refuses hup ((hjudge .trim).trans (slotJudge_trim_of_over hin hover)) (by decide) (by decide)
  · exact slotRegisterWrite_stores hup ((hjudge .trim).trans (slotJudge_trim_of_under hin hunder))
end

section
/-! SUPPORT. The correlators and the tests for oscillation (R163, R170, R171): the records of ECHO, what a mute by oscillation leaves, and the
statement about the commands of the estimation. -/

namespace Sys2Proof.Machine

/-! ### The records of ECHO -/

theorem echoRec_of_echo {s t : State} (h : t.echo = s.echo) (d : Dir) (n : Nat) : t.echoRec d n = s.echoRec d n := by
  rw [State.echoRec, h, State.echoRec]

theorem echoRec_setEcho (s : State) (d c : Dir) (n m : Nat) (r : EchoRec) :
    (s.setEcho d n r).echoRec c m = if slotKey c m = slotKey d n then r else s.echoRec c m := by
  simp only [State.echoRec, State.setEcho, NMap.get_put]

theorem slotKey_inj {c d : Dir} {m n : Nat} (hm : m < 17) (hn : n < 17) : slotKey c m = slotKey d n ↔ c = d ∧ m = n := by
  cases c <;> cases d <;> simp [slotKey, Dir.num] <;> omega

/-- Slots of direction d changed one by one, each by f. -/
theorem echoRec_foldl_setEcho (d : Dir) (f : EchoRec → EchoRec) {l : List Nat} (hl : l.Nodup) (hlt : ∀ n ∈ l, n < 17) (s : State) (c : Dir)
    {m : Nat} (hm : m < 17) : (l.foldl (fun s n => s.setEcho d n (f (s.echoRec d n))) s).echoRec c m =
      if c = d ∧ m ∈ l then f (s.echoRec c m) else s.echoRec c m := by
  induction l generalizing s with
  | nil => simp
  | cons n l ih =>
    obtain ⟨hn, hl⟩ := List.nodup_cons.mp hl
    rw [List.foldl_cons, ih hl (fun k hk => hlt k (List.mem_cons_of_mem n hk)), echoRec_setEcho]
    simp only [slotKey_inj hm (hlt n List.mem_cons_self)]
    by_cases hc : c = d ∧ m = n
    · obtain ⟨rfl, rfl⟩ := hc
      simp [hn]
    · rw [if_neg hc]
      exact if_congr (by rw [List.mem_cons]; tauto) rfl rfl

/-- Every slot of direction d changed by f. -/
theorem echoRec_slots (d : Dir) (f : EchoRec → EchoRec) (s : State) (c : Dir) (m : Fin 17) :
    (slotNums.foldl (fun s n => s.setEcho d n (f (s.echoRec d n))) s).echoRec c m =
      if c = d then f (s.echoRec c m) else s.echoRec c m := by
  have hmem : m.val ∈ slotNums := by revert m; decide
  rw [echoRec_foldl_setEcho d f (by decide) (by decide) s c m.isLt]
  simp [hmem]

/-- The state but for the records of ECHO. -/
def State.offEcho (s : State) : State := { s with echo := [] }

theorem eq_withEcho_of_offEcho {s t : State} (h : t.offEcho = s.offEcho) : t = { s with echo := t.echo } :=
  (congrArg (fun x : State => { x with echo := t.echo }) h :)

theorem parts_of_offEcho {s t : State} (h : t.offEcho = s.offEcho) (d : Dir) : t.flt = s.flt ∧ t.sys = s.sys ∧ t.stage d = s.stage d := by
  rw [eq_withEcho_of_offEcho h]
  exact ⟨rfl, rfl, rfl⟩

theorem setEchoes_offEcho (d : Dir) (f : EchoRec → EchoRec) (l : List Nat) (s : State) :
    (l.foldl (fun s n => s.setEcho d n (f (s.echoRec d n))) s).offEcho = s.offEcho :=
  foldl_keeps State.offEcho l (fun s n => s.setEcho d n (f (s.echoRec d n))) (fun _ _ => rfl) s

/-! ### EST_CLR (R174) -/

/-- The cached estimates of direction d are discarded where its bit of v is set. -/
def State.clearCached (v : Word) (s : State) (d : Dir) : State :=
  if bitAt v.toNat d.num then slotNums.foldl (fun s n => s.setEcho d n { s.echoRec d n with cached := none }) s else s

theorem clearCached_offEcho (v : Word) (s : State) (d : Dir) : (s.clearCached v d).offEcho = s.offEcho := by
  unfold State.clearCached
  split
  · exact setEchoes_offEcho d (fun r => { r with cached := none }) slotNums s
  · rfl

theorem clearCached_echoRec (v : Word) (s : State) (d c : Dir) (m : Fin 17) : (s.clearCached v d).echoRec c m =
    if c = d ∧ v.getLsbD d.num = true then { s.echoRec c m with cached := none } else s.echoRec c m := by
  rw [State.clearCached, bitAt_toNat]
  split
  next hbit => simp only [echoRec_slots d (fun r => { r with cached := none }) s c m, hbit, and_true]
  next hbit => rw [if_neg (fun h => hbit h.2)]

theorem estClr_of_regsUp {s : State} (v : Word) (hup : s.regsUp = true) :
    estClr v s = (s.clearCached v .dl).clearCached v .ul := ifUp_of_regsUp _ hup

theorem estClr_clears {s : State} (v : Word) (hup : s.regsUp = true) : estClr v s = { s with echo := (estClr v s).echo } ∧
    ∀ (c : Dir) (m : Fin 17), (estClr v s).echoRec c m =
      if v.getLsbD c.num then { s.echoRec c m with cached := none } else s.echoRec c m := by
  rw [estClr_of_regsUp v hup]
  refine ⟨eq_withEcho_of_offEcho ((clearCached_offEcho v _ .ul).trans (clearCached_offEcho v s .dl)), fun c m => ?_⟩
  rw [clearCached_echoRec, clearCached_echoRec]
  cases c <;> simp

/-! ### A block and its result (R163–R165, R172) -/

theorem raise_counts_echo {s x : State} (n : Nat) (hn : n < 32) (h : x.flt = s.flt) : Counts 14 n s (x.raise 14 n) :=
  raise_counts_of_flt 14 n none (by unfold chained; omega) (by decide) h

section
variable {s : State} {k : Fin 34} (b : BlockIn)

theorem correlatorBlockEnd_of_silent (h : s.correlates (keyDir k) (keySlot k) = false) : correlatorBlockEnd k b s = s :=
  if_pos (by rw [h]; rfl)

theorem correlatorBlockEnd_of_correlates (h : s.correlates (keyDir k) (keySlot k) = true) : correlatorBlockEnd k b s =
    if 4 * b.k < s.nominal (keyDir k) (keySlot k) then s.raise 14 (10 + (keyDir k).num)
    else s.setEcho (keyDir k) (keySlot k) { s.echoRec (keyDir k) (keySlot k) with due := some b } :=
  if_neg (by rw [h]; decide)

end

/-- A block gives its slot a result, and leaves what waits for the next tick boundary. -/
theorem EchoRec.block_result (r : EchoRec) (n mu ef : Nat) (live : List Nat) (b : BlockIn) :
    (r.block n mu ef live b).1.result = true ∧ (r.block n mu ef live b).1.due = r.due := by
  unfold EchoRec.block
  extract_lets k r1 es good
  have h1 : r1.result = true ∧ r1.due = r.due := ⟨rfl, rfl⟩
  split
  · split
    · exact h1
    · split
      · exact h1
      · exact h1
  · exact h1

/-- Whether a slot has a result, and the block that waits for the next tick boundary. -/
def State.blockOf (s : State) (d : Dir) (n : Nat) : Bool × Option BlockIn := ((s.echoRec d n).result, (s.echoRec d n).due)

theorem blockOf_of_echo {s t : State} (h : t.echo = s.echo) (d : Dir) (n : Nat) : t.blockOf d n = s.blockOf d n := by
  rw [State.blockOf, echoRec_of_echo h, State.blockOf]

theorem blockOf_setEcho_same (s : State) (d : Dir) (n : Nat) (r : EchoRec) : (s.setEcho d n r).blockOf d n = (r.result, r.due) := by
  rw [State.blockOf, echoRec_setEcho_same]

theorem adapt_blockOf (s : State) (d : Dir) (n : Nat) : (s.adapt d n).blockOf d n = s.blockOf d n := by
  unfold State.adapt
  extract_lets r on ct now l bound
  split
  · rfl
  · exact (blockOf_of_echo (raiseIf_echo _ _ _ _ _) d n).trans (blockOf_setEcho_same s d n _)

theorem cacheEst_blockOf (s : State) (d : Dir) (n : Nat) (newly : Bool) : (s.cacheEst d n newly).blockOf d n = s.blockOf d n := by
  unfold State.cacheEst
  extract_lets r moved
  split
  · exact (blockOf_of_echo (mramWrite_echo _ _) d n).trans (blockOf_setEcho_same s d n _)
  · rfl

/-- A block that has ended takes effect: its slot has a result, and no block waits. -/
theorem blockEffect_blockOf {s : State} {d : Dir} {n : Nat} (h : (s.echoRec d n).due ≠ none) :
    (s.blockEffect d n).blockOf d n = (true, none) := by
  obtain ⟨b, hb⟩ := Option.ne_none_iff_exists'.mp h
  unfold State.blockEffect
  extract_lets old
  simp only [show old.due = some b from hb]
  obtain ⟨hresult, hdue⟩ := EchoRec.block_result { old with due := none } (s.echoTaps d n) s.muShift (s.energyF d n) (s.livePaths d) b
  rw [cacheEst_blockOf, adapt_blockOf, blockOf_of_echo (raiseIf_echo _ _ _ _ _), blockOf_of_echo (raiseIf_echo _ _ _ _ _),
    blockOf_of_echo (raiseIf_echo _ _ _ _ _), blockOf_setEcho_same]
  exact Prod.ext hresult hdue

/-! ### What a mute of a direction leaves of ECHO and of the other direction (R193) -/

/-- The estimates, running and cached, the sources of block ECHO, and the record of the other direction. -/
structure Beside where
  estimates : Dir → Nat → NMap PathRec × Option EstEntry
  sources : Fin 32 → Src
  other : DirRec

def State.beside (s : State) (d : Dir) : Beside :=
  { estimates := fun c m => ((s.echoRec c m).paths, (s.echoRec c m).cached)
    sources := fun n => s.flt.source 14 n
    other := s.dirRec d.other }

theorem source_of_beside {s t : State} {d : Dir} (h : t.beside d = s.beside d) {n : Nat} (hn : n < 32) :
    t.flt.source 14 n = s.flt.source 14 n := congrFun (congrArg Beside.sources h) ⟨n, hn⟩

theorem estimates_of_beside {s t : State} {d : Dir} (h : t.beside d = s.beside d) (c : Dir) (m : Nat) :
    (t.echoRec c m).paths = (s.echoRec c m).paths ∧ (t.echoRec c m).cached = (s.echoRec c m).cached :=
  Prod.ext_iff.mp (congrFun (congrFun (congrArg Beside.estimates h) c) m)

theorem beside_of_parts {s t : State} {d : Dir} (hecho : t.echo = s.echo) (hsource : ∀ n : Fin 32, t.flt.source 14 n = s.flt.source 14 n)
    (hother : t.dirRec d.other = s.dirRec d.other) : t.beside d = s.beside d := by
  simp only [State.beside, State.echoRec, hecho, hsource, hother]

theorem beside_of_fields {s t : State} (d : Dir) (hecho : t.echo = s.echo) (hflt : t.flt = s.flt) (hsys : t.sys = s.sys) :
    t.beside d = s.beside d := beside_of_parts hecho (fun n => by rw [hflt]) (dirRec_of_sys hsys d.other)

theorem raiseEvs_beside (s : State) (es : List Ev) (d : Dir) (h : ∀ e ∈ es, (32 * e.blk + e.src) / 32 ≠ 14) :
    (s.raiseEvs es).beside d = s.beside d :=
  beside_of_parts rfl (fun n => raiseEvs_source_ne s es 14 n (fun e he => by have := h e he; omega) (by unfold chained; omega)) rfl

theorem raise_beside (s : State) (b n : Nat) (u : Option Nat) (d : Dir) (h : (32 * b + n) / 32 ≠ 14) :
    (s.raise b n u).beside d = s.beside d := raiseEvs_beside s _ d (by simpa using h)

theorem raiseIf_beside (s : State) (c : Bool) (b n : Nat) (u : Option Nat) (d : Dir) (h : (32 * b + n) / 32 ≠ 14) :
    (s.raiseIf c b n u).beside d = s.beside d := by
  cases c
  · rfl
  · exact raise_beside s b n u d h

theorem peatMute_beside (s : State) (b src u : Nat) (d : Dir) : (s.peatMute b src u).beside d = s.beside d := by
  refine (raiseEvs_beside _ _ d fun e he => ?_).trans rfl
  have := Fx.peatClose_events _ _ _ _ e he
  omega

theorem setDir_beside (s : State) (d : Dir) (r : DirRec) : (s.setDir d r).beside d = s.beside d := by cases d <;> rfl

theorem setGovDir_beside (s : State) (d : Dir) (g : GovDir) : (s.setGovDir d g).beside d = s.beside d :=
  beside_of_fields d (setGovDir_echo s d g) (setGovDir_flt s d g) (setGovDir_sys s d g)

theorem signal_beside (s : State) (v : Nat) (d : Dir) : (s.signal v).beside d = s.beside d := by
  unfold State.signal
  split
  · rfl
  · split
    · exact (raise_beside _ 5 10 none d (by decide)).trans rfl
    · split
      · exact raise_beside s 5 10 none d (by decide)
      · split <;> rfl

theorem patStop_beside (s : State) (d : Dir) : (s.patStop d).beside d = s.beside d := by
  unfold State.patStop
  split
  · rfl
  · refine (signal_beside _ _ d).trans ?_
    cases d <;> rfl

theorem echoHold_beside (s : State) (d : Dir) : (s.echoHold d).beside d = s.beside d := by
  have hslot : ∀ (x : State) (n : Nat), (x.echoHoldSlot d n).beside d = x.beside d := fun x n => by
    have hest : ((x.echoHoldSlot d n).beside d).estimates = (x.beside d).estimates := funext₂ fun c m => by
      simp only [State.beside, State.echoHoldSlot, echoRec_setEcho]
      split
      next hkey => simp only [State.echoRec, hkey]
      next => rfl
    exact congrArg (fun e => { x.beside d with estimates := e }) hest
  exact foldl_keeps (fun x : State => x.beside d) _ _ hslot s

theorem abandonTrans_echo_flt (s : State) (d : Dir) : (s.abandonTrans d).echo = s.echo ∧ (s.abandonTrans d).flt = s.flt := by
  unfold State.abandonTrans
  split
  · exact ⟨rfl, rfl⟩
  next t _ =>
    extract_lets r s1 s2 s3
    have h1 : s1.echo = s.echo ∧ s1.flt = s.flt := ⟨setDir_echo s d _, setDir_flt s d _⟩
    have h3 : s3.echo = s1.echo ∧ s3.flt = s1.flt := by
      simp only [s3, s2]
      rw [reqEnd_eq]
      cases t.doorbell <;> exact ⟨rfl, rfl⟩
    have hend : s3.echo = s.echo ∧ s3.flt = s.flt := ⟨h3.1.trans h1.1, h3.2.trans h1.2⟩
    split
    · exact h1
    · split
      · exact hend
      · exact hend

theorem otherDir_ne (d : Dir) : d.other ≠ d := by cases d <;> decide

theorem abandonTrans_beside (s : State) (d : Dir) : (s.abandonTrans d).beside d = s.beside d := by
  obtain ⟨hecho, hflt⟩ := abandonTrans_echo_flt s d
  refine beside_of_parts hecho (fun n => by rw [hflt]) ?_
  cases htr : (s.dirRec d).trans with
  | none => rw [abandonTrans_of_none htr]
  | some t => exact abandonTrans_other htr (otherDir_ne d)

theorem record_beside (s : State) (fromCode toCode dir cause : Nat) (d : Dir) : (s.record fromCode toCode dir cause).beside d = s.beside d :=
  beside_of_fields d ((setSt_echo _ _ _).trans (setSt_echo s _ _)) ((setSt_flt _ _ _).trans (setSt_flt s _ _)) (record_sys s _ _ _ _)

theorem toMuted_beside (s : State) (d : Dir) : (s.toMuted d).beside d = s.beside d := by
  unfold State.toMuted
  extract_lets s1 from_ s2 r s3
  have h3 : s3.beside d = s.beside d :=
    (setDir_beside s2 d _).trans ((echoHold_beside _ d).trans ((patStop_beside s1 d).trans (abandonTrans_beside s d)))
  split
  · exact h3
  · exact (record_beside s3 _ _ _ _ d).trans h3

theorem capGovs_beside (s : State) (d : Dir) (gs : List Nat) : (gs.foldl (fun s g => s.capGov d g) s).beside d = s.beside d :=
  foldl_keeps (fun s : State => s.beside d) gs (fun s g => s.capGov d g) (fun _ _ => rfl) s

theorem bothMuted_beside (s0 s : State) (d : Dir) : (State.bothMuted s0 s).beside d = s.beside d :=
  raiseIf_beside s _ 0 13 none d (by decide)

/-! ### A mute by oscillation (R171, R192, R193) -/

/-- The record of a slot whose estimates are discarded. -/
def EchoRec.discard (r : EchoRec) : EchoRec :=
  { r with paths := [], cached := none, converged := false, result := false, blocks := 0, warm := false, iAir := 0, iEff := 0, credit := 0,
           sMax := 0, okPaths := 0, rhoEst := none, rhoFast := none, held := true, onAir := false, due := none }

theorem echoDiscard_eq (s : State) (d : Dir) :
    s.echoDiscard d = slotNums.foldl (fun s n => s.setEcho d n (s.echoRec d n).discard) s := rfl

theorem echoDiscard_offEcho (s : State) (d : Dir) : (s.echoDiscard d).offEcho = s.offEcho := by
  rw [echoDiscard_eq]
  exact setEchoes_offEcho d EchoRec.discard slotNums s

theorem echoDiscard_flt (s : State) (d : Dir) : (s.echoDiscard d).flt = s.flt := (parts_of_offEcho (echoDiscard_offEcho s d) d).1

theorem echoDiscard_sys (s : State) (d : Dir) : (s.echoDiscard d).sys = s.sys := (parts_of_offEcho (echoDiscard_offEcho s d) d).2.1

theorem echoDiscard_stage (s : State) (d : Dir) : (s.echoDiscard d).stage d = s.stage d :=
  (parts_of_offEcho (echoDiscard_offEcho s d) d).2.2

/-- Every estimate of the direction, running and cached, is discarded. -/
theorem echoDiscard_estimates (s : State) (d : Dir) (m : Fin 17) :
    ((s.echoDiscard d).echoRec d m).paths = [] ∧ ((s.echoDiscard d).echoRec d m).cached = none := by
  rw [echoDiscard_eq, echoRec_slots d EchoRec.discard s d m, if_pos rfl]
  exact ⟨rfl, rfl⟩

/-- An oscillation has been counted by the governor, its estimates are discarded, and the next start is cold. -/
def State.oscCleared (s : State) (d : Dir) : State :=
  let x := (s.raise (15 + d.num) 16 (some 16)).echoDiscard d
  x.setDir d { x.dirRec d with cold := true }

/-- And the direction is muted, with its governors at their caps. -/
def State.oscCapped (s : State) (d : Dir) : State :=
  let g := (s.oscCleared d).govDir d
  let x := (s.oscCleared d).setGovDir d { g with mute := some .oscillation, count := satAdd 65535 g.count 1 }
  (x.govsOn d).foldl (fun x g => x.capGov d g) x

theorem oscCleared_dirMuted (s : State) (d : Dir) : (s.oscCleared d).dirMuted d = s.dirMuted d :=
  dirMuted_of_aside ((setDir_aside _ d _).trans ((echoDiscard_aside _ d).trans
    (raise_aside s _ 16 (some 16) (dirSource_ne_allLate d .oscillation)))) d

theorem transmits_setDir_cold (s : State) (d : Dir) (cold : Bool) :
    (s.setDir d { s.dirRec d with cold := cold }).transmits d = s.transmits d := by cases d <;> rfl

theorem oscCapped_transmits (s : State) (d : Dir) : (s.oscCapped d).transmits d = s.transmits d :=
  (transmits_of_stage ((capGovs_stage _ d d _).trans (setGovDir_stage _ d d _))).trans ((transmits_setDir_cold _ d true).trans
    (transmits_of_stage ((echoDiscard_stage _ d).trans (raise_stage s _ 16 _ d))))

theorem oscCapped_beside (s : State) (d : Dir) :
    (s.oscCapped d).beside d = ((s.raise (15 + d.num) 16 (some 16)).echoDiscard d).beside d :=
  (capGovs_beside _ d _).trans ((setGovDir_beside _ d _).trans (setDir_beside _ d _))

section
variable {s : State} {d : Dir} (hfree : s.dirMuted d = false) (htransmits : s.transmits d = true)
include hfree htransmits

theorem muteDir_oscillation : s.muteDir d .oscillation =
    State.bothMuted s (((s.oscCapped d).toMuted d).peatMute (15 + d.num) MuteCause.oscillation.dirSource 16) := by
  have hcleared : ¬(s.oscCleared d).dirMuted d = true := by rw [oscCleared_dirMuted, hfree]; decide
  have hcapped : (s.oscCapped d).transmits d = true := (oscCapped_transmits s d).trans htransmits
  unfold State.muteDir
  extract_lets b s1 sOsc r s2 g s3 sCap s4
  have h4 : s4 = (s.oscCapped d).toMuted d := if_pos hcapped
  rw [← h4]
  exact if_neg hcleared

theorem muteDir_oscillation_dirSt : (s.muteDir d .oscillation).dirSt d = .muted := by
  rw [muteDir_oscillation hfree htransmits]
  refine (congrArg DirRec.st (dirRec_of_sys ((bothMuted_sys s _).trans (peatMute_sys _ _ _ _)) d)).trans ?_
  exact toMuted_dirSt (s.oscCapped d) d

theorem muteDir_oscillation_beside :
    (s.muteDir d .oscillation).beside d = ((s.raise (15 + d.num) 16 (some 16)).echoDiscard d).beside d := by
  rw [muteDir_oscillation hfree htransmits, bothMuted_beside, peatMute_beside, toMuted_beside, oscCapped_beside]

theorem muteDir_oscillation_source {n : Nat} (hn : n < 32) : (s.muteDir d .oscillation).flt.source 14 n = s.flt.source 14 n := by
  rw [source_of_beside (muteDir_oscillation_beside hfree htransmits) hn, echoDiscard_flt]
  exact source_of_beside (raise_beside s _ 16 _ d (by omega)) hn

theorem muteDir_oscillation_estimates (m : Fin 17) : ((s.muteDir d .oscillation).echoRec d m).paths = [] ∧
    ((s.muteDir d .oscillation).echoRec d m).cached = none := by
  obtain ⟨hpaths, hcached⟩ := estimates_of_beside (muteDir_oscillation_beside hfree htransmits) d m
  rw [hpaths, hcached]
  exact echoDiscard_estimates _ d m

theorem muteDir_oscillation_other : (s.muteDir d .oscillation).dirRec d.other = s.dirRec d.other :=
  (congrArg Beside.other (muteDir_oscillation_beside hfree htransmits)).trans
    (dirRec_of_sys ((echoDiscard_sys _ d).trans (raise_sys s _ 16 _)) d.other)

end

/-! ### An oscillation (R171) -/

/-- The direction has become MUTED without any estimate, and its ECHO source, src for the downlink and src + 1 for the uplink, has counted. -/
def Silenced (d : Dir) (src : Nat) (s t : State) : Prop :=
  Counts 14 (src + d.num) s t ∧ t.dirSt d = .muted ∧ ∀ m : Fin 17, (t.echoRec d m).paths = [] ∧ (t.echoRec d m).cached = none

/-- A detection in its registers and in the governor's note. -/
def State.oscNoted (s : State) (d : Dir) (n crit path : Nat) (rho : Int) : State :=
  let x := (s.oscStat d n crit path rho).bumpF Reg.ECHO_OSC_COUNT (16 * d.num) 16 1
  x.setGovDir d { x.govDir d with estOscAt := if crit = 1 then some x.now else none }

/-- And counted, before the direction is muted. -/
def State.oscCounted (s : State) (d : Dir) (n crit path : Nat) (rho : Int) : State :=
  (s.oscNoted d n crit path rho).raise 14 (2 * crit + d.num)

theorem oscStat_aside (s : State) (d : Dir) (n crit path : Nat) (rho : Int) : (s.oscStat d n crit path rho).aside = s.aside := rfl

theorem oscNoted_dirMuted (s : State) (d : Dir) (n crit path : Nat) (rho : Int) :
    (s.oscNoted d n crit path rho).dirMuted d = s.dirMuted d := by
  unfold State.oscNoted
  extract_lets x
  have hx : x.dirMuted d = s.dirMuted d := dirMuted_of_aside ((bumpF_aside _ _ _ _ _).trans (oscStat_aside s d n crit path rho)) d
  rw [State.dirMuted, govDir_setGovDir, if_pos rfl]
  exact hx

section
variable (s : State) (d : Dir) (n crit path : Nat) (rho : Int)

theorem oscCounted_stage : (s.oscCounted d n crit path rho).stage d = s.stage d :=
  (raise_stage _ 14 _ none d).trans ((setGovDir_stage _ d d _).trans rfl)

theorem oscCounted_sys : (s.oscCounted d n crit path rho).sys = s.sys := (raise_sys _ 14 _ none).trans (setGovDir_sys _ d _)

variable {crit} (hcrit : crit < 2)
include hcrit

theorem oscCounted_counts : Counts 14 (2 * crit + d.num) s (s.oscCounted d n crit path rho) :=
  raise_counts_echo _ (by have := dirNum_lt d; omega) (setGovDir_flt _ d _)

theorem oscCounted_dirMuted : (s.oscCounted d n crit path rho).dirMuted d = s.dirMuted d :=
  (dirMuted_of_aside (raise_aside _ 14 _ none (by have := dirNum_lt d; omega)) d).trans (oscNoted_dirMuted s d n crit path rho)

end

section
variable {s : State} {d : Dir} (n : Nat) {crit : Nat} (path : Nat) (rho : Int)
  (hcrit : crit < 2) (hfree : s.dirMuted d = false) (htransmits : s.transmits d = true)
include hfree htransmits

theorem oscillation_of_free :
    s.oscillation d n crit path rho = (s.oscCounted d n crit path rho).muteDir d .oscillation := if_neg (by simp [hfree, htransmits])

theorem oscillation_mutes : (s.oscillation d n crit path rho).dirMuted d = true := by
  rw [oscillation_of_free n path rho hfree htransmits, dirMuted_muteDir]
  simp

include hcrit in
theorem oscillation_silences : Silenced d (2 * crit) s (s.oscillation d n crit path rho) ∧
    (s.oscillation d n crit path rho).dirRec d.other = s.dirRec d.other := by
  have hmuted := (oscCounted_dirMuted s d n path rho hcrit).trans hfree
  have htrans := (transmits_of_stage (oscCounted_stage s d n crit path rho)).trans htransmits
  have hcount := oscCounted_counts s d n path rho hcrit
  rw [Counts, ← muteDir_oscillation_source hmuted htrans (by have := dirNum_lt d; omega)] at hcount
  rw [oscillation_of_free n path rho hfree htransmits]
  exact ⟨⟨hcount, muteDir_oscillation_dirSt hmuted htrans, muteDir_oscillation_estimates hmuted htrans⟩,
    (muteDir_oscillation_other hmuted htrans).trans (dirRec_of_sys (oscCounted_sys s d n crit path rho) d.other)⟩

end

/-! ### The criteria (R170) -/

/-- One evaluation of criterion crit: slot n of direction d shows its value rho in its record r, and a value above −6 dB is an oscillation. -/
def State.loopTest (s : State) (d : Dir) (n : Nat) (r : EchoRec) (crit path : Nat) (rho : Int) : State :=
  if -600 < rho then (s.setEcho d n r).oscillation d n crit path rho else s.setEcho d n r

/-- What an evaluation of criterion crit leaves, in a direction that transmits and is not muted: a value of at most −6 dB in the record, or a
direction that is silenced. -/
theorem loopTest_outcome {s : State} {d : Dir} (n : Nat) (r : EchoRec) {crit : Nat} (path : Nat) (rho : Int) (hcrit : crit < 2)
    (hfree : s.dirMuted d = false) (htransmits : s.transmits d = true) : let t := s.loopTest d n r crit path rho
    (t.dirMuted d = false → t.echoRec d n = r ∧ rho ≤ -600) ∧ (t.dirMuted d = true → Silenced d (2 * crit) s t) ∧
      t.base = s.base ∧ t.dirRec d.other = s.dirRec d.other := by
  have hfree' : (s.setEcho d n r).dirMuted d = false := hfree
  have htransmits' : (s.setEcho d n r).transmits d = true := htransmits
  dsimp only [State.loopTest]
  split
  next hover =>
    have hmutes := oscillation_mutes n path rho (crit := crit) hfree' htransmits'
    obtain ⟨hsilenced, hother⟩ := oscillation_silences n path rho hcrit hfree' htransmits'
    exact ⟨fun h => absurd (hmutes.symm.trans h) (by decide), fun _ => hsilenced, oscillation_base _ d n crit path rho, hother⟩
  next hunder =>
    exact ⟨fun _ => ⟨echoRec_setEcho_same s d n r, by omega⟩, fun h => absurd (hfree'.symm.trans h) (by decide), rfl, rfl⟩

theorem estTest_eq_loopTest {s : State} {d : Dir} {n : Nat} (hresult : (s.echoRec d n).result = true) (hair : s.onAir d = true)
    (hfree : s.dirMuted d = false) :
    ∃ path rho, s.estTest d n = s.loopTest d n { s.echoRec d n with rhoEst := some rho } 1 path rho :=
  ⟨_, _, if_neg (by simp [hresult, hair, hfree])⟩

theorem transmits_of_onAir {s : State} {d : Dir} (h : s.onAir d = true) : s.transmits d = true := by
  cases hst : s.dirSt d with
  | cautious | full | muted => simp only [State.transmits, hst]
  | standby | listen | shutdown => simp only [State.onAir, hst, Bool.false_eq_true] at h
  | playback =>
    have hpattern : (s.playing d).elim false (fun pb => s.patTransmit pb.pattern) = true := by
      rw [← h, State.onAir, hst]
      cases s.playing d <;> rfl
    rw [← hpattern, State.transmits, hst]
    cases s.playing d <;> rfl

theorem air_of_correlates {s : State} {d : Dir} {n : Nat} (h : s.correlates d n = true) : s.onAir d = true ∧ s.dirMuted d = false := by
  simp only [State.correlates, Bool.and_eq_true, Bool.not_eq_true'] at h
  tauto

theorem justOscillated_of_free {s : State} {d : Dir} (h : s.dirMuted d = false) : s.justOscillated d = false := by
  have hmute : (s.govDir d).mute = none := Option.isNone_iff_eq_none.mp (by simpa [State.dirMuted] using h)
  simp [State.justOscillated, hmute]

theorem oscFastEval_of_idle {s : State} {k : Fin 34} (b : FastIn)
    (h : (s.correlates (keyDir k) (keySlot k) = false ∧ s.justOscillated (keyDir k) = false) ∨ 2 * b.included < s.oscWin) :
    oscFastEval k b s = s := if_pos (by
  rcases h with ⟨hsilent, hjust⟩ | hshort
  · simp [hsilent, hjust]
  · simp [hshort])

theorem oscFastEval_eq_loopTest {s : State} {k : Fin 34} (b : FastIn) (hruns : s.correlates (keyDir k) (keySlot k) = true)
    (hfull : s.oscWin ≤ 2 * b.included) : ∃ path rho, oscFastEval k b s =
      s.loopTest (keyDir k) (keySlot k) { s.echoRec (keyDir k) (keySlot k) with rhoFast := some rho } 0 path rho := by
  have hjust := justOscillated_of_free (air_of_correlates hruns).2
  exact ⟨_, _, (if_neg (by simp [hruns, hfull])).trans (if_neg (by simp [hjust]))⟩

end Sys2Proof.Machine

open Sys2Proof Sys2Proof.Machine

/-- Settles O37: each test of the loop gain is one evaluation (`loopTest_outcome`), which either leaves its value or mutes by oscillation; a
block waits in its slot's record until it takes effect there (`blockEffect_blockOf`). -/
theorem estimationCommands : Obligations.EstimationCommands := by
  unfold Obligations.EstimationCommands
  intro s k d n discarded
  refine ⟨fun b hruns hfew => ?_, fun b hruns hmany => ?_, fun hdue => ?_, fun hresult hair htransmits hfree => ?_, fun b hruns hfull => ?_,
    fun b hsilent => ⟨_, rfl, correlatorBlockEnd_of_silent b hsilent⟩, fun b hidle => ⟨_, rfl, oscFastEval_of_idle b hidle⟩,
    fun v hup => ⟨_, rfl, estClr_clears v hup⟩⟩
  · refine ⟨_, rfl, ?_⟩
    rw [correlatorBlockEnd_of_correlates b hruns, if_pos hfew]
    exact ⟨raise_counts_echo _ (by have := dirNum_lt d; omega) rfl, raise_onlyCounts s 14 _ none⟩
  · refine ⟨_, rfl, ?_⟩
    rw [correlatorBlockEnd_of_correlates b hruns, if_neg (Nat.not_lt.mpr hmany)]
    exact ⟨rfl, echoRec_setEcho_same s d n _, fun c m hne => (echoRec_setEcho s d c n m _).trans (if_neg hne)⟩
  · exact Prod.ext_iff.mp (blockEffect_blockOf hdue)
  · obtain ⟨path, rho, heq⟩ := estTest_eq_loopTest hresult hair hfree
    obtain ⟨hunder, hover, -, -⟩ := loopTest_outcome n { s.echoRec d n with rhoEst := some rho } path rho (crit := 1) (by decide) hfree htransmits
    rw [← heq] at hunder hover
    exact ⟨fun h => ⟨rho, hunder h⟩, hover⟩
  · refine ⟨_, rfl, ?_⟩
    obtain ⟨hair, hfree⟩ := air_of_correlates hruns
    obtain ⟨path, rho, heq⟩ := oscFastEval_eq_loopTest b hruns hfull
    obtain ⟨hunder, hover, hbase, hother⟩ := loopTest_outcome n { s.echoRec d n with rhoFast := some rho } path rho (crit := 0) (by decide)
      hfree (transmits_of_onAir hair)
    rw [← heq] at hunder hover hbase hother
    exact ⟨power_of_base hbase, cfg_of_base hbase, now_of_base hbase, hother, fun h => ⟨rho, hunder h⟩, hover⟩
end

section
/-! SUPPORT. The fast cut (R188): the gain that it cuts to, what replaces the ramp, and the statement about FAST_CUT. -/

namespace Sys2Proof.Machine

/-! ### The least of a list of gains -/

theorem foldl_maxI_le_iff (l : List Int) (x c : Int) : l.foldl maxI x ≤ c ↔ ∀ y ∈ x :: l, y ≤ c := by
  induction l generalizing x with
  | nil => simp
  | cons z l ih =>
    have hmax : maxI x z ≤ c ↔ x ≤ c ∧ z ≤ c := by unfold maxI; split <;> omega
    rw [List.foldl_cons, ih]
    simp only [List.forall_mem_cons, hmax, and_assoc]

theorem foldl_maxI_mem (l : List Int) (x : Int) : l.foldl maxI x ∈ x :: l := by
  induction l generalizing x with
  | nil => exact List.mem_singleton_self x
  | cons z l ih =>
    have hmax : maxI x z = x ∨ maxI x z = z := by unfold maxI; split <;> simp
    have := ih (maxI x z)
    rw [List.foldl_cons]
    grind

/-- The least of a list that is not empty: a lower bound of its members, and one of them. -/
theorem minOver_least {l : List Nat} (hl : l ≠ []) (f : Nat → Int) (c : Int) :
    (∀ t ∈ l, minOver l f c ≤ f t) ∧ ∃ t ∈ l, minOver l f c = f t := by
  obtain ⟨x, l, rfl⟩ := List.exists_cons_of_ne_nil hl
  have hbound := (foldl_maxI_le_iff (l.map fun t => -f t) (-f x) _).mp le_rfl
  have hmem := foldl_maxI_mem (l.map fun t => -f t) (-f x)
  rw [← List.map_cons (f := fun t => -f t)] at hbound hmem
  refine ⟨fun t ht => ?_, ?_⟩
  · exact neg_le.mp (hbound _ (List.mem_map_of_mem ht))
  · obtain ⟨t, ht, heq⟩ := List.mem_map.mp hmem
    exact ⟨t, ht, neg_eq_iff_eq_neg.mpr heq.symm⟩

theorem minOver_lt_iff {l : List Nat} (hl : l ≠ []) (f : Nat → Int) (c top : Int) : minOver l f c < top ↔ ∃ t ∈ l, f t < top := by
  obtain ⟨hbound, t, ht, heq⟩ := minOver_least hl f c
  exact ⟨fun h => ⟨t, ht, heq ▸ h⟩, fun ⟨u, hu, h⟩ => (hbound u hu).trans_lt h⟩

theorem txBr_ne_nil (s : State) (d : Dir) : s.txBr d ≠ [] := by
  unfold State.txBr txBranches
  split <;> decide

/-! ### When a block cuts -/

/-- A completed block: the sample after it, its PIN and flag in each branch. -/
structure CutBlock where
  i0 : Nat
  pin0 : Int
  pin1 : Int
  flagged : BitVec 2

/-- A branch's PIN, before and after the over-range flag is heard. -/
def CutBlock.raw (b : CutBlock) (t : Nat) : Int := if t = 0 then b.pin0 else b.pin1
def CutBlock.pin (b : CutBlock) (t : Nat) : Int := if b.flagged.getLsbD t = true ∧ -600 < b.raw t then 0 else b.raw t

/-- The trim of a branch at the latest boundary. -/
def State.cutTrim (s : State) (d : Dir) (n t : Nat) : Int := if t = 0 then (s.slotRec d n).trimNow.1 else (s.slotRec d n).trimNow.2

/-- The gain with which branch t's block stands at L2_eff. -/
def State.cutTop (s : State) (d : Dir) (n : Nat) (b : CutBlock) (t : Nat) : Int :=
  s.l2Eff d (govOf n) t - b.pin t - s.cutTrim d n t - s.gTx d t

def State.cutMargin (s : State) (d : Dir) : Int := bitsAt (s.rd (Reg.GOV_FAST_CFG d)) 0 16

/-- The slot sample at which a cut would start. -/
def State.cutAt (s : State) (d : Dir) (n : Nat) (b : CutBlock) : Int := min (b.i0 : Int) (s.tickLen d n - 1)

/-- The fast cut is enabled, and so is the slot. -/
def State.cutOn (s : State) (d : Dir) (n : Nat) : Prop := s.slotEn d n = true ∧ bitAt (s.rd (Reg.GOV_FAST_CFG d)) 16 = true

/-- The block is critical in some transmit branch. -/
def State.cutCritical (s : State) (d : Dir) (n : Nat) (b : CutBlock) : Prop := ∃ t, t ∈ s.txBr d ∧
  ((s.cutTop d n b t + s.cutMargin d) * gainUnit < (s.slotRec d n).ramp.at_ (s.cutAt d n b) ∨
    (b.flagged.getLsbD t = true ∧ -600 < b.raw t))

/-- The ramp's goal passes L2_eff in some transmit branch. -/
def State.cutTooHigh (s : State) (d : Dir) (n : Nat) (b : CutBlock) : Prop :=
  ∃ t, t ∈ s.txBr d ∧ s.cutTop d n b t < (s.slotRec d n).ramp.goal

/-- The largest gain that keeps every transmit branch at L2_eff. -/
def State.cutGain (s : State) (d : Dir) (n : Nat) (b : CutBlock) : Int := minOver (s.txBr d) (s.cutTop d n b) 0

theorem blockPin_eq (b : CutBlock) (t : Nat) : blockPin (b.raw t) (b.flagged.getLsbD t) = b.pin t := by
  simp [blockPin, CutBlock.pin]

section
variable {s : State} {d : Dir} {n : Fin 17} (b : CutBlock)

theorem fastCut_of_off (h : ¬s.cutOn d n) : fastCut d n b.i0 b.pin0 b.pin1 b.flagged s = s := by
  refine if_pos ?_
  simp only [State.cutOn, not_and, Bool.not_eq_true] at h
  cases hen : s.slotEn d n with
  | false => simp
  | true => simp [h hen]

theorem cutTop_eq (s : State) (d : Dir) (n : Nat) : s.cutTop d n b = fun t =>
    s.l2Eff d (govOf n) t - blockPin (b.raw t) (b.flagged.getLsbD t) - s.cutTrim d n t - s.gTx d t :=
  funext fun t => by rw [State.cutTop, blockPin_eq]

theorem cutCritical_iff (s : State) (d : Dir) (n : Nat) : s.cutCritical d n b ↔ (s.txBr d).any (fun t =>
    decide ((s.l2Eff d (govOf n) t + s.cutMargin d - blockPin (b.raw t) (b.flagged.getLsbD t) - s.cutTrim d n t - s.gTx d t) * gainUnit <
      (s.slotRec d n).ramp.at_ (s.cutAt d n b)) || (b.flagged.getLsbD t && decide (-600 < b.raw t))) = true := by
  simp only [List.any_eq_true, Bool.or_eq_true, decide_eq_true_eq, Bool.and_eq_true, State.cutCritical, cutTop_eq]
  refine exists_congr fun t => and_congr_right fun _ => or_congr_left ?_
  rw [show ∀ l p r g m : Int, l - p - r - g + m = l + m - p - r - g by intros; ring]

theorem cutTooHigh_iff (s : State) (d : Dir) (n : Nat) : s.cutTooHigh d n b ↔ s.cutGain d n b < (s.slotRec d n).ramp.goal :=
  (minOver_lt_iff (txBr_ne_nil s d) _ _ _).symm

/-- While the fast cut is enabled, a critical block cuts where a branch would stand above L2_eff at the ramp's goal. -/
theorem fastCut_of_on (hup : s.isUp = true) (h : s.cutOn d n) [Decidable (s.cutCritical d n b ∧ s.cutTooHigh d n b)] :
    fastCut d n b.i0 b.pin0 b.pin1 b.flagged s =
      if s.cutCritical d n b ∧ s.cutTooHigh d n b then s.cutTo d n (s.cutAt d n b) (s.cutGain d n b) else s := by
  obtain ⟨hen, hbit⟩ := h
  refine (if_neg (by simp [hup, hen, hbit])).trans (if_congr ?_ (by rw [State.cutGain, cutTop_eq]; rfl) rfl)
  rw [cutTooHigh_iff, cutCritical_iff, Bool.and_eq_true, decide_eq_true_eq, State.cutGain, cutTop_eq]
  rfl

end

/-! ### The cut -/

/-- The state but for slots, governors and what `uncounted` leaves out, slots and governors being s's. -/
def State.cutRest (s x : State) : State × (BogState × TwbState) := State.uncounted { x with slots := s.slots, gov := s.gov }

theorem onlyStatusCounts_of_cutRest {A : List Nat} {s x : State} (h : s.cutRest x = s.uncounted) (hst : ∀ a, a ∉ A → x.st a = s.st a) :
    OnlyStatusCounts A s { x with slots := s.slots, gov := s.gov } := onlyStatusCounts_of_uncounted h hst

theorem cutRest_raise (s x : State) (b n : Nat) : s.cutRest (x.raise b n) = s.cutRest x := Prod.ext rfl (raiseEvs_fixed x _)

theorem cutRest_bump (s x : State) (a k : Nat) : s.cutRest (x.bump a k) = s.cutRest x := rfl

/-- A clamp that is counted, after a change of slots and governors. -/
theorem clampNote_onlyStatusCounts (s : State) (d : Dir) (l : NMap SlotRec) (g : NMap GovRec) :
    OnlyStatusCounts [Reg.CHAN_GAIN_CLAMP_COUNT d] s
      { State.clampNote { s with slots := l, gov := g } d with slots := s.slots, gov := s.gov } := by
  let x : State := { s with slots := l, gov := g }
  have hrest : s.cutRest (x.clampNote d) = s.cutRest x := (cutRest_raise s _ _ _).trans (cutRest_bump s x _ _)
  have hself : s.cutRest x = s.uncounted := rfl
  exact onlyStatusCounts_of_cutRest (x := x.clampNote d) (hrest.trans hself) fun _ ha => st_bump_ne x 1 (by simpa using ha)

/-- The cut changes the ramp, what it was cut to, and the governor's note; a gain out of the multiplier's range may count once more. -/
theorem cutTo_outcome (s : State) (d : Dir) (n : Nat) (i0 cut : Int) : ∃ (l : NMap SlotRec) (g : NMap GovRec),
    let x : State := { s with slots := l, gov := g }
    (s.cutTo d n i0 cut = x ∨ s.cutTo d n i0 cut = x.clampNote d) ∧
    (x.slotRec d n).ramp = (s.slotRec d n).ramp.cutTo i0 (s.tickLen d n) cut ∧ (x.slotRec d n).cut = some cut ∧
    (∀ m, m ≠ n → x.slotRec d m = s.slotRec d m) ∧ (x.govRec d (govOf n)).fastCut = true := by
  unfold State.cutTo
  extract_lets r ns s1 note s2 counted r2 s3
  have hrec : s2.slotRec d n = { r with ramp := r.ramp.cutTo i0 ns cut, cut := some cut } := slotRec_setSlot_same s d n _
  have hother : ∀ m, m ≠ n → s2.slotRec d m = s.slotRec d m := fun m hm => (slotRec_setSlot s d n m _).trans (if_neg hm)
  have hgov : (s2.govRec d (govOf n)).fastCut = true := congrArg GovRec.fastCut (govRec_setGov_same s1 d (govOf n) _)
  split
  · have hrec3 : s3.slotRec d n = { r2 with clamped := true } := slotRec_setSlot_same s2 d n _
    refine ⟨s3.slots, s3.gov, ?_, (congrArg SlotRec.ramp hrec3).trans (congrArg SlotRec.ramp hrec),
      (congrArg SlotRec.cut hrec3).trans (congrArg SlotRec.cut hrec),
      fun m hm => (slotRec_setSlot s2 d n m _).trans ((if_neg hm).trans (hother m hm)), hgov⟩
    split
    · exact .inl rfl
    · exact .inr rfl
  · exact ⟨s2.slots, s2.gov, .inl rfl, congrArg SlotRec.ramp hrec, congrArg SlotRec.cut hrec, hother, hgov⟩

/-- The ramp has been replaced by one that cuts to the gain c. -/
def CutTaken (d : Dir) (n : Fin 17) (i0 c : Int) (s u : State) : Prop :=
  let r := s.slotRec d n
  let q := (u.slotRec d n).ramp
  let ns : Int := s.tickLen d n
  q.goal = c ∧ (u.slotRec d n).cut = some q.goal ∧ q.base = r.ramp.at_ i0 ∧ q.start = i0 ∧
    q.stop = (if ns ≤ 8 * (ns - i0) then ns - 1 else 2 * ns - 1) ∧
    (u.govRec d (govOf n)).fastCut = true ∧ (∀ m : Fin 17, m ≠ n → u.slotRec d m = s.slotRec d m) ∧
    OnlyStatusCounts [Reg.CHAN_GAIN_CLAMP_COUNT d] s { u with slots := s.slots, gov := s.gov }

theorem cutTo_taken (s : State) (d : Dir) (n : Fin 17) (i0 cut : Int) : CutTaken d n i0 cut s (s.cutTo d n i0 cut) := by
  obtain ⟨l, g, heq, hramp, hcut, hother, hgov⟩ := cutTo_outcome s d n i0 cut
  have htaken : ∀ u : State, u.slots = l → u.gov = g →
      OnlyStatusCounts [Reg.CHAN_GAIN_CLAMP_COUNT d] s { u with slots := s.slots, gov := s.gov } → CutTaken d n i0 cut s u := by
    rintro u rfl rfl hframe
    have hgoal := congrArg Ramp.goal hramp
    exact ⟨hgoal, hcut.trans (congrArg some hgoal.symm), congrArg Ramp.base hramp, congrArg Ramp.start hramp, congrArg Ramp.stop hramp, hgov,
      fun m hm => hother m (Fin.val_ne_of_ne hm), hframe⟩
  rcases heq with heq | heq
  · exact heq ▸ htaken _ rfl rfl ⟨rfl, countParts_refl s, fun _ _ => rfl⟩
  · exact heq ▸ htaken _ rfl rfl (clampNote_onlyStatusCounts s d l g)

end Sys2Proof.Machine

open Sys2Proof Sys2Proof.Machine

/-- Settles O36: a critical block above its limits replaces the ramp (`cutTo_taken`), the goal being the least of the branches' gains at
L2_eff (`minOver_least`); any other block leaves the state (`fastCut_of_off`, `fastCut_of_on`). -/
theorem fastCutActs : Obligations.FastCutActs := by
  unfold Obligations.FastCutActs
  intro s d n i0 pin0 pin1 flagged hup
  classical
  let b : CutBlock := { i0 := i0, pin0 := pin0, pin1 := pin1, flagged := flagged }
  refine ⟨fun hon hcrit hhigh => ⟨_, rfl, ?_⟩, fun hnot => ⟨_, rfl, ?_⟩⟩
  · obtain ⟨hgoal, hrest⟩ := cutTo_taken s d n (s.cutAt d n b) (s.cutGain d n b)
    obtain ⟨hbound, t, ht, heq⟩ := minOver_least (txBr_ne_nil s d) (s.cutTop d n b) 0
    rw [show fastCut d n i0 pin0 pin1 flagged s = _ from (fastCut_of_on b hup hon).trans (if_pos ⟨hcrit, hhigh⟩)]
    exact ⟨fun t ht => hgoal.trans_le (hbound t ht), ⟨t, ht, hgoal.trans heq⟩, hrest⟩
  · by_cases hon : s.cutOn d n
    · refine (fastCut_of_on b hup hon).trans (if_neg fun ⟨hcrit, hhigh⟩ => ?_)
      rcases hnot with h | h | h
      · exact h hon
      · exact h hcrit
      · exact h hhigh
    · exact fastCut_of_off b hon
end

section
/-! SUPPORT. The writes of the governors' registers (R198): what the protection of service answers to each, what a stored and what a refused
write leave, and the statement about GOV_WRITE. -/

namespace Sys2Proof.Machine

/-! ### WRITE_STATUS -/

/-- What WRITE_STATUS shows of a write with result r. -/
def govStatus (w : GovReg) (g r : Nat) : Nat := r + 4 * govRegShown w g + 256 * govRegNum w

/-- The state in which WRITE_STATUS shows the write. -/
def State.govShown (s : State) (d : Dir) (w : GovReg) (g r : Nat) : State := s.setSt (Reg.GOV_WRITE_STATUS d) (govStatus w g r)

theorem govStatus_lt (w : GovReg) (g : Fin 16) {r : Nat} (h : r < 4) : govStatus w g r < 2 ^ 32 := by
  have hg : govRegShown w g ≤ g := by unfold govRegShown; split <;> omega
  have hw : govRegNum w ≤ 8 := by cases w <;> decide
  unfold govStatus
  omega

theorem govShown_st_same (s : State) (d : Dir) (w : GovReg) (g : Fin 16) {r : Nat} (h : r < 4) :
    (s.govShown d w g r).st (Reg.GOV_WRITE_STATUS d) = govStatus w g r :=
  (st_setSt_same _ _ _).trans (Nat.mod_eq_of_lt (govStatus_lt w g h))

theorem govShown_onlyStatus (s : State) (d : Dir) (w : GovReg) (g r : Nat) : OnlyStatus [Reg.GOV_WRITE_STATUS d] s (s.govShown d w g r) :=
  setSt_onlyStatus s _ _

/-! ### A stored write -/

theorem wrc_eq (s : State) (a n : Nat) :
    s.wrc a n = { s with cfg := (s.wr a n).cfg, sys := { s.sys with check := (s.wrc a n).sys.check } } := by
  have htouch : ∀ x : State, x.touch = { x with sys := { x.sys with check := x.touch.sys.check } } := fun x => by
    unfold State.touch
    split <;> rfl
  unfold State.wrc
  dsimp only
  split
  · exact htouch _
  · rfl

/-- A write from outside stores its value, after a change of status registers. -/
theorem wrc_stores {A : List Nat} {s x : State} (a : Nat) (v : Word) (h : OnlyStatus A s x) : Stores a v A s (x.wrc a v.toNat) := by
  obtain ⟨heq, hst⟩ := h
  refine ⟨?_, fun b hb => (st_of_sts (wrc_sts x a v.toNat) b).trans (hst b hb)⟩
  rw [wrc_eq, heq]
  rfl

theorem govStore_stores (s : State) (d : Dir) (w : GovReg) (g : Fin 16) (v : Word) :
    let t := (s.govShown d w g 0).wrc (govRegAddr d w g) v.toNat
    Stores (govRegAddr d w g) v [Reg.GOV_WRITE_STATUS d] s t ∧ t.st (Reg.GOV_WRITE_STATUS d) = govStatus w g 0 :=
  ⟨wrc_stores _ v (govShown_onlyStatus s d w g 0), (st_of_sts (wrc_sts _ _ _) _).trans (govShown_st_same s d w g (by decide))⟩

/-! ### A refused write -/

/-- The state after a refused write of a governor's register. -/
def State.govRefuse (s : State) (d : Dir) (w : GovReg) (r : Nat) : State :=
  if r = 3 ∧ w = .target then (s.raise (15 + d.num) 25).lockActs 2 d.num 3 else s.raise (15 + d.num) 25

/-- The write is refused: its result shows, its source counts, and nothing else has changed but what the lock page's consumers have acted
on. -/
def GovRefuses (d : Dir) (w : GovReg) (g r : Nat) (s t : State) : Prop :=
  t.st (Reg.GOV_WRITE_STATUS d) = govStatus w g r ∧ Counts (15 + d.num) 25 s t ∧
  OnlyStatusCounts [Reg.GOV_WRITE_STATUS d] s { t with lock := s.lock }

theorem govRefuse_keeps {β : Type} (p : State → β) (hlock : ∀ s l, p { s with lock := l } = p s) (hraise : ∀ s, p (s.raise 22 13) = p s)
    (s : State) (d : Dir) (w : GovReg) (r : Nat) : p (s.govRefuse d w r) = p (s.raise (15 + d.num) 25) := by
  unfold State.govRefuse
  split
  · exact lockActs_keeps p hlock hraise _ 2 d.num 3
  · rfl

theorem govRefuse_sts (s : State) (d : Dir) (w : GovReg) (r : Nat) : (s.govRefuse d w r).sts = s.sts :=
  govRefuse_keeps State.sts (fun _ _ => rfl) (fun _ => rfl) s d w r

theorem govRefuse_counts {s x : State} (d : Dir) (w : GovReg) (r : Nat) (h : x.flt = s.flt) : Counts (15 + d.num) 25 s (x.govRefuse d w r) := by
  have hd := dirNum_lt d
  have hc : ¬chained (32 * (15 + d.num) + 25) := by unfold chained; omega
  have hkeep : ∀ y : State, (y.raise 22 13).flt.source (15 + d.num) 25 = y.flt.source (15 + d.num) 25 :=
    fun y => raise_source_ne y _ _ 22 13 none hc (by omega)
  have hsource := govRefuse_keeps (fun y => y.flt.source (15 + d.num) 25) (fun _ _ => rfl) hkeep x d w r
  have hcount := raise_counts_of_flt (15 + d.num) 25 none hc (by simp; omega) h
  rwa [Counts, hsource]

theorem uncounted_govRefuse (s x : State) (d : Dir) (w : GovReg) (r : Nat) :
    State.uncounted { x.govRefuse d w r with lock := s.lock } = State.uncounted { x with lock := s.lock } :=
  have hraise : ∀ (y : State) b n, State.uncounted { y.raise b n with lock := s.lock } = State.uncounted { y with lock := s.lock } :=
    fun y _ _ => Prod.ext rfl (raiseEvs_fixed y _)
  (govRefuse_keeps (fun y => State.uncounted { y with lock := s.lock }) (fun _ _ => rfl) (fun y => hraise y 22 13) x d w r).trans
    (hraise x _ _)

theorem uncounted_setSt (s : State) (a n : Nat) : State.uncounted { s.setSt a n with lock := s.lock } = s.uncounted := rfl

theorem govRefuse_refuses (s : State) (d : Dir) (w : GovReg) (g : Fin 16) {r : Nat} (h : r < 4) :
    GovRefuses d w g r s ((s.govShown d w g r).govRefuse d w r) := by
  obtain ⟨-, hst⟩ := govShown_onlyStatus s d w g r
  have hrest := (uncounted_govRefuse s (s.govShown d w g r) d w r).trans (uncounted_setSt s _ _)
  refine ⟨?_, govRefuse_counts d w r (setSt_flt s _ _), onlyStatusCounts_of_uncounted hrest fun a ha => ?_⟩
  · exact (st_of_sts (govRefuse_sts _ d w r) _).trans (govShown_st_same s d w g h)
  · exact (st_of_sts (govRefuse_sts _ d w r) a).trans (hst a ha)

/-! ### GOV_WRITE -/

/-- The register as a write would leave it. -/
def State.govNew (s : State) (d : Dir) (w : GovReg) (g : Nat) (v : Word) : Nat := (s.wr (govRegAddr d w g) v.toNat).rd (govRegAddr d w g)

/-- The result of a write: 0 outside service. -/
def State.govResult (s : State) (d : Dir) (w : GovReg) (g : Nat) (v : Word) : Nat :=
  if s.judgeEn then s.govJudge d w g (s.govNew d w g v) (s.rd (govRegAddr d w g)) else 0

section
variable {s : State} {d : Dir} {w : GovReg} {g : Fin 16} {v : Word} (hup : s.regsUp = true)
include hup

theorem govWrite_of_regsUp : govWrite d w g v s =
    if s.govResult d w g v = 0 then (s.govShown d w g (s.govResult d w g v)).wrc (govRegAddr d w g) v.toNat
    else (s.govShown d w g (s.govResult d w g v)).govRefuse d w (s.govResult d w g v) := ifUp_of_regsUp _ hup

theorem govWrite_stores (h : s.govResult d w g v = 0) : Does (.govWrite d w g v) s (fun t =>
    Stores (govRegAddr d w g) v [Reg.GOV_WRITE_STATUS d] s t ∧ t.st (Reg.GOV_WRITE_STATUS d) = govStatus w g 0) := by
  refine ⟨_, rfl, ?_⟩
  rw [govWrite_of_regsUp hup, h]
  exact govStore_stores s d w g v

theorem govWrite_refuses {r : Nat} (h : s.govResult d w g v = r) (hpos : r ≠ 0) (hlt : r < 4) :
    Does (.govWrite d w g v) s (GovRefuses d w g r s) := by
  refine ⟨_, rfl, ?_⟩
  rw [govWrite_of_regsUp hup, h, if_neg hpos]
  exact govRefuse_refuses s d w g hlt

end

/-! ### The protection of service (R198) -/

section
variable (s : State) (d : Dir) (g : Nat) {v old : Nat}

theorem govJudge_target_of_out (h : signedOf 16 v < 0 ∨ 9500 < signedOf 16 v) : s.govJudge d .target g v old = 1 := if_pos h

/-- The target with a trim is above the locked maximum gain. -/
def State.targetHigh (s : State) (d : Dir) (g v b : Nat) : Prop := s.lock.gainMax d < signedOf 16 v + s.trim d (s.govSlot d g) b

theorem govJudge_target_of_in (hlow : 0 ≤ signedOf 16 v) (htop : signedOf 16 v ≤ 9500)
    [Decidable (s.targetHigh d g v 0 ∨ s.targetHigh d g v 1)] :
    s.govJudge d .target g v old = if s.targetHigh d g v 0 ∨ s.targetHigh d g v 1 then 3 else 0 :=
  (if_neg (by omega)).trans (if_congr Iff.rfl rfl rfl)

theorem govJudge_ctrl_of_short (h : bitsAt v 16 16 < 1000) : s.govJudge d .ctrl g v old = 1 := if_pos h

theorem govJudge_ctrl_of_long (h : 1000 ≤ bitsAt v 16 16) :
    s.govJudge d .ctrl g v old = if bitsAt v 0 5 ≠ bitsAt old 0 5 ∨ bitsAt v 8 5 ≠ bitsAt old 8 5 then 2 else 0 := if_neg (by omega)

theorem govJudge_profileVA_of_out (h : bitsAt v 0 16 = 0 ∨ 10000 < bitsAt v 0 16 ∨ bitsAt v 16 16 = 0 ∨ 50000 < bitsAt v 16 16) :
    s.govJudge d .profileVA g v old = 1 := if_neg (by omega)

theorem govJudge_profileVA_of_in (hv : 1 ≤ bitsAt v 0 16) (hv' : bitsAt v 0 16 ≤ 10000) (ha : 1 ≤ bitsAt v 16 16)
    (ha' : bitsAt v 16 16 ≤ 50000) : s.govJudge d .profileVA g v old = 0 := if_pos ⟨hv, hv', ha, ha'⟩

theorem govJudge_profileJ_of_out (h : bitsAt v 0 16 = 0 ∨ 50000 < bitsAt v 0 16) : s.govJudge d .profileJ g v old = 1 := if_neg (by omega)

theorem govJudge_profileJ_of_in (h : 1 ≤ bitsAt v 0 16) (h' : bitsAt v 0 16 ≤ 50000) : s.govJudge d .profileJ g v old = 0 :=
  if_pos ⟨h, h'⟩

/-- An L2 limit is refused where it passes the locked maximum output of a lane that carries the direction's output. -/
theorem govJudge_l2Limit [Decidable (∃ t, t ∈ s.txBr d ∧ s.lock.outMax (laneOf d t) < signedOf 16 v)] :
    s.govJudge d .l2Limit g v old = if ∃ t, t ∈ s.txBr d ∧ s.lock.outMax (laneOf d t) < signedOf 16 v then 3 else 0 :=
  if_congr (by simp) rfl rfl

theorem govJudge_l3Cfg : s.govJudge d .l3Cfg g v old = if d = .ul ∧ bitsAt v 0 16 = 0 then 1 else 0 := rfl

theorem govJudge_rxChain : s.govJudge d .rxChain g v old = if v = old then 0 else 2 := rfl

end

end Sys2Proof.Machine

open Sys2Proof Sys2Proof.Machine

/-- Settles O34: outside service the result is 0; in service the protection's judgement of each register is. The result decides whether the
write is stored or refused. -/
theorem governorWrites : Obligations.GovernorWrites := by
  unfold Obligations.GovernorWrites
  intro s d g v hup
  classical
  have hfix : ∀ w, (∀ a b, s.govJudge d w g a b = 0) → s.govResult d w g v = 0 := fun w h => by
    unfold State.govResult
    split
    · exact h _ _
    · rfl
  refine ⟨fun hfree w => govWrite_stores hup (by simp [State.govResult, hfree]), govWrite_stores hup (hfix .muteCfg fun _ _ => rfl),
    govWrite_stores hup (hfix .fastCfg fun _ _ => rfl), fun hserve => ?_⟩
  have stores : ∀ {w}, s.govJudge d w g (s.govNew d w g v) (s.rd (govRegAddr d w g)) = 0 → _ := fun {w} h =>
    govWrite_stores (w := w) hup ((if_pos hserve).trans h)
  have refuses : ∀ {w r}, r ≠ 0 → r < 4 → s.govJudge d w g (s.govNew d w g v) (s.rd (govRegAddr d w g)) = r → _ :=
    fun {w r} hpos hlt h => govWrite_refuses (w := w) hup ((if_pos hserve).trans h) hpos hlt
  refine ⟨fun hout => ?_, fun hlow htop => ⟨fun hhigh => ?_, fun h0 h1 => ?_⟩, fun hshort => ?_,
    fun hlong => ⟨fun hchange => ?_, fun hen hpair => ?_⟩, fun hout => ?_, fun hve hve' hac hac' => ?_, fun hout => ?_,
    fun hj hj' => ?_, fun hover => ?_, fun hunder => ?_, fun hul hzero => ?_, fun hfree => ?_, fun hne => ?_, fun heq => ?_⟩
  · exact refuses (by decide) (by decide) (govJudge_target_of_out s d g hout)
  · exact refuses (by decide) (by decide) ((govJudge_target_of_in s d g hlow htop).trans (if_pos hhigh))
  · exact stores ((govJudge_target_of_in s d g hlow htop).trans (if_neg (not_or_intro h0 h1)))
  · exact refuses (by decide) (by decide) (govJudge_ctrl_of_short s d g hshort)
  · exact refuses (by decide) (by decide) ((govJudge_ctrl_of_long s d g hlong).trans (if_pos hchange))
  · exact stores ((govJudge_ctrl_of_long s d g hlong).trans (if_neg (not_or_intro (not_not_intro hen) (not_not_intro hpair))))
  · exact refuses (by decide) (by decide) (govJudge_profileVA_of_out s d g hout)
  · exact stores (govJudge_profileVA_of_in s d g hve hve' hac hac')
  · exact refuses (by decide) (by decide) (govJudge_profileJ_of_out s d g hout)
  · exact stores (govJudge_profileJ_of_in s d g hj hj')
  · exact refuses (by decide) (by decide) ((govJudge_l2Limit s d g).trans (if_pos hover))
  · exact stores ((govJudge_l2Limit s d g).trans (if_neg fun ⟨t, ht, hlt⟩ => (hunder t ht).not_gt hlt))
  · exact refuses (by decide) (by decide) ((govJudge_l3Cfg s d g).trans (if_pos ⟨hul, hzero⟩))
  · exact stores ((govJudge_l3Cfg s d g).trans (if_neg fun ⟨hul, hzero⟩ => hfree.elim (by simp [hul]) (· hzero)))
  · exact refuses (by decide) (by decide) ((govJudge_rxChain s d g).trans (if_neg hne))
  · exact stores ((govJudge_rxChain s d g).trans (if_pos heq))
end

section
/-! SUPPORT. The governors' records and the sources of their blocks: what the states and transitions of a direction leave alone of them (R192,
R193). -/

namespace Sys2Proof.Machine

/-- The records of the governors and of their directions, and the sources of blocks GOV_DL and GOV_UL. -/
structure Governed where
  gov : NMap GovRec
  govDl : GovDir
  govUl : GovDir
  sources : Dir → Fin 32 → Src

def State.governed (s : State) : Governed :=
  { gov := s.gov, govDl := s.govDl, govUl := s.govUl, sources := fun d n => s.flt.source (15 + d.num) n }

theorem govRec_of_governed {s t : State} (h : t.governed = s.governed) (d : Dir) (g : Nat) : t.govRec d g = s.govRec d g :=
  congrArg (fun x : Governed => NMap.get (fun _ => ({} : GovRec)) x.gov (govKey d g)) h

theorem govDir_of_governed {s t : State} (h : t.governed = s.governed) (d : Dir) : t.govDir d = s.govDir d := by
  cases d
  · exact congrArg Governed.govDl h
  · exact congrArg Governed.govUl h

theorem govSource_of_governed {s t : State} (h : t.governed = s.governed) (d : Dir) {n : Nat} (hn : n < 32) :
    t.flt.source (15 + d.num) n = s.flt.source (15 + d.num) n := congrFun (congrFun (congrArg Governed.sources h) d) ⟨n, hn⟩

/-- Events of other blocks. -/
theorem raiseEvs_governed (s : State) (es : List Ev) (h : ∀ e ∈ es, (32 * e.blk + e.src) / 32 ∉ [15, 16]) :
    (s.raiseEvs es).governed = s.governed := by
  have hsource : ∀ (d : Dir) (n : Fin 32), (s.raiseEvs es).flt.source (15 + d.num) n = s.flt.source (15 + d.num) n := fun d n => by
    have hd := dirNum_lt d
    refine raiseEvs_source_ne s es _ n (fun e he => ?_) (by unfold chained; omega)
    have hoff := h e he
    simp only [List.mem_cons, List.not_mem_nil, or_false] at hoff
    omega
  simp only [State.governed, hsource]
  rfl

theorem raise_governed (s : State) (b n : Nat) (u : Option Nat) (h : (32 * b + n) / 32 ∉ [15, 16]) :
    (s.raise b n u).governed = s.governed := raiseEvs_governed s _ (by simpa using h)

theorem peatClose_governed (s : State) (cause detail : Nat) : (s.peatClose cause detail).governed = s.governed := by
  refine (raiseEvs_governed _ _ fun e he => ?_).trans rfl
  have := Fx.peatClose_events s s.fx cause detail e he
  simp only [List.mem_cons, List.not_mem_nil, or_false]
  omega

theorem peatMute_governed (s : State) (b src u : Nat) : (s.peatMute b src u).governed = s.governed := (peatClose_governed _ _ _).trans rfl

theorem raiseIf_governed (s : State) (c : Bool) (b n : Nat) (u : Option Nat) (h : (32 * b + n) / 32 ∉ [15, 16]) :
    (s.raiseIf c b n u).governed = s.governed := by
  cases c
  · rfl
  · exact raise_governed s b n u h

theorem bothMuted_governed (s0 s : State) : (State.bothMuted s0 s).governed = s.governed := raiseIf_governed s _ 0 13 none (by decide)

theorem setDir_governed (s : State) (d : Dir) (r : DirRec) : (s.setDir d r).governed = s.governed := by cases d <;> rfl

theorem setEcho_governed (s : State) (d : Dir) (n : Nat) (r : EchoRec) : (s.setEcho d n r).governed = s.governed := rfl

theorem setSlot_governed (s : State) (d : Dir) (n : Nat) (r : SlotRec) : (s.setSlot d n r).governed = s.governed := rfl

theorem setSt_governed (s : State) (a n : Nat) : (s.setSt a n).governed = s.governed := rfl

theorem setLoop_governed (s : State) (l : LoopState) : State.governed { s with loop := l } = s.governed := rfl

theorem setPcie_governed (s : State) (p : PcieState) : State.governed { s with pcie := p } = s.governed := rfl

theorem signal_governed (s : State) (v : Nat) : (s.signal v).governed = s.governed := by
  unfold State.signal
  split
  · rfl
  · split
    · exact (raise_governed _ 5 10 none (by decide)).trans (setPcie_governed s _)
    · split
      · exact raise_governed s 5 10 none (by decide)
      · split <;> rfl

theorem patStop_governed (s : State) (d : Dir) : (s.patStop d).governed = s.governed := by
  unfold State.patStop
  split
  · rfl
  · refine (signal_governed _ _).trans ?_
    cases d <;> rfl

theorem patEnd_governed (s : State) (d : Dir) : (s.patEnd d).governed = s.governed := by
  unfold State.patEnd
  split
  · exact (patStop_governed _ d).trans (setDir_governed s d _)
  · exact patStop_governed s d

theorem echoHold_governed (s : State) (d : Dir) : (s.echoHold d).governed = s.governed :=
  foldl_keeps State.governed _ (fun s n => s.echoHoldSlot d n) (fun s n => setEcho_governed s d n _) s

theorem abandonTrans_governed (s : State) (d : Dir) : (s.abandonTrans d).governed = s.governed := by
  have hreq : ∀ (x : State) no tag status, (x.reqEnd no tag status).governed = x.governed := fun x no tag status => by rw [reqEnd_eq]; rfl
  have hdb : ∀ (x : State) db result code, (x.dbOutcome db result code).governed = x.governed := fun x db _ _ => by cases db <;> rfl
  unfold State.abandonTrans
  split
  · rfl
  · extract_lets r s1 s2 s3
    have h1 : s1.governed = s.governed := setDir_governed s d _
    have h3 : s3.governed = s.governed := (hdb _ _ _ _).trans ((hreq _ _ _ _).trans h1)
    split
    · exact h1
    · split
      · exact h3
      · exact h3

theorem toMuted_governed (s : State) (d : Dir) : (s.toMuted d).governed = s.governed := by
  unfold State.toMuted
  extract_lets s1 from_ s2 r s3
  have h3 : s3.governed = s.governed :=
    (setDir_governed _ d _).trans ((echoHold_governed _ d).trans ((patStop_governed _ d).trans (abandonTrans_governed s d)))
  split
  · exact h3
  · exact ((setSt_governed _ _ _).trans (setSt_governed s3 _ _)).trans h3

theorem pendingDone_governed (s : State) (j code : Nat) : (s.pendingDone j code).governed = s.governed := by
  unfold State.pendingDone
  dsimp only
  split <;> rfl

theorem lawsStart_governed (s : State) (d : Dir) : (s.lawsStart d).governed = s.governed := by
  unfold State.lawsStart
  refine foldl_keeps State.governed _ _ (fun s k => ?_) s
  extract_lets j x s1 x1
  have h1 : s1.governed = s.governed := by
    simp only [s1]
    split
    · exact (raise_governed _ 17 15 none (by decide)).trans ((setSt_governed _ _ _).trans (setLoop_governed s _))
    · rfl
  split
  · split
    · exact (raise_governed _ 17 15 none (by decide)).trans ((pendingDone_governed _ j 7).trans ((setLoop_governed s1 _).trans h1))
    · exact (pendingDone_governed _ j 0).trans ((setLoop_governed s1 _).trans h1)
  · exact h1

theorem transPrep_governed (s : State) (d : Dir) (t : Trans) : (s.transPrep d t).governed = s.governed := by
  unfold State.transPrep
  extract_lets s1 s2
  have h1 : s1.governed = s.governed := by
    simp only [s1]
    split
    · exact lawsStart_governed s d
    · rfl
  have h2 : s2.governed = s.governed := by
    simp only [s2]
    split
    · exact (patEnd_governed s1 d).trans h1
    · exact h1
  split
  · exact (echoHold_governed s2 d).trans h2
  · exact h2

theorem beginTrans_governed (s : State) (d : Dir) (t : Trans) : (s.beginTrans d t).governed = s.governed := by
  rw [beginTrans_eq]
  exact (setDir_governed _ d _).trans (transPrep_governed s d t)

end Sys2Proof.Machine
end

section
/-! SUPPORT. The mutes and their ends (R190, R192–R194): what a mute of a slot or of a direction counts and writes, how a direction starts back
to CAUTIOUS, and the statement. -/

namespace Sys2Proof.Machine

theorem slotEn_of_cfg {s t : State} (h : t.cfg = s.cfg) (d : Dir) (n : Nat) : t.slotEn d n = s.slotEn d n := by
  rw [State.slotEn, State.slotCfg, State.rd, h]
  rfl

/-! ### The end of a mute (R194) -/

theorem restoreDir_governed (s : State) (d : Dir) : (s.restoreDir d).governed = s.governed := by
  unfold State.restoreDir
  split
  · exact beginTrans_governed s d _
  · rfl

/-- A MUTED direction that nothing mutes and that makes no transition starts back to CAUTIOUS. -/
theorem restoreDir_starts {s : State} {d : Dir} (hst : s.dirSt d = .muted) (hfree : s.protMuted d = false) (hidle : (s.dirRec d).trans = none) :
    ((s.restoreDir d).dirRec d).trans = some { target := .cautious, cause := 8, start := s.now } := by
  have hback : s.restoreDir d = s.beginTrans d { target := .cautious, cause := 8 } := if_pos (by simp [hst, hfree, hidle])
  rw [hback, beginTrans_dirRec]

section
variable (s : State) (d : Dir)

/-- The direction's mute ended, before it starts back. -/
def State.dirFreed : State := s.setGovDir d { s.govDir d with mute := none, causeAt := none, over0 := 0, over1 := 0 }

theorem unmuteDir_eq : s.unmuteDir d = (s.dirFreed d).restoreDir d := rfl

theorem dirFreed_dirMuted : (s.dirFreed d).dirMuted d = false := by cases d <;> rfl

theorem dirFreed_dirRec : (s.dirFreed d).dirRec d = s.dirRec d := dirRec_of_sys (setGovDir_sys s d _) d

theorem dirFreed_allSlotsMuted : (s.dirFreed d).allSlotsMuted d = s.allSlotsMuted d := by cases d <;> rfl

theorem unmuteDir_dirMuted : (s.unmuteDir d).dirMuted d = false := by
  rw [unmuteDir_eq, State.dirMuted, govDir_of_governed (restoreDir_governed _ d) d]
  exact dirFreed_dirMuted s d

theorem unmuteDir_starts (hst : s.dirSt d = .muted) (hslots : s.allSlotsMuted d = false) (hidle : (s.dirRec d).trans = none) :
    ((s.unmuteDir d).dirRec d).trans = some { target := .cautious, cause := 8, start := s.now } := by
  have hrec := dirFreed_dirRec s d
  have hfree : (s.dirFreed d).protMuted d = false := by
    rw [State.protMuted, dirFreed_dirMuted, dirFreed_allSlotsMuted, hslots]
    rfl
  rw [unmuteDir_eq, restoreDir_starts ((congrArg DirRec.st hrec).trans hst) hfree ((congrArg DirRec.trans hrec).trans hidle)]
  exact congrArg (fun k => some ({ target := .cautious, cause := 8, start := k } : Trans)) (setGovDir_now s d _)

variable (n : Nat)

/-- The slot's mute ended, before its direction starts back. -/
def State.slotFreed : State :=
  ((s.setGov d (govOf n) { s.govRec d (govOf n) with mute := none, causeAt := none }).gateWait d n 2).echoStartSlot d n false

theorem unmuteSlot_eq : s.unmuteSlot d n = (s.slotFreed d n).restoreDir d := rfl

theorem slotFreed_governed : (s.slotFreed d n).governed =
    (s.setGov d (govOf n) { s.govRec d (govOf n) with mute := none, causeAt := none }).governed :=
  (setEcho_governed _ d n _).trans (setSlot_governed _ d n _)

theorem slotFreed_mute : ((s.slotFreed d n).govRec d (govOf n)).mute = none := by
  rw [govRec_of_governed (slotFreed_governed s d n), govRec_setGov_same]

theorem slotFreed_base : (s.slotFreed d n).base = s.base :=
  (echoStartSlot_base _ d n false).trans ((gateWait_base _ d n 2).trans (setGov_base s d (govOf n) _))

theorem slotFreed_dirRec : (s.slotFreed d n).dirRec d = s.dirRec d :=
  dirRec_of_sys ((echoStartSlot_sys _ d n false).trans ((gateWait_sys _ d n 2).trans (setGov_sys s d (govOf n) _))) d

theorem slotFreed_dirMuted : (s.slotFreed d n).dirMuted d = s.dirMuted d := by
  rw [State.dirMuted, govDir_of_governed (slotFreed_governed s d n)]
  rfl

theorem unmuteSlot_mute : ((s.unmuteSlot d n).govRec d (govOf n)).mute = none := by
  rw [unmuteSlot_eq, govRec_of_governed (restoreDir_governed _ d)]
  exact slotFreed_mute s d n

variable {n} (hlive : n ∈ s.liveSlots d)
include hlive

theorem slotFreed_allSlotsMuted : (s.slotFreed d n).allSlotsMuted d = false := by
  obtain ⟨hnum, hen⟩ := List.mem_filter.mp (List.mem_filter.mp hlive).1
  have hmem : n ∈ (s.slotFreed d n).enabled d :=
    List.mem_filter.mpr ⟨hnum, (slotEn_of_cfg (cfg_of_base (slotFreed_base s d n)) d n).trans hen⟩
  have hfree : (s.slotFreed d n).slotMuted d n = false := by
    rw [State.slotMuted, slotFreed_mute]
    rfl
  rw [State.allSlotsMuted, Bool.and_eq_false_iff]
  exact .inr (List.all_eq_false.mpr ⟨n, hmem, by simp [hfree]⟩)

theorem unmuteSlot_starts (hst : s.dirSt d = .muted) (hdir : s.dirMuted d = false) (hidle : (s.dirRec d).trans = none) :
    ((s.unmuteSlot d n).dirRec d).trans = some { target := .cautious, cause := 8, start := s.now } := by
  have hrec := slotFreed_dirRec s d n
  have hfree : (s.slotFreed d n).protMuted d = false := by
    rw [State.protMuted, slotFreed_allSlotsMuted s d hlive, slotFreed_dirMuted, hdir]
    rfl
  rw [unmuteSlot_eq, restoreDir_starts ((congrArg DirRec.st hrec).trans hst) hfree ((congrArg DirRec.trans hrec).trans hidle),
    now_of_base (slotFreed_base s d n)]

end

/-! ### A mute of a slot (R40, R192) -/

/-- The governor's record of a slot that a mute takes off the air. -/
def State.muteNoted (s : State) (d : Dir) (g : Nat) (c : MuteCause) : State :=
  (s.setGov d g { s.govRec d g with mute := some c }).capGov d g

/-- What a mute of slot n counts, and writes where none stands. -/
def State.slotStruck (s : State) (d : Dir) (n : Nat) (c : MuteCause) : State :=
  if (s.govRec d (govOf n)).mute.isSome then s.raise (15 + d.num) (govOf n) (some (govOf n))
  else (s.raise (15 + d.num) (govOf n) (some (govOf n))).muteNoted d (govOf n) c

theorem muteSlot_governed (s : State) (d : Dir) (n : Nat) (c : MuteCause) : (s.muteSlot d n c).governed = (s.slotStruck d n c).governed := by
  unfold State.muteSlot
  extract_lets g b s1 r s2 s3 s4 s5 s6
  split
  next hmuted => exact congrArg State.governed (if_pos hmuted).symm
  next hfree =>
    have hstruck : s.slotStruck d n c = s3 := if_neg hfree
    have h6 : s6.governed = s3.governed :=
      (peatMute_governed s5 b g g).trans ((setEcho_governed s4 d n _).trans (setSt_governed s3 _ _))
    rw [hstruck]
    split
    · exact (bothMuted_governed _ _).trans ((toMuted_governed s6 d).trans h6)
    · exact h6

theorem muteNoted_govRec (s : State) (d : Dir) (g : Nat) (c : MuteCause) : ((s.muteNoted d g c).govRec d g).mute = some c ∧
    ((s.muteNoted d g c).govRec d g).donorOk = (s.govRec d g).donorOk := by
  simp only [State.muteNoted, State.capGov, govRec_setGov_same, and_self]

theorem muteNoted_govRec_ne (s : State) (c : MuteCause) {d e : Dir} {g h : Nat} (hne : govKey e h ≠ govKey d g) :
    (s.muteNoted d g c).govRec e h = s.govRec e h := by
  simp only [State.muteNoted, State.capGov, State.govRec, State.setGov, NMap.get_put_ne _ _ _ hne]

section
variable (s : State) (d : Dir) (n : Nat) (c : MuteCause)

/-- A mute of a slot leaves it muted, and what is known of its donor as it was. -/
theorem muteSlot_govRec : ((s.muteSlot d n c).govRec d (govOf n)).mute.isSome = true ∧
    ((s.muteSlot d n c).govRec d (govOf n)).donorOk = (s.govRec d (govOf n)).donorOk := by
  rw [govRec_of_governed (muteSlot_governed s d n c)]
  unfold State.slotStruck
  split
  next hmuted => exact ⟨hmuted, rfl⟩
  next =>
    obtain ⟨hmute, hdonor⟩ := muteNoted_govRec (s.raise (15 + d.num) (govOf n) (some (govOf n))) d (govOf n) c
    exact ⟨by rw [hmute]; rfl, hdonor⟩

theorem slotStruck_source (b m : Nat) :
    (s.slotStruck d n c).flt.source b m = (s.raise (15 + d.num) (govOf n) (some (govOf n))).flt.source b m := by
  unfold State.slotStruck
  split <;> rfl

theorem muteSlot_counts {n : Nat} (hn : govOf n < 16) : Counts (15 + d.num) (govOf n) s (s.muteSlot d n c) := by
  have hd := dirNum_lt d
  have hcount := raise_counts_of_flt (s := s) (x := s) (15 + d.num) (govOf n) (some (govOf n)) (by unfold chained; omega) (by simp; omega) rfl
  rwa [Counts, govSource_of_governed (muteSlot_governed s d n c) d (by omega), slotStruck_source]

/-- The record of a governor and the source of its mutes. -/
def State.govNote (s : State) (d : Dir) (g : Nat) : GovRec × Src := (s.govRec d g, s.flt.source (15 + d.num) g)

/-- A mute of an uplink slot leaves what the downlink notes. -/
theorem muteSlot_ul_govNote {g : Nat} (hg : g < 16) : (s.muteSlot .ul n c).govNote .dl g = s.govNote .dl g := by
  have h := muteSlot_governed s .ul n c
  refine Prod.ext ((govRec_of_governed h .dl g).trans ?_) ((govSource_of_governed h .dl (by omega)).trans ?_)
  · have hkey : ∀ m, govKey .dl g ≠ govKey .ul m := fun m => by simp only [govKey, Dir.num]; omega
    unfold State.slotStruck
    split
    · rfl
    · exact muteNoted_govRec_ne _ c (hkey _)
  · have hd : Dir.dl.num = 0 := rfl
    have hu : Dir.ul.num = 1 := rfl
    rw [slotStruck_source]
    exact raise_source_ne s _ g _ _ _ (by unfold chained; omega) (by omega)

end

theorem govOf_lt (n : Fin 17) : govOf n < 16 := by
  have := n.isLt
  unfold govOf
  split <;> omega

theorem muteSlot_slotMuted {s : State} {d : Dir} {n : Nat} (c : MuteCause) (hen : s.slotEn d n = true) :
    (s.muteSlot d n c).slotMuted d n = true := by
  obtain ⟨hmute, -⟩ := muteSlot_govRec s d n c
  have hcfg := cfg_of_base (muteSlot_base s d n c)
  rw [State.slotMuted, hmute, slotEn_of_cfg hcfg, hen]
  rfl

/-! ### The donor (R190) -/

section
variable {s : State} {n : Fin 17}

theorem donorLost_of_lost (hup : s.isUp = true) (hen : s.slotEn .dl n = true) (hhere : s.donorHere n = true)
    (hsilent : s.donorSilent n = true) : donorLost n s = (s.setDonor n false).donorMutes n true :=
  if_neg (by simp [hup, hen, hhere, hsilent])

theorem donorLost_of_not (h : s.slotEn .dl n = false ∨ s.donorHere n = false ∨ s.donorSilent n = false) : donorLost n s = s :=
  if_pos (by rcases h with h | h | h <;> simp [h])

theorem donorPresent_of_returned (hup : s.isUp = true) (hen : s.slotEn .dl n = true) (hback : s.donorReturned n = true) :
    donorPresent n s = s.setDonor n true := if_neg (by simp [hup, hen, hback])

theorem donorPresent_of_not (h : s.slotEn .dl n = false ∨ s.donorReturned n = false) : donorPresent n s = s :=
  if_pos (by rcases h with h | h <;> simp [h])

end

/-- A lost donor mutes nothing where neither direction transmits. -/
theorem donorMutes_of_silent {s : State} (n : Nat) (struck : Bool) (hdl : s.transmits .dl = false) (hul : s.transmits .ul = false) :
    s.donorMutes n struck = s := by
  unfold State.donorMutes
  simp only [hdl, Bool.false_and, Bool.false_eq_true, if_false]
  exact List.foldl_fixed' (fun m => if_neg (by simp [hul])) _

/-- Of the downlink's records and sources, a lost donor touches those of its own slot alone: the slot is struck. -/
theorem donorMutes_govNote {s : State} {n : Fin 17} (hdl : s.transmits .dl = true) (hen : s.slotEn .dl n = true) :
    (s.donorMutes n true).govNote .dl (govOf n) = (s.muteSlot .dl n .donorLost).govNote .dl (govOf n) := by
  unfold State.donorMutes
  rw [if_pos (by simp [hdl, hen])]
  refine foldl_keeps (fun x : State => x.govNote .dl (govOf n)) _ _ (fun x m => ?_) _
  split
  · exact muteSlot_ul_govNote x m _ (govOf_lt n)
  · rfl

/-- A lost donor mutes its slot in a downlink that transmits. -/
theorem donorMutes_strikes {s x : State} {n : Fin 17} (hx : x.flt = s.flt) (hdl : x.transmits .dl = true) (hen : x.slotEn .dl n = true) :
    let t := x.donorMutes n true
    t.donorHere n = x.donorHere n ∧ t.slotMuted .dl n = true ∧ Counts 15 (govOf n) s t := by
  intro t
  have hnote := donorMutes_govNote hdl hen
  have hrec : t.govRec .dl (govOf n) = (x.muteSlot .dl n .donorLost).govRec .dl (govOf n) := congrArg Prod.fst hnote
  obtain ⟨hmute, hdonor⟩ := muteSlot_govRec x .dl n .donorLost
  have hcount := muteSlot_counts x .dl .donorLost (govOf_lt n)
  refine ⟨(congrArg GovRec.donorOk hrec).trans hdonor, ?_, ?_⟩
  · rw [State.slotMuted, hrec, hmute, slotEn_of_cfg (cfg_of_base (donorMutes_base x n true)), hen]
    rfl
  · rw [Counts, hx] at hcount
    exact (congrArg (fun x : GovRec × Src => x.2.total) hnote).trans hcount

/-! ### The rise, and the output of a lane (R192) -/

theorem noiseRiseMute_of_held {s : State} {n : Fin 17} (hup : s.isUp = true) (hen : s.slotEn .ul n = true) (htransmits : s.transmits .ul = true)
    (hheld : s.riseHeld n = true) : noiseRiseMute n s = s.muteSlot .ul n .noiseRise := if_pos (by simp [hup, hen, htransmits, hheld])

theorem noiseRiseMute_of_not {s : State} {n : Fin 17} (h : s.slotEn .ul n = false ∨ s.transmits .ul = false ∨ s.riseHeld n = false) :
    noiseRiseMute n s = s := if_neg (by rcases h with h | h | h <;> simp [h])

/-- The limits of the lock page that the branches above the locked maximum output act on. -/
def State.outputActs (s : State) (d : Dir) : State := (s.outputOver d).foldl (fun s t => s.lockActs 3 (laneOf d t) 5) s

theorem laneOutputMute_of_over {s : State} {d : Dir} (hup : s.isUp = true) (htransmits : s.transmits d = true) (hover : s.outputOver d ≠ []) :
    laneOutputMute d s = (s.outputActs d).muteDir d .lockedOutput := if_pos (by simp [hup, htransmits, hover])

theorem laneOutputMute_of_not {s : State} {d : Dir} (h : s.transmits d = false ∨ s.outputOver d = []) : laneOutputMute d s = s :=
  if_neg (by rcases h with h | h <;> simp [h])

theorem outputActs_keeps {β : Type} (p : State → β) (hlock : ∀ s l, p { s with lock := l } = p s) (hraise : ∀ s, p (s.raise 22 13) = p s)
    (s : State) (d : Dir) : p (s.outputActs d) = p s :=
  foldl_keeps p _ _ (fun s t => lockActs_keeps p hlock hraise s 3 (laneOf d t) 5) s

/-- A mute of a direction counts its own source. -/
theorem muteDir_source (s : State) (d : Dir) (c : MuteCause) {m : Nat} (hm : m < 32) : (s.muteDir d c).flt.source (15 + d.num) m =
    (s.raise (15 + d.num) c.dirSource (some 16)).flt.source (15 + d.num) m := by
  let p (x : State) : Src := x.flt.source (15 + d.num) m
  have hp : ∀ {x y : State}, x.governed = y.governed → p x = p y := fun h => govSource_of_governed h d hm
  unfold State.muteDir
  extract_lets b s1 sOsc r s2 g s3 sCap s4
  have h2 : p s2 = p s1 := by
    simp only [s2]
    split
    · exact hp ((setDir_governed _ d _).trans (foldl_keeps State.governed _ _ (fun s n => setEcho_governed s d n _) s1))
    · rfl
  have hcap : p sCap = p s3 := foldl_keeps p _ (fun s g => s.capGov d g) (fun _ _ => rfl) s3
  have h3 : p s3 = p s2 := congrArg (fun f : Flt => f.source (15 + d.num) m) (setGovDir_flt s2 d _)
  have h4 : p s4 = p sCap := by
    simp only [s4]
    split
    · exact hp (toMuted_governed sCap d)
    · rfl
  split
  · exact h2
  · calc p (State.bothMuted s (s4.peatMute b c.dirSource 16))
        = p s4 := hp ((bothMuted_governed s _).trans (peatMute_governed s4 b _ 16))
      _ = p s1 := h4.trans (hcap.trans (h3.trans h2))

theorem muteDir_counts (s : State) (d : Dir) (c : MuteCause) : Counts (15 + d.num) c.dirSource s (s.muteDir d c) := by
  have hd := dirNum_lt d
  have hc : c.dirSource < 32 := by cases c <;> decide
  have hcount := raise_counts_of_flt (s := s) (x := s) (15 + d.num) c.dirSource (some 16) (by unfold chained; omega) (by simp; omega) rfl
  rwa [Counts, muteDir_source s d c hc]

theorem muteDir_cause {s : State} {d : Dir} (c : MuteCause) (hfree : s.dirMuted d = false) : ((s.muteDir d c).govDir d).mute = some c := by
  have h := muteDir_aside s d c
  rw [if_neg (by rw [hfree]; decide)] at h
  rw [govDir_of_aside h, govDir_setGovDir, if_pos rfl]

/-- A direction whose output has stood above the locked maximum is muted, and MUTED where no mute stood. -/
theorem outputOver_mutes {s : State} {d : Dir} (htransmits : s.transmits d = true) : let t := (s.outputActs d).muteDir d .lockedOutput
    t.dirMuted d = true ∧ Counts (15 + d.num) 17 s t ∧
      (s.dirMuted d = false → t.dirSt d = .muted ∧ (t.govDir d).mute = some .lockedOutput) ∧ t.base = s.base := by
  intro t
  have hgov : (s.outputActs d).governed = s.governed :=
    outputActs_keeps State.governed (fun _ _ => rfl) (fun s => raise_governed s 22 13 none (by decide)) s d
  have hstage : (s.outputActs d).stage d = s.stage d :=
    outputActs_keeps (fun x : State => x.stage d) (fun _ _ => rfl) (fun s => raise_stage s 22 13 none d) s d
  have hbase : (s.outputActs d).base = s.base := outputActs_keeps State.base (fun _ _ => rfl) (fun s => raise_base s 22 13 none) s d
  have hmuted : (s.outputActs d).dirMuted d = s.dirMuted d := congrArg (fun g : GovDir => g.mute.isSome) (govDir_of_governed hgov d)
  have hcount := muteDir_counts (s.outputActs d) d .lockedOutput
  rw [Counts, govSource_of_governed hgov d (by decide)] at hcount
  refine ⟨?_, hcount, fun hfree => ⟨?_, muteDir_cause _ (hmuted.trans hfree)⟩, (muteDir_base _ d _).trans hbase⟩
  · rw [dirMuted_muteDir]
    simp
  · exact muteDir_dirSt (by decide) (hmuted.trans hfree) ((transmits_of_stage hstage).trans htransmits)

/-! ### MUTE_RETRY_EXPIRED (R194) -/

section
variable {s : State} {d : Dir} {c : MuteCause} (hup : s.regsUp = true)
include hup

theorem muteRetryExpired_dir (hmute : (s.govDir d).mute = some c) : muteRetryExpired d none s =
    if s.isOut (15 + d.num) 16 || !s.retryOver d 0 c (s.govDir d).causeAt then s else s.unmuteDir d :=
  (ifUp_of_regsUp _ hup).trans (by simp only [hmute])

theorem muteRetryExpired_slot {n : Fin 17} (hmute : (s.govRec d (govOf n)).mute = some c) : muteRetryExpired d (some n) s =
    if s.isOut (15 + d.num) (govOf n) || !s.retryOver d n c (s.govRec d (govOf n)).causeAt then s else s.unmuteSlot d n :=
  (ifUp_of_regsUp _ hup).trans (by simp only [hmute])

end

end Sys2Proof.Machine

open Sys2Proof Sys2Proof.Machine

/-- Settles O35: each mute strikes its slot or its direction where its condition holds, and each end of a mute frees it and lets a MUTED
direction start back (`unmuteDir_starts`, `unmuteSlot_starts`); otherwise the state stays. -/
theorem mutes : Obligations.Mutes := by
  unfold Obligations.Mutes
  refine ⟨fun s n hup => ⟨fun hen hhere hsilent hdl _ => ⟨_, rfl, ?_⟩, fun hen hhere hsilent hdl hul => ⟨_, rfl, ?_⟩,
      fun h => ⟨_, rfl, donorLost_of_not h⟩, fun hen hback => ⟨_, rfl, ?_⟩, fun h => ⟨_, rfl, donorPresent_of_not h⟩,
      fun hen htransmits hheld => ⟨_, rfl, ?_⟩, fun h => ⟨_, rfl, noiseRiseMute_of_not h⟩,
      fun d => ⟨fun htransmits hover => ⟨_, rfl, ?_⟩, fun h => ⟨_, rfl, laneOutputMute_of_not h⟩⟩⟩,
    fun s d c hup => ⟨fun hmute hin hover => ⟨_, rfl, ?_⟩, fun hmute h => ⟨_, rfl, ?_⟩,
      fun n hmute => ⟨fun hin hover => ⟨_, rfl, ?_⟩, fun h => ⟨_, rfl, ?_⟩⟩⟩⟩
  · rw [donorLost_of_lost hup hen hhere hsilent]
    obtain ⟨hdonor, hmuted, hcount⟩ := donorMutes_strikes (s := s) (x := s.setDonor n false) rfl hdl hen
    have hbase := donorMutes_base (s.setDonor n false) n true
    exact ⟨hdonor.trans (congrArg GovRec.donorOk (govRec_setGov_same s .dl (govOf n) _)), hmuted, hcount, power_of_base hbase,
      cfg_of_base hbase, now_of_base hbase⟩
  · rw [donorLost_of_lost hup hen hhere hsilent, donorMutes_of_silent n true (s := s.setDonor n false) hdl hul]
    exact ⟨rfl, govRec_setGov_same s .dl (govOf n) _⟩
  · rw [donorPresent_of_returned hup hen hback]
    exact ⟨rfl, congrArg GovRec.donorOk (govRec_setGov_same s .dl (govOf n) _)⟩
  · rw [noiseRiseMute_of_held hup hen htransmits hheld]
    have hbase := muteSlot_base s .ul n .noiseRise
    exact ⟨muteSlot_slotMuted _ hen, muteSlot_counts s .ul .noiseRise (govOf_lt n), power_of_base hbase, cfg_of_base hbase,
      now_of_base hbase⟩
  · rw [laneOutputMute_of_over hup htransmits hover]
    obtain ⟨hmuted, hcount, hfirst, hbase⟩ := outputOver_mutes htransmits
    exact ⟨hmuted, hcount, hfirst, power_of_base hbase, cfg_of_base hbase, now_of_base hbase⟩
  · rw [muteRetryExpired_dir hup hmute, if_neg (by simp [hin, hover])]
    have hbase := unmuteDir_base s d
    exact ⟨unmuteDir_dirMuted s d, power_of_base hbase, cfg_of_base hbase, now_of_base hbase, unmuteDir_starts s d⟩
  · rw [muteRetryExpired_dir hup hmute, if_pos (by rcases h with h | h <;> simp [h])]
  · rw [muteRetryExpired_slot hup hmute, if_neg (by simp [hin, hover])]
    have hbase := unmuteSlot_base s d n
    exact ⟨unmuteSlot_mute s d n, power_of_base hbase, cfg_of_base hbase, now_of_base hbase,
      fun hst hdir hlive hidle => unmuteSlot_starts s d hlive hst hdir hidle⟩
  · rw [muteRetryExpired_slot hup hmute, if_pos (by rcases h with h | h <;> simp [h])]
end

section
/-! SUPPORT. One computation of a law (R202, R203): its terms as the pseudocode gives them, its limits, and what it leaves of the instance;
and what a missed deadline leaves of a law whose computation it abandons (R208). -/

namespace Sys2Proof.Machine

/-! ### Arithmetic of the law form (R202) -/

theorem clampI_between {lo hi : Int} (h : lo ≤ hi) (x : Int) : lo ≤ clampI lo hi x ∧ clampI lo hi x ≤ hi := by
  unfold clampI
  split
  · omega
  · split <;> omega

theorem minI_eq_min (a b : Int) : minI a b = min a b := by unfold minI; split <;> omega

theorem maxI_eq_max (a b : Int) : maxI a b = max a b := by unfold maxI; split <;> omega

theorem propErr_eq (p : Nat) (e : Int) : propErr p e = if p = 1 then min e 0 else if p = 2 then max e 0 else e := by
  rw [propErr, minI_eq_min, maxI_eq_max]

theorem rneDiv_zero (d : Nat) : rneDiv 0 d = 0 := by simp [rneDiv]

/-- A coefficient of zero contributes nothing. -/
theorem lawMul_zero (sh : Nat) (x : Int) : (lawMul 0 sh x).v = 0 := by
  rw [lawMul, zero_mul, rneDiv_zero]; rfl

theorem inverted_eq_false {x : Law} {j : Nat} (h : x.inverted j = false) :
    x.fieldOf j 7 ≤ x.fieldOf j 8 ∧ x.fieldOf j 9 ≤ x.fieldOf j 10 := by
  simp only [Law.inverted, Bool.or_eq_false_iff, decide_eq_false_iff_not] at h
  omega

/-! ### The terms of a computation (R203) -/

section
variable (x : Law) (j : Nat)

/-- The product of coefficient c and v. -/
def Law.mul (c : Nat) (v : Int) : Int := (lawMul (x.fieldOf j c) (x.shift j c) v).v

/-- The feed-forward term. -/
def Law.forward (xin xacc : Int) : Int := sat32 (x.mul j 4 xin + x.mul j 5 xacc)

/-- The filtered derivative. -/
def Law.deriv (e : Int) : Int := sat32 (x.df + x.mul j 3 (sat32 (e - x.ePrev) - x.df))

/-- The integrator brought into its limits, before its mode. -/
def Law.integral (e : Int) : Int := clampI (x.fieldOf j 7) (x.fieldOf j 8) (sat32 (x.i + x.mul j 1 e))

/-- The integrator as its mode lets it move (R204). -/
def Law.moved (m : IMode) (e : Int) : Int :=
  match m with
  | .free => x.integral j e
  | .noRise => min x.i (x.integral j e)
  | .hold => x.i

variable {x j} {m : IMode} {e xin xacc : Int}

theorem compute_of_seated (h : x.reseat = false) :
    let y := (x.compute j m e xin xacc).1
    y.i = x.moved j m e ∧ y.df = x.deriv j e ∧ y.out = clampI (x.fieldOf j 9) (x.fieldOf j 10)
      (sat32 (x.mul j 0 (propErr (x.pmode j) e) + x.moved j m e + x.mul j 2 (x.deriv j e) + x.forward j xin xacc)) := by
  have hfree : ¬x.reseat = true := by simp [h]
  unfold Law.compute
  simp only [if_neg hfree, minI_eq_min]
  cases m <;> exact ⟨rfl, rfl, rfl⟩

theorem compute_of_reseat (h : x.reseat = true) :
    let y := (x.compute j m e xin xacc).1
    let kp := x.mul j 0 (propErr (x.pmode j) e)
    let i := clampI (x.fieldOf j 7) (x.fieldOf j 8) (x.out - (kp + x.forward j xin xacc))
    y.i = i ∧ y.out = clampI (x.fieldOf j 9) (x.fieldOf j 10) (sat32 (kp + i + x.forward j xin xacc)) := by
  unfold Law.compute
  simp only [if_pos h]
  exact ⟨rfl, rfl⟩

/-- What a computation sets whatever its inputs, and what it leaves of the instance. -/
theorem compute_keeps :
    let y := (x.compute j m e xin xacc).1
    y.ePrev = e ∧ y.fields = x.fields ∧ y.queue = x.queue ∧ y.isOpen = x.isOpen ∧ y.reseat = false ∧ y.late = false := by
  unfold Law.compute
  dsimp only
  split
  · exact ⟨rfl, rfl, rfl, rfl, rfl, rfl⟩
  next h => exact ⟨rfl, rfl, rfl, rfl, by simpa using h, rfl⟩

/-- Without a derivative coefficient, a derivative that is zero stays zero. -/
theorem deriv_of_zero (hc : x.fieldOf j 3 = 0) (hdf : x.df = 0) : x.deriv j e = 0 := by
  rw [Law.deriv, Law.mul, hc, lawMul_zero, hdf]; rfl

/-- Output and, where it may move freely, integrator stay within limits that are not inverted. -/
theorem compute_within (h : x.inverted j = false) :
    let y := (x.compute j m e xin xacc).1
    x.fieldOf j 9 ≤ y.out ∧ y.out ≤ x.fieldOf j 10 ∧
      (m = .free ∨ x.reseat = true → x.fieldOf j 7 ≤ y.i ∧ y.i ≤ x.fieldOf j 8) := by
  obtain ⟨hlimits, hout⟩ := inverted_eq_false h
  cases hreseat : x.reseat with
  | true =>
    obtain ⟨hi, ho⟩ := compute_of_reseat (j := j) (m := m) (e := e) (xin := xin) (xacc := xacc) hreseat
    dsimp only
    rw [hi, ho]
    exact ⟨(clampI_between hout _).1, (clampI_between hout _).2, fun _ => clampI_between hlimits _⟩
  | false =>
    obtain ⟨hi, -, ho⟩ := compute_of_seated (j := j) (m := m) (e := e) (xin := xin) (xacc := xacc) hreseat
    dsimp only
    rw [hi, ho]
    refine ⟨(clampI_between hout _).1, (clampI_between hout _).2, fun hm => ?_⟩
    obtain rfl : m = .free := by simpa using hm
    exact clampI_between hlimits _
end

/-! ### An abandoned computation (R208) -/

/-- The law y, once x, has abandoned a computation: what a computation commits stands as in old, the rest as in x. -/
def Abandoned (old x y : Law) : Prop :=
  y.i = old.i ∧ y.df = old.df ∧ y.out = old.out ∧ y.ePrev = old.ePrev ∧ y.fields = x.fields ∧ y.queue = x.queue ∧
    y.isOpen = x.isOpen ∧ y.pendOpen = x.pendOpen

/-- Law j as the latch of the present tick found it. -/
def State.lawAtLatch (s : State) (j : Nat) : Law := NMap.get (fun _ => {}) s.loop.lawsAtLatch j

theorem makeLate_lawAtLatch (s : State) (j k : Nat) : (s.makeLate j).lawAtLatch k = s.lawAtLatch k := by
  unfold State.makeLate; dsimp only; split <;> rfl

theorem makeLate_abandons (s : State) (j : Nat) : Abandoned (s.lawAtLatch j) (s.loop.law j) ((s.makeLate j).loop.law j) := by
  unfold State.makeLate; extract_lets old x s1
  have h1 : Abandoned old x (s1.loop.law j) := by
    simp only [s1, LoopState.law_setLaw_same]
    exact ⟨rfl, rfl, rfl, rfl, rfl, rfl, rfl, rfl⟩
  split
  · exact h1
  · exact h1

/-- A computation abandoned twice is abandoned. -/
theorem Abandoned.trans {old x y z : Law} (h : Abandoned old x y) (k : Abandoned old y z) : Abandoned old x z := by
  obtain ⟨-, -, -, -, hfields, hqueue, hopen, hpend⟩ := h
  obtain ⟨hi, hdf, hout, he, hfields', hqueue', hopen', hpend'⟩ := k
  exact ⟨hi, hdf, hout, he, hfields'.trans hfields, hqueue'.trans hqueue, hopen'.trans hopen, hpend'.trans hpend⟩

/-- Laws made late one after the other: each is abandoned, and so is one that was abandoned before. -/
theorem makeLates_abandon (js : List Nat) (s : State) (k : Nat) : let t := js.foldl (fun s j => s.makeLate j) s
    (∀ x, Abandoned (s.lawAtLatch k) x (s.loop.law k) → Abandoned (s.lawAtLatch k) x (t.loop.law k)) ∧
      (k ∈ js → Abandoned (s.lawAtLatch k) (s.loop.law k) (t.loop.law k)) := by
  induction js generalizing s with
  | nil => exact ⟨fun _ h => h, by simp⟩
  | cons j js ih =>
    obtain ⟨hkeep, hjs⟩ := ih (s.makeLate j)
    rw [makeLate_lawAtLatch] at hkeep hjs
    by_cases hkj : k = j
    · subst hkj
      have hk := makeLate_abandons s k
      exact ⟨fun x h => hkeep x (h.trans hk), fun _ => hkeep _ hk⟩
    · rw [(makeLate_law s j).2 k hkj] at hkeep hjs
      exact ⟨hkeep, fun h => hjs ((List.mem_cons.mp h).resolve_left hkj)⟩

/-- The instances that a deadline abandons: the first late one that the engine was to compute, and every later one. -/
def State.abandonedBy (s : State) (late : List (Fin 192)) : List Nat :=
  s.computed.dropWhile (fun j => !(late.map Fin.val).contains j)

theorem mem_dropWhile_of_not {α : Type} {p : α → Bool} {l : List α} {a : α} (ha : a ∈ l) (hp : p a = false) : a ∈ l.dropWhile p := by
  rw [← List.takeWhile_append_dropWhile (p := p) (l := l), List.mem_append] at ha
  refine ha.resolve_left fun h => ?_
  simp [List.mem_takeWhile_imp h] at hp

theorem mem_abandonedBy {s : State} {late : List (Fin 192)} {j : Fin 192} (hlate : j ∈ late) (hj : j.val ∈ s.computed) :
    j.val ∈ s.abandonedBy late :=
  mem_dropWhile_of_not hj (by simpa using ⟨j, hlate, rfl⟩)

/-- The laws after a deadline are those after its instances have been made late. -/
theorem loopDeadline_law {late : List (Fin 192)} {s : State} (hup : s.isUp = true) (htime : s.syn.timeRuns = true)
    (hin : s.engineOut = false) (hjs : s.abandonedBy late ≠ []) (j : Nat) :
    (loopDeadline late s).loop.law j = ((s.abandonedBy late).foldl (fun s j => s.makeLate j) s).loop.law j := by
  unfold loopDeadline; extract_lets on js s1 s2 s3 s4
  have hne : js.isEmpty = false := List.isEmpty_eq_false_iff.mpr hjs
  have h3 : s3.lawsSts = s2.lawsSts := foldl_keeps State.lawsSts _ _ (deadlineGovs_lawsSts js) s2
  have hloop : s4.traceAmend.muteAgain.loop = s4.traceAmend.loop := congrArg Prod.fst (muteAgain_engines s4.traceAmend)
  rw [if_neg (by simp [hup, htime, hin, hne]), hloop, law_of_lawsSts (traceAmend_lawsSts s4), setStF_loop, setStF_loop,
    law_of_lawsSts h3, lateNote_law, law_of_lawsSts (lateRaise_lawsSts s1 js)]
  rfl

theorem loopDeadline_abandons {late : List (Fin 192)} {s : State} {j : Fin 192} (hup : s.isUp = true) (htime : s.syn.timeRuns = true)
    (hin : s.engineOut = false) (hlate : j ∈ late) (hj : j.val ∈ s.computed) :
    Abandoned (s.lawAtLatch j) (s.loop.law j) ((loopDeadline late s).loop.law j) := by
  have hmem := mem_abandonedBy hlate hj
  rw [loopDeadline_law hup htime hin (List.ne_nil_of_mem hmem)]
  exact (makeLates_abandon _ s j).2 hmem

end Sys2Proof.Machine

open Sys2Proof Sys2Proof.Machine

/-- Settles O31: the terms of a computation by whether it re-seats, its limits by those of the clamps that end it, and an abandoned
computation by induction over the instances that the deadline makes late. -/
theorem lawForm : Obligations.LawForm := by
  unfold Obligations.LawForm
  refine ⟨fun x j m e xin xacc => ?_, fun s late j hup htime hin hlate hj => ⟨_, rfl, loopDeadline_abandons hup htime hin hlate hj⟩⟩
  obtain ⟨hePrev, hfields, hqueue, hopen, hreseat, hnotLate⟩ := compute_keeps (x := x) (j := j) (m := m) (e := e) (xin := xin) (xacc := xacc)
  refine ⟨fun h => ?_, fun h hc hdf => ?_, hePrev, hfields, hqueue, hopen, hreseat, hnotLate, compute_within⟩
  · rw [← propErr_eq]
    obtain ⟨hi, hdf, hout⟩ := compute_of_seated (j := j) (m := m) (e := e) (xin := xin) (xacc := xacc) h
    cases m <;> exact ⟨hi, hdf, hout⟩
  · obtain ⟨-, hderiv, -⟩ := compute_of_seated (j := j) (m := m) (e := e) (xin := xin) (xacc := xacc) h
    exact hderiv.trans (deriv_of_zero hc hdf)
end

section
/-! SUPPORT. The core voltage (R219, R332): an emergency step below 0.85 V and at it, and the statement about the core-voltage commands. -/

namespace Sys2Proof.Machine

theorem regsUp_of_isUp {s : State} (h : s.isUp = true) : s.regsUp = true := by simp [State.regsUp, h]

/-! ### The emergency step (R219) -/

/-- The command after a step. -/
def State.stepQ (s : State) : Nat := min (850 * 65536) (s.vcoreQ + s.stepMv * 65536)

/-- SUPPLY takes the stepped command, and the step is kept for the integrator. -/
def State.stepIssued (s : State) : State :=
  State.setVcore { s with loop := { s.loop with emergency := s.loop.emergency + (s.stepQ - s.vcoreQ) } } s.stepQ

/-- The state after a step below 0.85 V. -/
def State.vcoreStepped (s : State) : State := (s.stepIssued.setStF Reg.LOOP_VCORE_STAT 23 1 1).bumpF Reg.LOOP_VCORE_STAT 24 8 1

/-- The state after a step asked for at 0.85 V. -/
def State.vcoreToldTop (s : State) : State := (State.raise { s with loop := { s.loop with atTop := true } } 1 15).raise 23 9

theorem vcoreStep_of_idle {s : State} (h : s.anyRunning = false) : s.vcoreStep = s := if_pos (by simp [h])

theorem vcoreStep_of_below {s : State} (hup : s.isUp = true) (hrun : s.anyRunning = true) (h : s.vcoreQ < 850 * 65536) :
    s.vcoreStep = s.vcoreStepped := by
  rw [State.vcoreStep, if_neg (by simp [hup, hrun]), if_neg (by unfold vcoreTop; omega), vcoreTop]
  rfl

theorem vcoreStep_of_top {s : State} (hup : s.isUp = true) (hrun : s.anyRunning = true) (h : 850 * 65536 ≤ s.vcoreQ) :
    s.vcoreStep = s.vcoreToldTop := by
  rw [State.vcoreStep, if_neg (by simp [hup, hrun]), if_pos (by unfold vcoreTop; omega)]
  rfl

/-- What a step below 0.85 V leaves between s and t: the command risen, the step counted. -/
def VcoreRaised (s t : State) : Prop :=
  OnlyStatus [Reg.LOOP_VCORE_STAT] s { t with loop := s.loop } ∧
    t.loop = { s.loop with emergency := s.loop.emergency + (t.vcoreQ - s.vcoreQ), cmdFrac := t.loop.cmdFrac } ∧
    t.vcoreQ = min (850 * 65536) (s.vcoreQ + s.stepMv * 65536) ∧ t.stF Reg.LOOP_VCORE_STAT 23 1 = 1 ∧
    t.stF Reg.LOOP_VCORE_STAT 24 8 = satAdd 255 (s.stF Reg.LOOP_VCORE_STAT 24 8) 1

theorem st_withLoop (s : State) (l : LoopState) (a : Nat) : State.st { s with loop := l } a = s.st a := rfl

/-- A write of one of the registers A, after a change of them and of the loop engine's part. -/
theorem onlyStatus_setStF {A : List Nat} {s t : State} {a : Nat} (h : OnlyStatus A s { t with loop := s.loop }) (ha : a ∈ A)
    (lo len v : Nat) : OnlyStatus A s { t.setStF a lo len v with loop := s.loop } := by
  obtain ⟨heq, hst⟩ := h
  simp only [st_withLoop] at hst
  refine ⟨congrArg (fun x : State => { x with sts := (t.setStF a lo len v).sts }) heq, fun b hb => ?_⟩
  have hne : b ≠ a := fun hba => hb (hba.symm ▸ ha)
  rw [st_withLoop, st_setStF_ne t lo len v hne, hst b hb]

theorem stepIssued_onlyStatus (s : State) : OnlyStatus [Reg.LOOP_VCORE_STAT] s { s.stepIssued with loop := s.loop } :=
  setVcore_onlyStatus s _ _

theorem setVcore_loop_emergency (s : State) (x q : Nat) :
    (State.setVcore { s with loop := { s.loop with emergency := x } } q).loop = { s.loop with emergency := x, cmdFrac := q % 65536 } := rfl

theorem stepIssued_loop (s : State) : s.stepIssued.loop =
    { s.loop with emergency := s.loop.emergency + (s.stepQ - s.vcoreQ), cmdFrac := s.stepQ % 65536 } :=
  setVcore_loop_emergency s _ _

theorem stepIssued_vcoreCmd (s : State) : s.stepIssued.vcoreCmd = s.stepQ / 65536 % 2 ^ 12 := vcoreCmd_setVcore _ _

theorem setVcore_steps (s : State) (q : Nat) : (s.setVcore q).stF Reg.LOOP_VCORE_STAT 24 8 = s.stF Reg.LOOP_VCORE_STAT 24 8 :=
  stF_setStF_disjoint _ _ _ (by decide) (by decide)

theorem stepIssued_steps (s : State) : s.stepIssued.stF Reg.LOOP_VCORE_STAT 24 8 = s.stF Reg.LOOP_VCORE_STAT 24 8 := by
  rw [State.stepIssued, setVcore_steps]
  exact stF_of_st (st_withLoop s _ _) _ _

theorem vcoreStepped_loop (s : State) : s.vcoreStepped.loop = s.stepIssued.loop := by
  rw [State.vcoreStepped, State.bumpF, setStF_loop, setStF_loop]

/-- A command of whole and part millivolts that fits its field is read back as it was written. -/
theorem vcoreStepped_vcoreQ (s : State) : s.vcoreStepped.vcoreQ = s.stepQ := by
  have hle : s.stepQ ≤ 850 * 65536 := Nat.min_le_left _ _
  have hcmd : s.vcoreStepped.vcoreCmd = s.stepIssued.vcoreCmd := by
    rw [State.vcoreStepped, State.vcoreCmd, State.bumpF, stF_setStF_disjoint _ _ _ (by decide) (by decide),
      stF_setStF_disjoint _ _ _ (by decide) (by decide), State.vcoreCmd]
  rw [State.vcoreQ, hcmd, stepIssued_vcoreCmd, vcoreStepped_loop, stepIssued_loop]
  dsimp only
  omega

theorem vcoreStepped_raised (s : State) : VcoreRaised s s.vcoreStepped := by
  have hframe : OnlyStatus [Reg.LOOP_VCORE_STAT] s { s.vcoreStepped with loop := s.loop } := by
    unfold State.vcoreStepped State.bumpF
    exact onlyStatus_setStF (onlyStatus_setStF (stepIssued_onlyStatus s) (by simp) 23 1 1) (by simp) 24 8 _
  refine ⟨hframe, ?_, vcoreStepped_vcoreQ s, ?_, ?_⟩
  · rw [vcoreStepped_vcoreQ, vcoreStepped_loop, stepIssued_loop]
  · rw [State.vcoreStepped, State.bumpF, stF_setStF_disjoint _ _ _ (by decide) (by decide), stF_setStF_same _ _ _ (by decide)]; rfl
  · rw [State.vcoreStepped, stF_bumpF_same _ _ _ (by decide), stF_setStF_disjoint _ _ _ (by decide) (by decide), stepIssued_steps]; rfl

/-- What a step asked for at 0.85 V leaves between s and t: its two events. -/
def VcoreAtTop (s t : State) : Prop :=
  Counts 1 15 s t ∧ Counts 23 9 s t ∧ OnlyCounts s { t with loop := s.loop } ∧ t.loop = { s.loop with atTop := true }

/-- An event after a change of what counting changes and of the loop engine's part. -/
theorem onlyCounts_raise {s t : State} (h : OnlyCounts s { t with loop := s.loop }) (b n : Nat) (u : Option Nat) :
    OnlyCounts s { t.raise b n u with loop := s.loop } := by
  obtain ⟨heq, hparts⟩ := h
  refine ⟨congrArg (fun x : State => { x with
    flt := (t.raise b n u).flt, twb := (t.raise b n u).twb, peat := (t.raise b n u).peat
    mram := (t.raise b n u).mram, bog := (t.raise b n u).bog }) heq, ?_⟩
  exact countParts_of_fixed ((raiseEvs_fixed t _).trans (countParts_fixed hparts))

/-- An event whose source stands as it was counts it. -/
theorem raise_counts_of_source {s x : State} (b n : Nat) (u : Option Nat) (hc : ¬chained (32 * b + n)) (hb : b ∉ [5, 7, 8, 19])
    (h : x.flt.source b n = s.flt.source b n) : Counts b n s (x.raise b n u) := by
  have hx : Counts b n x (x.raise b n u) := raise_counts_of_flt b n u hc hb rfl
  rwa [Counts, h] at hx

theorem vcoreToldTop_atTop (s : State) : VcoreAtTop s s.vcoreToldTop := by
  unfold State.vcoreToldTop
  refine ⟨?_, ?_, onlyCounts_raise (raise_onlyCounts_loop s _ 1 15 none) 23 9 none, by rw [raise_loop, raise_loop]⟩
  · rw [Counts, raise_source_ne _ 1 15 23 9 none (by unfold chained; decide) (by decide)]
    exact raise_counts_of_flt 1 15 none (by unfold chained; decide) (by decide) rfl
  · refine raise_counts_of_source 23 9 none (by unfold chained; decide) (by decide) ?_
    exact raise_source_ne _ 23 9 1 15 none (by unfold chained; decide) (by decide)

/-! ### TIMING_CLR (R225) -/

theorem timingClr_of_regsUp {s : State} (v : Word) (h : s.regsUp = true) :
    timingClr v s = if v.getLsbD 0 then s.setStF Reg.LOOP_TIMING 16 16 0 else s := by
  rw [timingClr, ifUp_of_regsUp _ h, bitAt_toNat]

theorem timingClr_clears {s : State} (v : Word) (h : s.regsUp = true) : OnlyStatus [Reg.LOOP_TIMING] s (timingClr v s) ∧
    (timingClr v s).stF Reg.LOOP_TIMING 0 16 = s.stF Reg.LOOP_TIMING 0 16 ∧
    (timingClr v s).stF Reg.LOOP_TIMING 16 16 = if v.getLsbD 0 then 0 else s.stF Reg.LOOP_TIMING 16 16 := by
  rw [timingClr_of_regsUp v h]
  split
  · obtain ⟨hframe, hupper, hlower⟩ := clearUpper_shows s Reg.LOOP_TIMING 0
    exact ⟨hframe, hlower, hupper⟩
  · exact ⟨onlyStatus_refl _ s, rfl, rfl⟩

end Sys2Proof.Machine

open Sys2Proof Sys2Proof.Machine

/-- Settles O32: the emergency step by whether a direction runs and where the command stands, and each other command by its own lemma. -/
theorem coreVoltageCommands : Obligations.CoreVoltageCommands := by
  unfold Obligations.CoreVoltageCommands
  refine fun s hup => ⟨fun hrun hq => ?_, fun hrun hq => ?_, fun hrun => ?_, ⟨_, rfl, ?_⟩, fun v => ⟨_, rfl, timingClr_clears v (regsUp_of_isUp hup)⟩⟩
  · have hstep := vcoreStepped_raised s
    rw [← vcoreStep_of_below hup hrun hq] at hstep
    exact ⟨⟨_, rfl, hstep⟩, ⟨_, rfl, hstep⟩⟩
  · have htop := vcoreToldTop_atTop s
    rw [← vcoreStep_of_top hup hrun hq] at htop
    exact ⟨⟨_, rfl, htop⟩, ⟨_, rfl, htop⟩⟩
  · exact ⟨⟨_, rfl, vcoreStep_of_idle hrun⟩, ⟨_, rfl, vcoreStep_of_idle hrun⟩⟩
  · rw [vcoreSlewTimeout, hup]
    exact vinSource_counts s 14 (by decide)
end

section
/-! SUPPORT. The law access commands (R209–R214): what an outcome shows and counts, which outcome each command has, and what it does to
the instance that LAW_ADDR names. -/

namespace Sys2Proof.Machine

/-! ### Outcomes (R210) -/

/-- LAW_STATUS after an outcome (R225). -/
def LawShows (s : State) (code : Nat) (t : State) : Prop :=
  t.st Reg.LOOP_LAW_STATUS =
    (code + 16 * s.lawAddr.1 + 4096 * s.lawAddr.2 + 65536 * (t.loop.law s.lawAddr.1).queue.length) % 2 ^ 32

/-- A refusal between s and t: its code is shown, its source counts, and nothing else changes. -/
def LawRefuses (code src : Nat) (s t : State) : Prop :=
  LawShows s code t ∧ Counts 17 src s t ∧ OnlyStatusCounts [Reg.LOOP_LAW_STATUS] s t

/-- An accepted command between s and t: its code is shown, the addressed instance is y after it, and every other one as it was. -/
def LawTakes (code : Nat) (y : Law) (s t : State) : Prop :=
  LawShows s code t ∧ t.loop.law s.lawAddr.1 = y ∧ (∀ k, k ≠ s.lawAddr.1 → t.loop.law k = s.loop.law k) ∧
    OnlyStatus [Reg.LOOP_LAW_STATUS] s { t with loop := s.loop, sys := { t.sys with check := s.sys.check } }

theorem lawAddr_lt (s : State) : s.lawAddr.1 < 256 ∧ s.lawAddr.2 < 16 :=
  ⟨Nat.mod_lt _ (by decide), Nat.mod_lt _ (by decide)⟩

theorem lawAddr_of_cfg {s t : State} (h : t.cfg = s.cfg) : t.lawAddr = s.lawAddr := by
  simp only [State.lawAddr, State.fld, rd_eq_of_cfg h]

/-- The state that shows an outcome. -/
def State.lawShown (s : State) (code : Nat) : State := s.lawStatus code s.lawAddr.1 s.lawAddr.2

theorem lawDone_of_uncounted {code : Nat} (h : lawCodeSource code = none) (s : State) : s.lawDone code = s.lawShown code := by
  simp only [State.lawDone, h, State.lawShown]

theorem lawDone_of_counted {code n : Nat} (h : lawCodeSource code = some n) (s : State) :
    s.lawDone code = (s.lawShown code).raise 17 n := by
  simp only [State.lawDone, h, State.lawShown]

theorem lawShown_loop (s : State) (code : Nat) : (s.lawShown code).loop = s.loop := setSt_loop s _ _

theorem lawShown_onlyStatus (s : State) (code : Nat) : OnlyStatus [Reg.LOOP_LAW_STATUS] s (s.lawShown code) := setSt_onlyStatus s _ _

theorem lawShown_shows (s : State) (code : Nat) : LawShows s code (s.lawShown code) := by
  obtain ⟨hj, hf⟩ := lawAddr_lt s
  rw [LawShows, lawShown_loop, State.lawShown, State.lawStatus, st_setSt_same, Nat.mod_eq_of_lt hj, Nat.mod_eq_of_lt hf]
  congr 1; omega

theorem lawDone_refuses {code n : Nat} (h : lawCodeSource code = some n) (hn : n < 32) (s : State) :
    LawRefuses code n s (s.lawDone code) := by
  rw [lawDone_of_counted h]
  refine ⟨?_, raise_counts_of_flt 17 n none (by unfold chained; omega) (by decide) (setSt_flt s _ _), ?_⟩
  · have hshown := lawShown_shows s code
    rw [LawShows] at hshown ⊢
    rw [raise_loop, st_of_sts (raise_sts _ _ _ _), hshown]
  · obtain ⟨hframe, hst⟩ := lawShown_onlyStatus s code
    refine onlyStatusCounts_of_uncounted ?_ fun a ha => (st_of_sts (raise_sts _ _ _ _) a).trans (hst a ha)
    exact (Prod.ext rfl (raiseEvs_fixed _ _) : ((s.lawShown code).raise 17 n).uncounted = (s.lawShown code).uncounted)

/-- A command that has changed the addressed instance alone, a running check having heard of it or not. -/
theorem lawDone_takes {code : Nat} (h : lawCodeSource code = none) {s u : State} {y : Law}
    (hframe : u = { s with loop := u.loop, sys := { s.sys with check := u.sys.check } })
    (hy : u.loop.law s.lawAddr.1 = y) (hrest : ∀ k, k ≠ s.lawAddr.1 → u.loop.law k = s.loop.law k) :
    LawTakes code y s (u.lawDone code) := by
  have haddr : u.lawAddr = s.lawAddr := lawAddr_of_cfg (congrArg State.cfg hframe :)
  have hshown := lawShown_shows u code
  obtain ⟨honly, hst⟩ := lawShown_onlyStatus u code
  rw [LawShows, haddr] at hshown
  rw [lawDone_of_uncounted h]
  refine ⟨hshown, by rw [lawShown_loop, hy], fun k hk => by rw [lawShown_loop, hrest k hk], ?_, fun a ha => ?_⟩
  · rw [honly, hframe]
  · exact (hst a ha).trans (st_of_sts (congrArg State.sts hframe :) a)

/-- One instance written. -/
theorem lawDone_takes_setLaw {code : Nat} (h : lawCodeSource code = none) (s : State) (y : Law) :
    LawTakes code y s (State.lawDone { s with loop := s.loop.setLaw s.lawAddr.1 y } code) :=
  lawDone_takes h rfl (LoopState.law_setLaw_same _ _ _) fun _ hk => LoopState.law_setLaw_ne _ _ hk

theorem touch_frame (s : State) : s.touch = { s with sys := { s.sys with check := s.touch.sys.check } } := by
  unfold State.touch
  split <;> rfl

/-- One instance written, of which a running check hears (R101). -/
theorem lawDone_takes_touch {code : Nat} (h : lawCodeSource code = none) (s : State) (y : Law) :
    LawTakes code y s (State.lawDone (State.touch { s with loop := s.loop.setLaw s.lawAddr.1 y }) code) := by
  have hloop : (State.touch { s with loop := s.loop.setLaw s.lawAddr.1 y }).loop = s.loop.setLaw s.lawAddr.1 y := touch_loop _
  refine lawDone_takes h ?_ ?_ fun k hk => ?_
  · rw [hloop]
    exact touch_frame _
  · rw [hloop, LoopState.law_setLaw_same]
  · rw [hloop, LoopState.law_setLaw_ne _ _ hk]

/-! ### The commands -/

/-- The addressed instance. -/
def State.lawNamed (s : State) : Law := s.loop.law s.lawAddr.1

/-- The value that LAW_DATA holds for the addressed field. -/
def State.lawData (s : State) : Int := s.lawWord s.lawAddr.1 s.lawAddr.2 (s.rd Reg.LOOP_LAW_DATA)

section
variable {s : State}

theorem law_refuses_missing (hup : s.regsUp = true) (h : 191 < s.lawAddr.1) {c : Instr}
    (hc : c ∈ [Instr.lawWrite, .lawRead, .lawOpen, .lawClose, .lawDiscardQueue]) : Does c s (LawRefuses 4 15 s) := by
  have hdone : ∀ t, t = s.lawDone 4 → LawRefuses 4 15 s t := fun t ht => ht ▸ lawDone_refuses rfl (by decide) s
  simp only [List.mem_cons, List.not_mem_nil, or_false] at hc
  rcases hc with rfl | rfl | rfl | rfl | rfl
  · exact ⟨_, rfl, hdone _ ((ifUp_of_regsUp _ hup).trans (if_pos h))⟩
  · exact ⟨_, rfl, hdone _ ((ifUp_of_regsUp _ hup).trans (if_pos h))⟩
  · exact ⟨_, rfl, hdone _ ((ifUp_of_regsUp _ hup).trans (if_pos h))⟩
  · exact ⟨_, rfl, hdone _ ((ifUp_of_regsUp _ hup).trans (if_pos h))⟩
  · exact ⟨_, rfl, hdone _ ((ifUp_of_regsUp _ hup).trans (if_pos h))⟩

theorem lawWrite_of_present (hup : s.regsUp = true) (hj : s.lawAddr.1 ≤ 191) : lawWrite s =
    let j := s.lawAddr.1
    let f := s.lawAddr.2
    let x := s.lawNamed
    let v := s.lawData
    if !fieldWritable j f then s.lawDone 5
    else if x.isOpen then (State.touch { s with loop := s.loop.setLaw j (x.setField j f v) }).lawDone 0
    else if structural f then s.lawDone 2
    else if 8 ≤ x.queue.length then s.lawDone 3
    else State.lawDone { s with loop := s.loop.setLaw j { x with queue := x.queue ++ [(f, v)] } } 1 :=
  (ifUp_of_regsUp _ hup).trans (if_neg (Nat.not_lt.mpr hj))

theorem lawRead_of_present (hup : s.regsUp = true) (hj : s.lawAddr.1 ≤ 191) : lawRead s =
    (s.wr Reg.LOOP_LAW_DATA (bitsOf 32 (s.lawField s.lawAddr.1 s.lawAddr.2))).lawDone 0 :=
  (ifUp_of_regsUp _ hup).trans (if_neg (Nat.not_lt.mpr hj))

theorem lawOpen_of_present (hup : s.regsUp = true) (hj : s.lawAddr.1 ≤ 191) : lawOpen s =
    let j := s.lawAddr.1
    let x := s.lawNamed
    if j < 160 ∧ s.transmits (lawDir j) then s.lawDone 6
    else if x.isOpen ∧ !x.pendClose then s.lawDone 0
    else State.lawDone { s with loop := s.loop.setLaw j { x with pendOpen := true, pendClose := false } } 8 :=
  (ifUp_of_regsUp _ hup).trans (if_neg (Nat.not_lt.mpr hj))

theorem lawClose_of_present (hup : s.regsUp = true) (hj : s.lawAddr.1 ≤ 191) : lawClose s =
    let j := s.lawAddr.1
    let x := s.lawNamed
    if x.inverted j then s.lawDone 7
    else if !x.isOpen ∧ !x.pendOpen then s.lawDone 0
    else State.lawDone { s with loop := s.loop.setLaw j { x with pendClose := true, pendOpen := false } } 8 :=
  (ifUp_of_regsUp _ hup).trans (if_neg (Nat.not_lt.mpr hj))

theorem lawDiscardQueue_of_present (hup : s.regsUp = true) (hj : s.lawAddr.1 ≤ 191) : lawDiscardQueue s =
    State.lawDone { s with loop := s.loop.setLaw s.lawAddr.1 { s.lawNamed with queue := [] } } 0 :=
  (ifUp_of_regsUp _ hup).trans (if_neg (Nat.not_lt.mpr hj))

/-- An outcome that leaves every instance as it is. -/
theorem lawDone_takes_none {code : Nat} (h : lawCodeSource code = none) (s : State) :
    LawTakes code s.lawNamed s (s.lawDone code) := lawDone_takes h rfl rfl fun _ _ => rfl

end

/-! ### LAW_WRITE (R209, R210, R212, R213) -/

section
variable {s : State} (hup : s.regsUp = true) (hj : s.lawAddr.1 ≤ 191)
include hup hj

theorem lawWrite_readOnly (h : fieldWritable s.lawAddr.1 s.lawAddr.2 = false) : Does .lawWrite s (LawRefuses 5 15 s) := by
  refine ⟨_, rfl, ?_⟩
  simp only [lawWrite_of_present hup hj, h, Bool.not_false, if_true]
  exact lawDone_refuses rfl (by decide) s

theorem lawWrite_open (h : fieldWritable s.lawAddr.1 s.lawAddr.2 = true) (hopen : s.lawNamed.isOpen = true) :
    Does .lawWrite s (LawTakes 0 (s.lawNamed.setField s.lawAddr.1 s.lawAddr.2 s.lawData) s) := by
  refine ⟨_, rfl, ?_⟩
  simp only [lawWrite_of_present hup hj, h, hopen, Bool.not_true, Bool.false_eq_true, if_false, if_true]
  exact lawDone_takes_touch rfl s _

theorem lawWrite_structural (h : fieldWritable s.lawAddr.1 s.lawAddr.2 = true) (hclosed : s.lawNamed.isOpen = false)
    (hs : structural s.lawAddr.2 = true) : Does .lawWrite s (LawRefuses 2 15 s) := by
  refine ⟨_, rfl, ?_⟩
  simp only [lawWrite_of_present hup hj, h, hclosed, hs, Bool.not_true, Bool.false_eq_true, if_false, if_true]
  exact lawDone_refuses rfl (by decide) s

theorem lawWrite_full (h : fieldWritable s.lawAddr.1 s.lawAddr.2 = true) (hclosed : s.lawNamed.isOpen = false)
    (hs : structural s.lawAddr.2 = false) (hq : 8 ≤ s.lawNamed.queue.length) : Does .lawWrite s (LawRefuses 3 14 s) := by
  refine ⟨_, rfl, ?_⟩
  simp only [lawWrite_of_present hup hj, h, hclosed, hs, hq, Bool.not_true, Bool.false_eq_true, if_false, if_true]
  exact lawDone_refuses rfl (by decide) s

theorem lawWrite_queued (h : fieldWritable s.lawAddr.1 s.lawAddr.2 = true) (hclosed : s.lawNamed.isOpen = false)
    (hs : structural s.lawAddr.2 = false) (hq : s.lawNamed.queue.length < 8) :
    Does .lawWrite s (LawTakes 1 { s.lawNamed with queue := s.lawNamed.queue ++ [(s.lawAddr.2, s.lawData)] } s) := by
  refine ⟨_, rfl, ?_⟩
  have hroom : ¬8 ≤ s.lawNamed.queue.length := Nat.not_le.mpr hq
  simp only [lawWrite_of_present hup hj, h, hclosed, hs, hroom, Bool.not_true, Bool.false_eq_true, if_false]
  exact lawDone_takes_setLaw rfl s _

/-! ### LAW_READ (R210) -/

omit hup hj in
theorem bitsOf_lt (w : Nat) (x : Int) : bitsOf w x < 2 ^ w := by
  have hpos : (0 : Int) < ((2 ^ w : Nat) : Int) := by exact_mod_cast Nat.two_pow_pos w
  have hlt := Int.emod_lt_of_pos x hpos
  have hnn := Int.emod_nonneg x (ne_of_gt hpos)
  unfold bitsOf
  omega

omit hup hj in
/-- LAW_DATA holds any word of 32 bits. -/
theorem rd_wr_lawData (s : State) (x : Int) : (s.wr Reg.LOOP_LAW_DATA (bitsOf 32 x)).rd Reg.LOOP_LAW_DATA = bitsOf 32 x := by
  rw [rd_wr_low (w := 32) s _ rfl rfl (by decide), Nat.mod_eq_of_lt (bitsOf_lt 32 x)]

theorem lawRead_reads : Does .lawRead s (fun t => LawShows s 0 t ∧ OnlyStatus [Reg.LOOP_LAW_STATUS] s { t with cfg := s.cfg } ∧
    (∀ a, a ≠ Reg.LOOP_LAW_DATA → t.rd a = s.rd a) ∧
    t.rd Reg.LOOP_LAW_DATA = bitsOf 32 (s.lawField s.lawAddr.1 s.lawAddr.2)) := by
  refine ⟨_, rfl, ?_⟩
  rw [lawRead_of_present hup hj, lawDone_of_uncounted rfl]
  generalize s.lawField s.lawAddr.1 s.lawAddr.2 = x
  have haddr : (s.wr Reg.LOOP_LAW_DATA (bitsOf 32 x)).lawAddr = s.lawAddr := by
    simp only [State.lawAddr, State.fld, rd_wr_ne s _ (show Reg.LOOP_LAW_ADDR ≠ Reg.LOOP_LAW_DATA by decide)]
  have hshown := lawShown_shows (s.wr Reg.LOOP_LAW_DATA (bitsOf 32 x)) 0
  obtain ⟨honly, hst⟩ := lawShown_onlyStatus (s.wr Reg.LOOP_LAW_DATA (bitsOf 32 x)) 0
  rw [LawShows, haddr] at hshown
  have hcfg : ((s.wr Reg.LOOP_LAW_DATA (bitsOf 32 x)).lawShown 0).cfg = (s.wr Reg.LOOP_LAW_DATA (bitsOf 32 x)).cfg := setSt_cfg _ _ _
  refine ⟨hshown, ⟨?_, fun a ha => hst a ha⟩, fun a ha => ?_, ?_⟩
  · exact congrArg (fun t : State => { t with cfg := s.cfg }) honly
  · rw [rd_eq_of_cfg hcfg, rd_wr_ne s _ ha]
  · rw [rd_eq_of_cfg hcfg, rd_wr_lawData]

omit hup hj in
theorem lawField_of_field (s : State) (j : Nat) {f : Nat} (h : f < 11) : s.lawField j f = (s.loop.law j).fieldOf j f := by
  simp only [State.lawField, show f ≠ 13 by omega, show f ≠ 14 by omega, show f ≠ 15 by omega, show f ≠ 12 by omega,
    show f ≠ 11 by omega, if_false, false_and]

/-! ### LAW_OPEN, LAW_CLOSE and LAW_DISCARD_QUEUE (R212–R214) -/

theorem lawOpen_transmits (hgov : s.lawAddr.1 < 160) (h : s.transmits (lawDir s.lawAddr.1) = true) :
    Does .lawOpen s (LawRefuses 6 15 s) := by
  refine ⟨_, rfl, ?_⟩
  simp only [lawOpen_of_present hup hj, hgov, h, and_self, if_true]
  exact lawDone_refuses rfl (by decide) s

section
variable (h : 160 ≤ s.lawAddr.1 ∨ s.transmits (lawDir s.lawAddr.1) = false)
include h

theorem lawOpen_standing (hopen : s.lawNamed.isOpen = true) (hpend : s.lawNamed.pendClose = false) :
    Does .lawOpen s (LawTakes 0 s.lawNamed s) := by
  refine ⟨_, rfl, ?_⟩
  rw [lawOpen_of_present hup hj]
  dsimp only
  rw [if_neg (by rcases h with h | h <;> simp [h]), if_pos (by simp [hopen, hpend])]
  exact lawDone_takes_none rfl s

theorem lawOpen_pends (hopen : s.lawNamed.isOpen = false ∨ s.lawNamed.pendClose = true) :
    Does .lawOpen s (LawTakes 8 { s.lawNamed with pendOpen := true, pendClose := false } s) := by
  refine ⟨_, rfl, ?_⟩
  rw [lawOpen_of_present hup hj]
  dsimp only
  rw [if_neg (by rcases h with h | h <;> simp [h]), if_neg (by rcases hopen with h | h <;> simp [h])]
  exact lawDone_takes_setLaw rfl s _

end

theorem lawClose_inverted (h : s.lawNamed.inverted s.lawAddr.1 = true) : Does .lawClose s (LawRefuses 7 15 s) := by
  refine ⟨_, rfl, ?_⟩
  simp only [lawClose_of_present hup hj, h, if_true]
  exact lawDone_refuses rfl (by decide) s

section
variable (h : s.lawNamed.inverted s.lawAddr.1 = false)
include h

theorem lawClose_standing (hclosed : s.lawNamed.isOpen = false) (hpend : s.lawNamed.pendOpen = false) :
    Does .lawClose s (LawTakes 0 s.lawNamed s) := by
  refine ⟨_, rfl, ?_⟩
  rw [lawClose_of_present hup hj]
  dsimp only
  rw [if_neg (by simp [h]), if_pos (by simp [hclosed, hpend])]
  exact lawDone_takes_none rfl s

theorem lawClose_pends (hclosed : s.lawNamed.isOpen = true ∨ s.lawNamed.pendOpen = true) :
    Does .lawClose s (LawTakes 8 { s.lawNamed with pendClose := true, pendOpen := false } s) := by
  refine ⟨_, rfl, ?_⟩
  rw [lawClose_of_present hup hj]
  dsimp only
  rw [if_neg (by simp [h]), if_neg (by rcases hclosed with h | h <;> simp [h])]
  exact lawDone_takes_setLaw rfl s _

end

theorem lawDiscardQueue_empties : Does .lawDiscardQueue s (LawTakes 0 { s.lawNamed with queue := [] } s) :=
  ⟨_, rfl, by rw [lawDiscardQueue_of_present hup hj]; exact lawDone_takes_setLaw rfl s _⟩

end

end Sys2Proof.Machine
end

section
/-! SUPPORT. The trace units (R223–R225): a unit written alone, the commands that arm and freeze one, a record that its region takes or not,
and the statement about the law access commands and the trace units. -/

namespace Sys2Proof.Machine

/-! ### One unit -/

@[simp] theorem trace_setTrace_same (s : State) (u : Nat) (x : TraceUnit) : (s.setTrace u x).trace u = x := by
  simp [State.trace, State.setTrace]

theorem trace_setTrace_ne (s : State) (x : TraceUnit) {u k : Nat} (h : k ≠ u) : (s.setTrace u x).trace k = s.trace k := by
  simp [State.trace, State.setTrace, NMap.get_put_ne _ _ _ h]

/-- Nothing has changed between s and t but trace unit u. -/
def OnlyTrace (u : Fin 4) (s t : State) : Prop :=
  t = { s with loop := { s.loop with units := t.loop.units } } ∧ ∀ k : Fin 4, k ≠ u → t.trace k = s.trace k

theorem setTrace_onlyTrace (s : State) (u : Fin 4) (x : TraceUnit) : OnlyTrace u s (s.setTrace u x) :=
  ⟨rfl, fun _ hk => trace_setTrace_ne s x (Fin.val_ne_of_ne hk)⟩

theorem onlyTrace_refl (u : Fin 4) (s : State) : OnlyTrace u s s := ⟨rfl, fun _ _ => rfl⟩

/-! ### TRACE_ARM (R223, R225) -/

/-- The state after the write of TR_CTRL that the command is. -/
def State.ctrlWritten (s : State) (u : Fin 4) (v : Word) : State := s.wrc (Reg.LOOP_TR_CTRL u) v.toNat

theorem ctrlWritten_eq (s : State) (u : Fin 4) (v : Word) : ∃ c, s.ctrlWritten u v =
    { s with cfg := (s.wr (Reg.LOOP_TR_CTRL u) v.toNat).cfg, sys := { s.sys with check := c } } := ⟨_, wrc_eq s _ _⟩

theorem ctrlWritten_trace (s : State) (u : Fin 4) (v : Word) (k : Nat) : (s.ctrlWritten u v).trace k = s.trace k := by
  obtain ⟨c, hc⟩ := ctrlWritten_eq s u v
  rw [hc]; rfl

/-- Between s and t: TR_CTRL is written, a running check has heard of it or not, and unit u is x. -/
def CtrlLeaves (u : Fin 4) (v : Word) (x : TraceUnit) (s t : State) : Prop :=
  t.cfg = (s.wr (Reg.LOOP_TR_CTRL u) v.toNat).cfg ∧
    OnlyTrace u s { t with cfg := s.cfg, sys := { t.sys with check := s.sys.check } } ∧ t.trace u = x

theorem CtrlLeaves.unit {u : Fin 4} {v : Word} {x : TraceUnit} {s t : State} (h : CtrlLeaves u v x s t) : t.trace u = x := h.2.2

theorem ctrlWritten_leaves (s : State) (u : Fin 4) (v : Word) : CtrlLeaves u v (s.trace u) s (s.ctrlWritten u v) := by
  obtain ⟨c, hc⟩ := ctrlWritten_eq s u v
  rw [hc]
  exact ⟨rfl, onlyTrace_refl u s, rfl⟩

theorem ctrlWritten_setTrace_leaves (s : State) (u : Fin 4) (v : Word) (x : TraceUnit) :
    CtrlLeaves u v x s ((s.ctrlWritten u v).setTrace u x) := by
  obtain ⟨c, hc⟩ := ctrlWritten_eq s u v
  rw [hc]
  exact ⟨rfl, setTrace_onlyTrace s u x, trace_setTrace_same _ _ _⟩

section
variable {s : State} {u : Fin 4} {v : Word} (hup : s.regsUp = true)
include hup

theorem traceArm_of_regsUp : traceArm u v s =
    let was := bitAt (s.rd (Reg.LOOP_TR_CTRL u)) 0
    let w := s.ctrlWritten u v
    if !was && v.getLsbD 0 then (if (s.trace u).st = 3 then w else w.traceArmed u)
    else if !v.getLsbD 0 && (s.trace u).st != 3 then w.setTrace u { s.trace u with st := 0 }
    else w := by
  rw [traceArm, ifUp_of_regsUp _ hup]
  simp only [← ctrlWritten_trace s u v u, ← bitAt_toNat v 0]
  rfl

/-- ARM from 0 to 1 of a unit that is not frozen: an empty recording. -/
theorem traceArm_starts (hv : v.getLsbD 0 = true) (hwas : bitAt (s.rd (Reg.LOOP_TR_CTRL u)) 0 = false) (hst : (s.trace u).st ≠ 3) :
    ∃ sel, CtrlLeaves u v { st := 1, lastSel := sel } s (traceArm u v s) := by
  simp only [traceArm_of_regsUp hup, hv, hwas, hst, Bool.not_false, Bool.and_self, if_true, if_false]
  exact ⟨_, ctrlWritten_setTrace_leaves s u v _⟩

/-- ARM 1 of a unit that had it, or that is frozen: the unit as it was. -/
theorem traceArm_stands (hv : v.getLsbD 0 = true) (h : bitAt (s.rd (Reg.LOOP_TR_CTRL u)) 0 = true ∨ (s.trace u).st = 3) :
    CtrlLeaves u v (s.trace u) s (traceArm u v s) := by
  have hw : traceArm u v s = s.ctrlWritten u v := by
    rw [traceArm_of_regsUp hup]
    rcases h with h | h
    · simp only [hv, h, Bool.not_true, Bool.false_and, Bool.false_eq_true, if_false]
    · simp only [hv, h, Bool.not_true, Bool.false_and, Bool.false_eq_true, if_false, if_true, ite_self]
  rw [hw]
  exact ctrlWritten_leaves s u v

/-- ARM 0 of a unit that is not frozen: it is idle. -/
theorem traceArm_ends (hv : v.getLsbD 0 = false) (hst : (s.trace u).st ≠ 3) :
    CtrlLeaves u v { s.trace u with st := 0 } s (traceArm u v s) := by
  rw [traceArm_of_regsUp hup]
  dsimp only
  rw [if_neg (by rw [hv, Bool.and_false]; exact Bool.false_ne_true), if_pos (by rw [hv]; simp [hst])]
  exact ctrlWritten_setTrace_leaves s u v _

/-- ARM 0 of a frozen unit: the unit as it was. -/
theorem traceArm_frozen (hv : v.getLsbD 0 = false) (hst : (s.trace u).st = 3) : CtrlLeaves u v (s.trace u) s (traceArm u v s) := by
  rw [traceArm_of_regsUp hup]
  dsimp only
  rw [if_neg (by rw [hv, Bool.and_false]; exact Bool.false_ne_true), if_neg (by rw [hst]; simp)]
  exact ctrlWritten_leaves s u v

/-- What every write of TR_CTRL leaves. -/
theorem traceArm_leaves : ∃ x, CtrlLeaves u v x s (traceArm u v s) := by
  cases hv : v.getLsbD 0 with
  | false =>
    by_cases hst : (s.trace u).st = 3
    · exact ⟨_, traceArm_frozen hup hv hst⟩
    · exact ⟨_, traceArm_ends hup hv hst⟩
  | true =>
    by_cases h : bitAt (s.rd (Reg.LOOP_TR_CTRL u)) 0 = true ∨ (s.trace u).st = 3
    · exact ⟨_, traceArm_stands hup hv h⟩
    · rw [not_or, Bool.not_eq_true] at h
      obtain ⟨sel, hleaves⟩ := traceArm_starts hup hv h.1 h.2
      exact ⟨_, hleaves⟩
end

/-! ### Post samples, FORCE and REARM (R223, R225) -/

section
variable {s : State} {u : Fin 4} (hup : s.isUp = true)
include hup

theorem tracePostComplete_freezes (hst : (s.trace u).st = 2) (hmode : s.trFreezes u = true) (hpost : (s.trace u).postLeft = 0) :
    tracePostComplete u s = s.setTrace u { s.trace u with st := 3 } :=
  if_pos (by simp [hup, hst, hmode, hpost])

theorem traceForce_of_armed (hst : (s.trace u).st = 1) : traceForce u s = s.setTrace u { s.trace u with force := true } :=
  if_pos (by simp [hup, hst])

theorem traceRearm_of_up : traceRearm u s = s.traceArmed u := ifUp_of_regsUp _ (regsUp_of_isUp hup)

omit hup in
theorem tracePostComplete_of_not (h : (s.trace u).st ≠ 2 ∨ s.trFreezes u = false ∨ (s.trace u).postLeft ≠ 0) : tracePostComplete u s = s :=
  if_neg (by rcases h with h | h | h <;> simp [h])

omit hup in
theorem traceForce_of_unarmed (hst : (s.trace u).st ≠ 1) : traceForce u s = s := if_neg (by simp [hst])

end

/-! ### Records of a region (R224, R289) -/

theorem regRecord_offBog (s : State) (n : Nat) (v : List Byte) : (s.regRecord n v).1.offBog = s.offBog := by
  unfold State.regRecord; dsimp only; split
  · rfl
  · rfl

theorem recordTo_offBog (s : State) (kind : Nat) (sel : Nat → Bool) (v : List Byte) : (s.recordTo kind sel v).1.offBog = s.offBog := by
  unfold State.recordTo
  refine foldl_keeps (fun x : State × Bool => x.1.offBog) _ _ (fun x n => ?_) (s, false)
  dsimp only; split
  · exact regRecord_offBog x.1 n v
  · rfl

/-- A record that the region has room for is written at its place, and taken. -/
theorem regRecord_of_room {s : State} {n : Nat} {v : List Byte} (hactive : (s.bog.region n).active = true)
    (hroom : v.length ≤ s.regRoom n (s.bog.region n) v.length) (harea : v.length ≤ s.dataBytes n) :
    ∃ r, s.regRecord n v = ({ s with bog := (s.bog.write
      (s.dataStart n (s.bog.region n).seg + (s.bog.region n).wr % s.dataBytes n) v).setRegion n r }, true) := by
  unfold State.regRecord; dsimp only
  rw [if_neg (by simp [hactive, Nat.not_lt.mpr hroom, Nat.not_lt.mpr harea])]
  exact ⟨_, rfl⟩

/-- A fold acts at one of its elements only. -/
theorem foldl_at {σ α : Type} {f : σ → α → σ} {a : α} {l : List α} (hl : l.Nodup) (ha : a ∈ l) (h : ∀ x b, b ≠ a → f x b = x) (x : σ) :
    l.foldl f x = f x a := by
  have hskip : ∀ l : List α, a ∉ l → ∀ x, l.foldl f x = x := fun l hl x => by
    induction l generalizing x with
    | nil => rfl
    | cons b l ih =>
      obtain ⟨hb, hl⟩ := not_or.mp (mt List.mem_cons.mpr hl)
      rw [List.foldl_cons, h x b (Ne.symm hb), ih hl]
  induction l generalizing x with
  | nil => cases ha
  | cons b l ih =>
    obtain ⟨hb, hl⟩ := List.nodup_cons.mp hl
    rw [List.foldl_cons]
    by_cases hba : b = a
    · subst hba
      exact hskip l hb _
    · rw [h x b hba, ih hl ((List.mem_cons.mp ha).resolve_left (Ne.symm hba))]

/-- A record for one region of its kind that is active goes there. -/
theorem recordTo_region {s : State} {kind n : Nat} (v : List Byte) (hn : n ∈ regionNums) (hkind : s.regKind n = kind)
    (hactive : (s.bog.region n).active = true) :
    s.recordTo kind (fun m => decide (m = n)) v = ((s.regRecord n v).1, !(s.regRecord n v).2) := by
  have hfold := foldl_at (f := fun (x : State × Bool) m =>
      if x.1.regKind m = kind && decide (m = n) && (x.1.bog.region m).active then
        ((x.1.regRecord m v).1, x.2 || !(x.1.regRecord m v).2)
      else x) (by decide) hn (fun x m hm => if_neg (by simp [hm])) (s, false)
  exact hfold.trans ((if_pos (by simp [hkind, hactive])).trans (by rw [Bool.false_or]))

/-! ### Spill records (R224) -/

/-- The state but for the Bog and the status registers. -/
def State.offSpill (s : State) : State := { s with bog := {}, sts := [] }

theorem offSpill_of_offBog {s t : State} (h : t.offBog = s.offBog) : t.offSpill = s.offSpill :=
  congrArg (fun x : State => { x with sts := [] }) h

theorem sts_of_offBog {s t : State} (h : t.offBog = s.offBog) : t.sts = s.sts := (congrArg State.sts h :)

/-- What a spill changes: the Bog, and the count of the records that it drops. -/
theorem spill_keeps (s : State) (u : Nat) (v : List Byte) :
    (s.spill u v).1.offSpill = s.offSpill ∧ ∀ a, a ≠ Reg.LOOP_TR_DROPPED u → (s.spill u v).1.st a = s.st a := by
  have hrecord := recordTo_offBog s 4 (fun m => decide (m = s.trRegion u)) v
  have hst : ∀ a, (s.recordTo 4 (fun m => decide (m = s.trRegion u)) v).1.st a = s.st a := st_of_sts (sts_of_offBog hrecord)
  have hbump : ∀ x : State, (x.bump (Reg.LOOP_TR_DROPPED u) 1).offSpill = x.offSpill := fun _ => rfl
  unfold State.spill; dsimp only
  split
  · split
    · exact ⟨(hbump s).trans (offSpill_of_offBog rfl), fun a ha => st_bump_ne s 1 ha⟩
    · exact ⟨offSpill_of_offBog hrecord, fun a _ => hst a⟩
  · exact ⟨hbump s, fun a ha => st_bump_ne s 1 ha⟩

/-! ### TRACE_DUMP (R224) -/

/-- One record more is spilled; the answer says whether any has been dropped. -/
def spillNext (u : Nat) (x : State × Bool) (v : List Byte) : State × Bool := ((x.1.spill u v).1, x.2 || (x.1.spill u v).2)

/-- The records l spilled one after the other, bad telling of those before. -/
def State.spillAll (s : State) (u : Nat) (l : List (List Byte)) (bad : Bool) : State × Bool := l.foldl (spillNext u) (s, bad)

theorem traceDump_of_frozen {s : State} {u : Fin 4} (hup : s.isUp = true) (hst : (s.trace u).st = 3) :
    traceDump u s =
      (s.spillAll u ((s.trace u).records u) false).1.raiseIf (s.spillAll u ((s.trace u).records u) false).2 17 23 :=
  if_neg (by simp [hup, hst])

theorem traceDump_of_unfrozen {s : State} {u : Fin 4} (hst : (s.trace u).st ≠ 3) : traceDump u s = s := if_pos (by simp [hst])

/-- What a dump leaves alone, whatever its records come to. -/
theorem traceDump_keeps {s : State} {u : Fin 4} (hup : s.isUp = true) (hst : (s.trace u).st = 3) :
    (traceDump u s).loop = s.loop ∧ (traceDump u s).cfg = s.cfg ∧ (traceDump u s).now = s.now ∧
      ∀ a, a ≠ Reg.LOOP_TR_DROPPED u → (traceDump u s).st a = s.st a := by
  rw [traceDump_of_frozen hup hst]
  generalize (s.trace u).records u = l
  have hframe : (s.spillAll u l false).1.offSpill = s.offSpill :=
    foldl_keeps (fun x : State × Bool => x.1.offSpill) l (spillNext u) (fun x v => (spill_keeps x.1 u v).1) (s, false)
  have hsts : ∀ a, a ≠ Reg.LOOP_TR_DROPPED u → (s.spillAll u l false).1.st a = s.st a := fun a ha =>
    foldl_keeps (fun x : State × Bool => x.1.st a) l (spillNext u) (fun x v => (spill_keeps x.1 u v).2 a ha) (s, false)
  rw [raiseIf_loop, raiseIf_cfg, raiseIf_now]
  exact ⟨(congrArg State.loop hframe :), (congrArg State.cfg hframe :), (congrArg State.now hframe :),
    fun a ha => (st_of_sts (raiseIf_sts _ _ _ _ _) a).trans (hsts a ha)⟩

/-! #### A region that takes nothing -/

/-- The region of unit u is none that records go to, or none that is active. -/
def State.TrClosed (s : State) (u : Nat) : Prop := s.regKind (s.trRegion u) ≠ 4 ∨ (s.bog.region (s.trRegion u)).active = false

theorem spill_of_closed {s : State} {u : Nat} (h : s.TrClosed u) (v : List Byte) :
    s.spill u v = (s.bump (Reg.LOOP_TR_DROPPED u) 1, true) :=
  if_neg (by rcases h with h | h <;> simp [h])

theorem st_lt (s : State) (a : Nat) : s.st a < 2 ^ 32 := BitVec.isLt _

theorem satAdd_zero_of_le {top n : Nat} (h : n ≤ top) : satAdd top n 0 = n := by
  unfold satAdd; split <;> omega

theorem satAdd_satAdd (top n j k : Nat) : satAdd top (satAdd top n j) k = satAdd top n (j + k) := by
  unfold satAdd; repeat' split
  all_goals omega

theorem uncounted_raise (s : State) (b n : Nat) : (s.raise b n).uncounted = s.uncounted := Prod.ext rfl (raiseEvs_fixed _ _)

theorem uncounted_bump (s : State) (a k : Nat) : (s.bump a k).uncounted = s.uncounted := rfl

/-- Every record that goes to such a region is dropped, and counted. -/
theorem spillAll_of_closed {u : Nat} (l : List (List Byte)) {s : State} (h : s.TrClosed u) (bad : Bool) :
    (s.spillAll u l bad).1.uncounted = s.uncounted ∧ (s.spillAll u l bad).1.flt = s.flt ∧
      (s.spillAll u l bad).1.st (Reg.LOOP_TR_DROPPED u) = satAdd (2 ^ 32 - 1) (s.st (Reg.LOOP_TR_DROPPED u)) l.length ∧
      (s.spillAll u l bad).2 = (bad || !l.isEmpty) := by
  induction l generalizing s bad with
  | nil => exact ⟨rfl, rfl, (satAdd_zero_of_le (Nat.le_sub_one_of_lt (st_lt s _))).symm, (Bool.or_false _).symm⟩
  | cons v l ih =>
    have hnext : (s.bump (Reg.LOOP_TR_DROPPED u) 1).TrClosed u := h
    obtain ⟨hrest, hflt, hcount, hbad⟩ := ih hnext (bad || true)
    rw [State.spillAll, List.foldl_cons, spillNext, spill_of_closed h]
    refine ⟨hrest.trans (uncounted_bump s _ _), hflt, ?_, ?_⟩
    · exact hcount.trans (by rw [st_bump_same, satAdd_satAdd, Nat.add_comm 1, List.length_cons])
    · exact hbad.trans (by rw [Bool.or_true, Bool.true_or, List.isEmpty_cons, Bool.not_false, Bool.or_true])

theorem records_length (t : TraceUnit) (u : Nat) : (t.records u).length = t.samples.length := by
  simp [TraceUnit.records]

theorem traceDump_of_closed {s : State} {u : Fin 4} (hup : s.isUp = true) (hst : (s.trace u).st = 3) (hs : (s.trace u).samples ≠ [])
    (h : s.TrClosed u) : OnlyStatusCounts [Reg.LOOP_TR_DROPPED u] s (traceDump u s) ∧ Counts 17 23 s (traceDump u s) ∧
      (traceDump u s).st (Reg.LOOP_TR_DROPPED u) =
        satAdd (2 ^ 32 - 1) (s.st (Reg.LOOP_TR_DROPPED u)) (s.trace u).samples.length := by
  obtain ⟨_, _, _, hsts⟩ := traceDump_keeps hup hst
  obtain ⟨hrest, hflt, hcount, hbad⟩ := spillAll_of_closed ((s.trace u).records u) h false
  have hlen := records_length (s.trace u) u
  have hdump : traceDump u s = (s.spillAll u ((s.trace u).records u) false).1.raise 17 23 := by
    have hne : ((s.trace u).records u).isEmpty = false := by
      rw [List.isEmpty_eq_false_iff, ← List.length_pos_iff, hlen]
      exact List.length_pos_iff.mpr hs
    rw [traceDump_of_frozen hup hst, State.raiseIf, hbad, hne]; rfl
  refine ⟨onlyStatusCounts_of_uncounted ?_ fun a ha => hsts a (mt List.mem_singleton.mpr ha), ?_, ?_⟩
  · rw [hdump]
    exact (uncounted_raise _ 17 23).trans hrest
  · rw [hdump]
    exact raise_counts_of_flt 17 23 none (by unfold chained; decide) (by decide) hflt
  · rw [hdump, st_of_sts (raise_sts _ _ _ _), ← hlen]
    exact hcount

/-! #### One record that is taken -/

theorem length_leBytes (n w : Nat) : (leBytes n w).length = n := by
  induction n generalizing w with
  | zero => rfl
  | succ n ih => rw [leBytes, List.length_cons, ih]

theorem length_traceRecord (u : Nat) (trig : Bool) (x : List Int) : (traceRecord u trig x).length = 64 := by
  simp [traceRecord, nodeNums, length_leBytes]

theorem records_of_one {t : TraceUnit} (u : Nat) (h : t.samples.length = 1) :
    t.records u = [traceRecord u (decide (t.trigIdx = 0)) (t.samples.headD [])] := by
  obtain ⟨x, hx⟩ := List.length_eq_one_iff.mp h
  simp [TraceUnit.records, hx]

theorem trRegion_mem (s : State) (u : Nat) : s.trRegion u ∈ regionNums := by
  have hlt : s.trRegion u < 8 := Nat.mod_lt _ (by decide)
  simp only [regionNums, List.mem_cons, List.not_mem_nil, or_false]
  omega

theorem byte_setRegion (b : BogState) (n : Nat) (r : RegionRec) (a : Nat) : (b.setRegion n r).byte a = b.byte a := rfl

theorem read_setRegion (b : BogState) (n : Nat) (r : RegionRec) (a k : Nat) : (b.setRegion n r).read a k = b.read a k := by
  induction k generalizing a with
  | zero => rfl
  | succ k ih => rw [BogState.read, BogState.read, ih, byte_setRegion]

/-- A record that the region of unit u has room for is written at its place, and nothing is dropped. -/
theorem spill_of_room {s : State} {u : Nat} {v : List Byte} (hkind : s.regKind (s.trRegion u) = 4)
    (hactive : (s.bog.region (s.trRegion u)).active = true)
    (hroom : v.length ≤ s.regRoom (s.trRegion u) (s.bog.region (s.trRegion u)) v.length) (harea : v.length ≤ s.dataBytes (s.trRegion u)) :
    ∃ r, s.spill u v = ({ s with bog := (s.bog.write (s.dataStart (s.trRegion u) (s.bog.region (s.trRegion u)).seg +
      (s.bog.region (s.trRegion u)).wr % s.dataBytes (s.trRegion u)) v).setRegion (s.trRegion u) r }, false) := by
  obtain ⟨r, hr⟩ := regRecord_of_room hactive hroom harea
  have hrecord := recordTo_region v (trRegion_mem s u) hkind hactive
  rw [hr] at hrecord
  refine ⟨r, ?_⟩
  unfold State.spill
  dsimp only
  rw [if_pos (by simp [hkind, hactive]), hrecord]
  rfl

/-- A frozen buffer of one sample that its region takes (R224, R289). -/
theorem traceDump_of_one {s : State} {u : Fin 4} (hup : s.isUp = true) (hst : (s.trace u).st = 3) (hone : (s.trace u).samples.length = 1)
    (hkind : s.regKind (s.trRegion u) = 4) (hactive : (s.bog.region (s.trRegion u)).active = true)
    (hroom : 64 ≤ s.regRoom (s.trRegion u) (s.bog.region (s.trRegion u)) 64) (harea : 64 ≤ s.dataBytes (s.trRegion u)) :
    ∃ r, traceDump u s = { s with bog := (s.bog.write (s.dataStart (s.trRegion u) (s.bog.region (s.trRegion u)).seg +
      (s.bog.region (s.trRegion u)).wr % s.dataBytes (s.trRegion u))
        (traceRecord u (decide ((s.trace u).trigIdx = 0)) ((s.trace u).samples.headD []))).setRegion (s.trRegion u) r } := by
  have hlen := length_traceRecord u (decide ((s.trace u).trigIdx = 0)) ((s.trace u).samples.headD [])
  obtain ⟨r, hr⟩ := spill_of_room hkind hactive (hlen.symm ▸ hroom) (hlen.symm ▸ harea)
  refine ⟨r, ?_⟩
  rw [traceDump_of_frozen hup hst, records_of_one _ hone, State.spillAll, List.foldl_cons, List.foldl_nil, spillNext, hr]
  rfl

/-- The bytes that such a dump leaves. -/
theorem traceDump_bytes {s t : State} {n base : Nat} {v : List Byte} {r : RegionRec} (hv : v.length = 64)
    (ht : t = { s with bog := (s.bog.write base v).setRegion n r }) :
    t = { s with bog := t.bog } ∧ t.bog.read base 64 = v ∧ ∀ a, a < base ∨ base + 64 ≤ a → t.bog.byte a = s.bog.byte a := by
  subst ht
  refine ⟨rfl, ?_, fun a ha => ?_⟩
  · rw [read_setRegion, ← hv, BogState.read_write]
  · rw [byte_setRegion, BogState.byte_write_out _ _ _ _ (by rwa [hv])]

/-! ### The fields that LAW_WRITE takes (R209, R210) -/

theorem fieldWritable_eq_true {j f : Nat} (h : f < 12 ∨ (f = 12 ∧ 160 < j)) : fieldWritable j f = true := by
  rcases h with h | ⟨rfl, h⟩ <;> simp [fieldWritable, h]

theorem fieldWritable_eq_false {j f : Nat} (h : f = 13 ∨ f = 14 ∨ f = 15 ∨ (f = 12 ∧ j ≤ 160)) : fieldWritable j f = false := by
  rcases h with rfl | rfl | rfl | ⟨rfl, h⟩
  · rfl
  · rfl
  · rfl
  · simpa [fieldWritable] using h

theorem structural_eq_true {f : Nat} (hlo : 6 ≤ f) (hhi : f ≤ 11) : structural f = true := by simp [structural, hlo, hhi]

theorem structural_eq_false {f : Nat} (h : f < 6 ∨ f = 12) : structural f = false := by
  rcases h with h | rfl
  · simp [structural, Nat.not_le.mpr h]
  · rfl

end Sys2Proof.Machine

open Sys2Proof Sys2Proof.Machine

/-- Settles O33: each law access command by the outcome that the addressed instance and field give it, and each trace command by the state
of its unit. -/
theorem lawAndTraceCommands : Obligations.LawAndTraceCommands := by
  unfold Obligations.LawAndTraceCommands
  refine ⟨fun s hup => ⟨fun hj c hc => law_refuses_missing hup hj hc, fun hj => ⟨fun hf => lawWrite_readOnly hup hj (fieldWritable_eq_false hf),
    fun hf => ?_, ?_, lawOpen_transmits hup hj, fun h => ⟨lawOpen_standing hup hj h, lawOpen_pends hup hj h⟩, lawClose_inverted hup hj,
    fun h => ⟨lawClose_standing hup hj h, lawClose_pends hup hj h⟩, lawDiscardQueue_empties hup hj⟩⟩, fun s u hup => ?_⟩
  · have hw := fieldWritable_eq_true hf
    exact ⟨lawWrite_open hup hj hw, fun hclosed hlo hhi => lawWrite_structural hup hj hw hclosed (structural_eq_true hlo hhi),
      fun hclosed hs => lawWrite_full hup hj hw hclosed (structural_eq_false hs),
      fun hclosed hs => lawWrite_queued hup hj hw hclosed (structural_eq_false hs)⟩
  · obtain ⟨t, ht, hshown, honly, hrest, hdata⟩ := lawRead_reads hup hj
    refine ⟨t, ht, hshown, honly, hrest, fun hf => ?_, fun hf => ?_, fun hf => ?_, fun hf => ?_⟩
    · rw [hdata, lawField_of_field s _ hf, Law.fieldWord]
    · rw [hdata, hf]; rfl
    · rw [hdata, hf]; rfl
    · rw [hdata, hf]; rfl
  · have hregs := regsUp_of_isUp hup
    refine ⟨fun v => ⟨_, rfl, ?_⟩, fun hst hmode hpost => ⟨_, rfl, ?_⟩, fun h => ⟨_, rfl, tracePostComplete_of_not h⟩,
      fun hst => ⟨_, rfl, ?_⟩, fun hst => ⟨_, rfl, traceForce_of_unarmed hst⟩, ⟨_, rfl, ?_⟩,
      fun hst => ⟨_, rfl, traceDump_of_unfrozen hst⟩, fun hst => ⟨_, rfl, traceDump_keeps hup hst⟩,
      fun hst hone hkind hactive hroom harea => ⟨_, rfl, ?_⟩, fun hst hs hclosed => ⟨_, rfl, traceDump_of_closed hup hst hs hclosed⟩⟩
    · obtain ⟨_, hcfg, honly, _⟩ := traceArm_leaves hregs
      refine ⟨hcfg, honly, fun hv hwas hst => ?_, fun hv h => ?_, fun hv hst => ?_, fun hv hst => ?_⟩
      · obtain ⟨_, hstarts⟩ := traceArm_starts hregs hv hwas hst
        exact ⟨congrArg TraceUnit.st hstarts.unit, congrArg TraceUnit.samples hstarts.unit⟩
      · exact (traceArm_stands hregs hv h).unit
      · exact (traceArm_ends hregs hv hst).unit
      · exact (traceArm_frozen hregs hv hst).unit
    · rw [tracePostComplete_freezes hup hst hmode hpost]
      exact ⟨setTrace_onlyTrace s u _, trace_setTrace_same s _ _⟩
    · rw [traceForce_of_armed hup hst]
      exact ⟨setTrace_onlyTrace s u _, trace_setTrace_same s _ _⟩
    · rw [traceRearm_of_up hup]
      exact ⟨setTrace_onlyTrace s u _, congrArg TraceUnit.st (trace_setTrace_same s _ _), congrArg TraceUnit.samples (trace_setTrace_same s _ _)⟩
    · obtain ⟨_, hdump⟩ := traceDump_of_one hup hst hone hkind hactive hroom harea
      exact traceDump_bytes (length_traceRecord _ _ _) hdump
end

section
/-! SUPPORT. The writes of FRONT's registers (R247): what stands at an offset before and after a write, what a stored and what a refused write
leave, and the words of the PA tables. -/

namespace Sys2Proof.Machine

/-! ### The words of the PA tables (R94, R239) -/

/-- Word w of lane l's table written. -/
def State.setTable (s : State) (l w : Nat) (v : Word) : State :=
  { s with front := { s.front with tables := NMap.put (fun _ => (0 : Word)) s.front.tables (tableKey l w) v } }

theorem tableWord_setTable (s : State) (l w : Nat) (v : Word) (l' w' : Nat) :
    (s.setTable l w v).tableWord l' w' = if tableKey l' w' = tableKey l w then v.toNat else s.tableWord l' w' := by
  simp only [State.tableWord, State.setTable, NMap.get_put, apply_ite BitVec.toNat]

theorem tableWord_of_front {s t : State} (h : t.front = s.front) (l w : Nat) : t.tableWord l w = s.tableWord l w := by
  rw [State.tableWord, h, State.tableWord]

theorem touch_eq (s : State) : s.touch = { s with sys := { s.sys with check := s.touch.sys.check } } := by
  unfold State.touch
  split <;> rfl

/-! ### What stands at an offset -/

/-- What a write at offset o would change: the selected table word at 0x9C, the register itself elsewhere. -/
def State.frontOld (s : State) (o : Nat) : Nat := if o = 0x9C then s.tableWord s.tableSel.1 s.tableSel.2 else s.rd (0x4800 + o)

/-- And what it would then read. -/
def State.frontNew (s : State) (o : Nat) (v : Word) : Nat := if o = 0x9C then v.toNat else (s.wr (0x4800 + o) v.toNat).rd (0x4800 + o)

theorem frontWritable_of_protected {o : Nat} (h : frontProtected o = true) : frontWritable o = true := by simp [frontWritable, h]

section
variable {s : State} {off : Fin 2048} {v : Word}

theorem frontWrite_of_unreached (h : off.val % 4 ≠ 0 ∨ frontWritable off = false) : frontWrite off v s = s :=
  if_pos (by rcases h with h | h <;> simp [h])

variable (hup : s.regsUp = true) (h4 : off.val % 4 = 0) (hw : frontWritable off = true)
include hup h4 hw

theorem frontWrite_of_reached : frontWrite off v s =
    if s.judgeEn && frontProtected off && s.frontOld off != s.frontNew off v then
      (s.setSt Reg.FRONT_WRITE_STATUS (2 + 64 * off)).raise 9 21
    else if off.val = 0x9C then ((s.setSt Reg.FRONT_WRITE_STATUS (64 * off)).setTable s.tableSel.1 s.tableSel.2 v).touch
    else (s.setSt Reg.FRONT_WRITE_STATUS (64 * off)).wrc (0x4800 + off) v.toNat := by
  have hshown : off.val / 4 * 256 = 64 * off.val := by omega
  rw [← hshown]
  exact if_neg (by simp [hup, h4, hw])

/-- A write that the protection of service lets pass. -/
theorem frontWrite_of_passed (h : s.judgeEn = false ∨ frontProtected off = false ∨ s.frontNew off v = s.frontOld off) : frontWrite off v s =
    if off.val = 0x9C then ((s.setSt Reg.FRONT_WRITE_STATUS (64 * off)).setTable s.tableSel.1 s.tableSel.2 v).touch
    else (s.setSt Reg.FRONT_WRITE_STATUS (64 * off)).wrc (0x4800 + off) v.toNat :=
  (frontWrite_of_reached hup h4 hw).trans (if_neg (by rcases h with h | h | h <;> simp [h]))

omit hw in
theorem frontWrite_of_refused (hserve : s.judgeEn = true) (hprot : frontProtected off = true) (hne : s.frontNew off v ≠ s.frontOld off) :
    frontWrite off v s = (s.setSt Reg.FRONT_WRITE_STATUS (2 + 64 * off)).raise 9 21 :=
  (frontWrite_of_reached hup h4 (frontWritable_of_protected hprot)).trans (if_pos (by simp [hserve, hprot, hne.symm]))

end

/-! ### The three outcomes (R247) -/

theorem writeStatus_shown (s : State) {n : Nat} (h : n < 2 ^ 32) : (s.setSt Reg.FRONT_WRITE_STATUS n).st Reg.FRONT_WRITE_STATUS = n :=
  (st_setSt_same _ _ _).trans (Nat.mod_eq_of_lt h)

/-- An event of FRONT after a write of one status register. -/
theorem raise_front_shown (s : State) (a v n : Nat) (hn : n < 32) :
    OnlyStatusCounts [a] s ((s.setSt a v).raise 9 n) ∧ Counts 9 n s ((s.setSt a v).raise 9 n) :=
  ⟨raise_onlyStatusCounts (t := s.setSt a v) 9 n none (setSt_onlyStatus s _ _),
    raise_counts_of_flt 9 n none (by unfold chained; omega) (by decide) (setSt_flt s _ _)⟩

section
variable {s : State} {off : Fin 2048} {v : Word} (hup : s.regsUp = true)
include hup

theorem frontWrite_stores (h4 : off.val % 4 = 0) (hw : frontWritable off = true) (hoff : off.val ≠ 0x9C)
    (h : s.judgeEn = false ∨ frontProtected off = false ∨ (s.wr (0x4800 + off) v.toNat).rd (0x4800 + off) = s.rd (0x4800 + off)) :
    Stores (0x4800 + off) v [Reg.FRONT_WRITE_STATUS] s (frontWrite off v s) ∧
      (frontWrite off v s).st Reg.FRONT_WRITE_STATUS = 64 * off := by
  rw [frontWrite_of_passed hup h4 hw (by rwa [State.frontNew, State.frontOld, if_neg hoff, if_neg hoff]), if_neg hoff]
  exact ⟨wrc_stores _ v (setSt_onlyStatus s _ _), (st_of_sts (wrc_sts _ _ _) _).trans (writeStatus_shown s (by omega))⟩

/-- A write of the selected table word. -/
theorem frontWrite_setsTable (hoff : off.val = 0x9C) (h : s.judgeEn = false ∨ s.tableWord s.tableSel.1 s.tableSel.2 = v.toNat) :
    let t := frontWrite off v s
    t.tableWord s.tableSel.1 s.tableSel.2 = v.toNat ∧ t.st Reg.FRONT_WRITE_STATUS = 64 * off ∧
    (∀ l w, tableKey l w ≠ tableKey s.tableSel.1 s.tableSel.2 → t.tableWord l w = s.tableWord l w) ∧
    OnlyStatus [Reg.FRONT_WRITE_STATUS] s
      { t with front := { t.front with tables := s.front.tables }, sys := { t.sys with check := s.sys.check } } := by
  intro t
  have ht : t = ((s.setSt Reg.FRONT_WRITE_STATUS (64 * off)).setTable s.tableSel.1 s.tableSel.2 v).touch := by
    refine (frontWrite_of_passed hup (by omega) (by rw [hoff]; decide) ?_).trans (if_pos hoff)
    rw [State.frontNew, State.frontOld, if_pos hoff, if_pos hoff]
    exact h.imp_right fun h => .inr h.symm
  have htable : ∀ l w, t.tableWord l w = if tableKey l w = tableKey s.tableSel.1 s.tableSel.2 then v.toNat else s.tableWord l w :=
    fun l w => by rw [ht, tableWord_of_front (touch_front _), tableWord_setTable]; rfl
  refine ⟨by rw [htable, if_pos rfl], ?_, fun l w hne => by rw [htable, if_neg hne], ?_⟩
  · rw [ht, st_of_sts (touch_sts _)]
    exact writeStatus_shown s (by omega)
  · rw [ht, touch_eq]
    exact setSt_onlyStatus s Reg.FRONT_WRITE_STATUS (64 * off)

theorem frontWrite_refuses (h4 : off.val % 4 = 0) (hserve : s.judgeEn = true) (hprot : frontProtected off = true)
    (hne : s.frontNew off v ≠ s.frontOld off) : let t := frontWrite off v s
    OnlyStatusCounts [Reg.FRONT_WRITE_STATUS] s t ∧ Counts 9 21 s t ∧ t.st Reg.FRONT_WRITE_STATUS = 2 + 64 * off := by
  intro t
  have ht : t = (s.setSt Reg.FRONT_WRITE_STATUS (2 + 64 * off)).raise 9 21 := frontWrite_of_refused hup h4 hserve hprot hne
  obtain ⟨honly, hcount⟩ := raise_front_shown s Reg.FRONT_WRITE_STATUS (2 + 64 * off) 21 (by decide)
  rw [ht]
  exact ⟨honly, hcount, writeStatus_shown s (by omega)⟩

end

end Sys2Proof.Machine
end

section
/-! SUPPORT. The edges of the transmit windows (R233, R259) and the LNA bypass (R236): what each leaves of the slots, the gates, the canceller
taps and the bypass pins. -/

namespace Sys2Proof.Machine

/-! ### Transmit windows (R259) -/

/-- Slot n of direction d with its gate as given, and the direction's window as the schedules give it. -/
def State.edged (s : State) (d : Dir) (n w : Nat) : State :=
  (s.setSlot d n { s.slotRec d n with tddOpen := s.windowAt d n 0 0 w }).setWin d (s.dirWindow d w)

theorem edged_eq (s : State) (d : Dir) (n w : Nat) :
    s.edged d n w = { s with slots := (s.edged d n w).slots, front := (s.edged d n w).front } := by cases d <;> rfl

theorem edged_slotRec (s : State) (d : Dir) (n w : Nat) (c : Dir) (m : Nat) : (s.edged d n w).slotRec c m =
    if slotKey c m = slotKey d n then { s.slotRec d n with tddOpen := s.windowAt d n 0 0 w } else s.slotRec c m := by
  have hslots : (s.edged d n w).slots = (s.setSlot d n { s.slotRec d n with tddOpen := s.windowAt d n 0 0 w }).slots := by cases d <;> rfl
  rw [State.slotRec, hslots, State.setSlot, NMap.get_put]
  rfl

theorem transmitWindowEdge_of_on {s : State} {d : Dir} {n : Fin 17} (w : Nat) (hup : s.isUp = true) (hen : s.slotEn d n = true)
    (htdd : s.slotTdd d n = true) : transmitWindowEdge d n w s =
      (s.edged d n w).raiseIf (!(s.slotRec d n).tddOpen && s.windowAt d n 0 0 w && s.shortGuard d n w) 9 20 := by
  have hguard : (s.edged d n w).shortGuard d n w = s.shortGuard d n w := by rw [edged_eq]; rfl
  rw [← hguard]
  exact if_neg (by simp [hup, hen, htdd])

theorem transmitWindowEdge_of_off {s : State} {d : Dir} {n : Fin 17} (w : Nat) (h : s.slotEn d n = false ∨ s.slotTdd d n = false) :
    transmitWindowEdge d n w s = s := if_pos (by rcases h with h | h <;> simp [h])

theorem transmitWindowEdge_sets {s : State} {d : Dir} {n : Fin 17} (w : Nat) (hup : s.isUp = true) (hen : s.slotEn d n = true)
    (htdd : s.slotTdd d n = true) : let t := transmitWindowEdge d n w s
    (t.slotRec d n).tddOpen = s.windowAt d n 0 0 w ∧
    (∀ (c : Dir) (m : Nat), slotKey c m ≠ slotKey d n → t.slotRec c m = s.slotRec c m) ∧
    ((s.slotRec d n).tddOpen = false → s.windowAt d n 0 0 w = true → s.shortGuard d n w = true → Counts 9 20 s t) ∧
    t.winOpen d = s.dirWindow d w ∧ OnlyCounts s { t with slots := s.slots, front := s.front } := by
  intro t
  have ht := transmitWindowEdge_of_on w hup hen htdd
  have hslot : ∀ c m, t.slotRec c m = (s.edged d n w).slotRec c m := fun c m =>
    congrArg (fun l => NMap.get (fun _ => ({} : SlotRec)) l (slotKey c m)) ((congrArg State.slots ht).trans (raiseIf_slots _ _ _ _ _))
  have hfront : t.front = (s.edged d n w).front := (congrArg State.front ht).trans (raiseIf_front _ _ _ _ _)
  refine ⟨by rw [hslot, edged_slotRec, if_pos rfl], fun c m hne => by rw [hslot, edged_slotRec, if_neg hne], fun hwas hnow hshort => ?_, ?_, ?_⟩
  · have hraise : t = (s.edged d n w).raise 9 20 := ht.trans (if_pos (by simp [hwas, hnow, hshort]))
    rw [hraise]
    exact raise_counts_of_flt 9 20 none (by unfold chained; omega) (by decide) (congrArg State.flt (edged_eq s d n w) :)
  · cases d
    · exact congrArg FrontState.winDl hfront
    · exact congrArg FrontState.winUl hfront
  · obtain ⟨heq, hparts⟩ := raiseIf_onlyCounts (s.edged d n w)
      (!(s.slotRec d n).tddOpen && s.windowAt d n 0 0 w && s.shortGuard d n w) 9 20 none
    rw [← ht, edged_eq] at heq hparts
    exact ⟨congrArg (fun x : State => { x with slots := s.slots, front := s.front }) heq, hparts⟩

/-! ### The bypass of a lane (R236) -/

/-- The record of a slot whose canceller tap into branch b is scaled, or scaled back. -/
def EchoRec.scale (b : Nat) (on : Bool) (r : EchoRec) : EchoRec :=
  { r with scaled := BitVec.ofNat 2 (putBits r.scaled.toNat b 1 (ofBool on)) }

theorem scaleTaps_eq (s : State) (l : Nat) (on : Bool) : s.scaleTaps l on =
    (s.enabled (laneDir l)).foldl (fun s n => s.setEcho (laneDir l) n ((s.echoRec (laneDir l) n).scale (l % 2) on)) s := rfl

theorem enabled_lt {s : State} {d : Dir} {n : Nat} (h : n ∈ s.enabled d) : n < 17 := by
  have hlt : ∀ m ∈ slotNums, m < 17 := by decide
  exact hlt n (List.mem_of_mem_filter h)

theorem scaleTaps_scaled (s : State) (l : Nat) (on : Bool) {n : Nat} (hn : n ∈ s.enabled (laneDir l)) :
    ((s.scaleTaps l on).echoRec (laneDir l) n).scaled.getLsbD (l % 2) = on := by
  rw [scaleTaps_eq, echoRec_foldl_setEcho _ (EchoRec.scale (l % 2) on) (enabled_nodup s _) (fun _ => enabled_lt) s _ (enabled_lt hn),
    if_pos ⟨rfl, hn⟩, EchoRec.scale, getLsbD_putBit _ _ _ (Nat.mod_lt l (by decide)), if_pos rfl]

/-- The bypass of lane l is as given, every other lane's as it was, and the canceller taps into the lane follow it. -/
def BypassSet (l : Fin 4) (on : Bool) (s t : State) : Prop :=
  t.front.bypass.getLsbD l = on ∧ (∀ k : Fin 4, k ≠ l → t.front.bypass.getLsbD k = s.front.bypass.getLsbD k) ∧
  ∀ n, n ∈ s.enabled (laneDir l) → (t.echoRec (laneDir l) n).scaled.getLsbD (l % 2) = on

/-- FRONT with the bypass of lane l as given. -/
def FrontState.withBypass (f : FrontState) (l : Nat) (on : Bool) : FrontState :=
  { f with bypass := BitVec.ofNat 4 (putBits f.bypass.toNat l 1 (ofBool on)) }

theorem setBypass_eq (s : State) (l : Nat) (on : Bool) :
    s.setBypass l on = { s with front := s.front.withBypass l on, echo := (s.setBypass l on).echo } :=
  eq_withEcho_of_offEcho (setEchoes_offEcho _ (EchoRec.scale (l % 2) on) _ { s with front := s.front.withBypass l on })

theorem setBypass_frame (s : State) (l : Nat) (on : Bool) :
    s.setBypass l on = { s with front := (s.setBypass l on).front, echo := (s.setBypass l on).echo } := by
  rw [show (s.setBypass l on).front = s.front.withBypass l on from congrArg State.front (setBypass_eq s l on)]
  exact setBypass_eq s l on

theorem setBypass_bypass (s : State) {l : Nat} (hl : l < 4) (on : Bool) (k : Nat) :
    (s.setBypass l on).front.bypass.getLsbD k = if k = l then on else s.front.bypass.getLsbD k := by
  rw [setBypass_eq]
  exact getLsbD_putBit _ k on hl

/-- An event of FRONT after a count, in a state that has its own front end and records of ECHO. -/
theorem raise_bumpF_onlyStatusCounts (s : State) (f : FrontState) (e : NMap EchoRec) (a lo w n : Nat) : OnlyStatusCounts [a] s
    { (State.bumpF { s with front := f, echo := e } a lo w 1).raise 9 n with front := s.front, echo := s.echo } := by
  have hraise : ∀ x : State, State.uncounted { x.raise 9 n with front := s.front, echo := s.echo } =
      State.uncounted { x with front := s.front, echo := s.echo } := fun x => Prod.ext rfl (raiseEvs_fixed x _)
  refine onlyStatusCounts_of_uncounted ((hraise _).trans rfl) fun b hb => ?_
  exact st_bumpF_ne { s with front := f, echo := e } lo w 1 (by simpa using hb)

theorem setBypass_sets (s : State) (l : Fin 4) (on : Bool) : BypassSet l on s (s.setBypass l on) := by
  refine ⟨by rw [setBypass_bypass s l.isLt, if_pos rfl], fun k hk => ?_, fun n hn => ?_⟩
  · rw [setBypass_bypass s l.isLt, if_neg (Fin.val_ne_of_ne hk)]
  · exact scaleTaps_scaled _ l on hn

/-- A near-over-range signal is the first one of a running lane with BYP_EN. -/
def State.takesBypass (s : State) (l : Nat) : Prop :=
  s.rxRuns l = true ∧ bitAt (s.rd (Reg.FRONT_LNA_CFG l)) 16 = true ∧ s.front.bypass.getLsbD l = false

theorem nearOverRange_of_taken {s : State} {l : Fin 4} (hup : s.isUp = true) (h : s.takesBypass l) :
    nearOverRange l s = ((s.setBypass l true).bumpF Reg.FRONT_BYP_COUNT (8 * l) 8 1).raise 9 l := by
  obtain ⟨hruns, hen, hfree⟩ := h
  exact if_pos ⟨hup, hruns, hen, by rw [hfree]; rfl⟩

theorem nearOverRange_of_not {s : State} {l : Fin 4}
    (h : s.rxRuns l = false ∨ bitAt (s.rd (Reg.FRONT_LNA_CFG l)) 16 = false ∨ s.front.bypass.getLsbD l = true) : nearOverRange l s = s :=
  if_neg (by rcases h with h | h | h <;> simp [h])

theorem nearOverRange_takes {s : State} {l : Fin 4} (hup : s.isUp = true) (h : s.takesBypass l) : let t := nearOverRange l s
    BypassSet l true s t ∧ Counts 9 l s t ∧
    t.stF Reg.FRONT_BYP_COUNT (8 * l) 8 = satAdd 255 (s.stF Reg.FRONT_BYP_COUNT (8 * l) 8) 1 ∧
    OnlyStatusCounts [Reg.FRONT_BYP_COUNT] s { t with front := s.front, echo := s.echo } := by
  intro t
  have heq := setBypass_eq s l true
  have hflt : ((s.setBypass l true).bumpF Reg.FRONT_BYP_COUNT (8 * l) 8 1).flt = s.flt := (congrArg State.flt heq :)
  have hst : (s.setBypass l true).st Reg.FRONT_BYP_COUNT = s.st Reg.FRONT_BYP_COUNT := st_of_sts (congrArg State.sts heq :) _
  have hl := l.isLt
  rw [show t = _ from nearOverRange_of_taken hup h]
  refine ⟨setBypass_sets s l true, raise_counts_of_flt 9 l none (by unfold chained; omega) (by decide) hflt, ?_, ?_⟩
  · rw [stF_of_st (st_of_sts (raise_sts _ _ _ _) _), stF_bumpF_same _ _ _ (by omega), stF_of_st hst]
    rfl
  · rw [heq]
    exact raise_bumpF_onlyStatusCounts s _ _ _ _ _ l

theorem lnaBypassRelease_of_set {s : State} {l : Fin 4} (hup : s.isUp = true) (h : s.front.bypass.getLsbD l = true) :
    lnaBypassRelease l s = s.setBypass l false := (ifUp_of_regsUp _ (regsUp_of_isUp hup)).trans (if_pos h)

theorem lnaBypassRelease_of_free {s : State} {l : Fin 4} (hup : s.isUp = true) (h : s.front.bypass.getLsbD l = false) :
    lnaBypassRelease l s = s := (ifUp_of_regsUp _ (regsUp_of_isUp hup)).trans (if_neg (by rw [h]; decide))

end Sys2Proof.Machine
end

section
/-! SUPPORT. The duty of a direction (R234): what a mute of one direction leaves of the other and of FRONT's sources, what a window's duty
reports and mutes, and the statement about the front end's commands. -/

namespace Sys2Proof.Machine

/-! ### What a mute of a direction leaves of the other direction and of FRONT's sources (R193) -/

/-- The sources of block FRONT, and what decides whether the other direction transmits. -/
def State.across (s : State) (d : Dir) : (Fin 32 → Src) × (DirRec × Option Playing × RegFile) :=
  (fun n => s.flt.source 9 n, s.stage d.other)

theorem frontSource_of_across {s t : State} {d : Dir} (h : t.across d = s.across d) {n : Nat} (hn : n < 32) :
    t.flt.source 9 n = s.flt.source 9 n := congrFun (congrArg Prod.fst h) ⟨n, hn⟩

theorem stage_of_across {s t : State} {d : Dir} (h : t.across d = s.across d) : t.stage d.other = s.stage d.other := congrArg Prod.snd h

theorem across_of_parts {s t : State} {d : Dir} (hflt : t.flt = s.flt) (hstage : t.stage d.other = s.stage d.other) :
    t.across d = s.across d := by rw [State.across, hflt, hstage, State.across]

/-- Events of other blocks. -/
theorem raiseEvs_across (s : State) (es : List Ev) (d : Dir) (h : ∀ e ∈ es, (32 * e.blk + e.src) / 32 ≠ 9) :
    (s.raiseEvs es).across d = s.across d := by
  obtain ⟨-, hbog, -⟩ := raiseEvs_onlyCounts s es
  have hplay : (s.raiseEvs es).playing d.other = s.playing d.other := by
    cases d <;> simp only [Dir.other, State.playing] <;> rw [hbog]
  refine Prod.ext (funext fun n => ?_) (stage_of_parts (raiseEvs_sys s es) hplay (raiseEvs_cfg s es))
  exact raiseEvs_source_ne s es 9 n (fun e he => by have := h e he; omega) (by unfold chained; omega)

theorem raise_across (s : State) (b n : Nat) (u : Option Nat) (d : Dir) (h : (32 * b + n) / 32 ≠ 9) :
    (s.raise b n u).across d = s.across d := raiseEvs_across s _ d (by simpa using h)

theorem peatMute_across (s : State) (b src u : Nat) (d : Dir) : (s.peatMute b src u).across d = s.across d := by
  refine (raiseEvs_across _ _ d fun e he => ?_).trans rfl
  have := Fx.peatClose_events _ _ _ _ e he
  omega

theorem bothMuted_across (s0 s : State) (d : Dir) : (State.bothMuted s0 s).across d = s.across d := by
  unfold State.bothMuted State.raiseIf
  dsimp only
  split
  · exact raise_across s 0 13 none d (by decide)
  · rfl

theorem setDir_across (s : State) (d : Dir) (r : DirRec) : (s.setDir d r).across d = s.across d := by cases d <;> rfl

theorem setGovDir_across (s : State) (d : Dir) (g : GovDir) : (s.setGovDir d g).across d = s.across d :=
  across_of_parts (setGovDir_flt s d g) (setGovDir_stage s d _ g)

theorem setEcho_across (s : State) (d : Dir) (n : Nat) (r : EchoRec) : (s.setEcho d n r).across d = s.across d := rfl

theorem setSt_across (s : State) (a n : Nat) (d : Dir) : (s.setSt a n).across d = s.across d := rfl

theorem signal_across (s : State) (v : Nat) (d : Dir) : (s.signal v).across d = s.across d := by
  unfold State.signal
  split
  · rfl
  · split
    · exact (raise_across _ 5 10 none d (by decide)).trans rfl
    · split
      · exact raise_across s 5 10 none d (by decide)
      · split <;> rfl

theorem patStop_across (s : State) (d : Dir) : (s.patStop d).across d = s.across d := by
  unfold State.patStop
  split
  · rfl
  · refine (signal_across _ _ d).trans ?_
    cases d <;> rfl

theorem abandonTrans_across (s : State) (d : Dir) : (s.abandonTrans d).across d = s.across d := by
  have hreq : ∀ (x : State) no tag status, (x.reqEnd no tag status).across d = x.across d := fun x no tag status => by
    unfold State.reqEnd
    repeat' split
    all_goals rfl
  have hdb : ∀ (x : State) db result code, (x.dbOutcome db result code).across d = x.across d := fun x db _ _ => by cases db <;> rfl
  unfold State.abandonTrans
  split
  · rfl
  · extract_lets r s1 s2 s3
    have h1 : s1.across d = s.across d := setDir_across s d _
    have h3 : s3.across d = s.across d := (hdb _ _ _ _).trans ((hreq _ _ _ _).trans h1)
    split
    · exact h1
    · split
      · exact h3
      · exact h3

theorem toMuted_across (s : State) (d : Dir) : (s.toMuted d).across d = s.across d := by
  unfold State.toMuted
  extract_lets s1 from_ s2 r s3
  have hhold : ∀ x : State, (x.echoHold d).across d = x.across d := fun x =>
    foldl_keeps (fun x : State => x.across d) _ (fun x n => x.echoHoldSlot d n) (fun x n => setEcho_across x d n _) x
  have h3 : s3.across d = s.across d :=
    (setDir_across s2 d _).trans ((hhold _).trans ((patStop_across s1 d).trans (abandonTrans_across s d)))
  split
  · exact h3
  · exact (setSt_across _ _ _ d).trans ((setSt_across s3 _ _ d).trans h3)

theorem muteDir_across (s : State) (d : Dir) (c : MuteCause) : (s.muteDir d c).across d = s.across d := by
  unfold State.muteDir
  extract_lets b s1 sOsc r s2 g s3 sCap s4
  have h1 : s1.across d = s.across d := raise_across s b _ _ d (by cases d <;> cases c <;> decide)
  have h2 : s2.across d = s.across d := by
    simp only [s2]
    split
    · exact (setDir_across _ d _).trans
        ((foldl_keeps (fun x : State => x.across d) _ _ (fun x n => setEcho_across x d n _) s1).trans h1)
    · exact h1
  have hcap : sCap.across d = s.across d :=
    (foldl_keeps (fun x : State => x.across d) _ (fun x g => x.capGov d g) (fun _ _ => rfl) s3).trans ((setGovDir_across s2 d _).trans h2)
  have h4 : s4.across d = s.across d := by
    simp only [s4]
    split
    · exact (toMuted_across sCap d).trans hcap
    · exact hcap
  split
  · exact h2
  · exact (bothMuted_across s _ d).trans ((peatMute_across s4 b _ 16 d).trans h4)

/-! ### The duty of a direction (R234) -/

theorem dutyOf_eq (s : State) (d : Dir) (x : Nat) :
    s.dutyOf d x = if (s.txBr d).any (fun t => s.laneTdd (laneOf d t)) then min 10000 x else 0 := by
  have hclamp : clampN 0 10000 x = min 10000 x := by rw [clampN, if_neg (Nat.not_lt_zero x)]; split <;> omega
  rw [State.dutyOf, hclamp]

theorem dutyOf_le (s : State) (d : Dir) (x : Nat) : s.dutyOf d x ≤ 10000 := by
  rw [dutyOf_eq]
  split <;> omega

/-- 90 % of the locked maximum has been reported. -/
def State.dutyNoted (s : State) (d : Dir) (x : Nat) : State := s.raiseIf (decide (9 * s.lock.dutyMax d < 10 * x)) 9 (18 + d.num)

theorem dutyNoted_stage (s : State) (d : Dir) (x : Nat) (e : Dir) : (s.dutyNoted d x).stage e = s.stage e := by
  unfold State.dutyNoted State.raiseIf
  split
  · exact raise_stage s 9 _ none e
  · rfl

theorem dutyNoted_source_ne (s : State) (d : Dir) (x : Nat) {n : Nat} (hn : n < 32) (hne : n ≠ 18 + d.num) :
    (s.dutyNoted d x).flt.source 9 n = s.flt.source 9 n := by
  unfold State.dutyNoted State.raiseIf
  split
  · exact raise_source_ne s 9 n 9 _ none (by unfold chained; omega) (by omega)
  · rfl

theorem dutyNoted_counts {s : State} {d : Dir} {x : Nat} (h : 9 * s.lock.dutyMax d < 10 * x) : Counts 9 (18 + d.num) s (s.dutyNoted d x) := by
  have hd := dirNum_lt d
  rw [State.dutyNoted, State.raiseIf, if_pos (decide_eq_true h)]
  exact raise_counts_of_flt 9 _ none (by unfold chained; omega) (by decide) rfl

/-- The lock page's consumer has acted on the maximum, and the direction is muted. -/
def State.dutyMuted (s : State) (d : Dir) : State := (s.lockActs 4 d.num 6).muteDir d .lockedDuty

theorem dutyMuted_across (s : State) (d : Dir) : (s.dutyMuted d).across d = s.across d :=
  (muteDir_across _ d _).trans
    (lockActs_keeps (fun x : State => x.across d) (fun _ _ => rfl) (fun x => raise_across x 22 13 none d (by decide)) s 4 d.num 6)

theorem dutyMuted_base (s : State) (d : Dir) : (s.dutyMuted d).base = s.base :=
  (muteDir_base _ d _).trans (lockActs_base s 4 d.num 6)

theorem lockActs_dutyMax (s : State) (item index who : Nat) (e : Dir) :
    (s.lockActs item index who).lock.dutyMax e = s.lock.dutyMax e := by
  unfold State.lockActs
  dsimp only
  split <;> rfl

theorem dutyMuted_dutyMax (s : State) (d e : Dir) : (s.dutyMuted d).lock.dutyMax e = s.lock.dutyMax e :=
  (congrArg (fun x : Still => x.lock.dutyMax e) (muteDir_still _ d _)).trans
    (lockActs_dutyMax s 4 d.num 6 e)

theorem dutyMuted_st (s : State) (d : Dir) {a : Nat} (ha : a ∉ instantRegs) : (s.dutyMuted d).st a = s.st a :=
  (st_of_still (muteDir_still _ d _) ha).trans (lockActs_keeps (fun x : State => x.st a) (fun _ _ => rfl) (fun _ => rfl) s 4 d.num 6)

theorem dutyMuted_dirMuted (s : State) (d e : Dir) : (s.dutyMuted d).dirMuted e = (s.dirMuted e || decide (e = d)) := by
  have hacts : (s.lockActs 4 d.num 6).dirMuted e = s.dirMuted e :=
    lockActs_keeps (fun x : State => x.dirMuted e) (fun _ _ => by cases e <;> rfl)
      (fun x => dirMuted_of_aside (raise_aside x 22 13 none (by decide)) e) s 4 d.num 6
  rw [State.dutyMuted, dirMuted_muteDir, hacts]

section
variable {s : State} {d : Dir} {x : Nat}

theorem dutyDir_of_over (hover : s.lock.dutyMax d < x) (htransmits : s.transmits d = true) :
    s.dutyDir d x = (s.dutyNoted d x).dutyMuted d :=
  if_pos ⟨hover, (transmits_of_stage (dutyNoted_stage s d x d)).trans htransmits⟩

theorem dutyDir_of_within (h : x ≤ s.lock.dutyMax d ∨ s.transmits d = false) : s.dutyDir d x = s.dutyNoted d x := by
  refine if_neg fun ⟨hover, htransmits⟩ => ?_
  have hon : s.transmits d = true := (transmits_of_stage (dutyNoted_stage s d x d)).symm.trans htransmits
  rcases h with h | h
  · omega
  · simp [h] at hon

end

/-- What the end of a duty window keeps as a mute of the direction and the report of 90 % keep it. -/
theorem dutyDir_keeps {β : Type} (p : State → β) {s : State} {d : Dir} {x : Nat} (hnoted : p (s.dutyNoted d x) = p s)
    (hmuted : ∀ y : State, p (y.dutyMuted d) = p y) : p (s.dutyDir d x) = p s := by
  by_cases h : s.lock.dutyMax d < x ∧ s.transmits d = true
  · rw [dutyDir_of_over h.1 h.2, hmuted, hnoted]
  · rw [dutyDir_of_within (by simpa [or_iff_not_imp_left] using h), hnoted]

section
variable (s : State) (d : Dir) (x : Nat)

theorem dutyDir_base : (s.dutyDir d x).base = s.base := dutyDir_keeps State.base (raiseIf_base s _ 9 _ none) (dutyMuted_base · d)

theorem dutyDir_dutyMax (e : Dir) : (s.dutyDir d x).lock.dutyMax e = s.lock.dutyMax e :=
  dutyDir_keeps (fun y : State => y.lock.dutyMax e) (congrArg (·.dutyMax e) (raiseIf_lock s _ 9 _ none)) (dutyMuted_dutyMax · d e)

theorem dutyDir_st {a : Nat} (ha : a ∉ instantRegs) : (s.dutyDir d x).st a = s.st a :=
  dutyDir_keeps (fun y : State => y.st a) (st_of_sts (raiseIf_sts s _ 9 _ none) a) (dutyMuted_st · d ha)

theorem dutyDir_stage_other : (s.dutyDir d x).stage d.other = s.stage d.other :=
  dutyDir_keeps (fun y : State => y.stage d.other) (dutyNoted_stage s d x _) (fun y => stage_of_across (dutyMuted_across y d))

theorem dutyDir_source_ne {n : Nat} (hn : n < 32) (hne : n ≠ 18 + d.num) : (s.dutyDir d x).flt.source 9 n = s.flt.source 9 n :=
  dutyDir_keeps (fun y : State => y.flt.source 9 n) (dutyNoted_source_ne s d x hn hne)
    (fun y => frontSource_of_across (dutyMuted_across y d) hn)

theorem dutyDir_dirMuted_other : (s.dutyDir d x).dirMuted d.other = s.dirMuted d.other := by
  refine dutyDir_keeps (fun y : State => y.dirMuted d.other) ?_ fun y => ?_
  · have hd := dirNum_lt d
    exact dirMuted_of_aside (raiseIf_aside s _ 9 _ none (by omega)) _
  · rw [dutyMuted_dirMuted, decide_eq_false (otherDir_ne d), Bool.or_false]

variable {s d x}

/-- The source of the 90 % report counts as the report does, muted or not. -/
theorem dutyDir_counts (h : 9 * s.lock.dutyMax d < 10 * x) : Counts 9 (18 + d.num) s (s.dutyDir d x) := by
  have hd := dirNum_lt d
  have hcount := dutyNoted_counts h
  by_cases hmute : s.lock.dutyMax d < x ∧ s.transmits d = true
  · rwa [dutyDir_of_over hmute.1 hmute.2, Counts, frontSource_of_across (dutyMuted_across _ d) (by omega)]
  · rwa [dutyDir_of_within (by simpa [or_iff_not_imp_left] using hmute)]

theorem dutyDir_mutes (hover : s.lock.dutyMax d < x) (htransmits : s.transmits d = true) : (s.dutyDir d x).dirMuted d = true := by
  rw [dutyDir_of_over hover htransmits, dutyMuted_dirMuted]
  simp

end

/-! ### DUTY_WINDOW_END (R234) -/

section
variable {s : State} (hup : s.isUp = true) (x y : Nat)
include hup

theorem dutyWindowEnd_of_up : dutyWindowEnd x y s =
    ((s.setSt Reg.FRONT_DUTY (s.dutyOf .dl x + 65536 * s.dutyOf .ul y)).dutyDir .dl (s.dutyOf .dl x)).dutyDir .ul (s.dutyOf .ul y) :=
  ifUp_of_regsUp _ (regsUp_of_isUp hup)

/-- The window's end shows both duties, reports each above 90 % of its maximum, mutes each above it in a direction that transmits, and else
changes nothing. -/
theorem dutyWindowEnd_ends : let a := s.dutyOf .dl x
    let b := s.dutyOf .ul y
    let t := dutyWindowEnd x y s
    t.st Reg.FRONT_DUTY = a + 65536 * b ∧
    (9 * s.lock.dutyMax .dl < 10 * a → Counts 9 18 s t) ∧ (9 * s.lock.dutyMax .ul < 10 * b → Counts 9 19 s t) ∧
    (s.lock.dutyMax .dl < a → s.transmits .dl = true → t.dirMuted .dl = true) ∧
    (s.lock.dutyMax .ul < b → s.transmits .ul = true → t.dirMuted .ul = true) ∧
    (a ≤ s.lock.dutyMax .dl ∨ s.transmits .dl = false → b ≤ s.lock.dutyMax .ul ∨ s.transmits .ul = false →
      OnlyStatusCounts [Reg.FRONT_DUTY] s t) ∧
    t.base = s.base := by
  intro a b t
  let s0 := s.setSt Reg.FRONT_DUTY (a + 65536 * b)
  let s1 := s0.dutyDir .dl a
  have ht : t = s1.dutyDir .ul b := dutyWindowEnd_of_up hup x y
  have hmax : s1.lock.dutyMax .ul = s.lock.dutyMax .ul := dutyDir_dutyMax s0 .dl a .ul
  have htransmits : s1.transmits .ul = s.transmits .ul := transmits_of_stage (dutyDir_stage_other s0 .dl a)
  rw [ht, ← hmax, ← htransmits]
  refine ⟨?_, fun h => ?_, fun h => ?_, fun hover hon => ?_, dutyDir_mutes, fun hdl hul => ?_, ?_⟩
  · have ha : a ≤ 10000 := dutyOf_le s .dl x
    have hb : b ≤ 10000 := dutyOf_le s .ul y
    rw [dutyDir_st s1 .ul b (by decide), dutyDir_st s0 .dl a (by decide), st_setSt_same]
    omega
  · have hcount : Counts 9 18 s0 s1 := dutyDir_counts h
    rwa [Counts, dutyDir_source_ne s1 .ul b (by decide) (by decide)]
  · have hcount : Counts 9 19 s1 (s1.dutyDir .ul b) := dutyDir_counts h
    rwa [Counts, dutyDir_source_ne s0 .dl a (by decide) (by decide)] at hcount
  · exact (dutyDir_dirMuted_other s1 .ul b).trans (dutyDir_mutes (s := s0) hover hon)
  · have h1 : s1 = s0.dutyNoted .dl a := dutyDir_of_within hdl
    have hnoted : ∀ (z : State) (d : Dir) (k : Nat), (z.dutyNoted d k).uncounted = z.uncounted := fun z d k => by
      unfold State.dutyNoted State.raiseIf
      split
      · exact Prod.ext rfl (raiseEvs_fixed z _)
      · rfl
    rw [dutyDir_of_within hul, h1]
    refine onlyStatusCounts_of_uncounted ((hnoted _ _ _).trans ((hnoted _ _ _).trans rfl)) fun c hc => ?_
    have hsts : ((s0.dutyNoted .dl a).dutyNoted .ul b).sts = s0.sts := (raiseIf_sts _ _ _ _ _).trans (raiseIf_sts _ _ _ _ _)
    exact (st_of_sts hsts c).trans (st_setSt_ne s _ (by simpa using hc))
  · exact (dutyDir_base s1 .ul b).trans (dutyDir_base s0 .dl a)

end

end Sys2Proof.Machine

open Sys2Proof Sys2Proof.Machine

/-- Settles O39: a write of FRONT by what stands at its offset, an edge by the slot's gate and its direction's window, the end of a duty
window one direction after the other, neither of which touches what decides of the other, and the bypass by its pin and the taps. -/
theorem frontEndCommands : Obligations.FrontEndCommands := by
  unfold Obligations.FrontEndCommands
  refine ⟨fun s off v hup => ⟨fun h => ⟨_, rfl, frontWrite_of_unreached h⟩,
    fun h4 hw hoff h => ⟨_, rfl, frontWrite_stores hup h4 hw hoff h⟩,
    fun h4 hoff hprot hserve hne => ⟨_, rfl, frontWrite_refuses hup h4 hserve hprot ?_⟩,
    fun hoff h => ⟨_, rfl, frontWrite_setsTable hup hoff h⟩,
    fun hoff hserve hne => ⟨_, rfl, frontWrite_refuses hup (by omega) hserve (by rw [hoff]; decide) ?_⟩⟩,
    fun s hup => ⟨fun d n w => ⟨fun hen htdd => ⟨_, rfl, ?_⟩, fun h => ⟨_, rfl, transmitWindowEdge_of_off w h⟩⟩,
      fun x y => ⟨_, rfl, ?_⟩, fun l => ⟨fun hruns hen hfree => ⟨_, rfl, ?_⟩, fun h => ⟨_, rfl, nearOverRange_of_not h⟩,
      fun hset => ⟨_, rfl, ?_⟩, fun hfree => ⟨_, rfl, lnaBypassRelease_of_free hup hfree⟩⟩⟩⟩
  · rwa [State.frontNew, State.frontOld, if_neg hoff, if_neg hoff]
  · rw [State.frontNew, State.frontOld, if_pos hoff, if_pos hoff]
    exact hne.symm
  · cases d <;> exact transmitWindowEdge_sets w hup hen htdd
  · obtain ⟨hshown, hdl, hul, hmuteDl, hmuteUl, honly, hbase⟩ := dutyWindowEnd_ends hup x y
    simp only [dutyOf_eq] at hshown hdl hul hmuteDl hmuteUl honly
    exact ⟨hshown, hdl, hul, hmuteDl, hmuteUl, honly, congrArg Base.power hbase, congrArg Base.cfg hbase, congrArg Base.now hbase⟩
  · obtain ⟨⟨hset, hothers, htaps⟩, hcount, hbyp, honly⟩ := nearOverRange_takes hup ⟨hruns, hen, hfree⟩
    exact ⟨hset, hothers, htaps, hcount, hbyp, honly⟩
  · obtain ⟨hpin, hothers, htaps⟩ := setBypass_sets s l false
    rw [lnaBypassRelease_of_set hup hset]
    exact ⟨hpin, hothers, htaps, setBypass_frame s l false⟩
end

section
/-! SUPPORT. The occurrences of a reference's timing (R257, R258): what one leaves alone, what it makes of the timing in each of its states, and
which events it counts. -/

namespace Sys2Proof.Machine

/-! ### Records of the timing -/

theorem trk_setTrk (s : State) (r j : Nat) (k : TrkRec) : (s.setTrk r k).trk j = if j = r then k else s.trk j := by
  simp only [State.trk, SyncState.track, State.setTrk, NMap.get_put]

@[simp] theorem trk_setTrk_same (s : State) (r : Nat) (k : TrkRec) : (s.setTrk r k).trk r = k := (trk_setTrk s r r k).trans (if_pos rfl)

theorem trk_setTrk_ne (s : State) (k : TrkRec) {r j : Nat} (h : j ≠ r) : (s.setTrk r k).trk j = s.trk j :=
  (trk_setTrk s r j k).trans (if_neg h)

theorem trk_of_sync {s t : State} (h : t.sync = s.sync) (r : Nat) : t.trk r = s.trk r := by rw [State.trk, h, State.trk]

@[simp] theorem trk_raise (s : State) (b n : Nat) (r : Nat) : (s.raise b n).trk r = s.trk r := rfl

/-- An event of SYNC in a state whose fault state is that of s. -/
theorem raise_counts_sync {s x : State} (n : Nat) (hn : n < 32) (h : x.flt = s.flt) : Counts 11 n s (x.raise 11 n) :=
  raise_counts_of_flt 11 n none (by unfold chained; omega) (by decide) h

/-! ### A fold that reaches a condition -/

/-- A fold brings about what its step at one of its elements does, and no other step undoes, in states with I. -/
theorem foldl_reaches {σ α : Type} {I P : σ → Prop} {f : σ → α → σ} {a : α} {l : List α} (ha : a ∈ l) (hI : ∀ s b, I s → I (f s b))
    (hat : ∀ s, I s → P (f s a)) (hkeep : ∀ s b, I s → P s → P (f s b)) {s : σ} (h : I s) : P (l.foldl f s) := by
  have hstays : ∀ (l : List α) {s : σ}, I s → P s → P (l.foldl f s) := fun l => by
    induction l with
    | nil => exact fun _ hp => hp
    | cons b l ih => exact fun hi hp => ih (hI _ b hi) (hkeep _ b hi hp)
  induction l generalizing s with
  | nil => cases ha
  | cons b l ih =>
    rcases List.mem_cons.mp ha with rfl | hl
    · exact hstays l (hI s a h) (hat s h)
    · exact ih hl (hI s b h)

/-! ### The end of a timing's windows (R257, R258) -/

/-- The state but for the slots and the front end. -/
def State.offWindows (s : State) : State := { s with slots := [], front := {} }

theorem setWin_offWindows (s : State) (d : Dir) (b : Bool) : (s.setWin d b).offWindows = s.offWindows := by cases d <;> rfl

/-- The gate of slot n of direction d closes where reference r names it. -/
def State.closeSlot (r : Nat) (d : Dir) (s : State) (n : Nat) : State :=
  if s.slotRef d n = some r then s.setSlot d n { s.slotRec d n with tddOpen := false } else s

/-- The windows of reference r in one direction close. -/
def State.closeDir (r : Nat) (s : State) (d : Dir) : State :=
  let s := (s.tddSlots d).foldl (State.closeSlot r d) s
  s.setWin d ((s.tddSlots d).any (fun n => (s.slotRec d n).tddOpen))

theorem closeWindows_eq (s : State) (r : Nat) : s.closeWindows r = [Dir.dl, .ul].foldl (State.closeDir r) s := rfl

theorem closeSlot_offWindows (r : Nat) (d : Dir) (s : State) (n : Nat) : (s.closeSlot r d n).offWindows = s.offWindows := by
  unfold State.closeSlot
  split <;> rfl

theorem closeDir_offWindows (r : Nat) (s : State) (d : Dir) : (s.closeDir r d).offWindows = s.offWindows :=
  (setWin_offWindows _ d _).trans (foldl_keeps State.offWindows _ _ (closeSlot_offWindows r d) s)

theorem closeWindows_offWindows (s : State) (r : Nat) : (s.closeWindows r).offWindows = s.offWindows :=
  foldl_keeps State.offWindows _ _ (closeDir_offWindows r) s

theorem cfg_of_offWindows {s t : State} (h : t.offWindows = s.offWindows) : t.cfg = s.cfg := (congrArg State.cfg h :)

theorem slotRef_of_cfg {s t : State} (h : t.cfg = s.cfg) (d : Dir) (n : Nat) : t.slotRef d n = s.slotRef d n := by
  change State.slotRef { s with cfg := t.cfg } d n = _
  rw [h]

theorem tddSlots_of_cfg {s t : State} (h : t.cfg = s.cfg) (d : Dir) : t.tddSlots d = s.tddSlots d := by
  change State.tddSlots { s with cfg := t.cfg } d = _
  rw [h]

theorem closeSlot_stays_closed {s : State} {d : Dir} {n : Nat} (r : Nat) (c : Dir) (m : Nat) (h : (s.slotRec d n).tddOpen = false) :
    ((s.closeSlot r c m).slotRec d n).tddOpen = false := by
  unfold State.closeSlot
  split
  · rw [State.slotRec, State.setSlot, NMap.get_put]
    split
    · rfl
    · exact h
  · exact h

theorem setWin_slotRec (s : State) (c : Dir) (b : Bool) (d : Dir) (n : Nat) : (s.setWin c b).slotRec d n = s.slotRec d n := by
  cases c <;> rfl

theorem closeDir_stays_closed {s : State} {d : Dir} {n : Nat} (r : Nat) (c : Dir) (h : (s.slotRec d n).tddOpen = false) :
    ((s.closeDir r c).slotRec d n).tddOpen = false := by
  rw [State.closeDir, setWin_slotRec]
  exact List.foldlRecOn (motive := fun x : State => (x.slotRec d n).tddOpen = false) _ _ h fun x hx m _ => closeSlot_stays_closed r c m hx

theorem closeDir_closes {s : State} {d : Dir} {n r : Nat} (hn : n ∈ s.tddSlots d) (hr : s.slotRef d n = some r) :
    ((s.closeDir r d).slotRec d n).tddOpen = false := by
  rw [State.closeDir, setWin_slotRec]
  refine foldl_reaches (I := fun x : State => x.cfg = s.cfg) (P := fun x : State => (x.slotRec d n).tddOpen = false) hn
    (fun x m hx => (cfg_of_offWindows (closeSlot_offWindows r d x m)).trans hx) (fun x hx => ?_)
    (fun x m _ => closeSlot_stays_closed r d m) rfl
  rw [State.closeSlot, if_pos ((slotRef_of_cfg hx d n).trans hr), slotRec_setSlot_same]

theorem closeWindows_closes {s : State} {d : Dir} {n r : Nat} (hn : n ∈ s.tddSlots d) (hr : s.slotRef d n = some r) :
    ((s.closeWindows r).slotRec d n).tddOpen = false := by
  rw [closeWindows_eq]
  refine foldl_reaches (I := fun x : State => x.cfg = s.cfg) (P := fun x : State => (x.slotRec d n).tddOpen = false) (a := d)
    (by cases d <;> decide) (fun x c hx => (cfg_of_offWindows (closeDir_offWindows r x c)).trans hx) (fun x hx => ?_)
    (fun x c _ => closeDir_stays_closed r c) rfl
  exact closeDir_closes (by rwa [tddSlots_of_cfg hx]) ((slotRef_of_cfg hx d n).trans hr)

/-! ### The held candidate (R258) -/

/-- A timing but for its candidate. -/
def TrkRec.timing (k : TrkRec) : TrkRec := { k with cand := none, candHit := false, candCount := 0, candMissed := 0, switching := false }

/-- The judgement of the candidate touches the candidate alone, and may count SYNC source 4. -/
theorem judgeCand_outcome (s : State) (r : Nat) (cur : Option (Int × Int)) : s.judgeCand r cur = s ∨
    ∃ (k : TrkRec) (c : Bool), s.judgeCand r cur = (s.setTrk r k).raiseIf c 11 4 ∧ k.timing = (s.trk r).timing := by
  unfold State.judgeCand
  extract_lets k delta
  split
  · exact .inl rfl
  · extract_lets better missed
    split
    · exact .inr ⟨_, false, rfl, rfl⟩
    · exact .inr ⟨_, _, rfl, rfl⟩

theorem judgeCand_keeps {β : Type} (p : State → β) {r : Nat} (hset : ∀ x k, p (x.setTrk r k) = p x) (hraise : ∀ x n, p (x.raise 11 n) = p x)
    (s : State) (cur : Option (Int × Int)) : p (s.judgeCand r cur) = p s := by
  obtain h | ⟨k, c, h, -⟩ := judgeCand_outcome s r cur
  · rw [h]
  · rw [h]
    cases c with
    | false => exact hset s k
    | true => exact (hraise _ 4).trans (hset s k)

theorem judgeCand_timing (s : State) (r : Nat) (cur : Option (Int × Int)) : ((s.judgeCand r cur).trk r).timing = (s.trk r).timing := by
  obtain h | ⟨k, c, h, hk⟩ := judgeCand_outcome s r cur
  · rw [h]
  · rw [h, trk_of_sync (raiseIf_sync _ c 11 4 none), trk_setTrk_same, hk]

theorem counts_judgeCand {s t : State} {n : Nat} (h : Counts 11 n s t) (hn : n < 4) (r : Nat) (cur : Option (Int × Int)) :
    Counts 11 n s (t.judgeCand r cur) := by
  obtain heq | ⟨k, c, heq, -⟩ := judgeCand_outcome t r cur
  · rwa [heq]
  · rw [heq]
    exact counts_raiseIf (t := t.setTrk r k) h c none (by unfold chained; omega) (by omega)

/-! ### SYNC_OCCURRENCE (R257) -/

/-- What an occurrence leaves alone, whatever it comes to. -/
theorem syncOccurrence_keeps {β : Type} (p : State → β) (f : Fin 16) (hset : ∀ x k, p (x.setTrk f k) = p x)
    (hraise : ∀ x n, p (x.raise 11 n) = p x) (hclose : ∀ x, p (x.closeWindows f) = p x) (s : State) : p (syncOccurrence f s) = p s := by
  have hjudge := judgeCand_keeps p hset hraise
  have hif : ∀ (c : Prop) [Decidable c] (x y : State), p x = p s → p y = p s → p (if c then x else y) = p s :=
    fun c _ x y hx hy => (apply_ite p c x y).trans (by rw [hx, hy, ite_self])
  unfold syncOccurrence
  dsimp only
  split
  · rfl
  · split
    · exact hif _ _ _ (hset s _) (hif _ _ _ ((hraise _ 0).trans (hset s _)) (hset s _))
    · exact (hjudge _ _).trans (hif _ _ _ ((hraise _ 1).trans (hset s _)) (hset s _))
    · exact hif _ _ _ ((hjudge _ _).trans (hset s _))
        (hif _ _ _ ((hraise _ 2).trans ((hclose _).trans (hset s _))) ((hjudge _ _).trans (hset s _)))

/-- An occurrence touches no other reference, and none of what the frame of its statement names. -/
theorem syncOccurrence_frame (f : Fin 16) (s : State) : (∀ j, j ≠ f.val → (syncOccurrence f s).trk j = s.trk j) ∧
    (syncOccurrence f s).power = s.power ∧ (syncOccurrence f s).now = s.now ∧ (syncOccurrence f s).cfg = s.cfg ∧
    (syncOccurrence f s).sts = s.sts := by
  have hclose := fun x : State => closeWindows_offWindows x f
  have hbase : (syncOccurrence f s).base = s.base :=
    syncOccurrence_keeps State.base f (fun _ _ => rfl) (fun x n => raise_base x 11 n none) (fun x => (congrArg State.base (hclose x) :)) s
  refine ⟨fun j hj => ?_, power_of_base hbase, now_of_base hbase, cfg_of_base hbase, ?_⟩
  · exact syncOccurrence_keeps (fun x => x.trk j) f (fun x k => trk_setTrk_ne x k hj) (fun x n => trk_raise x 11 n j)
      (fun x => trk_of_sync (congrArg State.sync (hclose x) :) j) s
  · exact syncOccurrence_keeps State.sts f (fun _ _ => rfl) (fun x n => raise_sts x 11 n none) (fun x => (congrArg State.sts (hclose x) :)) s

/-- The device is up and the reference has a schedule. -/
def State.occurs (s : State) (r : Nat) : Prop := s.power = .up ∧ s.perTime r ≠ 0

/-- A timing after an occurrence: its marker is taken, and its state, frame start, run and misses are as given. -/
def TrkRec.passed (k : TrkRec) (st : Nat) (t0 : Int) (run missed : Nat) : TrkRec :=
  { k with marker := none, st := st, t0 := t0, run := run, missed := missed }

section
variable {s : State} {f : Fin 16}

theorem syncOccurrence_of_idle (h : ¬s.occurs f ∨ (s.trk f).st = 0) : syncOccurrence f s = s := by
  refine if_pos ?_
  rcases h with h | h
  · rcases not_and_or.mp h with h | h
    · simp [h]
    · simp [not_not.mp h]
  · simp [h]

variable (hocc : s.occurs f)
include hocc

theorem not_idle_of_occurs {n : Nat} (hst : (s.trk f).st = n + 1) :
    ¬(s.power != .up || decide ((s.trk f).st = 0) || decide (s.perTime f = 0)) = true := by
  obtain ⟨hup, hper⟩ := hocc
  simp [hup, hper, hst]

theorem syncOccurrence_of_acquiring (hst : (s.trk f).st = 1) (hmark : (s.trk f).marker ≠ none) :
    let k := s.trk f
    let base : Int := k.t0 + s.occTime f
    syncOccurrence f s =
      if s.acq ≤ k.run + 1 then (s.setTrk f { k.passed 2 base 0 0 with opens := s.frameFrom f base (s.now + 1) }).raise 11 0
      else s.setTrk f (k.passed 1 base (k.run + 1) 0) := by
  obtain ⟨x, hx⟩ := Option.ne_none_iff_exists'.mp hmark
  rw [syncOccurrence]
  dsimp only
  rw [if_neg (not_idle_of_occurs hocc hst)]
  simp only [hst, hx]
  rfl

theorem syncOccurrence_of_unconfirmed (hst : (s.trk f).st = 1) (hmark : (s.trk f).marker = none) : syncOccurrence f s = s.setTrk f {} := by
  rw [syncOccurrence]
  dsimp only
  rw [if_neg (not_idle_of_occurs hocc hst)]
  simp only [hst, hmark]
  rfl

/-- A marker is followed by an eighth of its difference, in tracking and in holdover. -/
theorem syncOccurrence_of_followed (hst : (s.trk f).st = 2 ∨ (s.trk f).st = 3) {m p : Int} (hmark : (s.trk f).marker = some (m, p)) :
    ∃ run, syncOccurrence f s = (s.setTrk f
      ((s.trk f).passed 2 ((s.trk f).t0 + s.occTime f + rneDiv (m - s.nextOcc f) 8) run 0)).judgeCand f (some (m, p)) := by
  have hloss : ¬s.lossN ≤ 0 := by
    rw [State.lossN]
    omega
  rw [syncOccurrence]
  dsimp only
  rcases hst with hst | hst
  · rw [if_neg (not_idle_of_occurs hocc hst)]
    simp only [hst, hmark, Option.isSome_some, if_true, if_neg hloss]
    exact ⟨_, rfl⟩
  · rw [if_neg (not_idle_of_occurs hocc hst)]
    simp only [hst, hmark, Option.isSome_some, if_true]
    exact ⟨_, rfl⟩

theorem syncOccurrence_of_missed (hst : (s.trk f).st = 2) (hmark : (s.trk f).marker = none) (hlt : (s.trk f).missed + 1 < 256) :
    let k := s.trk f
    let base : Int := k.t0 + s.occTime f
    syncOccurrence f s =
      (if s.lossN ≤ k.missed + 1 then (s.setTrk f (k.passed 3 base 0 (k.missed + 1))).raise 11 1
       else s.setTrk f (k.passed 2 base k.run (k.missed + 1))).judgeCand f none := by
  have hmin : min 255 ((s.trk f).missed + 1) = (s.trk f).missed + 1 := by omega
  rw [syncOccurrence]
  dsimp only
  rw [if_neg (not_idle_of_occurs hocc hst)]
  simp only [hst, hmark, Option.isSome_none, Bool.false_eq_true, if_false, hmin]
  rfl

theorem syncOccurrence_of_held (hst : (s.trk f).st = 3) (hmark : (s.trk f).marker = none) :
    let k := s.trk f
    syncOccurrence f s =
      if s.holdN ≤ k.run + 1 then ((s.setTrk f {}).closeWindows f).raise 11 2
      else (s.setTrk f (k.passed 3 (k.t0 + s.occTime f) (k.run + 1) (min 255 (k.missed + 1)))).judgeCand f none := by
  rw [syncOccurrence]
  dsimp only
  rw [if_neg (not_idle_of_occurs hocc hst)]
  simp only [hst, hmark, Option.isSome_none, Bool.false_eq_true, if_false]
  rfl

end

end Sys2Proof.Machine
end

section
/-! SUPPORT. The reports of sync (R253, R263): what the capture triggers and a report to the burst index leave alone, what a hit does to the
timing of its reference and to the donors that it keeps, and the statement about hits and occurrences. -/

namespace Sys2Proof.Machine

/-! ### A report to the capture triggers and to the burst index (R290, R305) -/

/-- A hit or a burst at time t fires the triggers q and goes to the burst index as e. -/
def State.tell (s : State) (t : Nat) (q : Nat → Bool) (e : BixEntry) : State := State.bixReport { s with bog := fireWhere s s.bog t q } e

theorem tell_keeps {β : Type} (p : State → β) (hbog : ∀ x t q, p { x with bog := fireWhere x x.bog t q } = p x)
    (hbix : ∀ x b, p { x with bix := b } = p x) (hbump : ∀ x, p (x.bump Reg.BIX_DROPPED 1) = p x) (hraise : ∀ x b n, p (x.raise b n) = p x)
    (s : State) (t : Nat) (q : Nat → Bool) (e : BixEntry) : p (s.tell t q e) = p s := by
  refine Eq.trans ?_ (hbog s t q)
  unfold State.tell State.bixReport
  split
  · exact hbump _
  · split
    · rfl
    · split
      · exact (hraise _ 20 2).trans (hbump _)
      · exact hbix _ _

theorem tell_st_ne (s : State) (t : Nat) (q : Nat → Bool) (e : BixEntry) {a : Nat} (h : a ≠ Reg.BIX_DROPPED) : (s.tell t q e).st a = s.st a :=
  tell_keeps (fun x => x.st a) (fun _ _ _ => rfl) (fun _ _ => rfl) (fun x => st_bump_ne x 1 h) (fun _ _ _ => rfl) s t q e

/-! ### A hit and the timing of its reference (R253, R256–R258) -/

theorem marker_keeps {β : Type} (p : State → β) {r : Nat} (hset : ∀ x k, p (x.setTrk r k) = p x) (s : State) (t q : Int) :
    p (s.marker r t q).1 = p s := by
  unfold State.marker
  extract_lets k
  split
  · rfl
  · split
    · exact hset s _
    · split
      · exact hset s _
      · rfl

theorem candidate_keeps {β : Type} (p : State → β) {r : Nat} (hset : ∀ x k, p (x.setTrk r k) = p x) (s : State) (t q : Int) :
    p (s.candidate r t q) = p s := by
  unfold State.candidate
  extract_lets k
  split
  · exact hset s _
  · split
    · exact hset s _
    · split
      · exact hset s _
      · rfl

/-- The first marker of a searched reference with a schedule. -/
theorem marker_of_searched {s : State} {r : Nat} (t q : Int) (hper : s.perTime r ≠ 0) (hst : (s.trk r).st = 0) :
    s.marker r t q = (s.setTrk r { st := 1, t0 := t - s.offTime r }, true) := (if_neg hper).trans (if_pos hst)

/-- The reference of the hit takes its timing from hits of the downlink, and has a schedule. -/
def State.hitTimes (s : State) (h : HitIn) : Bool := keyDir h.slot = .dl && s.refTsrc h.ref = 0 && s.refPeriod h.ref != 0

/-- What the hit does to its reference's timing. -/
def State.hitTimed (h : HitIn) (s : State) : State :=
  if s.hitTimes h then
    let x := s.marker h.ref h.t h.p
    if !x.2 && decide (2 ≤ (s.trk h.ref).st) then x.1.candidate h.ref h.t h.p else x.1
  else s

theorem hitTimed_keeps {β : Type} (p : State → β) (h : HitIn) (hset : ∀ x k, p (x.setTrk h.ref k) = p x) (s : State) :
    p (s.hitTimed h) = p s := by
  unfold State.hitTimed
  split
  · extract_lets x
    have hmark : p x.1 = p s := marker_keeps p hset s h.t h.p
    split
    · exact (candidate_keeps p hset x.1 h.t h.p).trans hmark
    · exact hmark
  · rfl

theorem hitTimed_of_searched {s : State} {h : HitIn} (htimes : s.hitTimes h = true) (hst : (s.trk h.ref).st = 0) :
    s.hitTimed h = s.setTrk h.ref { st := 1, t0 := (h.t : Int) - s.offTime h.ref } := by
  have hper : s.perTime h.ref ≠ 0 := by
    simp only [State.hitTimes, Bool.and_eq_true, bne_iff_ne] at htimes
    rw [State.perTime]
    omega
  rw [State.hitTimed, if_pos htimes]
  simp only [marker_of_searched h.t h.p hper hst, hst]
  rfl

theorem hitTimed_of_untimed {s : State} {h : HitIn} (htimes : s.hitTimes h = false) : s.hitTimed h = s := if_neg (by simp [htimes])

/-! ### A hit, the diversity and the donors (R190, R260) -/

theorem diversity_keeps {β : Type} (p : State → β)
    (hbranch : ∀ x a b, p { x with sync := { x.sync with branchDl := a, branchUl := b } } = p x) (hraise : ∀ x b n, p (x.raise b n) = p x)
    (s : State) (d : Dir) (h : HitIn) : p (s.diversity d h) = p s := by
  unfold State.diversity
  extract_lets lanesIn
  split
  · rfl
  · split
    · refine (hraise _ 11 (5 + d.num)).trans ?_
      cases d
      · exact hbranch s _ s.sync.branchUl
      · exact hbranch s s.sync.branchDl _
    · rfl

/-- One slot's donor is heard, where the slot is a TDD slot of reference r. -/
def State.hearSlot (r : Nat) (s : State) (n : Nat) : State :=
  if s.slotTdd .dl n && s.slotRef .dl n = some r then
    s.setGov .dl (govOf n) { s.govRec .dl (govOf n) with donorHigh := some s.now }
  else s

theorem hitHeard_eq (s : State) (r : Nat) : s.hitHeard r = (s.enabled .dl).foldl (State.hearSlot r) s := rfl

theorem hearSlot_keeps {β : Type} (p : State → β)
    (hgov : ∀ x g, p (x.setGov .dl g { x.govRec .dl g with donorHigh := some x.now }) = p x) (r : Nat) (s : State) (n : Nat) :
    p (s.hearSlot r n) = p s := by
  unfold State.hearSlot
  split
  · exact hgov s _
  · rfl

theorem hitHeard_keeps {β : Type} (p : State → β)
    (hgov : ∀ x g, p (x.setGov .dl g { x.govRec .dl g with donorHigh := some x.now }) = p x) (s : State) (r : Nat) :
    p (s.hitHeard r) = p s := by
  rw [hitHeard_eq]
  exact foldl_keeps p _ _ (hearSlot_keeps p hgov r) s

theorem govRec_setGov (s : State) (d c : Dir) (g i : Nat) (r : GovRec) :
    (s.setGov d g r).govRec c i = if govKey c i = govKey d g then r else s.govRec c i := by
  simp only [State.govRec, State.setGov, NMap.get_put]

theorem slotTdd_of_cfg {s t : State} (h : t.cfg = s.cfg) (d : Dir) (n : Nat) : t.slotTdd d n = s.slotTdd d n := by
  rw [State.slotTdd, State.slotCfg, rd_eq_of_cfg h, State.slotTdd, State.slotCfg]

theorem hitHeard_hears {s : State} {r n : Nat} (hn : n ∈ s.enabled .dl) (htdd : s.slotTdd .dl n = true) (hr : s.slotRef .dl n = some r) :
    ((s.hitHeard r).govRec .dl (govOf n)).donorHigh = some s.now := by
  rw [hitHeard_eq]
  refine foldl_reaches (f := State.hearSlot r) (I := fun x : State => (x.cfg, x.now) = (s.cfg, s.now))
    (P := fun x : State => (x.govRec .dl (govOf n)).donorHigh = some s.now) hn
    (fun x m hx => (hearSlot_keeps (fun x => (x.cfg, x.now)) (fun _ _ => rfl) r x m).trans hx) (fun x hx => ?_) (fun x m hx hheard => ?_) rfl
  · obtain ⟨hcfg, hnow⟩ := Prod.ext_iff.mp hx
    rw [State.hearSlot, if_pos (by simp [slotTdd_of_cfg hcfg, slotRef_of_cfg hcfg, htdd, hr]), govRec_setGov_same]
    exact congrArg some hnow
  · rw [State.hearSlot]
    split
    · rw [govRec_setGov]
      split
      · exact congrArg some (Prod.ext_iff.mp hx).2
      · exact hheard
    · exact hheard

/-! ### SYNC_HIT (R253) -/

theorem syncHit_of_unsearched {s : State} {h : HitIn} (hs : s.searches h = false) : syncHit h s = s := if_pos (by simp [hs])

theorem syncHit_of_excluded {s : State} {h : HitIn} (hs : s.searches h = true) (hex : h.excluded = true) : syncHit h s = s.raise 11 7 :=
  (if_neg (by simp [hs])).trans (if_pos hex)

/-- The hit's count. -/
def State.hitCounted (h : HitIn) (s : State) : State := s.bumpF Reg.SYNC_HIT_COUNT (16 * (keyDir h.slot).num) 16 1

/-- The hit with its flag goes to the diversity, to the donors, and to whom it is reported. -/
def State.hitTold (h : HitIn) (flag : Nat) (s : State) : State :=
  let x := (if flag = 0 then s.diversity (keyDir h.slot) h else s).hitHeard h.ref
  x.tell h.t (x.trigHit h flag)
    { t := h.t, kind := 2, flag := flag, lane := h.lane, slot := h.slot, ref := h.ref, p := h.p, rho := h.rho }

theorem syncHit_of_counted {s : State} {h : HitIn} (hs : s.searches h = true) (hex : h.excluded = false) :
    ∃ flag, syncHit h s = ((s.hitCounted h).hitTimed h).hitTold h flag := by
  unfold syncHit
  extract_lets d r
  rw [if_neg (by simp [hs]), if_neg (by simp [hex])]
  exact ⟨_, rfl⟩

theorem hitTold_keeps {β : Type} (p : State → β) (hbranch : ∀ x a b, p { x with sync := { x.sync with branchDl := a, branchUl := b } } = p x)
    (hgov : ∀ x g, p (x.setGov .dl g { x.govRec .dl g with donorHigh := some x.now }) = p x)
    (hbog : ∀ x t q, p { x with bog := fireWhere x x.bog t q } = p x)
    (hbix : ∀ x b, p { x with bix := b } = p x) (hbump : ∀ x, p (x.bump Reg.BIX_DROPPED 1) = p x) (hraise : ∀ x b n, p (x.raise b n) = p x)
    (h : HitIn) (flag : Nat) (s : State) : p (s.hitTold h flag) = p s := by
  refine (tell_keeps p hbog hbix hbump hraise _ _ _ _).trans ((hitHeard_keeps p hgov _ _).trans ?_)
  split
  · exact diversity_keeps p hbranch hraise s _ h
  · rfl

section
variable (h : HitIn) (flag : Nat) (s : State)

theorem hitTold_trk (r : Nat) : (s.hitTold h flag).trk r = s.trk r :=
  hitTold_keeps (fun x => x.trk r) (fun _ _ _ => rfl) (fun _ _ => rfl) (fun _ _ _ => rfl) (fun _ _ => rfl) (fun _ => rfl) (fun _ _ _ => rfl)
    h flag s

theorem hitTold_st_ne {a : Nat} (ha : a ≠ Reg.BIX_DROPPED) : (s.hitTold h flag).st a = s.st a :=
  hitTold_keeps (fun x => x.st a) (fun _ _ _ => rfl) (fun _ _ => rfl) (fun _ _ _ => rfl) (fun _ _ => rfl) (fun x => st_bump_ne x 1 ha)
    (fun _ _ _ => rfl) h flag s

/-- A governor's record but for when its donor was last heard. -/
def State.govUnheard (s : State) (c : Dir) (g : Nat) : GovRec := { s.govRec c g with donorHigh := none }

theorem setGov_govUnheard (x : State) (i : Nat) (c : Dir) (g : Nat) :
    (x.setGov .dl i { x.govRec .dl i with donorHigh := some x.now }).govUnheard c g = x.govUnheard c g := by
  rw [State.govUnheard, govRec_setGov]
  split
  case isTrue hkey => rw [State.govUnheard, State.govRec, State.govRec, hkey]
  case isFalse => rfl

theorem hitTold_govUnheard (c : Dir) (g : Nat) : (s.hitTold h flag).govUnheard c g = s.govUnheard c g :=
  hitTold_keeps (fun x => x.govUnheard c g) (fun _ _ _ => rfl) (fun x i => setGov_govUnheard x i c g) (fun _ _ _ => rfl) (fun _ _ => rfl)
    (fun _ => rfl) (fun _ _ _ => rfl) h flag s

theorem hitTold_hears {n : Nat} (hn : n ∈ s.enabled .dl) (htdd : s.slotTdd .dl n = true) (hr : s.slotRef .dl n = some h.ref.val) :
    ((s.hitTold h flag).govRec .dl (govOf n)).donorHigh = some s.now := by
  have htell : ∀ (x : State) q e, (x.tell h.t q e).gov = x.gov :=
    fun x => tell_keeps State.gov (fun _ _ _ => rfl) (fun _ _ => rfl) (fun _ => rfl) (fun _ _ _ => rfl) x h.t
  have hframe : ∀ y : State, y = (if flag = 0 then s.diversity (keyDir h.slot) h else s) → (y.cfg, y.now) = (s.cfg, s.now) := fun y hy => by
    rw [hy]
    split
    · exact diversity_keeps (fun x => (x.cfg, x.now)) (fun _ _ _ => rfl) (fun _ _ _ => rfl) s _ h
    · rfl
  rw [State.govRec, State.hitTold, htell]
  generalize hy : (if flag = 0 then s.diversity (keyDir h.slot) h else s) = y
  obtain ⟨hcfg, hnow⟩ := Prod.ext_iff.mp (hframe y hy.symm)
  rw [← show y.now = s.now from hnow]
  exact hitHeard_hears (by rwa [enabled_of_cfg hcfg]) ((slotTdd_of_cfg hcfg _ _).trans htdd) ((slotRef_of_cfg hcfg _ _).trans hr)

end

/-- The state but for sync, the burst index, the governors, and what `uncounted` leaves out, the three being s's. -/
def State.hitRest (s x : State) : State × (BogState × TwbState) := State.uncounted { x with sync := s.sync, bix := s.bix, gov := s.gov }

theorem onlyStatusCounts_of_hitRest {A : List Nat} {s x : State} (h : s.hitRest x = s.uncounted) (hst : ∀ a, a ∉ A → x.st a = s.st a) :
    OnlyStatusCounts A s { x with sync := s.sync, bix := s.bix, gov := s.gov } := onlyStatusCounts_of_uncounted h hst

theorem hitTold_rest (s : State) (h : HitIn) (flag : Nat) (x : State) : s.hitRest (x.hitTold h flag) = s.hitRest x :=
  hitTold_keeps s.hitRest (fun _ _ _ => rfl) (fun _ _ => rfl)
    (fun x t q => Prod.ext rfl (Prod.ext (fireWhere_mem x x.bog t q) rfl)) (fun _ _ => rfl) (fun _ => rfl)
    (fun x _ _ => Prod.ext rfl (raiseEvs_fixed x _)) h flag x

/-- A hit that counts: its count, what it touches, the donors that it keeps from counting as lost, and its reference's timing. -/
theorem syncHit_counts {s : State} {h : HitIn} (hs : s.searches h = true) (hex : h.excluded = false) : let t := syncHit h s
    (t.stF Reg.SYNC_HIT_COUNT (16 * (keyDir h.slot).num) 16 = satAdd 65535 (s.stF Reg.SYNC_HIT_COUNT (16 * (keyDir h.slot).num) 16) 1 ∧
      OnlyStatusCounts [Reg.SYNC_HIT_COUNT, Reg.BIX_DROPPED] s { t with sync := s.sync, bix := s.bix, gov := s.gov }) ∧
    ((∀ n, n ∈ s.enabled .dl → s.slotTdd .dl n = true → s.slotRef .dl n = some h.ref.val →
        (t.govRec .dl (govOf n)).donorHigh = some s.now) ∧
      ∀ c g, t.govUnheard c g = s.govUnheard c g) ∧
    ∀ r, t.trk r = ((s.hitCounted h).hitTimed h).trk r := by
  intro t
  obtain ⟨flag, ht⟩ := syncHit_of_counted hs hex
  let x := (s.hitCounted h).hitTimed h
  have htimed : ∀ {β : Type} (p : State → β), (∀ y k, p (y.setTrk h.ref k) = p y) → p x = p (s.hitCounted h) :=
    fun p hset => hitTimed_keeps p h hset _
  have hst : ∀ a, x.st a = (s.hitCounted h).st a := fun a => htimed (fun y => y.st a) fun _ _ => rfl
  refine ⟨⟨?_, ?_⟩, ⟨fun n hn htdd hr => ?_, fun c g => ?_⟩, fun r => (congrArg (fun y => State.trk y r) ht).trans (hitTold_trk h flag x r)⟩
  · refine (stF_of_st ((congrArg (fun y => State.st y _) ht).trans ((hitTold_st_ne h flag x (by decide)).trans (hst _))) _ _).trans ?_
    exact stF_bumpF_same s _ 1 (by cases keyDir h.slot <;> decide)
  · refine onlyStatusCounts_of_hitRest (x := t) ?_ fun a ha => ?_
    · exact (congrArg s.hitRest ht).trans ((hitTold_rest s h flag x).trans (htimed s.hitRest fun _ _ => rfl))
    · simp only [List.mem_cons, List.not_mem_nil, or_false, not_or] at ha
      exact (congrArg (fun y => State.st y a) ht).trans ((hitTold_st_ne h flag x ha.2).trans ((hst a).trans (st_bumpF_ne s _ 16 1 ha.1)))
  · have hcfg : x.cfg = s.cfg := htimed State.cfg fun _ _ => rfl
    have hnow : x.now = s.now := htimed State.now fun _ _ => rfl
    rw [show t = x.hitTold h flag from ht, ← hnow]
    exact hitTold_hears h flag x (by rwa [enabled_of_cfg hcfg]) ((slotTdd_of_cfg hcfg _ _).trans htdd) ((slotRef_of_cfg hcfg _ _).trans hr)
  · rw [show t = x.hitTold h flag from ht, hitTold_govUnheard]
    exact htimed (fun y => y.govUnheard c g) fun _ _ => rfl

theorem hitCounted_times (s : State) (h : HitIn) : (s.hitCounted h).hitTimes h = s.hitTimes h := rfl

/-- What the timing of a reference shows after its candidate's judgement. -/
theorem judgeCand_shows {x : State} {r : Nat} {k : TrkRec} (h : x.trk r = k) (cur : Option (Int × Int)) :
    let j := (x.judgeCand r cur).trk r
    j.st = k.st ∧ j.t0 = k.t0 ∧ j.run = k.run ∧ j.missed = k.missed := by
  have htiming := (judgeCand_timing x r cur).trans (congrArg TrkRec.timing h)
  exact ⟨(congrArg TrkRec.st htiming :), (congrArg TrkRec.t0 htiming :), (congrArg TrkRec.run htiming :), (congrArg TrkRec.missed htiming :)⟩

end Sys2Proof.Machine

open Sys2Proof Sys2Proof.Machine

/-- Settles O40: a hit by whether its search runs and whether it is excluded, an occurrence by the state of its timing and its marker. -/
theorem syncHits : Obligations.SyncHits := by
  unfold Obligations.SyncHits
  refine ⟨fun s h => ⟨fun hs => ⟨_, rfl, syncHit_of_unsearched hs⟩, fun hs hex => ⟨_, rfl, ?_⟩, fun hs hex => ⟨_, rfl, ?_⟩⟩, fun s f => ?_⟩
  · rw [syncHit_of_excluded hs hex]
    exact ⟨raise_counts_sync 7 (by decide) rfl, raise_onlyCounts s 11 7 none⟩
  · obtain ⟨⟨hcount, honly⟩, ⟨hheard, hgov⟩, htrk⟩ := syncHit_counts hs hex
    refine ⟨hcount, honly, hheard, fun c g => ?_, fun k hk => ?_, fun hd htsrc hper hst => ?_, fun hd => ?_⟩
    · exact congrArg (fun r : GovRec => { r with donorHigh := ((syncHit h s).govRec c g).donorHigh }) (hgov c g)
    · exact (htrk k).trans (hitTimed_keeps (fun x => x.trk k) h (fun x j => trk_setTrk_ne x j hk) _)
    · have htimes : (s.hitCounted h).hitTimes h = true := (hitCounted_times s h).trans (by simp [State.hitTimes, hd, htsrc, hper])
      rw [htrk, hitTimed_of_searched htimes hst, trk_setTrk_same]
      rfl
    · have htimes : (s.hitCounted h).hitTimes h = false := (hitCounted_times s h).trans (by simp [State.hitTimes, hd])
      rw [htrk, hitTimed_of_untimed htimes]
      rfl
  · extract_lets r k base runs gives
    have hgives : ∀ p : State → Prop, p (syncOccurrence f s) → gives p := fun p hp => ⟨_, rfl, hp, syncOccurrence_frame f s⟩
    refine ⟨fun h => ⟨_, rfl, syncOccurrence_of_idle h⟩, fun hocc hst hmark => hgives _ ?_, fun hocc hst hmark hacq => hgives _ ?_,
      fun hocc hst hmark hacq => hgives _ ?_, fun m p hocc hst hmark => hgives _ ?_,
      fun hocc hst hmark hlt => ⟨fun hloss => hgives _ ?_, fun hloss => hgives _ ?_⟩,
      fun hocc hst hmark => ⟨fun hhold => hgives _ ?_, fun hhold => hgives _ ?_⟩⟩
    · rw [syncOccurrence_of_unconfirmed hocc hst hmark]
      exact ⟨trk_setTrk_same s r {}, rfl⟩
    · rw [syncOccurrence_of_acquiring hocc hst hmark, if_pos hacq, trk_raise, trk_setTrk_same]
      exact ⟨rfl, rfl, raise_counts_sync 0 (by decide) rfl⟩
    · rw [syncOccurrence_of_acquiring hocc hst hmark, if_neg (Nat.not_le.mpr hacq), trk_setTrk_same]
      exact ⟨rfl, rfl, rfl, rfl⟩
    · obtain ⟨run, heq⟩ := syncOccurrence_of_followed hocc hst hmark
      obtain ⟨hst', ht0, -, hmissed⟩ := judgeCand_shows (trk_setTrk_same s r _) (some (m, p))
      rw [heq]
      exact ⟨hst', hmissed, ht0⟩
    · rw [syncOccurrence_of_missed hocc hst hmark hlt, if_pos hloss]
      obtain ⟨hst', ht0, hrun, -⟩ := judgeCand_shows ((trk_raise _ 11 1 r).trans (trk_setTrk_same s r _)) none
      exact ⟨hst', hrun, ht0, counts_judgeCand (raise_counts_sync 1 (by decide) rfl) (by decide) r none⟩
    · rw [syncOccurrence_of_missed hocc hst hmark hlt, if_neg (Nat.not_le.mpr hloss)]
      obtain ⟨hst', ht0, -, hmissed⟩ := judgeCand_shows (trk_setTrk_same s r _) none
      exact ⟨hst', hmissed, ht0⟩
    · have hframe := closeWindows_offWindows (s.setTrk r {}) r
      rw [syncOccurrence_of_held hocc hst hmark, if_pos hhold]
      refine ⟨(trk_of_sync (congrArg State.sync hframe :) r).trans (trk_setTrk_same s r {}),
        raise_counts_sync 2 (by decide) (congrArg State.flt hframe :), fun d n hn hr => ?_⟩
      exact closeWindows_closes (s := s.setTrk r {}) hn hr
    · rw [syncOccurrence_of_held hocc hst hmark, if_neg (Nat.not_le.mpr hhold)]
      obtain ⟨hst', ht0, hrun, -⟩ := judgeCand_shows (trk_setTrk_same s r _) none
      exact ⟨hst', hrun, ht0⟩
end

section
/-! SUPPORT. The noise floor (R262) and the bursts (R263): what an idle interval writes of its branch, what the start, the end and a report of a
burst change. -/

namespace Sys2Proof.Machine

/-- A frame with counting in it and no status register. -/
theorem onlyCounts_of_uncounted {s t : State} (h : t.uncounted = s.uncounted) (hsts : t.sts = s.sts) : OnlyCounts s t := by
  obtain ⟨heq, hparts, -⟩ := onlyStatusCounts_of_uncounted (A := []) h fun a _ => st_of_sts hsts a
  rw [hsts] at heq
  exact ⟨heq, hparts⟩

/-! ### The noise floor (R262) -/

/-- The floor of branch b. -/
def NfRec.floor (r : NfRec) (b : Nat) : Option Nat := if b = 0 then r.n0 else r.n1

/-- When branch b was measured. -/
def NfRec.measuredAt (r : NfRec) (b : Nat) : Nat := if b = 0 then r.at0 else r.at1

theorem floor_put (r : NfRec) (b v t : Nat) : (r.put b v t).floor b = some v := by
  unfold NfRec.put NfRec.floor
  by_cases hb : b = 0 <;> simp only [hb, if_true, if_false]

theorem measuredAt_put (r : NfRec) (b v t : Nat) : (r.put b v t).measuredAt b = t := by
  unfold NfRec.put NfRec.measuredAt
  by_cases hb : b = 0 <;> simp only [hb, if_true, if_false]

/-- The slot of key k is enabled and its noise floor can be measured: an uplink slot, or a TDD slot. -/
def State.floorSlot (s : State) (k : Nat) : Prop :=
  s.slotEn (keyDir k) (keySlot k) = true ∧ (keyDir k = .ul ∨ s.slotTdd (keyDir k) (keySlot k) = true)

/-- Branch b of the slot of key k has the floor v, measured now. -/
def State.putFloor (s : State) (k b v : Nat) : State :=
  { s with sync := { s.sync with nf := NMap.put (fun _ => {}) s.sync.nf k ((s.nfRec k).put b v s.now) } }

theorem nfRec_putFloor (s : State) (k b v j : Nat) : (s.putFloor k b v).nfRec j = if j = k then (s.nfRec k).put b v s.now else s.nfRec j := by
  simp only [State.nfRec, State.putFloor, NMap.get_put]

theorem isDl_and_not_iff (d : Dir) (tdd : Bool) : (decide (d = .dl) && !tdd) = true ↔ ¬(d = .ul ∨ tdd = true) := by
  cases d <;> cases tdd <;> decide

section
variable {s : State} {k : Fin 34} {br : Fin 2} {p : Int} {n : Nat}

theorem noiseFloorUpdate_of_not (h : ¬s.floorSlot k ∨ n < s.fld Reg.SYNC_NF_CFG 16 16) : noiseFloorUpdate k br p n s = s := by
  refine if_pos ?_
  rcases h with h | h
  · rcases not_and_or.mp h with h | h
    · simp [h]
    · rw [(isDl_and_not_iff _ _).mpr h, Bool.or_true, Bool.true_or]
  · simp [h]

variable (hup : s.isUp = true) (hslot : s.floorSlot k) (hn : s.fld Reg.SYNC_NF_CFG 16 16 ≤ n)
include hup hslot hn

/-- An idle interval of enough samples writes its branch's floor, the measured one where there is none of the last 60 s; a record of it goes
to the regions, and a tenfold rise counts SYNC source 11. -/
theorem noiseFloorUpdate_of_measured : ∃ (v : Nat) (record : List Byte) (rose : Bool),
    noiseFloorUpdate k br p n s = ((s.putFloor k br v).recordTo 6 (fun _ => true) record).1.raiseIf rose 11 11 ∧
    ((s.nfRec k).floor br = none ∨ (s.nfRec k).measuredAt br + 60000 * msTime ≤ s.now → v = linOfDb (qOfCenti p)) := by
  obtain ⟨hen, hidle⟩ := hslot
  have hcond : ¬(!s.isUp || !s.slotEn (keyDir k) (keySlot k) || (decide (keyDir k = .dl) && !s.slotTdd (keyDir k) (keySlot k)) ||
      decide (n < s.fld Reg.SYNC_NF_CFG 16 16)) = true := by
    have htimed := mt (isDl_and_not_iff _ _).mp (not_not.mpr hidle)
    simp [hup, hen, Nat.not_lt.mpr hn, Bool.eq_false_iff.mpr htimed]
  unfold noiseFloorUpdate
  extract_lets d m r b now at_ old den w new
  rw [if_neg hcond]
  refine ⟨new, _, _, rfl, fun h => ?_⟩
  have hold : old = none := by
    rcases h with h | h
    · exact (if_congr Iff.rfl rfl h).trans (ite_self none)
    · exact if_pos (decide_eq_true h)
  simp only [new, hold]
  rfl

theorem noiseFloorUpdate_updates : let t := noiseFloorUpdate k br p n s
    ((∃ x, (t.nfRec k).floor br = some x) ∧ (t.nfRec k).measuredAt br = s.now ∧
      ((s.nfRec k).floor br = none ∨ (s.nfRec k).measuredAt br + 60000 * msTime ≤ s.now →
        (t.nfRec k).floor br = some (linOfDb (qOfCenti p))) ∧ ∀ j, j ≠ k.val → t.nfRec j = s.nfRec j) ∧
    t.sts = s.sts ∧ t.cfg = s.cfg ∧ t.now = s.now := by
  intro t
  obtain ⟨v, record, rose, ht, hv⟩ := noiseFloorUpdate_of_measured hup hslot hn (br := br) (p := p)
  have hrec := recordTo_offBog (s.putFloor k br v) 6 (fun _ => true) record
  have hsync : t.sync = (s.putFloor k br v).sync :=
    (congrArg State.sync ht).trans ((raiseIf_sync _ rose 11 11 none).trans (congrArg State.sync hrec :))
  have hnf : ∀ j, t.nfRec j = if j = k.val then (s.nfRec k).put br v s.now else s.nfRec j := fun j => by
    rw [State.nfRec, hsync]
    exact nfRec_putFloor s k br v j
  refine ⟨⟨⟨v, ?_⟩, ?_, fun h => ?_, fun j hj => (hnf j).trans (if_neg hj)⟩, ?_, ?_, ?_⟩
  · rw [hnf, if_pos rfl, floor_put]
  · rw [hnf, if_pos rfl, measuredAt_put]
  · rw [hnf, if_pos rfl, floor_put, hv h]
  · exact (congrArg State.sts ht).trans ((raiseIf_sts _ rose 11 11 none).trans (congrArg State.sts hrec :))
  · exact (congrArg State.cfg ht).trans ((raiseIf_cfg _ rose 11 11 none).trans (congrArg State.cfg hrec :))
  · exact (congrArg State.now ht).trans ((raiseIf_now _ rose 11 11 none).trans (congrArg State.now hrec :))

omit hn in
theorem noiseFloorStale_of_floorSlot : noiseFloorStale k s = s.raise 11 10 := by
  obtain ⟨hen, hidle⟩ := hslot
  exact if_pos (by simp [hup, hen, hidle])

end

theorem noiseFloorStale_of_not {s : State} {k : Fin 34} (h : ¬s.floorSlot k) : noiseFloorStale k s = s := by
  refine if_neg fun hcond => h ?_
  simp only [Bool.and_eq_true, Bool.or_eq_true, decide_eq_true_eq] at hcond
  exact ⟨hcond.1.2, hcond.2⟩

/-! ### Bursts (R263) -/

theorem bitAt_setBurst (s : State) (k b : Nat) (on : Bool) : bitAt ((s.setBurst k b on).burstBits k) b = on := by
  rw [State.setBurst, State.burstBits, NMap.get_put_same, bitAt_eq_testBit, testBit_putBits, if_pos (by omega), Nat.sub_self]
  cases on <;> rfl

theorem burstStart_of_on {s : State} {k : Fin 34} (br : Fin 2) (w : Nat) (hup : s.isUp = true)
    (hen : s.slotEn (keyDir k) (keySlot k) = true) : burstStart k br w s = s.setBurst k br true := if_pos (by simp [hup, hen])

theorem burstStart_of_off {s : State} {k : Fin 34} (br : Fin 2) (w : Nat) (hen : ¬s.slotEn (keyDir k) (keySlot k) = true) :
    burstStart k br w s = s := if_neg (by simp [hen])

/-- The burst's count, and its note for the false-wake check where it is one of the uplink. -/
def State.burstCounted (b : BurstIn) (s : State) : State :=
  let x := s.bumpF Reg.SYNC_BURST_COUNT (16 * (keyDir b.slot).num) 16 1
  if keyDir b.slot = .ul then { x with lichen := { x.lichen with burstSeen := true, ulBurstAt := x.now } } else x

theorem burstCounted_eq (b : BurstIn) (s : State) : s.burstCounted b =
    { s.bumpF Reg.SYNC_BURST_COUNT (16 * (keyDir b.slot).num) 16 1 with lichen := (s.burstCounted b).lichen } := by
  unfold State.burstCounted
  extract_lets x
  split <;> rfl

theorem burstCounted_seen {b : BurstIn} (s : State) (hd : keyDir b.slot = .ul) : (s.burstCounted b).lichen.burstSeen = true := by
  rw [State.burstCounted]
  dsimp only
  rw [if_pos hd]

theorem burstReport_tells (s : State) (b : BurstIn) (continues : Bool) :
    ∃ q e, s.burstReport b continues = (s.burstCounted b).tell b.t q e := ⟨_, _, rfl⟩

/-- The burst counts in BURST_COUNT, an uplink one is seen by the false-wake check, and it goes to the capture triggers and the burst index. -/
def BurstReported (b : BurstIn) (s t : State) : Prop :=
  t.stF Reg.SYNC_BURST_COUNT (16 * (keyDir b.slot).num) 16 = satAdd 65535 (s.stF Reg.SYNC_BURST_COUNT (16 * (keyDir b.slot).num) 16) 1 ∧
  (keyDir b.slot = .ul → t.lichen.burstSeen = true) ∧
  OnlyStatusCounts [Reg.SYNC_BURST_COUNT, Reg.BIX_DROPPED] s { t with sync := s.sync, bix := s.bix, lichen := s.lichen }

/-- The state but for sync, the burst index, Lichen, and what `uncounted` leaves out, the three being s's. -/
def State.burstRest (s x : State) : State × (BogState × TwbState) :=
  State.uncounted { x with sync := s.sync, bix := s.bix, lichen := s.lichen }

theorem onlyStatusCounts_of_burstRest {A : List Nat} {s x : State} (h : s.burstRest x = s.uncounted) (hst : ∀ a, a ∉ A → x.st a = s.st a) :
    OnlyStatusCounts A s { x with sync := s.sync, bix := s.bix, lichen := s.lichen } := onlyStatusCounts_of_uncounted h hst

theorem burstReport_reports (s : State) (y : SyncState) (b : BurstIn) (continues : Bool) : let t := State.burstReport { s with sync := y } b continues
    BurstReported b s t ∧ t.sync = y := by
  intro t
  obtain ⟨q, e, ht⟩ := burstReport_tells { s with sync := y } b continues
  let x := State.burstCounted b { s with sync := y }
  have hx : x = { s.bumpF Reg.SYNC_BURST_COUNT (16 * (keyDir b.slot).num) 16 1 with sync := y, lichen := x.lichen } :=
    burstCounted_eq b { s with sync := y }
  have hst : ∀ a, x.st a = (s.bumpF Reg.SYNC_BURST_COUNT (16 * (keyDir b.slot).num) 16 1).st a := st_of_sts (congrArg State.sts hx :)
  have htst : ∀ a, a ≠ Reg.BIX_DROPPED → t.st a = x.st a := fun a ha =>
    (congrArg (fun z => State.st z a) ht).trans (tell_st_ne x b.t q e ha)
  have htell : ∀ {β : Type} (p : State → β), (∀ z t q, p { z with bog := fireWhere z z.bog t q } = p z) → (∀ z c, p { z with bix := c } = p z) →
      (∀ z, p (z.bump Reg.BIX_DROPPED 1) = p z) → (∀ z b n, p (z.raise b n) = p z) → p t = p x := fun p hbog hbix hbump hraise =>
    (congrArg p ht).trans (tell_keeps p hbog hbix hbump hraise x b.t q e)
  refine ⟨⟨?_, fun hd => ?_, ?_⟩, ?_⟩
  · refine (stF_of_st ((htst _ (by decide)).trans (hst _)) _ _).trans ?_
    exact stF_bumpF_same s _ 1 (by cases keyDir b.slot <;> decide)
  · have hlichen : t.lichen = x.lichen := htell State.lichen (fun _ _ _ => rfl) (fun _ _ => rfl) (fun _ => rfl) (fun _ _ _ => rfl)
    rw [hlichen]
    exact burstCounted_seen _ hd
  · refine onlyStatusCounts_of_burstRest (x := t) ?_ fun a ha => ?_
    · refine (htell s.burstRest (fun z t q => Prod.ext rfl (Prod.ext (fireWhere_mem z z.bog t q) rfl)) (fun _ _ => rfl) (fun _ => rfl)
        (fun z _ _ => Prod.ext rfl (raiseEvs_fixed z _))).trans ?_
      rw [hx]
      rfl
    · simp only [List.mem_cons, List.not_mem_nil, or_false, not_or] at ha
      exact (htst a ha.2).trans ((hst a).trans (st_bumpF_ne s _ 16 1 ha.1))
  · have hsync : t.sync = x.sync := htell State.sync (fun _ _ _ => rfl) (fun _ _ => rfl) (fun _ => rfl) (fun _ _ _ => rfl)
    exact hsync.trans (congrArg State.sync hx)

section
variable {s : State} {b : BurstIn}

theorem burstEnd_of_none (h : bitAt (s.burstBits b.slot) b.branch = false) : burstEnd b s = s := if_pos (by simp [h])

theorem burstContinues_of_none (h : bitAt (s.burstBits b.slot) b.branch = false) : burstContinues b s = s := if_pos (by simp [h])

variable (hup : s.isUp = true) (h : bitAt (s.burstBits b.slot) b.branch = true)
include hup h

theorem burstEnd_of_running : burstEnd b s =
    if b.blocks < s.fld Reg.SYNC_BD_CFG 20 4 then (s.setBurst b.slot b.branch false).raise 11 9
    else (s.setBurst b.slot b.branch false).burstReport b false := if_neg (by simp [hup, h])

theorem burstContinues_of_running : burstContinues b s = s.burstReport b true := if_neg (by simp [hup, h])

theorem burstEnd_reports (hlong : s.fld Reg.SYNC_BD_CFG 20 4 ≤ b.blocks) :
    BurstReported b s (burstEnd b s) ∧ bitAt ((burstEnd b s).burstBits b.slot) b.branch = false := by
  rw [burstEnd_of_running hup h, if_neg (Nat.not_lt.mpr hlong)]
  obtain ⟨hreported, hsync⟩ := burstReport_reports s (s.setBurst b.slot b.branch false).sync b false
  refine ⟨hreported, Eq.trans ?_ (bitAt_setBurst s b.slot b.branch false)⟩
  exact congrArg (fun y : SyncState => bitAt (NMap.get (fun _ => 0) y.burst b.slot) b.branch) hsync

theorem burstEnd_counts (hshort : b.blocks < s.fld Reg.SYNC_BD_CFG 20 4) : let t := burstEnd b s
    Counts 11 9 s t ∧ bitAt (t.burstBits b.slot) b.branch = false ∧ OnlyCounts s { t with sync := s.sync } := by
  intro t
  have hraise : ∀ x : State, State.uncounted { x.raise 11 9 with sync := s.sync } = State.uncounted { x with sync := s.sync } :=
    fun x => Prod.ext rfl (raiseEvs_fixed x _)
  rw [show t = _ from (burstEnd_of_running hup h).trans (if_pos hshort)]
  exact ⟨raise_counts_sync 9 (by decide) rfl, bitAt_setBurst s b.slot b.branch false, onlyCounts_of_uncounted ((hraise _).trans rfl) rfl⟩

end

end Sys2Proof.Machine
end

section
/-! SUPPORT. The writes of SYNC's registers (R265), and the statement about noise floor, bursts and these writes. -/

namespace Sys2Proof.Machine

theorem syncWritable_of_protected {o : Nat} (h : syncProtected o = true) : syncWritable o = true := by simp [syncWritable, h]

/-- The state but for what a stored write of a protected register changes, those parts being s's. -/
def State.syncRest (s x : State) : State × (BogState × TwbState) :=
  State.uncounted { x with cfg := s.cfg, sys := { x.sys with check := s.sys.check } }

theorem syncRest_raiseIf (s x : State) (c : Bool) (b n : Nat) : s.syncRest (x.raiseIf c b n) = s.syncRest x := by
  cases c
  · rfl
  · exact Prod.ext rfl (raiseEvs_fixed x _)

theorem syncRest_wrc (s : State) (a n : Nat) : s.syncRest (s.wrc a n) = s.uncounted := by
  rw [wrc_eq]
  rfl

/-- The notes of malformed schedules after a write of one. -/
theorem schedNote_wrc_onlyCounts (s : State) (a n : Nat) (was : Nat → Bool) : let t := (s.wrc a n).schedNote was
    t.cfg = (s.wr a n).cfg ∧ OnlyCounts s { t with cfg := s.cfg, sys := { t.sys with check := s.sys.check } } := by
  intro t
  refine ⟨(schedNote_keeps State.cfg (fun x c => raiseIf_cfg x c 11 8 none) _ was).trans (wrc_cfg s a n), ?_⟩
  refine onlyCounts_of_uncounted (?_ : s.syncRest t = s.uncounted) ?_
  · exact (schedNote_keeps s.syncRest (fun x c => syncRest_raiseIf s x c 11 8) _ was).trans (syncRest_wrc s a n)
  · exact (schedNote_keeps State.sts (fun x c => raiseIf_sts x c 11 8 none) _ was).trans (wrc_sts s a n)

section
variable {s : State} {off : Fin 2048} (v : Word)

theorem syncWrite_of_unreached (h : off.val % 4 ≠ 0 ∨ syncWritable off = false) : syncWrite off v s = s := by
  have hat : s.syncWriteAt off v = s := if_pos (by rcases h with h | h <;> simp [h])
  rw [syncWrite, State.ifUp, hat, ite_self]

variable (hup : s.regsUp = true) (h4 : off.val % 4 = 0)
include hup h4

theorem syncWrite_of_reached (hw : syncWritable off = true) : syncWrite off v s =
    if s.judgeEn && syncProtected off then s.raise 11 8
    else if off.val = 0x90 then { s with sync := { s.sync with refs := NMap.put (fun _ => (0 : Word)) s.sync.refs s.refSel v } }
    else if syncProtected off then (s.wrc (0x5800 + off) v.toNat).schedNote s.malformed
    else s.wrc (0x5800 + off) v.toNat :=
  (ifUp_of_regsUp _ hup).trans (if_neg (by simp [h4, hw]))

theorem syncWrite_of_refused (hprot : syncProtected off = true) (hserve : s.judgeEn = true) : syncWrite off v s = s.raise 11 8 :=
  (syncWrite_of_reached v hup h4 (syncWritable_of_protected hprot)).trans (if_pos (by simp [hserve, hprot]))

theorem syncWrite_of_open (hw : syncWritable off = true) (hopen : syncProtected off = false) :
    syncWrite off v s = s.wrc (0x5800 + off) v.toNat := by
  have hoff : off.val ≠ 0x90 := fun hoff => by rw [hoff] at hopen; exact absurd hopen (by decide)
  rw [syncWrite_of_reached v hup h4 hw, if_neg (by simp [hopen]), if_neg hoff, if_neg (by simp [hopen])]

theorem syncWrite_of_schedule (hprot : syncProtected off = true) (hoff : off.val ≠ 0x90) (hserve : s.judgeEn = false) :
    syncWrite off v s = (s.wrc (0x5800 + off) v.toNat).schedNote s.malformed := by
  rw [syncWrite_of_reached v hup h4 (syncWritable_of_protected hprot), if_neg (by simp [hserve]), if_neg hoff, if_pos hprot]

omit h4 in
theorem syncWrite_of_sample (hoff : off.val = 0x90) (hserve : s.judgeEn = false) :
    syncWrite off v s = { s with sync := { s.sync with refs := NMap.put (fun _ => (0 : Word)) s.sync.refs s.refSel v } } := by
  rw [syncWrite_of_reached v hup (by omega) (by rw [hoff]; decide), if_neg (by simp [hserve]), if_pos hoff]

end

end Sys2Proof.Machine

open Sys2Proof Sys2Proof.Machine

/-- Settles O42: an idle interval and a stale floor by their slot, a burst by its branch's bit and its length, a write by what protects its
offset. -/
theorem noiseBurstsAndSyncWrites : Obligations.NoiseBurstsAndSyncWrites := by
  unfold Obligations.NoiseBurstsAndSyncWrites
  refine ⟨fun s k br hup => ?_, fun s off v hup => ?_⟩
  · extract_lets d on idle floor at_
    have hfloor : ∀ r, floor r = r.floor br := fun r => if_congr Fin.ext_iff rfl rfl
    have hat : ∀ r, at_ r = r.measuredAt br := fun r => if_congr Fin.ext_iff rfl rfl
    have hnot : ¬on ∨ ¬idle → ¬s.floorSlot k := not_and_or.mpr
    simp only [hfloor, hat]
    refine ⟨fun p n hon hidle hn => ⟨_, rfl, ?_⟩, fun p n h => ⟨_, rfl, noiseFloorUpdate_of_not ((or_assoc.mpr h).imp_left hnot)⟩,
      fun hon hidle => ⟨_, rfl, ?_⟩, fun h => ⟨_, rfl, noiseFloorStale_of_not (hnot h)⟩,
      fun w => ⟨fun hon => ⟨_, rfl, ?_⟩, fun hoff => ⟨_, rfl, burstStart_of_off br w hoff⟩⟩, fun b hk hbr => ?_⟩
    · obtain ⟨⟨hsome, hat, hfirst, hothers⟩, hsts, hcfg, hnow⟩ := noiseFloorUpdate_updates hup ⟨hon, hidle⟩ hn (br := br) (p := p)
      exact ⟨hsome, hat, hfirst, hothers, hsts, hcfg, hnow⟩
    · rw [noiseFloorStale_of_floorSlot hup ⟨hon, hidle⟩]
      exact ⟨raise_counts_sync 10 (by decide) rfl, raise_onlyCounts s 11 10 none⟩
    · rw [burstStart_of_on br w hup hon]
      exact ⟨bitAt_setBurst s k br true, rfl⟩
    · subst hk hbr
      refine ⟨fun hruns => ⟨fun hlong => ⟨_, rfl, burstEnd_reports hup hruns hlong⟩, fun hshort => ⟨_, rfl, burstEnd_counts hup hruns hshort⟩,
        ⟨_, rfl, ?_⟩⟩, fun hnone => ⟨⟨_, rfl, burstEnd_of_none hnone⟩, ⟨_, rfl, burstContinues_of_none hnone⟩⟩⟩
      rw [burstContinues_of_running hup hruns]
      exact burstReport_reports s s.sync b true
  · refine ⟨fun h => ⟨_, rfl, syncWrite_of_unreached v h⟩, fun h4 hprot hserve => ⟨_, rfl, ?_⟩, fun h4 hw hopen => ⟨_, rfl, ?_⟩,
      fun h4 hprot hoff hserve => ⟨_, rfl, ?_⟩, fun hoff hserve => ⟨_, rfl, ?_⟩⟩
    · rw [syncWrite_of_refused v hup h4 hprot hserve]
      exact ⟨raise_counts_sync 8 (by decide) rfl, raise_onlyCounts s 11 8 none⟩
    · rw [syncWrite_of_open v hup h4 hw hopen]
      exact wrc_stores _ v (onlyStatus_refl [] s)
    · rw [syncWrite_of_schedule v hup h4 hprot hoff hserve]
      exact schedNote_wrc_onlyCounts s _ _ s.malformed
    · rw [syncWrite_of_sample v hup hoff hserve]
      exact ⟨rfl, NMap.get_put_same _ _ _ _, fun i hi => NMap.get_put_ne _ _ _ hi⟩
end

section
/-! SUPPORT. Every step and the end of every instant (R352, R357): what runs, what answers, what the end of an instant leaves alone, and the
invariant that a unit in transient handling is under retry. -/

namespace Sys2Proof.Machine

/-- The end of every instant ends with the handlings whose retry is over (R357). -/
theorem settle_closes (s : State) : ∃ u : State, s.settle = u.closeHandlings := by
  unfold State.settle
  split
  · exact ⟨_, rfl⟩
  · exact ⟨_, rfl⟩

theorem unit_closeHandlings (s : State) (b u : Nat) (hu : u < 256) :
    s.closeHandlings.flt.unit b u =
      if (s.flt.unit b u).st = .transient ∧ s.retrying b u = false then { restores := (s.flt.unit b u).restores } else s.flt.unit b u := by
  have hb : (256 * b + u) / 256 = b := by omega
  have hm : (256 * b + u) % 256 = u := by omega
  refine (NMap.get_mapVal (fun _ => ({} : UnitRec)) s.flt.units _ (256 * b + u) (if_neg (by simp))).trans ?_
  rw [hb, hm]
  rfl

/-- The retry of a handling rests on nothing that closing the handlings changes. -/
theorem retrying_closeHandlings (s : State) (b u : Nat) : s.closeHandlings.retrying b u = s.retrying b u := rfl

theorem retryInv_closeHandlings (s : State) : RetryInv s.closeHandlings := by
  intro b u hu ht
  rw [retrying_closeHandlings]
  rw [unit_closeHandlings s b u hu] at ht
  split at ht
  · cases ht
  · next hopen => simpa [ht] using hopen

theorem retryInv_after (s t : State) : RetryInv (s.after t) := by
  obtain ⟨u, hu⟩ := settle_closes t
  have h := retryInv_closeHandlings u
  rw [← hu] at h
  exact h

end Sys2Proof.Machine

open Sys2Proof Sys2Proof.Machine

/-- Settles O5: a command's meaning ends with the instant, whose last part closes every handling whose retry is over; an idle step changes
nothing. -/
theorem retryInvKept : Obligations.RetryInvKept := by
  unfold Obligations.RetryInvKept
  intro s t hs hstep
  unfold step at hstep
  split at hstep
  · cases hstep
    exact hs
  · next c rest _ =>
    obtain ⟨u, hu⟩ := exec_ends c { s with pending := rest }
    cases hu.symm.trans hstep
    exact retryInv_after _ u

/-- Settles O3: the frame of the end of an instant, part by part (`after_keeps`, `after_st`). -/
theorem endOfInstantKeeps : Obligations.EndOfInstantKeeps := by
  unfold Obligations.EndOfInstantKeeps
  intro s t
  obtain ⟨hpower, hlev, hnow, hcfg, hboot, hconv, hslots, hlock, hsync, hlichen, hbix, htherm⟩ := after_keeps s t
  exact ⟨hpower, hlev, hnow, hcfg, hboot, hconv, hslots, hlock, hsync, hlichen, hbix, htherm, after_st s t⟩

/-- Settles O1: by the two cases of the queue. -/
theorem stepRunsFront : Obligations.StepRunsFront := by
  unfold Obligations.StepRunsFront
  refine ⟨fun c s rest hq => ?_, fun s hq => ?_⟩
  · rw [step, hq]
  · rw [step, hq]

/-- Settles O2: every command's meaning gives a state, and `State.after` puts the queue back. -/
theorem everyCommandAnswers : Obligations.EveryCommandAnswers := by
  unfold Obligations.EveryCommandAnswers
  intro c s
  obtain ⟨t, ht⟩ := exec_ends c s
  exact ⟨s.after t, ht, rfl⟩

/-- Settles O7: at reset every unit is in service and the device is off. -/
theorem invariantsAtReset : Obligations.InvariantsAtReset := by
  unfold Obligations.InvariantsAtReset
  refine ⟨fun b u _ ht => ?_, fun hup => ?_⟩
  · cases ht
  · cases hup
end

section
/-! SUPPORT. What one event does to its source (R355) and to the unit that it names (R357, R358, R360), and the statements about counts, windows,
arming and quiet periods. -/

namespace Sys2Proof.Machine

/-! ### One event of a source (R355) -/

theorem satAdd_one (top n : Nat) : satAdd top n 1 = if n < top then n + 1 else top := by
  unfold satAdd
  split
  · rw [if_pos (by omega)]
  · split <;> omega

theorem Src.count_severe_iff (r : Src) (nw : Nat × Nat) (t q : Nat) (arm : Bool) (detail : Nat) :
    (r.count nw t q arm detail).severe = true ↔ r.severe = true ∨ (r.count nw t q arm detail).win = (r.count nw t q arm detail).winN ∨
      (r.count nw t q arm detail).winN = 1 := by
  simp [Src.count, or_assoc]

/-- An event while no window is open opens one. -/
theorem Src.count_of_closed {r : Src} (nw : Nat × Nat) (t q : Nat) (arm : Bool) (detail : Nat) (h : r.windowOpen = false) :
    (r.count nw t q arm detail).win = 1 ∧ (r.count nw t q arm detail).winN = nw.1 ∧ (r.count nw t q arm detail).winMs = nw.2 ∧
      (r.count nw t q arm detail).winEnd = t + nw.2 * msTime := by
  simp [Src.count, h]

theorem Src.count_of_open {r : Src} (nw : Nat × Nat) (t q : Nat) (arm : Bool) (detail : Nat) (h : r.windowOpen = true) :
    (r.count nw t q arm detail).win = satAdd 255 r.win 1 ∧ (r.count nw t q arm detail).winN = r.winN ∧
      (r.count nw t q arm detail).winMs = r.winMs ∧ (r.count nw t q arm detail).winEnd = r.winEnd := by
  simp [Src.count, h]

end Sys2Proof.Machine

open Sys2Proof Sys2Proof.Machine

/-- Settles O8: the source's record after one event is `Src.count` of it, read off by whether its window was open. -/
theorem eventCounts : Obligations.EventCounts := by
  unfold Obligations.EventCounts
  intro s b n u hc hs r q
  have hq : q = r.count (s.classN b) s.now (s.quietMs b) false 0 := raise_source s b n u hc hs
  rw [hq]
  refine ⟨satAdd_one _ _, rfl, fun h => Src.count_of_closed _ _ _ _ _ h, fun h => ?_, rfl, Src.count_severe_iff ..,
    raise_onlyCounts s b n u, fun b' n' hc' hne => raise_source_ne s b' n' b n u hc' hne⟩
  obtain ⟨hwin, hrest⟩ := Src.count_of_open (s.classN b) s.now (s.quietMs b) false 0 h
  exact ⟨hwin.trans (satAdd_one _ _), hrest⟩

namespace Sys2Proof.Machine

/-! ### What an event does to its unit (R357, R358, R360) -/

theorem Fx.peatClose_unitless (s : State) (x : Fx) (cause detail : Nat) :
    ∀ e ∈ (x.peatClose s cause detail).2, namedUnit e.blk e.src e.unit = none := fun e he => by
  obtain ⟨n, hn, rfl⟩ := List.mem_map.mp he
  rcases Rec.close_counts _ _ _ _ _ n hn with h | rfl | rfl
  · exact absurd h List.not_mem_nil
  · rfl
  · rfl

/-- The events that a count gives rise to name no unit. -/
theorem countOne_follow_unitless (s : State) (x : Fx) (e : Ev) : ∀ e' ∈ (countOne s x e).2, namedUnit e'.blk e'.src e'.unit = none := by
  intro e' he'
  unfold countOne at he'
  dsimp only at he'
  split at he'
  · exact absurd he' List.not_mem_nil
  · rcases List.mem_append.mp he' with h | h
    · split at h
      · exact namedUnit_of_twb _ (enqueue_events _ _ _ _ _ _ _ e' h)
      · split at h
        · exact namedUnit_of_twb _ (enqueue_events _ _ _ _ _ _ _ e' h)
        · split at h
          · exact namedUnit_of_twb _ (enqueue_events _ _ _ _ _ _ _ e' h)
          · exact absurd h List.not_mem_nil
    · split at h
      · exact Fx.peatClose_unitless _ _ _ _ e' h
      · exact absurd h List.not_mem_nil

theorem markHdr_units (f : Flt) (b src : Nat) (makes : Bool) : (markHdr f b src makes).units = f.units := by
  cases makes <;> rfl

@[simp] theorem Flt.unit_setUnit_same (f : Flt) (b u : Nat) (r : UnitRec) : (f.setUnit b u r).unit b u = r := by
  rw [Flt.unit_setUnit, if_pos rfl]

theorem unit_of_units {f g : Flt} (h : f.units = g.units) (b u : Nat) : f.unit b u = g.unit b u := by rw [Flt.unit, Flt.unit, h]

/-- The records of all units after one count: what `countUnit` makes of them. -/
theorem countOne_unit (s : State) (x : Fx) (e : Ev) (b u : Nat) (hs : suppressed x.flt e.blk e.src (namedUnit e.blk e.src e.unit) = false) :
    ∃ f : Flt, f.units = x.flt.units ∧ (countOne s x e).1.flt.unit b u =
      (countUnit s f x.peat.opsec e.blk e.src ((x.flt.source e.blk e.src).count (s.classN e.blk) s.now (s.quietMs e.blk) e.usesArm e.detail).severe
        (namedUnit e.blk e.src e.unit)).1.unit b u := by
  let r := x.flt.source e.blk e.src
  let r' := r.count (s.classN e.blk) s.now (s.quietMs e.blk) e.usesArm e.detail
  refine ⟨markHdr (x.flt.setSource e.blk e.src r') e.blk e.src (r'.severe && !r.severe), markHdr_units .., ?_⟩
  unfold countOne
  simp only [hs, Bool.false_eq_true, if_false]
  split <;> split <;> (try split) <;> (try split) <;> simp only [Fx.peatClose_flt, enqueue_flt] <;> rfl

/-- What an event leaves of a unit's record is what its own count leaves: the events that follow name no unit. -/
theorem raise_unit (s : State) (b n : Nat) (w : Option Nat) (b' u' : Nat) :
    (s.raise b n w).flt.unit b' u' = (countOne s s.fx { blk := b, src := n, unit := w }).1.flt.unit b' u' := by
  refine unit_of_units ?_ b' u'
  simp only [State.raise, State.raiseEvs, State.withFx, List.length_cons, List.length_nil, countAll, List.nil_append]
  exact countAll_units s _ _ _ (countOne_follow_unitless _ _ _)

/-- The record of a unit that an event of source src fences, or retires in the fence's place (R357, R360). -/
def UnitRec.putOut (r : UnitRec) (s : State) (opsec b src : Nat) : UnitRec :=
  if s.retireK b ≤ recentRestores opsec r then { r with st := .retired, cause := r.cause ||| 2 ^ src, qEnd := 0, qMs := 0 }
  else { r with st := .fenced, cause := r.cause ||| 2 ^ src, qMs := s.quietMs b, qEnd := s.now + s.quietMs b * msTime }

theorem fenceUnit_unit (s : State) (f : Flt) (opsec b u src : Nat) :
    (fenceUnit s f opsec b u src).1.unit b u = (f.unit b u).putOut s opsec b src := by
  unfold fenceUnit UnitRec.putOut
  dsimp only
  split
  · exact Flt.unit_setUnit_same f b u { f.unit b u with st := .retired, cause := (f.unit b u).cause ||| 2 ^ src, qEnd := 0, qMs := 0 }
  · exact Flt.unit_setUnit_same f b u _

/-- What an event makes of the record r of the unit that it names, its source then being severe or not (R357, R358, R360). -/
def UnitRec.struck (r : UnitRec) (s : State) (opsec b src : Nat) (severe : Bool) : UnitRec :=
  match r.st with
  | .inService =>
    if severe then { r with first := src, cause := 2 ^ src }.putOut s opsec b src
    else { r with st := .transient, first := src, cause := 2 ^ src }
  | .transient =>
    if severe then { r with cause := r.cause ||| 2 ^ src }.putOut s opsec b src else { r with cause := r.cause ||| 2 ^ src }
  | .fenced => { r with cause := r.cause ||| 2 ^ src, qEnd := s.now + r.qMs * msTime }
  | .retired => r

theorem countUnit_unit (s : State) (f : Flt) (opsec b src : Nat) (severe : Bool) (u : Nat) :
    (countUnit s f opsec b src severe (some u)).1.unit b u = (f.unit b u).struck s opsec b src severe := by
  have hbump : ∀ (f : Flt) a w, (f.bump a w).unit b u = f.unit b u := fun _ _ _ => rfl
  unfold countUnit UnitRec.struck
  generalize hst : (f.unit b u).st = st
  cases st with
  | inService => cases severe <;> simp [hst, fenceUnit_unit]
  | transient => cases severe <;> simp [hst, fenceUnit_unit]
  | fenced => simp [hst]
  | retired => simp [hst]

/-- The record of the unit that an event names, after the event. -/
theorem raise_unit_named (s : State) {b n u : Nat} {w : Option Nat} (hn : namedUnit b n w = some u) (hc : ¬chained (32 * b + n))
    (hs : suppressed s.flt b n (some u) = false) :
    (s.raise b n w).flt.unit b u = (s.flt.unit b u).struck s s.peat.opsec b n ((s.raise b n w).flt.source b n).severe := by
  have hs' : suppressed s.flt b n (namedUnit b n w) = false := by rw [hn]; exact hs
  obtain ⟨f, hf, hunit⟩ := countOne_unit s s.fx { blk := b, src := n, unit := w } b u hs'
  rw [raise_unit, hunit, hn, countUnit_unit, unit_of_units hf, raise_source s b n w hc hs']
  rfl

section
variable {r : UnitRec} {s : State} {opsec b src : Nat}

theorem UnitRec.putOut_restores : (r.putOut s opsec b src).restores = r.restores := by
  unfold UnitRec.putOut
  split <;> rfl

theorem UnitRec.putOut_of_full (h : s.retireK b ≤ recentRestores opsec r) : (r.putOut s opsec b src).st = .retired := by
  rw [UnitRec.putOut, if_pos h]

theorem UnitRec.putOut_of_room (h : ¬s.retireK b ≤ recentRestores opsec r) : (r.putOut s opsec b src).st = .fenced ∧
    (r.putOut s opsec b src).qMs = s.quietMs b ∧ (r.putOut s opsec b src).qEnd = s.now + s.quietMs b * msTime := by
  rw [UnitRec.putOut, if_neg h]
  exact ⟨rfl, rfl, rfl⟩

theorem UnitRec.struck_restores (severe : Bool) : (r.struck s opsec b src severe).restores = r.restores := by
  unfold UnitRec.struck
  generalize r.st = st
  cases st with
  | inService =>
    cases severe with
    | true => exact UnitRec.putOut_restores
    | false => rfl
  | transient =>
    cases severe with
    | true => exact UnitRec.putOut_restores
    | false => rfl
  | fenced => rfl
  | retired => rfl

/-- A severe source puts a unit that works out of service: its other fields do not decide how. -/
theorem UnitRec.struck_of_working (h : r.st = .inService ∨ r.st = .transient) :
    ∃ r' : UnitRec, r'.restores = r.restores ∧ r.struck s opsec b src true = r'.putOut s opsec b src := by
  rcases h with h | h
  · exact ⟨{ r with first := src, cause := 2 ^ src }, rfl, by simp [UnitRec.struck, h]⟩
  · exact ⟨{ r with cause := r.cause ||| 2 ^ src }, rfl, by simp [UnitRec.struck, h]⟩

theorem recentRestores_congr {r r' : UnitRec} (h : r'.restores = r.restores) (opsec : Nat) :
    recentRestores opsec r' = recentRestores opsec r := by rw [recentRestores, h, recentRestores]

end

end Sys2Proof.Machine

/-- Settles O9: `UnitRec.struck` says what the event makes of its unit's record, state by state. -/
theorem eventActsOnItsUnit : Obligations.EventActsOnItsUnit := by
  unfold Obligations.EventActsOnItsUnit
  intro s b n u w _ hc hname hs r q severe full
  have hq : q = r.struck s s.peat.opsec b n severe := raise_unit_named s hname hc hs
  have hfull : full = true ↔ s.retireK b ≤ recentRestores s.peat.opsec r := decide_eq_true_iff
  rw [hq]
  refine ⟨fun hr hv => ?_, fun hr hv hk => ?_, fun hr hv hk => ?_, fun hr hv => ?_, fun hr => ?_, fun hr => ?_, UnitRec.struck_restores _⟩
  · simp [UnitRec.struck, hr, hv]
  · rw [hv]
    obtain ⟨r', hr', heq⟩ := UnitRec.struck_of_working (s := s) (opsec := s.peat.opsec) (b := b) (src := n) hr
    rw [heq]
    refine UnitRec.putOut_of_room fun h => ?_
    rw [recentRestores_congr hr', ← hfull, hk] at h
    cases h
  · rw [hv]
    obtain ⟨r', hr', heq⟩ := UnitRec.struck_of_working (s := s) (opsec := s.peat.opsec) (b := b) (src := n) hr
    rw [heq]
    exact UnitRec.putOut_of_full (by rw [recentRestores_congr hr', ← hfull, hk])
  · simp [UnitRec.struck, hr, hv]
  · simp [UnitRec.struck, hr]
  · simp [UnitRec.struck, hr]

namespace Sys2Proof.Machine

/-! ### Arming, messages and quiet periods (R359, R362, R363) -/

/-- Source n of block b is armed where p holds. -/
def Flt.armWhere (b : Nat) (p : Nat → Bool) (f : Flt) (n : Nat) : Flt :=
  if p n then f.setSource b n { f.source b n with armed := true } else f

theorem source_armWhere (b : Nat) (p : Nat → Bool) (f : Flt) (m b' n : Nat) : (f.armWhere b p m).source b' n =
    if 32 * b' + n = 32 * b + m then { f.source b m with armed := (f.source b m).armed || p m } else f.source b' n := by
  unfold Flt.armWhere
  cases hp : p m with
  | true => rw [if_pos rfl, Flt.source_setSource]; simp
  | false =>
    split
    · cases ‹false = true›
    · split
      · next h => simp [Flt.source, h]
      · rfl

/-- Arming the sources below k. -/
theorem source_armWheres (b : Nat) (p : Nat → Bool) (k : Nat) (hk : k ≤ 32) (f : Flt) (b' n : Nat) (hn : n < 32) :
    ((List.range k).foldl (Flt.armWhere b p) f).source b' n =
      if b' = b ∧ n < k then { f.source b n with armed := (f.source b n).armed || p n } else f.source b' n := by
  induction k with
  | zero => simp
  | succ k ih =>
    have ihk := ih (by omega)
    rw [List.range_succ, List.foldl_append, List.foldl_cons, List.foldl_nil, source_armWhere]
    by_cases hbn : b' = b ∧ n = k
    · obtain ⟨rfl, rfl⟩ := hbn
      rw [if_neg (by omega)] at ihk
      rw [if_pos rfl, if_pos ⟨rfl, by omega⟩, ihk]
    · rw [if_neg (by omega), ihk]
      exact if_congr (by omega) rfl rfl

/-- Arming writes the sources alone. -/
theorem armWheres_parts (b : Nat) (p : Nat → Bool) (l : List Nat) (f : Flt) :
    l.foldl (Flt.armWhere b p) f = { f with src := (l.foldl (Flt.armWhere b p) f).src } := by
  have h := foldl_keeps (fun g : Flt => ({ g with src := [] } : Flt)) l (Flt.armWhere b p) (fun g n => by unfold Flt.armWhere; split <;> rfl) f
  exact congrArg (fun g : Flt => { g with src := (l.foldl (Flt.armWhere b p) f).src }) h

theorem srcInject_eq {s : State} {blk : Fin 24} (v : Word) (hr : s.regsUp = true) (hw : s.blockWorks blk = true) :
    srcInject blk v s = { s with flt := (List.range 32).foldl (Flt.armWhere blk (fun n => v.getLsbD n && injCap blk n)) s.flt } := by
  simp only [srcInject, State.ifUp, hr, hw, if_true, Bool.not_true, Bool.false_eq_true, if_false]
  rfl

theorem recovered_onlyCounts (s : State) (b src : Nat) : OnlyCounts s (s.recovered b src) := by
  refine ⟨rfl, countParts_of_fixed ?_⟩
  unfold State.recovered
  dsimp only
  exact (raiseEvs_fixed _ _).trans (enqueue_fixed s s.fx b src 2 _ _)

/-- A recovered message counts no event but TWB's own. -/
theorem recovered_source (s : State) (b src b' n' : Nat) (hc : ¬chained (32 * b' + n')) :
    (s.recovered b src).flt.source b' n' = s.flt.source b' n' := by
  unfold State.recovered
  dsimp only
  refine (countAll_source_ne _ _ _ _ _ _ (fun e he hk => hc ?_) hc).trans (congrArg (fun f : Flt => f.source b' n') (enqueue_flt ..))
  have h := enqueue_events _ _ _ _ _ _ _ e he
  unfold chained
  omega

theorem endSevere_source (f : Flt) (b n : Nat) : (f.endSevere b n).source b n = { f.source b n with severe := false } := by
  rw [Flt.endSevere, Flt.source_setSource, if_pos rfl]

/-- A change of the fault state alone keeps the frame of a count. -/
theorem onlyCounts_withFlt {s t : State} (f : Flt) (h : OnlyCounts s t) : OnlyCounts s { t with flt := f } :=
  ⟨congrArg (fun x : State => { x with flt := f }) h.1, h.2⟩

theorem raise_units_of_sourceUnits (s : State) {b n : Nat} (h : sourceUnits b n = []) (b' u : Nat) :
    (s.raise b n).flt.unit b' u = s.flt.unit b' u := unit_of_units (raise_units s h) b' u

/-- A unit's restore leaves its record in service, with the restore in its history (R359). -/
theorem restoreUnit_unit (s : State) (b u : Nat) :
    (s.restoreUnit b u).flt.unit b u = { restores := (s.peat.opsec :: (s.flt.unit b u).restores).take 15 } := by
  have hrec : ∀ (s : State) n, (s.recovered b n).flt.units = s.flt.units := fun s n => by
    unfold State.recovered
    dsimp only
    refine (raiseEvs_units _ _ fun e he => namedUnit_of_twb _ (enqueue_events _ _ _ _ _ _ _ e he)).trans ?_
    exact congrArg Flt.units (enqueue_flt ..)
  unfold State.restoreUnit
  dsimp only
  refine (unit_of_units (foldl_keeps Flt.units _ _ (fun f n => endSevere_units f b n) _) b u).trans ?_
  refine (unit_of_units (foldl_keeps (fun s : State => s.flt.units) _ _ (fun s n => hrec s n) _) b u).trans ?_
  refine (unit_of_units (congrArg Kept.units (restoreBlock_kept _ b u)) b u).trans ?_
  exact Flt.unit_setUnit_same ..

/-- Only a mute's cause, at the governors, holds a restore back (R194, R121). -/
theorem governor_of_not_mayRestore {s : State} {b u : Nat} (h : s.mayRestore b u = false) : b = 15 ∨ b = 16 := by
  by_contra hb
  rw [State.mayRestore, if_neg hb] at h
  cases h

/-- The state in which unit u's quiet period starts again. -/
def State.quietAgain (s : State) (b u : Nat) : State :=
  { s with flt := s.flt.setUnit b u { s.flt.unit b u with qEnd := s.now + (s.flt.unit b u).qMs * msTime } }

theorem quietPeriodExpired_of_held {s : State} {b : Fin 24} {u : Fin 256} (hr : s.regsUp = true) (hst : (s.flt.unit b u).st = .fenced)
    (hend : s.reached (s.flt.unit b u).qEnd = true) (hmay : s.mayRestore b u = false) :
    quietPeriodExpired b (.unit u) s = (s.quietAgain b u).raise b 28 := by
  simp [quietPeriodExpired, State.quietAgain, hr, hst, hend, hmay]

/-- A unit held back counts source 28 of its governors' block, and stays fenced for another Q (R194). -/
theorem held_again {s : State} {b u : Nat} (hst : (s.flt.unit b u).st = .fenced) (hmay : s.mayRestore b u = false) :
    OnlyCounts s ((s.quietAgain b u).raise b 28) ∧ Counts b 28 s ((s.quietAgain b u).raise b 28) ∧
      (((s.quietAgain b u).raise b 28).flt.unit b u).st = .fenced ∧
      (((s.quietAgain b u).raise b 28).flt.unit b u).qEnd = s.now + (s.flt.unit b u).qMs * msTime := by
  have hb := governor_of_not_mayRestore hmay
  have hnone : sourceUnits b 28 = [] := by rcases hb with rfl | rfl <;> rfl
  have hunit : ((s.quietAgain b u).raise b 28).flt.unit b u = { s.flt.unit b u with qEnd := s.now + (s.flt.unit b u).qMs * msTime } :=
    (raise_units_of_sourceUnits _ hnone b u).trans (Flt.unit_setUnit_same ..)
  rw [hunit]
  refine ⟨?_, ?_, hst, rfl⟩
  · exact raise_onlyCounts (s.quietAgain b u) b 28 none
  · refine raise_counts (s.quietAgain b u) _ _ _ ?_ (suppressed_other _ _ _ _ ?_ ?_ ?_ ?_)
    · unfold chained; omega
    all_goals omega

end Sys2Proof.Machine

/-- Settles O11: the window's record, the fold that arms, and for a quiet period the restore, its delay, or the end of a severe state. -/
theorem windowsArmingAndRestores : Obligations.WindowsArmingAndRestores := by
  unfold Obligations.WindowsArmingAndRestores
  refine ⟨fun s hr => ⟨fun e he => ⟨_, rfl, ?_⟩, fun e he => ⟨_, rfl, ?_⟩, fun blk v hw => ⟨_, rfl, ?_⟩, fun blk v hw => ⟨_, rfl, ?_⟩⟩,
    fun s b hr => ⟨fun u hst hend hmay => ⟨_, rfl, ?_⟩, fun u hst hend hmay => ⟨_, rfl, ?_⟩, fun u h => ⟨_, rfl, ?_⟩,
      fun n hc hsev hunits hend => ⟨_, rfl, ?_⟩⟩⟩
  · rw [classWindowExpired, if_pos (by simp [hr, he])]
    have hkey : 32 * (e.val / 32) + e.val % 32 = e.val := Nat.div_add_mod _ _
    refine ⟨rfl, ?_, fun b n hne => ?_⟩
    · rw [Flt.source_setSource, if_pos rfl]
    · rw [Flt.source_setSource, if_neg (by omega)]
  · exact if_neg (by simp [he])
  · show srcInject blk v s = s
    simp [srcInject, State.ifUp, hr, hw]
  · rw [srcInject_eq v hr hw]
    refine ⟨congrArg (fun f => { s with flt := f }) (armWheres_parts _ _ _ _), fun n hn => ?_, fun b n hn hb => ?_⟩
    · exact (source_armWheres _ _ 32 (le_refl _) _ _ n hn).trans (if_pos ⟨rfl, hn⟩)
    · exact (source_armWheres _ _ 32 (le_refl _) _ _ n hn).trans (if_neg fun h => hb h.1)
  · have heq : quietPeriodExpired b (.unit u) s = s.restoreUnit b u := by simp [quietPeriodExpired, hr, hst, hend, hmay]
    rw [heq]
    exact ⟨congrArg UnitRec.st (restoreUnit_unit s b u), congrArg UnitRec.restores (restoreUnit_unit s b u)⟩
  · rw [quietPeriodExpired_of_held hr hst hend hmay]
    exact held_again hst hmay
  · show quietPeriodExpired b (.unit u) s = s
    rcases h with h | h <;> simp [quietPeriodExpired, h]
  · have heq : quietPeriodExpired b (.source n) s = { s.recovered b n with flt := (s.recovered b n).flt.endSevere b n } := by
      simp [quietPeriodExpired, hr, hsev, hunits, hend]
    rw [heq]
    refine ⟨onlyCounts_withFlt _ (recovered_onlyCounts s b n), ?_, ?_⟩
    · exact congrArg Src.severe (endSevere_source _ b n)
    · have htotal : ((s.recovered b n).flt.source b n).total = (s.flt.source b n).total := congrArg Src.total (recovered_source s b n b n hc)
      exact (congrArg Src.total (endSevere_source _ b n)).trans htotal
end

section
/-! SUPPORT. The looks of the Lichen receivers (R270, R271) and the wake that a look gives (R275): a receiver's record after a look, and what
the beginning of a wake writes. -/

namespace Sys2Proof.Machine

/-! ### Records of the receivers -/

@[simp] theorem lichenRx_setLichenRx_same (s : State) (n : Nat) (r : LichenRx) : (s.setLichenRx n r).lichenRx n = r := by
  simp [State.lichenRx, State.setLichenRx]

theorem lichenRx_setLichenRx_ne (s : State) {n k : Nat} (r : LichenRx) (h : k ≠ n) : (s.setLichenRx n r).lichenRx k = s.lichenRx k := by
  simp [State.lichenRx, State.setLichenRx, NMap.get_put_ne _ _ _ h]

/-- A source of LICHEN after an event of it, in a state whose fault state is that of s. -/
theorem raise_counts_lichen {s x : State} (n : Nat) (u : Option Nat) (hn : n < 32) (h : x.flt = s.flt) : Counts 10 n s (x.raise 10 n u) :=
  raise_counts_of_flt 10 n u (by unfold chained; omega) (by decide) h

theorem raiseIf_counts_lichen {s x : State} {c : Bool} (n : Nat) (hc : c = true) (hn : n < 32) (h : x.flt = s.flt) :
    Counts 10 n s (x.raiseIf c 10 n) := by
  rw [State.raiseIf, if_pos hc]
  exact raise_counts_lichen n none hn h

/-! ### One look (R270, R271) -/

/-- The record of receiver n after a look that counts. -/
def State.looked (s : State) (n f : Nat) (active : Bool) : LichenRx :=
  let r := s.lichenRx n
  let run := if active then r.activeRun + 1 else 0
  let out := active && (r.timedOut || s.overTimeout n run)
  let looks := (active :: NMap.get (fun _ => []) r.looks f).take s.looksN
  let m := NMap.put (fun _ => []) r.looks f looks
  { r with looks := m, lastActive := active, activeRun := run, timedOut := out
           qualified := !out && m.any (fun e => decide (s.hitsN ≤ (e.2.filter id).length)) }

/-- The state after a look that counts, before a wake: the receiver's record, and its timeout where it is new. -/
def State.lookNoted (s : State) (n f : Nat) (active : Bool) : State :=
  (s.setLichenRx n (s.looked n f active)).raiseIf ((s.looked n f active).timedOut && !(s.lichenRx n).timedOut) 10 (4 + n)

theorem look_of_awake {s : State} (n f : Nat) (active : Bool) (hawake : s.power ≠ .sleep) (hsession : s.sys.wakeSession = false) :
    s.look n f active = s.lookNoted n f active := by
  have hsys : (s.lookNoted n f active).sys = s.sys := raiseIf_sys ..
  have hpower : (s.lookNoted n f active).power = s.power := raiseIf_power ..
  unfold State.look
  refine if_neg fun h => ?_
  simp only [Bool.and_eq_true, Bool.or_eq_true, decide_eq_true_eq] at h
  rcases h.2 with h | h
  · exact hawake (hpower.symm.trans h)
  · exact absurd ((congrArg Sys.wakeSession hsys).symm.trans h) (by simp [hsession])

/-- The look that brings the active ones of the last LOOKS to HITS wakes the device from SLEEP. -/
theorem look_of_hits {s : State} {n f : Nat} (hsleep : s.power = .sleep) (hwake : s.wakeEn n = true) (hout : (s.looked n f true).timedOut = false)
    (hhits : s.hitsN ≤ (((true :: NMap.get (fun _ => []) (s.lichenRx n).looks f).take s.looksN).filter id).length)
    (hfew : ((NMap.get (fun _ => []) (s.lichenRx n).looks f).filter id).length < s.hitsN) :
    s.look n f true = (s.setLichenRx n (s.looked n f true)).lichenWake n f := by
  have hcfg : ∀ x : State, x.cfg = s.cfg → x.wakeEn n = true := fun x hx => by
    rw [← hwake, State.wakeEn, State.wakeEn, State.rd, State.rd, hx]
  have hnoted : s.lookNoted n f true = s.setLichenRx n (s.looked n f true) := by
    rw [State.lookNoted, hout, Bool.false_and]
    rfl
  rw [← hnoted]
  have hout' : (true && ((s.lichenRx n).timedOut || s.overTimeout n ((s.lichenRx n).activeRun + 1))) = false := hout
  unfold State.look
  refine if_pos ?_
  simp only [if_true, hout', Bool.not_false, Bool.true_and, Bool.and_eq_true, Bool.or_eq_true, decide_eq_true_eq, Bool.not_eq_true',
    Bool.and_eq_false_iff, decide_eq_false_iff_not, Nat.not_le]
  exact ⟨⟨⟨hhits, .inl hfew⟩, hcfg _ (raiseIf_cfg ..)⟩, .inl ((raiseIf_power ..).trans hsleep)⟩

/-- What a look leaves that gives no wake: the other receivers' records, and all else but what counting changes. -/
theorem lookNoted_frame (s : State) (n f : Nat) (active : Bool) : (∀ k, k ≠ n → (s.lookNoted n f active).lichenRx k = s.lichenRx k) ∧
    OnlyCounts s { s.lookNoted n f active with lichen := { (s.lookNoted n f active).lichen with rx := s.lichen.rx } } := by
  unfold State.lookNoted State.raiseIf
  split
  · exact ⟨fun k hk => lichenRx_setLichenRx_ne s _ hk, rfl, (raise_onlyCounts (s.setLichenRx n (s.looked n f active)) 10 (4 + n) none).2⟩
  · exact ⟨fun k hk => lichenRx_setLichenRx_ne s _ hk, rfl, countParts_refl s⟩

theorem lookNoted_lichenRx (s : State) (n f : Nat) (active : Bool) : (s.lookNoted n f active).lichenRx n = s.looked n f active := by
  have h : (s.lookNoted n f active).lichenRx n = (s.setLichenRx n (s.looked n f active)).lichenRx n := by
    rw [State.lichenRx, State.lookNoted, raiseIf_lichen, State.lichenRx]
  rw [h, lichenRx_setLichenRx_same]

/-- An ignored look (R271). -/
def State.lookIgnored (s : State) (n : Nat) : State :=
  ((s.setLichenRx n { s.lichenRx n with lastActive := true }).bumpF Reg.LICHEN_IGNORED (8 * n) 8 1).raise 10 9

theorem lookIgnored_changes (s : State) (n : Fin 4) : (s.lookIgnored n).lichenRx n = { s.lichenRx n with lastActive := true } ∧
    Counts 10 9 s (s.lookIgnored n) ∧
    (s.lookIgnored n).stF Reg.LICHEN_IGNORED (8 * n) 8 = satAdd 255 (s.stF Reg.LICHEN_IGNORED (8 * n) 8) 1 ∧
    OnlyStatusCounts [Reg.LICHEN_IGNORED] s { s.lookIgnored n with lichen := { (s.lookIgnored n).lichen with rx := s.lichen.rx } } := by
  let x := s.setLichenRx n { s.lichenRx n with lastActive := true }
  refine ⟨lichenRx_setLichenRx_same s n _, raise_counts_lichen 9 none (by decide) rfl, stF_bumpF_same x _ 1 (by omega), rfl, ?_, fun a ha => ?_⟩
  · exact (raise_onlyCounts (x.bumpF Reg.LICHEN_IGNORED (8 * n) 8 1) 10 9 none).2
  · exact st_bumpF_ne x (8 * n) 8 1 (by simpa using ha)

/-! ### A wake begins (R65, R275) -/

/-- The state but for the governors' records. -/
def State.offGov (s : State) : State := { s with gov := [] }

theorem setGov_offGov (s : State) (d : Dir) (g : Nat) (r : GovRec) : (s.setGov d g r).offGov = s.offGov := rfl

theorem clearDonors_offGov (s : State) : s.clearDonors.offGov = s.offGov := by
  unfold State.clearDonors
  refine foldl_keeps State.offGov _ _ (fun s d => ?_) s
  exact foldl_keeps State.offGov _ _ (fun s g => setGov_offGov s d g _) s

theorem clearDonors_eq (s : State) : s.clearDonors = { s with gov := s.clearDonors.gov } := by
  generalize hx : s.clearDonors = x
  have h := clearDonors_offGov s
  rw [hx] at h
  have h' := congrArg (fun y : State => { y with gov := x.gov }) h
  exact h'

/-- The registers that a wake writes: the boot summary's times, WAKE_STAT and SLEEP_TIME. -/
def wakeRegs : List Nat := [measT 0, measT 1, measT 2, Reg.LICHEN_WAKE_STAT, Reg.LICHEN_SLEEP_TIME]

/-- The first registers that a wake writes: its cause, and the boot summary's times. -/
def State.wakeTimes (s : State) (cause : Nat) : State :=
  (((s.setSt Reg.LICHEN_WAKE_STAT cause).setSt (measT 0) 0).setSt (measT 1) 0).setSt (measT 2) 0

theorem wakeBegin_sts (s : State) (cause : Nat) (session : Bool) :
    ∃ w, (s.wakeBegin cause session).sts = ((s.wakeTimes cause).bump Reg.LICHEN_SLEEP_TIME w).sts := ⟨_, rfl⟩

theorem st_wakeBegin_ne (s : State) (cause : Nat) (session : Bool) {a : Nat} (ha : a ∉ wakeRegs) :
    (s.wakeBegin cause session).st a = s.st a := by
  simp only [wakeRegs, List.mem_cons, List.not_mem_nil, or_false, not_or] at ha
  obtain ⟨h0, h1, h2, hstat, htime⟩ := ha
  obtain ⟨w, hw⟩ := wakeBegin_sts s cause session
  rw [st_of_sts hw, State.bump, st_bumpF_ne _ _ _ _ htime, State.wakeTimes, st_setSt_ne _ _ h2, st_setSt_ne _ _ h1, st_setSt_ne _ _ h0,
    st_setSt_ne _ _ hstat]

theorem st_wakeBegin_stat (s : State) (cause : Nat) (session : Bool) : (s.wakeBegin cause session).st Reg.LICHEN_WAKE_STAT = cause % 2 ^ 32 := by
  obtain ⟨w, hw⟩ := wakeBegin_sts s cause session
  rw [st_of_sts hw, State.bump, st_bumpF_ne _ _ _ _ (by decide), State.wakeTimes, st_setSt_ne _ _ (by decide), st_setSt_ne _ _ (by decide),
    st_setSt_ne _ _ (by decide), st_setSt_same]

/-- What a Lichen wake out of SLEEP writes behind its beginning. -/
def State.wokenBy (s : State) (n f : Nat) : State :=
  ((s.wakeBegin 0 false).setSt Reg.LICHEN_WAKE_STAT (4 * n + 16 * f)).bumpF Reg.LICHEN_WAKE_COUNT 0 16 1

theorem lichenWake_eq {s : State} (n f : Nat) (hsleep : s.power = .sleep) :
    ∃ g, s.lichenWake n f = { s.wokenBy n f with lichen := { (s.wokenBy n f).lichen with wakeRx := some n }, gov := g } := by
  refine ⟨(s.lichenWake n f).gov, ?_⟩
  unfold State.lichenWake
  simp only [hsleep, if_true]
  exact clearDonors_eq _

theorem lichenWake_of_sleep {s : State} (n : Fin 4) {f : Nat} (hf : f < 8) (hsleep : s.power = .sleep) :
    let t := s.lichenWake n f
    t.power = .waking ∧ t.st Reg.LICHEN_WAKE_STAT = 4 * n + 16 * f ∧
      t.stF Reg.LICHEN_WAKE_COUNT 0 16 = satAdd 65535 (s.stF Reg.LICHEN_WAKE_COUNT 0 16) 1 ∧ t.lichen.wakeRx = some n.val ∧
      t.sys.wakeSession = false ∧ t.cfg = s.cfg ∧ t.now = s.now := by
  have hstat : (s.wokenBy n f).st Reg.LICHEN_WAKE_STAT = 4 * n + 16 * f := by
    rw [State.wokenBy, st_bumpF_ne _ _ _ _ (by decide), st_setSt_same]
    omega
  have hcount : (s.wokenBy n f).stF Reg.LICHEN_WAKE_COUNT 0 16 = satAdd 65535 (s.stF Reg.LICHEN_WAKE_COUNT 0 16) 1 := by
    have hst : ((s.wakeBegin 0 false).setSt Reg.LICHEN_WAKE_STAT (4 * n + 16 * f)).st Reg.LICHEN_WAKE_COUNT = s.st Reg.LICHEN_WAKE_COUNT := by
      rw [st_setSt_ne _ _ (by decide), st_wakeBegin_ne _ _ _ (by decide)]
    exact (stF_bumpF_same _ _ _ (by decide)).trans (congrArg (satAdd 65535 · 1) (stF_of_st hst 0 16))
  obtain ⟨g, hg⟩ := lichenWake_eq n f hsleep
  rw [hg]
  exact ⟨rfl, hstat, hcount, rfl, rfl, rfl, rfl⟩

/-! ### LICHEN_LOOK -/

/-- The frequency that a look of receiver n counts under: a fixed receiver has one. -/
def State.lookFreq (s : State) (n : Nat) (f : Fin 8) : Nat := if s.rxMode n = 1 then 0 else f

theorem lookFreq_lt (s : State) (n : Nat) (f : Fin 8) : s.lookFreq n f < 8 := by
  unfold State.lookFreq
  split <;> omega

/-- The receiver makes the look. -/
def State.makesLook (s : State) (n : Nat) (f : Fin 8) : Prop := s.power ≠ .off ∧ s.rxLooks n = true ∧
  (s.rxMode n = 2 → bitAt (s.fmask n) f = true ∧ s.lichen.untuned.getLsbD (8 * n + f) = false)

section
variable {s : State} {n : Fin 4} {f : Fin 8}

theorem lookGuard_iff : (s.power = .off || !s.rxLooks n || (s.rxMode n = 2 && (!bitAt (s.fmask n) (s.lookFreq n f) ||
    s.lichen.untuned.getLsbD (8 * n + s.lookFreq n f)))) = true ↔ ¬s.makesLook n f := by
  unfold State.makesLook State.lookFreq
  by_cases hm : s.rxMode n = 2
  · simp only [hm, show (2 : Nat) ≠ 1 by decide, if_false]
    cases bitAt (s.fmask n) f <;> cases s.lichen.untuned.getLsbD (8 * n + f) <;> cases s.rxLooks n <;> simp
  · simp only [hm]
    cases s.rxLooks n <;> simp

/-- An active look that does not count: in hold-off, or while SLEEP is being entered (R271). -/
def State.ignoresLook (s : State) : Prop := (s.power = .sleep ∧ s.lichen.holdoff = true) ∨ s.sys.entering ≠ none

theorem lookIgnored_iff (active : Bool) : (active && ((s.power = .sleep && s.lichen.holdoff) || s.sys.entering.isSome)) = true ↔
    active = true ∧ s.ignoresLook := by
  simp [State.ignoresLook, Option.isSome_iff_ne_none]

theorem lichenLook_of_not (active : Bool) (h : ¬s.makesLook n f) : lichenLook n f active s = s :=
  if_pos (lookGuard_iff.mpr h)

theorem lichenLook_of_ignored (h : s.makesLook n f) (hi : s.ignoresLook) : lichenLook n f true s = s.lookIgnored n :=
  (if_neg fun hg => lookGuard_iff.mp hg h).trans (if_pos ((lookIgnored_iff true).mpr ⟨rfl, hi⟩))

/-- A look that counts, outside a wake session. -/
theorem lichenLook_of_counted (active : Bool) (h : s.makesLook n f) (hi : active = true → ¬s.ignoresLook)
    (hs : (s.sys.wakeSession && decide (s.power = .up)) = false) : lichenLook n f active s = s.look n (s.lookFreq n f) active := by
  refine (if_neg fun hg => lookGuard_iff.mp hg h).trans ((if_neg fun hg => ?_).trans (if_neg ?_))
  · obtain ⟨ha, hig⟩ := (lookIgnored_iff active).mp hg
    exact hi ha hig
  · rw [hs]
    simp

end

end Sys2Proof.Machine

open Sys2Proof Sys2Proof.Machine

/-- Settles O43: a look by whether the receiver makes it, whether it is ignored, and whether it wakes the device. -/
theorem lichenLooks : Obligations.LichenLooks := by
  unfold Obligations.LichenLooks
  intro s n f looks x g seen ignored only
  refine ⟨fun active h => ⟨_, rfl, lichenLook_of_not active h⟩, fun h hi => ⟨_, rfl, ?_⟩, fun h hawake hsession => ⟨⟨_, rfl, ?_⟩, fun hi => ⟨_, rfl, ?_⟩⟩,
    fun h hi hsleep hwake htimed hover hhits hfew => ⟨_, rfl, ?_⟩, ⟨_, rfl, rfl⟩⟩
  · rw [lichenLook_of_ignored h hi]
    exact lookIgnored_changes s n
  · rw [lichenLook_of_counted false h (fun h => by cases h) (by simp [hsession]), look_of_awake n _ false hawake hsession]
    have hrec := lookNoted_lichenRx s n (s.lookFreq n f) false
    exact ⟨lookNoted_frame s n _ false, congrArg LichenRx.activeRun hrec, congrArg LichenRx.timedOut hrec⟩
  · rw [lichenLook_of_counted true h (fun _ => hi) (by simp [hsession]), look_of_awake n _ true hawake hsession]
    have hrec := lookNoted_lichenRx s n (s.lookFreq n f) true
    refine ⟨lookNoted_frame s n _ true, congrArg LichenRx.activeRun hrec, fun hover htimed => ?_⟩
    have hout : (s.looked n (s.lookFreq n f) true).timedOut = true := by
      have hover' : s.overTimeout n ((s.lichenRx n).activeRun + 1) = true := hover
      simp [State.looked, hover']
    refine ⟨raiseIf_counts_lichen _ ?_ (by omega) rfl, (congrArg LichenRx.timedOut hrec).trans hout⟩
    rw [hout]
    simpa using htimed
  · have hout : (s.looked n (s.lookFreq n f) true).timedOut = false := by
      have hover' : s.overTimeout n ((s.lichenRx n).activeRun + 1) = false := hover
      have htimed' : (s.lichenRx n).timedOut = false := htimed
      simp [State.looked, hover', htimed']
    rw [lichenLook_of_counted true h (fun _ => hi) (by simp [hsleep]), look_of_hits hsleep hwake hout hhits hfew]
    exact lichenWake_of_sleep (s := s.setLichenRx n _) n (lookFreq_lt s n f) hsleep
end

section
/-! SUPPORT. The ways into SLEEP and the wake by an address match (R272, R275, R277): what sending both directions to STANDBY leaves of the sources,
and how SLEEP is entered at once or asked for. -/

namespace Sys2Proof.Machine

/-! ### The sources on the way to STANDBY -/

/-- Event ID k is none that the end of a pattern counts (R407), nor one that counting another raises. -/
def offPlayback (b n : Nat) : Prop := 32 * b + n ≠ 32 * 5 + 10 ∧ ¬chained (32 * b + n)

section
variable {b n : Nat} (hoff : offPlayback b n)
include hoff

theorem signal_source (s : State) (v : Nat) : (s.signal v).flt.source b n = s.flt.source b n := by
  obtain ⟨hne, hc⟩ := hoff
  have hraise : ∀ x : State, (x.raise 5 10).flt.source b n = x.flt.source b n := fun x => raise_source_ne x b n 5 10 none hc hne
  unfold State.signal
  split
  · rfl
  · split
    · exact hraise _
    · split
      · exact hraise _
      · split <;> rfl

theorem patStop_source (s : State) (d : Dir) : (s.patStop d).flt.source b n = s.flt.source b n := by
  unfold State.patStop
  split
  · rfl
  · refine (signal_source hoff _ _).trans ?_
    cases d <;> rfl

theorem patEnd_source (s : State) (d : Dir) : (s.patEnd d).flt.source b n = s.flt.source b n := by
  unfold State.patEnd
  split
  · exact (patStop_source hoff _ d).trans (by rw [setDir_flt])
  · exact patStop_source hoff s d

theorem beginTrans_source (s : State) (d : Dir) {t : Trans} (h : t.target = .standby) :
    (s.beginTrans d t).flt.source b n = s.flt.source b n := by
  have hecho : ∀ x : State, (x.echoHold d).flt = x.flt := fun x => foldl_keeps State.flt _ _ (fun x m => setEcho_flt x d m _) x
  rw [beginTrans_eq, setDir_flt]
  unfold State.transPrep
  simp only [toAir_of_standby _ h, Bool.false_and, Bool.false_eq_true, if_false, Bool.not_false, if_true, hecho]
  split
  · exact patEnd_source hoff s d
  · rfl

theorem enterStandby_source (s : State) (d : Dir) (cause : Nat) : (s.enterStandby d cause).flt.source b n = s.flt.source b n := by
  unfold State.enterStandby
  split
  · rw [setDir_flt]
  · split
    · split
      · rfl
      · rw [setDir_flt]
    · split
      · rfl
      · exact beginTrans_source hoff s d rfl

end

/-! ### SLEEP is asked for (R272) -/

theorem trySleep_of_out {s : State} (d : Dir) (h : s.dirSt d ≠ .standby) : s.trySleep = s := by
  unfold State.trySleep
  split
  · rfl
  · refine if_neg fun hg => h ?_
    obtain ⟨hdl, hul, -⟩ := hg
    cases d
    · exact hdl
    · exact hul

/-- The transition to STANDBY that a sleep with this cause gives a direction. -/
def sleepTrans (cause now : Nat) : Trans := { target := .standby, cause := cause, start := now }

/-- A direction without a transition is sent to STANDBY: the state that it stands in stays, and out of STANDBY it starts a transition. -/
theorem enterStandby_idle {s : State} {d : Dir} (cause : Nat) (hup : s.power = .up) (htr : (s.dirRec d).trans = none) :
    (s.enterStandby d cause).dirSt d = s.dirSt d ∧
      (s.dirSt d ≠ .standby → ((s.enterStandby d cause).dirRec d).trans = some (sleepTrans cause s.now)) := by
  have hpower : s.power ≠ .shutdown := by rw [hup]; decide
  by_cases hst : s.dirSt d = .standby
  · rw [enterStandby_of_standby cause hpower hst htr]
    exact ⟨rfl, fun h => absurd hst h⟩
  · rw [enterStandby_of_idle cause hpower htr hst]
    exact ⟨beginTrans_dirSt s d d _, fun _ => congrArg DirRec.trans (beginTrans_dirRec s d { target := .standby, cause := cause })⟩

/-- Both directions are sent to STANDBY. -/
def State.bothHome (s : State) (cause : Nat) : State := dirs.foldl (fun s d => s.enterStandby d cause) s

theorem bothHome_still (s : State) (cause : Nat) : (s.bothHome cause).still = s.still :=
  (enterStandby_still _ .ul cause).trans (enterStandby_still s .dl cause)

theorem bothHome_sleepNext (s : State) (cause : Nat) : (s.bothHome cause).sys.sleepNext = s.sys.sleepNext :=
  ((congrArg Sys.sleepNext (enterStandby_onlyDir (s.enterStandby .dl cause) .ul cause).rest).trans rfl).trans
    ((congrArg Sys.sleepNext (enterStandby_onlyDir s .dl cause).rest).trans rfl)

theorem bothHome_source {b n : Nat} (hoff : offPlayback b n) (s : State) (cause : Nat) :
    (s.bothHome cause).flt.source b n = s.flt.source b n :=
  (enterStandby_source hoff _ .ul cause).trans (enterStandby_source hoff s .dl cause)

theorem bothHome_idle {s : State} (cause : Nat) (hup : s.power = .up) (htr : ∀ d, (s.dirRec d).trans = none) (d : Dir) :
    (s.bothHome cause).dirSt d = s.dirSt d ∧
      (s.dirSt d ≠ .standby → ((s.bothHome cause).dirRec d).trans = some (sleepTrans cause s.now)) := by
  have hstill := enterStandby_still s .dl cause
  have hdl := enterStandby_onlyDir s .dl cause
  have hul := enterStandby_onlyDir (s.enterStandby .dl cause) .ul cause
  have hrecul : (s.enterStandby .dl cause).dirRec .ul = s.dirRec .ul := hdl.ne (by decide)
  have hrecdl : (s.bothHome cause).dirRec .dl = (s.enterStandby .dl cause).dirRec .dl := hul.ne (by decide)
  cases d with
  | dl =>
    simp only [State.dirSt, hrecdl]
    exact enterStandby_idle cause hup (htr .dl)
  | ul =>
    have h := enterStandby_idle (s := s.enterStandby .dl cause) (d := .ul) cause ((congrArg Still.power hstill).trans hup)
      ((congrArg DirRec.trans hrecul).trans (htr .ul))
    rw [show s.bothHome cause = (s.enterStandby .dl cause).enterStandby .ul cause from rfl]
    simpa only [State.dirSt, hrecul, now_of_still hstill] using h

/-- SLEEP is asked for with this cause (R272). -/
def State.asksSleep (s : State) (cause : Nat) : State := { s with sys := { s.sys with sleepNext := some (cause, 0, 0) } }

theorem sleepBy_eq (s : State) (cause : Nat) : s.sleepBy cause = ((s.asksSleep cause).bothHome cause).trySleep := rfl

/-- A sleep of a device whose directions have no transition: SLEEP is entered where both stand in STANDBY, and else asked for, every other
direction on its way there. -/
theorem sleepBy_idle {s : State} (cause : Nat) (hup : s.power = .up) (htr : ∀ d, (s.dirRec d).trans = none) :
    (s.sys.dl.st = .standby → s.sys.ul.st = .standby → (s.sleepBy cause).sys.entering = some (cause, 0, 0)) ∧
      ∀ d, s.dirSt d ≠ .standby → ((s.sleepBy cause).dirRec d).trans = some (sleepTrans cause s.now) ∧
        (s.sleepBy cause).sys.sleepNext = some (cause, 0, 0) := by
  have hhome := bothHome_idle (s := s.asksSleep cause) cause hup htr
  rw [sleepBy_eq]
  refine ⟨fun hdl hul => ?_, fun d hd => ?_⟩
  · have hst : ∀ d, (s.asksSleep cause).dirSt d = .standby := fun d => by cases d <;> assumption
    have henter : ∀ d, (s.asksSleep cause).enterStandby d cause = s.asksSleep cause := fun d =>
      enterStandby_of_standby cause (by rw [show (s.asksSleep cause).power = .up from hup]; decide) (hst d) (htr d)
    have hsame : (s.asksSleep cause).bothHome cause = s.asksSleep cause := by
      simp only [State.bothHome, dirs, List.foldl_cons, List.foldl_nil, henter]
    have htry : (s.asksSleep cause).trySleep = (s.asksSleep cause).sleepStart cause 0 0 :=
      trySleep_of_standby (s := s.asksSleep cause) rfl hup hst htr
    rw [hsame, htry]
    exact congrArg Sys.entering (sleepStart_sys (s.asksSleep cause) cause 0 0)
  · rw [trySleep_of_out d (by rw [(hhome d).1]; exact hd)]
    exact ⟨(hhome d).2 hd, bothHome_sleepNext _ cause⟩

theorem sleepBy_still (s : State) (cause : Nat) : (s.sleepBy cause).still = s.still :=
  (trySleep_still _).trans ((bothHome_still _ cause).trans rfl)

theorem sleepBy_source {b n : Nat} (hoff : offPlayback b n) (hb : b ≠ 21) (hn : n < 32) (s : State) (cause : Nat) :
    (s.sleepBy cause).flt.source b n = s.flt.source b n := by
  have htry : ∀ x : State, x.trySleep.flt.source b n = x.flt.source b n := fun x => by
    unfold State.trySleep
    split
    · rfl
    · split
      · exact sleepStart_source_ne x _ _ _ hb hn hoff.2
      · rfl
  exact (htry _).trans (bothHome_source hoff _ cause)

/-! ### The policies (R272) -/

theorem idle_of_policyFree {s : State} (h : s.policyFree = true) (d : Dir) : (s.dirRec d).trans = none := by
  simp only [State.policyFree, Bool.and_eq_true, dirs, List.all_cons, List.all_nil, Option.isNone_iff_eq_none] at h
  obtain ⟨⟨⟨⟨⟨⟨⟨⟨hdl, hul, -⟩, -⟩, -⟩, -⟩, -⟩, -⟩, -⟩, -⟩ := h
  cases d
  · exact hdl.1.1
  · exact hul.1.1

section
variable {s : State}

/-- The device is up and enters no SLEEP. -/
def State.sleepless (s : State) : Prop := s.power = .up ∧ s.sys.entering = none ∧ s.sys.sleepNext = none

theorem sleepGuard_iff : (s.power != .up || s.sys.entering.isSome || s.sys.sleepNext.isSome) = true ↔ ¬s.sleepless := by
  unfold State.sleepless
  cases s.sys.entering <;> cases s.sys.sleepNext <;> simp

theorem policySleepTimer_of_not (donor : Bool) (h : ¬s.sleepless) : policySleepTimer donor s = s := if_pos (sleepGuard_iff.mpr h)

theorem policySleepTimer_of_idle (donor : Bool) (h : s.sleepless) : policySleepTimer donor s =
    if !s.policyHolds donor then { s with lichen := { s.lichen with deferred := false } }
    else if s.policyRx donor && s.policyFree then { s with lichen := { s.lichen with deferred := false } }.sleepBy 6
    else { s with lichen := { s.lichen with deferred := true } }.raiseIf (!s.lichen.deferred) 10 8 :=
  if_neg fun hg => sleepGuard_iff.mp hg h

end

theorem sleepAbandon_of_entering {s : State} {cause no tag : Nat} (h : s.sys.entering = some (cause, no, tag)) :
    s.sleepAbandon = { s.reqEnd no tag 4 with sys := { (s.reqEnd no tag 4).sys with entering := none }
                                              lichen := { (s.reqEnd no tag 4).lichen with abandoned := true } } := by
  simp [State.sleepAbandon, h]

/-! ### False wakes (R275) -/

/-- A Lichen wake of receiver n that proved false, before the device goes back to SLEEP. -/
def State.falseWake (s : State) (n : Nat) : State :=
  ((({ s with lichen := { s.lichen with wakeRx := none } } : State).setStF Reg.LICHEN_WAKE_STAT 7 1 1).bumpF
    Reg.LICHEN_WAKE_COUNT 16 16 1).raise 10 n (some n)

theorem falseWakeCheck_of_judged {s : State} {n : Nat} (hrx : s.lichen.wakeRx = some n) (hup : s.power = .up)
    (hpolicy : bitAt (s.rd Reg.LICHEN_POLICY) 2 = true) (hret : s.fld Reg.SYS_WAKE_CTRL 0 4 = 3) : falseWakeCheck s =
      if (if n < 2 then s.donorGone else !s.lichen.burstSeen) then (s.falseWake n).sleepBy 6
      else { s with lichen := { s.lichen with wakeRx := none } } := by
  unfold falseWakeCheck
  rw [hrx]
  exact if_neg (by simp [hup, hpolicy, hret])

theorem falseWakeCheck_of_not {s : State} (h : s.lichen.wakeRx = none ∨ s.power ≠ .up ∨ bitAt (s.rd Reg.LICHEN_POLICY) 2 = false ∨
    s.fld Reg.SYS_WAKE_CTRL 0 4 ≠ 3) : falseWakeCheck s = s := by
  unfold falseWakeCheck
  cases hrx : s.lichen.wakeRx with
  | none => rfl
  | some n =>
    refine if_pos ?_
    simp only [hrx, reduceCtorEq, false_or] at h
    rcases h with h | h | h <;> simp [h]

theorem falseWake_base (s : State) (n : Nat) : (s.falseWake n).base = s.base :=
  (raise_base _ 10 n (some n)).trans ((bumpF_base _ _ 16 16 1).trans (setStF_base _ _ 7 1 1))

theorem falseWake_sys (s : State) (n : Nat) : (s.falseWake n).sys = s.sys :=
  (raise_sys _ 10 n (some n)).trans ((setSt_sys _ Reg.LICHEN_WAKE_COUNT _).trans (setSt_sys _ Reg.LICHEN_WAKE_STAT _))

theorem falseWake_wakeRx (s : State) (n : Nat) : (s.falseWake n).lichen.wakeRx = none :=
  congrArg LichenState.wakeRx ((raise_lichen _ 10 n (some n)).trans
    ((setSt_lichen _ Reg.LICHEN_WAKE_COUNT _).trans (setSt_lichen _ Reg.LICHEN_WAKE_STAT _)))

theorem falseWake_stat (s : State) (n : Nat) : (s.falseWake n).stF Reg.LICHEN_WAKE_STAT 7 1 = 1 := by
  let x : State := { s with lichen := { s.lichen with wakeRx := none } }
  have hst : (s.falseWake n).st Reg.LICHEN_WAKE_STAT = (x.setStF Reg.LICHEN_WAKE_STAT 7 1 1).st Reg.LICHEN_WAKE_STAT :=
    st_bumpF_ne (x.setStF Reg.LICHEN_WAKE_STAT 7 1 1) 16 16 1 (by decide)
  exact (stF_of_st hst 7 1).trans (stF_setStF_same x _ 1 (by decide))

theorem falseWake_counts (s : State) {n : Nat} (hn : n < 4) : Counts 10 n s (s.falseWake n) :=
  raise_counts_lichen n (some n) (by omega) ((setSt_flt _ Reg.LICHEN_WAKE_COUNT _).trans (setSt_flt _ Reg.LICHEN_WAKE_STAT _))

end Sys2Proof.Machine

open Sys2Proof Sys2Proof.Machine

/-- Settles O44: a policy and a false wake by `sleepBy`, a wake by what its beginning writes, an entry under way by its abandonment. -/
theorem sleepPolicies : Obligations.SleepPolicies := by
  unfold Obligations.SleepPolicies
  intro s toSleep idle
  refine ⟨fun donor => ⟨fun h => ⟨_, rfl, policySleepTimer_of_not donor h⟩, fun h hnot => ⟨_, rfl, ?_⟩, fun h hholds hrx hfree => ⟨_, rfl, ?_⟩,
    fun h hholds hdef => ⟨_, rfl, ?_⟩⟩, fun n hn hrx h hdl hul hpolicy hret => ⟨fun hbad => ⟨_, rfl, ?_⟩, fun hgood => ⟨_, rfl, ?_⟩⟩,
    fun h => ⟨_, rfl, falseWakeCheck_of_not h⟩, fun hsleep => ⟨_, rfl, ?_⟩, fun hup hent => ⟨_, rfl, ?_⟩, fun hsleep h => ⟨_, rfl, ?_⟩⟩
  · exact (policySleepTimer_of_idle donor h).trans (if_pos (by simp [hnot]))
  · let x : State := { s with lichen := { s.lichen with deferred := false } }
    have heq : policySleepTimer donor s = x.sleepBy 6 :=
      (policySleepTimer_of_idle donor h).trans ((if_neg (by simp [hholds])).trans (if_pos (by simp [hrx, hfree])))
    have hstill := sleepBy_still x 6
    rw [heq]
    refine ⟨sleepBy_idle (s := x) 6 h.1 (idle_of_policyFree hfree), ?_, congrArg Still.cfg hstill⟩
    exact (congrArg Still.power hstill).trans h.1
  · let x : State := { s with lichen := { s.lichen with deferred := true } }
    have heq : policySleepTimer donor s = x.raiseIf (!s.lichen.deferred) 10 8 :=
      (policySleepTimer_of_idle donor h).trans ((if_neg (by simp [hholds])).trans (if_neg (by rcases hdef with hd | hd <;> simp [hd])))
    rw [heq]
    refine ⟨raiseIf_lichen .., ⟨?_, (raiseIf_onlyCounts x _ 10 8 none).2⟩, fun hnew => ?_⟩
    · cases s.lichen.deferred <;> rfl
    · exact raiseIf_counts_lichen 8 (by simp [hnew]) (by decide) rfl
  · have htr : ∀ d, (s.dirRec d).trans = none := fun d => by cases d <;> assumption
    have hbad' : (if n < 2 then s.donorGone else !s.lichen.burstSeen) = true := by
      have hbad : if n < 2 then s.donorGone = true else s.lichen.burstSeen = false := hbad
      split <;> simp_all
    have hrec : ∀ d, (s.falseWake n).dirRec d = s.dirRec d := dirRec_of_sys (falseWake_sys s n)
    have hpower : (s.falseWake n).power = s.power := power_of_base (falseWake_base s n)
    have hstill := sleepBy_still (s.falseWake n) 6
    obtain ⟨hboth, hone⟩ := sleepBy_idle (s := s.falseWake n) 6 (hpower.trans h.1) (fun d => (congrArg DirRec.trans (hrec d)).trans (htr d))
    rw [(falseWakeCheck_of_judged hrx h.1 hpolicy hret).trans (if_pos hbad')]
    refine ⟨?_, ?_, ?_, ?_, ?_, ?_⟩
    · simp only [State.dirSt, hrec, now_of_base (falseWake_base s n)] at hone
      exact ⟨hboth, hone⟩
    · have hoff : offPlayback 10 n := ⟨by omega, by unfold chained; omega⟩
      rw [Counts, sleepBy_source hoff (by decide) (by omega)]
      exact falseWake_counts s hn
    · rw [stF_of_st (st_of_still hstill (by decide))]
      exact falseWake_stat s n
    · exact (congrArg (fun x : Still => x.lichen.wakeRx) hstill).trans (falseWake_wakeRx s n)
    · exact (congrArg Still.power hstill).trans (hpower.trans h.1)
    · exact (congrArg Still.cfg hstill).trans (cfg_of_base (falseWake_base s n))
  · refine (falseWakeCheck_of_judged hrx h.1 hpolicy hret).trans (if_neg ?_)
    have hgood : ¬(if n < 2 then s.donorGone = true else s.lichen.burstSeen = false) := hgood
    split <;> simp_all
  · have heq : twoWireWake s = { s.wakeBegin 1 true with twb := { (s.wakeBegin 1 true).twb with stretching := true, acking := true } } :=
      if_pos hsleep
    rw [heq]
    exact ⟨rfl, rfl, rfl, st_wakeBegin_stat s 1 true, rfl, rfl⟩
  · obtain ⟨⟨cause, no, tag⟩, he⟩ := Option.ne_none_iff_exists'.mp hent
    have heq : twoWireWake s = s.sleepAbandon := (if_neg (by simp [hup])).trans (if_pos (by simp [hup, he]))
    rw [heq, sleepAbandon_of_entering he]
    have hsys := reqEnd_sys s no tag 4
    have hdl : (s.reqEnd no tag 4).sys.dl = s.sys.dl := (congrArg Sys.dl hsys).trans rfl
    have hul : (s.reqEnd no tag 4).sys.ul = s.sys.ul := (congrArg Sys.ul hsys).trans rfl
    rw [reqEnd_eq]
    exact ⟨hup, rfl, rfl, rfl, hdl, hul⟩
  · refine (if_neg hsleep).trans (if_neg fun hg => ?_)
    rcases h with h | h <;> simp [h] at hg
end

section
/-! SUPPORT. The Bog's bytes under zeroing and streaming (R286), the records of its regions under a trigger, and the region commands (R290–R294). -/

namespace Sys2Proof.Machine

/-! ### Bytes (R280, R286) -/

theorem NMap.get_filter_key {α : Type} (d : Nat → α) (m : NMap α) (p : Nat → Bool) (k : Nat) :
    NMap.get d (m.filter (fun e => p e.1)) k = if p k then NMap.get d m k else d k := by
  induction m with
  | nil => simp
  | cons e m ih =>
    obtain ⟨j, v⟩ := e
    by_cases hj : j = k
    · subst hj
      cases hp : p j <;> simp [hp, NMap.get, ih]
    · cases hp : p j <;> simp [hp, NMap.get, hj, ih]

/-- A zeroed range reads zero, and every other byte stands. -/
theorem BogState.byte_zero (b : BogState) (lo hi a : Nat) : (b.zero lo hi).byte a = if lo ≤ a ∧ a < hi then 0 else b.byte a := by
  have hget := NMap.get_filter_key (fun _ => (0 : Byte)) b.mem (fun j => !(decide (lo ≤ j) && decide (j < hi))) a
  unfold BogState.byte BogState.zero
  dsimp only
  by_cases h : lo ≤ a ∧ a < hi
  · rw [streamAt_cutStreams_in _ _ _ _ h, if_pos h]
    exact hget.trans (if_neg (by simp [h]))
  · rw [streamAt_cutStreams_out _ _ _ _ (by omega), if_neg h]
    split
    · rfl
    · exact hget.trans (if_pos (by simp only [Bool.not_eq_true', Bool.and_eq_false_iff, decide_eq_false_iff_not]; omega))

theorem BogState.byte_stream_out (b : BogState) (lo hi stamp a : Nat) (h : a < lo ∨ hi ≤ a) : (b.stream lo hi stamp).byte a = b.byte a := by
  unfold BogState.stream
  split
  · rfl
  · unfold BogState.byte BogState.zero
    dsimp only
    rw [streamAt, if_neg (by omega), streamAt_cutStreams_out _ _ _ _ h]
    split
    · rfl
    · exact (NMap.get_filter_key (fun _ => (0 : Byte)) b.mem (fun j => !(decide (lo ≤ j) && decide (j < hi))) a).trans
        (if_pos (by simp only [Bool.not_eq_true', Bool.and_eq_false_iff, decide_eq_false_iff_not]; omega))

/-- Every stretch that a write from `wr` on covers lies in the data area. -/
theorem stretches_inside {start size wr k : Nat} (hwr : wr ≤ size) :
    ∀ e ∈ stretches start size wr k, start ≤ e.1 ∧ e.2 ≤ start + size := by
  intro e he
  unfold stretches at he
  split at he
  · cases he
  · split at he
    · obtain rfl := List.mem_singleton.mp he
      exact ⟨le_rfl, le_rfl⟩
    · split at he
      · obtain rfl := List.mem_singleton.mp he
        dsimp only; omega
      · rcases List.mem_pair.mp he with rfl | rfl <;> dsimp only <;> omega

/-- What a stream writes into a data area, as a change of the Bog. -/
def BogState.fill (b : BogState) (start size wr k stamp : Nat) : BogState :=
  (stretches start size wr k).foldl (fun b e => b.stream e.1 e.2 stamp) b

theorem BogState.byte_fill_out (b : BogState) {start size wr : Nat} (k stamp a : Nat) (hwr : wr ≤ size) (h : a < start ∨ start + size ≤ a) :
    (b.fill start size wr k stamp).byte a = b.byte a := by
  have hin := stretches_inside (start := start) (k := k) hwr
  unfold BogState.fill
  generalize stretches start size wr k = l at hin
  induction l generalizing b with
  | nil => rfl
  | cons e l ih =>
    obtain ⟨h1, h2⟩ := hin e List.mem_cons_self
    rw [List.foldl_cons, ih _ fun e' he' => hin e' (List.mem_cons_of_mem _ he')]
    exact byte_stream_out b e.1 e.2 stamp a (by omega)

theorem BogState.zero_withData (b : BogState) (lo hi : Nat) : b.zero lo hi = { b with mem := (b.zero lo hi).mem, streams := (b.zero lo hi).streams } := rfl

theorem BogState.stream_withData (b : BogState) (lo hi stamp : Nat) :
    b.stream lo hi stamp = { b with mem := (b.stream lo hi stamp).mem, streams := (b.stream lo hi stamp).streams } := by
  unfold BogState.stream
  split <;> rfl

theorem BogState.foldl_withData {α : Type} (f : BogState → α → BogState)
    (h : ∀ b e, f b e = { b with mem := (f b e).mem, streams := (f b e).streams }) (l : List α) (b : BogState) :
    l.foldl f b = { b with mem := (l.foldl f b).mem, streams := (l.foldl f b).streams } := by
  induction l generalizing b with
  | nil => rfl
  | cons e l ih =>
    rw [List.foldl_cons]
    exact (ih (f b e)).trans (by rw [h b e])

theorem BogState.fill_withData (b : BogState) (start size wr k stamp : Nat) : b.fill start size wr k stamp =
    { b with mem := (b.fill start size wr k stamp).mem, streams := (b.fill start size wr k stamp).streams } :=
  foldl_withData _ (fun b e => stream_withData b e.1 e.2 stamp) _ b

theorem BogState.fill_regions (b : BogState) (start size wr k stamp : Nat) : (b.fill start size wr k stamp).regions = b.regions :=
  (congrArg BogState.regions (fill_withData b start size wr k stamp) :)

/-! ### Regions -/

@[simp] theorem BogState.region_setRegion_same (b : BogState) (n : Nat) (r : RegionRec) : (b.setRegion n r).region n = r := by
  simp [BogState.region, BogState.setRegion]

theorem BogState.region_setRegion_ne (b : BogState) {n m : Nat} (r : RegionRec) (h : m ≠ n) : (b.setRegion n r).region m = b.region m := by
  simp [BogState.region, BogState.setRegion, NMap.get_put, h]

theorem region_of_regions {b c : BogState} (h : b.regions = c.regions) (n : Nat) : b.region n = c.region n := by
  rw [BogState.region, BogState.region, h]

theorem RegionRec.active_iff {r : RegionRec} : r.active = true ↔ r.st = 1 ∨ r.st = 2 := by simp [RegionRec.active]

theorem RegionRec.active_eq_false {r : RegionRec} : r.active = false ↔ r.st ≠ 1 ∧ r.st ≠ 2 := by simp [RegionRec.active]

/-- A trigger changes nothing but the record of its region. -/
theorem fireRegion_only (s : State) (b : BogState) (n t : Nat) :
    fireRegion s b n t = b ∨ ∃ r, fireRegion s b n t = b.setRegion n r := by
  unfold fireRegion
  extract_lets r once ahead heldAt short
  split
  · split <;> exact .inr ⟨_, rfl⟩
  · split
    · exact .inr ⟨_, rfl⟩
    · exact .inl rfl

theorem fireRegion_region_ne (s : State) (b : BogState) {n m : Nat} (t : Nat) (h : m ≠ n) : (fireRegion s b n t).region m = b.region m := by
  rcases fireRegion_only s b n t with hf | ⟨r, hf⟩
  · rw [hf]
  · rw [hf, BogState.region_setRegion_ne _ _ h]

theorem fireRegion_of_inactive {s : State} {b : BogState} {n : Nat} (t : Nat) (h : (b.region n).active = false) : fireRegion s b n t = b := by
  obtain ⟨h1, h2⟩ := RegionRec.active_eq_false.mp h
  unfold fireRegion; dsimp only
  rw [if_neg (by simp [h1, h2]), if_neg h2]

/-- A region that has triggered once ignores a trigger, and counts it (R291). -/
theorem fireRegion_of_once {s : State} {b : BogState} {n : Nat} (t : Nat) (h : (b.region n).st = 2) (honce : s.regOnce n = true) :
    fireRegion s b n t = b.setRegion n { b.region n with ignored := satAdd 65535 (b.region n).ignored 1 } := by
  unfold fireRegion; dsimp only
  rw [if_neg (by simp [h, honce]), if_pos h]

/-- Region n has triggered at device time t. -/
def BogState.firedAt (b : BogState) (n t : Nat) : Prop :=
  (b.region n).st = 2 ∧ (b.region n).triggered = true ∧ (b.region n).trigTime = t

/-- A region that takes a trigger fires, or ignores it because its PRE is not full (R290). -/
theorem fireRegion_of_ready {s : State} {b : BogState} {n : Nat} (t : Nat)
    (h : (b.region n).st = 1 ∨ (b.region n).st = 2 ∧ s.regOnce n = false) :
    (fireRegion s b n t).firedAt n t ∨ (bitAt (s.rd (Reg.BOG_REG_RULE n)) 2 = true ∧ s.regOnce n = true ∧
      fireRegion s b n t = b.setRegion n { b.region n with ignored := satAdd 65535 (b.region n).ignored 1 }) := by
  unfold fireRegion
  extract_lets r once ahead heldAt short
  rw [if_pos (by simpa [r, once] using h)]
  split
  · next hshort =>
    obtain ⟨hfull, hshort⟩ := hshort
    exact .inr ⟨hfull, (Bool.and_eq_true_iff.mp hshort).2, rfl⟩
  · exact .inl (by simp [BogState.firedAt])

theorem fireRegion_fires {s : State} {b : BogState} {n : Nat} (t : Nat) (h : (b.region n).st = 1 ∨ (b.region n).st = 2 ∧ s.regOnce n = false)
    (hrule : bitAt (s.rd (Reg.BOG_REG_RULE n)) 2 = false ∨ s.regOnce n = false) : (fireRegion s b n t).firedAt n t := by
  refine (fireRegion_of_ready t h).resolve_right fun ⟨hfull, honce, _⟩ => ?_
  rcases hrule with hr | hr <;> simp_all

theorem fireRegion_withRegions (s : State) (b : BogState) (n t : Nat) :
    fireRegion s b n t = { b with regions := (fireRegion s b n t).regions } := by
  rcases fireRegion_only s b n t with hf | ⟨r, hf⟩
  · rw [hf]
  · rw [hf]
    rfl

/-! ### What events and completions leave of a region at rest -/

/-- The Bog's bytes, and the record of region n where no trigger reaches it. -/
def BogState.rest (b : BogState) (n : Nat) : (NMap Byte × List (Nat × Nat × Nat)) × Option RegionRec :=
  ((b.mem, b.streams), if (b.region n).active then none else some (b.region n))

theorem fireRegion_active {s : State} {b : BogState} {n : Nat} (t : Nat) (h : (b.region n).active = true) :
    ((fireRegion s b n t).region n).active = true := by
  rcases RegionRec.active_iff.mp h with h1 | h2
  · rcases fireRegion_of_ready (s := s) t (.inl h1) with ⟨hst, -⟩ | ⟨-, -, hf⟩
    · exact RegionRec.active_iff.mpr (.inr hst)
    · rw [hf, BogState.region_setRegion_same]
      exact RegionRec.active_iff.mpr (.inl h1)
  · cases honce : s.regOnce n with
    | false =>
      obtain ⟨hst, -⟩ := fireRegion_fires t (.inr ⟨h2, honce⟩) (.inr honce)
      exact RegionRec.active_iff.mpr (.inr hst)
    | true =>
      rw [fireRegion_of_once t h2 honce, BogState.region_setRegion_same]
      exact RegionRec.active_iff.mpr (.inr h2)

theorem fireRegion_rest (s : State) (b : BogState) (m t n : Nat) : (fireRegion s b m t).rest n = b.rest n := by
  have hdata : ((fireRegion s b m t).mem, (fireRegion s b m t).streams) = (b.mem, b.streams) := by
    rw [fireRegion_withRegions]
  refine Prod.ext hdata ?_
  dsimp only [BogState.rest]
  by_cases hm : n = m
  · subst hm
    cases ha : (b.region n).active with
    | true => rw [fireRegion_active t ha]; rfl
    | false => rw [fireRegion_of_inactive t ha, ha]
  · rw [fireRegion_region_ne s b t hm]

theorem enqueue_bog (s : State) (x : Fx) (b src cls total : Nat) (inj : Bool) : (enqueue s x b src cls total inj).1.bog = x.bog := by
  unfold enqueue
  split
  · rfl
  · dsimp only
    split
    · rfl
    · split <;> rfl

/-- Of the Bog, counting an event changes what its trigger changes. -/
theorem countOne_bog (s : State) (x : Fx) (e : Ev) : (countOne s x e).1.bog = x.bog ∨
    (countOne s x e).1.bog = fireWhere s x.bog s.now (s.trigsOn (32 * e.blk + e.src) false) := by
  have hclose : ∀ (y : Fx) c d, (y.peatClose s c d).1.bog = y.bog := fun _ _ _ => rfl
  unfold countOne
  dsimp only
  split
  · exact .inl rfl
  · refine .inr ?_
    split <;> split <;> (try split) <;> (try split) <;> simp only [hclose, enqueue_bog]

/-- A property of the Bog that no trigger and no end of a pattern takes away: events, completions and requests keep it. -/
structure BogClosed (P : BogState → Prop) : Prop where
  fire : ∀ s b n t, P b → P (fireRegion s b n t)
  stop : ∀ (s : State) (d : Dir), P s.bog → P (s.setPlaying d none).bog

theorem rest_stays (n : Nat) (r : (NMap Byte × List (Nat × Nat × Nat)) × Option RegionRec) : BogClosed (fun b => b.rest n = r) where
  fire := fun s b m t h => (fireRegion_rest s b m t n).trans h
  stop := fun s d h => by cases d <;> exact h

theorem foldl_stays {σ α : Type} (Q : σ → Prop) (l : List α) (f : σ → α → σ) (hf : ∀ s a, Q s → Q (f s a)) {s : σ} (h : Q s) :
    Q (l.foldl f s) := by
  induction l generalizing s with
  | nil => exact h
  | cons a l ih => exact ih (hf s a h)

section
variable {P : BogState → Prop} (hP : BogClosed P)
include hP

theorem fireWhere_stays (s : State) (t : Nat) (p : Nat → Bool) {b : BogState} (h : P b) : P (fireWhere s b t p) := by
  refine foldl_stays P _ _ (fun b m hb => ?_) h
  split
  · exact hP.fire s b m t hb
  · exact hb

theorem countOne_stays (s : State) {x : Fx} (e : Ev) (h : P x.bog) : P (countOne s x e).1.bog := by
  rcases countOne_bog s x e with heq | heq
  · rwa [heq]
  · rw [heq]
    exact fireWhere_stays hP s _ _ h

theorem countAll_stays (s : State) (k : Nat) {x : Fx} (es : List Ev) (h : P x.bog) : P (countAll s k x es).bog := by
  induction k generalizing x es with
  | zero => exact h
  | succ k ih =>
    cases es with
    | nil => exact h
    | cons e es => exact ih _ (countOne_stays hP s e h)

theorem raiseEvs_stays {s : State} (es : List Ev) (h : P s.bog) : P (s.raiseEvs es).bog := countAll_stays hP s _ (x := s.fx) es h

theorem raise_stays {s : State} (b src : Nat) (u : Option Nat) (h : P s.bog) : P (s.raise b src u).bog := raiseEvs_stays hP _ h

theorem signal_stays {s : State} (v : Nat) (h : P s.bog) : P (s.signal v).bog := by
  unfold State.signal
  split
  · exact h
  · split
    · exact raise_stays hP 5 10 none h
    · split
      · exact raise_stays hP 5 10 none h
      · split <;> exact h

end

theorem raiseEvs_rest (s : State) (es : List Ev) (n : Nat) : (s.raiseEvs es).bog.rest n = s.bog.rest n :=
  raiseEvs_stays (rest_stays n _) es rfl

theorem raise_rest (s : State) (b src : Nat) (u : Option Nat) (n : Nat) : (s.raise b src u).bog.rest n = s.bog.rest n := raiseEvs_rest s _ n

theorem regionDone_rest (s : State) (m n : Nat) : (s.regionDone m).bog.rest n = s.bog.rest n := signal_stays (rest_stays n _) m rfl

theorem byte_of_rest {b c : BogState} {n : Nat} (h : b.rest n = c.rest n) (a : Nat) : b.byte a = c.byte a := by
  have hmem : b.mem = c.mem := congrArg (fun x => x.1.1) h
  have hstreams : b.streams = c.streams := congrArg (fun x => x.1.2) h
  rw [BogState.byte, BogState.byte, hmem, hstreams]

theorem region_of_rest {b c : BogState} {n : Nat} (h : b.rest n = c.rest n) (hc : (c.region n).active = false) : b.region n = c.region n := by
  have h : (if (b.region n).active then none else some (b.region n)) = if (c.region n).active then none else some (c.region n) :=
    congrArg Prod.snd h
  rw [hc] at h
  cases hb : (b.region n).active with
  | true => simp [hb] at h
  | false => simpa [hb] using h

/-! ### The header and the end of a region (R291, R292) -/

theorem length_segHeader (s : State) (n : Nat) (r : RegionRec) (t : Nat) : (s.segHeader n r t).length = 64 := by
  simp [State.segHeader, length_leBytes]

/-- Finding the oldest sample's time takes open values at most. -/
theorem oldestTime_eq (s : State) (n : Nat) (r : RegionRec) : ∃ t k, s.oldestTime n r = (t, { s with free := k }) := by
  unfold State.oldestTime
  split
  · exact ⟨_, _, rfl⟩
  · split <;> exact ⟨_, _, rfl⟩

/-- The header of 64 bytes is written below the data area; of the rest of the state, open values may be taken. -/
theorem regHeader_eq (s : State) (n : Nat) : ∃ v k, v.length = 64 ∧ s.regHeader n =
    { s with bog := s.bog.write (s.dataStart n (s.bog.region n).seg - 4096) v, free := k } := by
  obtain ⟨t, k, h⟩ := oldestTime_eq s n (s.bog.region n)
  refine ⟨_, k, length_segHeader { s with free := k } n (s.bog.region n) t, ?_⟩
  simp only [State.regHeader, h]
  rfl

theorem regHeader_regions (s : State) (n : Nat) : (s.regHeader n).bog.regions = s.bog.regions := by
  obtain ⟨v, k, -, h⟩ := regHeader_eq s n
  rw [h]
  rfl

/-- Byte a lies neither in the header page nor in the data area of segment seg of region n. -/
def State.offSegment (s : State) (n seg a : Nat) : Prop := a < s.dataStart n seg - 4096 ∨ s.dataStart n seg + s.dataBytes n ≤ a

theorem dataStart_ge (s : State) (n seg : Nat) : 4096 ≤ s.dataStart n seg := Nat.le_add_left 4096 _

/-- Outside a segment is outside its data area and outside its header page. -/
theorem offSegment_cases {s : State} {n seg a : Nat} (h : s.offSegment n seg a) :
    (a < s.dataStart n seg ∨ s.dataStart n seg + s.dataBytes n ≤ a) ∧ (a < s.dataStart n seg - 4096 ∨ s.dataStart n seg ≤ a) := by
  have hge := dataStart_ge s n seg
  unfold State.offSegment at h
  generalize s.dataStart n seg = start at *
  generalize s.dataBytes n = size at *
  omega

/-- A running stream fills its data area from the region's position on, and stays in its segment. -/
theorem regStream_of_running {s : State} {n : Nat} (t : Nat) (hstream : (!(s.bog.region n).active || s.regKind n = 0 || 4 ≤ s.regKind n) = false)
    (hruns : s.regRuns n = true) : ∃ r take, r.seg = (s.bog.region n).seg ∧ s.regStream n t =
      { s with bog := (s.bog.fill (s.dataStart n (s.bog.region n).seg) (s.dataBytes n) (s.bog.region n).wr take t).setRegion n r } := by
  unfold State.regStream
  dsimp only
  rw [if_neg (by simp [hstream]), if_neg (by simp [hruns])]
  cases ((s.bog.region n).paused && (s.bog.region n).held != 0) with
  | false =>
    refine ⟨_, _, ?_, rfl⟩
    rfl
  | true =>
    refine ⟨_, _, ?_, rfl⟩
    rfl

/-- A stream writes in the data area of its region's segment, and goes on in that segment. -/
theorem regStream_inside (s : State) (n t : Nat) (hwr : (s.bog.region n).wr ≤ s.dataBytes n) :
    ((s.regStream n t).bog.region n).seg = (s.bog.region n).seg ∧
      ∀ a, s.offSegment n (s.bog.region n).seg a → (s.regStream n t).bog.byte a = s.bog.byte a := by
  cases hstream : (!(s.bog.region n).active || s.regKind n = 0 || 4 ≤ s.regKind n) with
  | true =>
    have heq : s.regStream n t = s := if_pos hstream
    rw [heq]
    exact ⟨rfl, fun _ _ => rfl⟩
  | false =>
    cases hruns : s.regRuns n with
    | false =>
      have heq : s.regStream n t = { s with bog := s.bog.setRegion n { s.bog.region n with upTo := t, paused := true } } :=
        (if_neg (by simp [hstream])).trans (if_pos (by simp [hruns]))
      rw [heq]
      exact ⟨by rw [BogState.region_setRegion_same], fun a _ => byte_setRegion ..⟩
    | true =>
      obtain ⟨r, take, hseg, heq⟩ := regStream_of_running t hstream hruns
      rw [heq]
      exact ⟨by rw [BogState.region_setRegion_same, hseg], fun a ha =>
        (byte_setRegion ..).trans (BogState.byte_fill_out s.bog take t a hwr (offSegment_cases ha).1)⟩

/-- The header page lies below the data area. -/
theorem regHeader_inside (s : State) (n a : Nat) (ha : s.offSegment n (s.bog.region n).seg a) : (s.regHeader n).bog.byte a = s.bog.byte a := by
  obtain ⟨v, k, hlen, h⟩ := regHeader_eq s n
  rw [h]
  refine BogState.byte_write_out s.bog _ a v ?_
  obtain ⟨-, hpage⟩ := offSegment_cases ha
  have hge := dataStart_ge s n (s.bog.region n).seg
  rw [hlen]
  generalize s.dataStart n (s.bog.region n).seg = start at *
  omega

section
variable {s t : State} (h : t.cfg = s.cfg)
include h

theorem rd_of_cfg (a : Nat) : t.rd a = s.rd a := by rw [State.rd, State.rd, h]

theorem fld_of_cfg (a lo len : Nat) : t.fld a lo len = s.fld a lo len := congrArg (fun w => bitsAt w lo len) (rd_of_cfg h a)

theorem segBytes_of_cfg (n : Nat) : t.segBytes n = s.segBytes n := by
  unfold State.segBytes State.regStop
  rw [fld_of_cfg h, fld_of_cfg h, fld_of_cfg h]

theorem dataBytes_of_cfg (n : Nat) : t.dataBytes n = s.dataBytes n := congrArg (· - 4096) (segBytes_of_cfg h n)

theorem dataStart_of_cfg (n seg : Nat) : t.dataStart n seg = s.dataStart n seg := by
  rw [State.dataStart, State.dataStart, segBytes_of_cfg h, fld_of_cfg h]

theorem offSegment_of_cfg (n seg a : Nat) : t.offSegment n seg a ↔ s.offSegment n seg a := by
  unfold State.offSegment
  rw [dataStart_of_cfg h, dataBytes_of_cfg h]

end

/-- Region n stops with the header flags `extra` and writes its header, before its completion is signalled. -/
def State.regClose (s : State) (n extra : Nat) : State :=
  let x := s.regStream n s.now
  let y := { x with bog := x.bog.setRegion n { x.bog.region n with flags := (x.bog.region n).flags ||| extra } }.regHeader n
  { y with bog := y.bog.setRegion n { y.bog.region n with st := 3 } }

theorem regFinish_eq (s : State) (n extra : Nat) : s.regFinish n extra = (s.regClose n extra).regionDone n := rfl

theorem regClose_inside (s : State) (n extra : Nat) (hwr : (s.bog.region n).wr ≤ s.dataBytes n) :
    ((s.regClose n extra).bog.region n).st = 3 ∧
      ∀ a, s.offSegment n (s.bog.region n).seg a → (s.regClose n extra).bog.byte a = s.bog.byte a := by
  obtain ⟨hseg, hbytes⟩ := regStream_inside s n s.now hwr
  unfold State.regClose
  extract_lets x y
  refine ⟨by rw [BogState.region_setRegion_same], fun a ha => ?_⟩
  refine (byte_setRegion ..).trans ((regHeader_inside _ n a ?_).trans ((byte_setRegion ..).trans (hbytes a ha)))
  rw [BogState.region_setRegion_same]
  refine (offSegment_of_cfg (cfg_of_base ?_) n _ a).mpr (hseg ▸ ha)
  exact (base_bog x _).trans (regStream_base s n s.now)

/-- A region at rest keeps its record and the Bog's bytes through its completion. -/
theorem regionDone_inside {s : State} {n : Nat} (h : (s.bog.region n).active = false) :
    (s.regionDone n).bog.region n = s.bog.region n ∧ ∀ a, (s.regionDone n).bog.byte a = s.bog.byte a :=
  ⟨region_of_rest (regionDone_rest s n n) h, byte_of_rest (regionDone_rest s n n)⟩

theorem regHalt_inside {s : State} {n : Nat} (hactive : (s.bog.region n).active = true) (hwr : (s.bog.region n).wr ≤ s.dataBytes n) :
    ((s.regHalt n).bog.region n).st = 3 ∧ ∀ a, s.offSegment n (s.bog.region n).seg a → (s.regHalt n).bog.byte a = s.bog.byte a := by
  obtain ⟨hst, hbytes⟩ := regClose_inside s n 32 hwr
  obtain ⟨hregion, hdone⟩ := regionDone_inside (RegionRec.active_eq_false.mpr (by rw [hst]; decide))
  have heq : s.regHalt n = (s.regClose n 32).regionDone n := if_pos hactive
  rw [heq]
  exact ⟨(congrArg RegionRec.st hregion).trans hst, fun a ha => (hdone a).trans (hbytes a ha)⟩

/-! ### The region commands (R294) -/

/-- An event of a source that names no unit counts, unless a fenced lane hides it (R30, R354). -/
theorem raise_counts_of_unitless {s x : State} {b n : Nat} (u : Option Nat) (hunit : sourceUnits b n = []) (h7 : b ≠ 7) (h8 : b ≠ 8)
    (hc : ¬chained (32 * b + n)) (h : x.flt = s.flt) : Counts b n s (x.raise b n u) := by
  have hcount := raise_counts x b n u hc (by simp [suppressed, namedUnit, hunit, h7, h8])
  rwa [Counts, h] at hcount

/-- A refused command shows its outcome and counts. -/
theorem cmdStatus_raise (s : State) (code n : Nat) (hcode : code ≤ 2) (hn : n < 8) : ((s.cmdStatus code n).raise 19 19).st Reg.BOG_CMD_STATUS = code + 16 * n ∧
    (∀ a, a ≠ Reg.BOG_CMD_STATUS → ((s.cmdStatus code n).raise 19 19).st a = s.st a) ∧ Counts 19 19 s ((s.cmdStatus code n).raise 19 19) ∧
    OnlyStatusCounts [Reg.BOG_CMD_STATUS] s ((s.cmdStatus code n).raise 19 19) := by
  have hne : ∀ a, a ≠ Reg.BOG_CMD_STATUS → ((s.cmdStatus code n).raise 19 19).st a = s.st a := fun a ha => st_setSt_ne s _ ha
  refine ⟨(st_setSt_same s _ _).trans (Nat.mod_eq_of_lt (by omega)), hne, ?_, ?_⟩
  · exact raise_counts_of_unitless none rfl (by decide) (by decide) (by unfold chained; decide) (setSt_flt s _ _)
  · exact onlyStatusCounts_of_uncounted (uncounted_raise _ 19 19) fun a ha => hne a (by simpa using ha)

/-- Zeroing pages makes them read zero, and no other byte. -/
theorem byte_zeroPages (f : Nat → Nat) (l : List Nat) (b : BogState) (a : Nat) :
    (l.foldl (fun b g => b.zero (f g) (f g + 4096)) b).byte a = if ∃ g ∈ l, f g ≤ a ∧ a < f g + 4096 then 0 else b.byte a := by
  induction l generalizing b with
  | nil => simp
  | cons g l ih =>
    rw [List.foldl_cons, ih, BogState.byte_zero]
    by_cases hl : ∃ g ∈ l, f g ≤ a ∧ a < f g + 4096
    · rw [if_pos hl, if_pos (by simp [hl])]
    · by_cases hg : f g ≤ a ∧ a < f g + 4096
      · rw [if_neg hl, if_pos hg, if_pos ⟨g, List.mem_cons_self, hg⟩]
      · rw [if_neg hl, if_neg hg, if_neg (by simpa only [List.mem_cons, exists_eq_or_imp] using fun h => h.elim hg hl)]

/-- First byte of the header page of segment g of region n. -/
def State.headerPage (s : State) (n g : Nat) : Nat := s.regBase n + g * s.segBytes n

/-- The Bog with region n armed: its header pages zeroed, its record new but for the codeword counts (R292, R294). -/
def State.armedBog (s : State) (n : Nat) : BogState :=
  ((List.range (s.regSegs n)).foldl (fun b g => b.zero (s.headerPage n g) (s.headerPage n g + 4096)) s.bog).setRegion n
    { st := 1, upTo := s.now, corr := (s.bog.region n).corr, uncorr := (s.bog.region n).uncorr }

/-- The Bog after an accepted ARM: an immediate trigger fires at once (R290). -/
def State.armFired (s : State) (n : Nat) : BogState :=
  if s.trigKind n = 7 then fireRegion { s with bog := s.armedBog n } (s.armedBog n) n s.now else s.armedBog n

theorem armRegion_of_layout {s : State} {n : Nat} (hidle : (s.bog.region n).active = false) (hlayout : s.armLayout n = true) :
    (s.armRegion n).1 = { s with bog := s.armFired n }.cmdStatus 0 n := by
  unfold State.armRegion
  dsimp only
  rw [if_neg (by simp [hidle]), if_neg (by simp [hlayout])]
  unfold State.armFired
  split
  · next h =>
    have h : s.trigKind n = 7 := h
    rw [if_pos h]
    rfl
  · next h =>
    have h : s.trigKind n ≠ 7 := h
    rw [if_neg h]
    rfl

theorem armFired_cases (s : State) (n : Nat) : s.armFired n = s.armedBog n ∨ ∃ r, s.armFired n = (s.armedBog n).setRegion n r := by
  unfold State.armFired
  split
  · exact fireRegion_only _ _ n s.now
  · exact .inl rfl

theorem armedBog_withData (s : State) (n : Nat) : s.armedBog n =
    { s.bog with mem := (s.armedBog n).mem, streams := (s.armedBog n).streams, regions := (s.armedBog n).regions } := by
  have h := BogState.foldl_withData (fun b g => b.zero (s.headerPage n g) (s.headerPage n g + 4096)) (fun b g => BogState.zero_withData b _ _)
    (List.range (s.regSegs n)) s.bog
  unfold State.armedBog
  rw [h]
  rfl

theorem armFired_withData (s : State) (n : Nat) : s.armFired n =
    { s.bog with mem := (s.armFired n).mem, streams := (s.armFired n).streams, regions := (s.armFired n).regions } := by
  rcases armFired_cases s n with h | ⟨r, h⟩
  · rw [h, ← armedBog_withData]
  · rw [h]
    exact congrArg (fun b : BogState => b.setRegion n r) (armedBog_withData s n)

theorem armFired_byte (s : State) (n a : Nat) : (s.armFired n).byte a =
    if ∃ g ∈ List.range (s.regSegs n), s.headerPage n g ≤ a ∧ a < s.headerPage n g + 4096 then 0 else s.bog.byte a := by
  have hzero := byte_zeroPages (s.headerPage n) (List.range (s.regSegs n)) s.bog a
  rcases armFired_cases s n with h | ⟨r, h⟩
  · rw [h]; exact hzero
  · rw [h]; exact hzero

theorem armFired_region_ne (s : State) {n m : Nat} (hm : m ≠ n) : (s.armFired n).region m = s.bog.region m := by
  have harmed : (s.armedBog n).region m = s.bog.region m := by
    refine (BogState.region_setRegion_ne _ _ hm).trans (region_of_regions ?_ m)
    have h := BogState.foldl_withData (fun b g => b.zero (s.headerPage n g) (s.headerPage n g + 4096)) (fun b g => BogState.zero_withData b _ _)
      (List.range (s.regSegs n)) s.bog
    rw [h]
  rcases armFired_cases s n with h | ⟨r, h⟩
  · rw [h, harmed]
  · rw [h, BogState.region_setRegion_ne _ _ hm, harmed]

/-- A command that changes the regions' records only shows its outcome. -/
theorem cmdStatus_shows (s : State) (b : BogState) (n : Nat) (hn : n < 8) :
    (State.cmdStatus { s with bog := b } 0 n).st Reg.BOG_CMD_STATUS = 0 + 16 * n ∧
      ∀ a, a ≠ Reg.BOG_CMD_STATUS → (State.cmdStatus { s with bog := b } 0 n).st a = s.st a :=
  ⟨(st_setSt_same _ _ _).trans (Nat.mod_eq_of_lt (by omega)), fun _ ha => st_setSt_ne _ _ ha⟩

/-- … and keeps the rest of the Bog. -/
theorem cmdStatus_kept (s : State) {b : BogState} (n : Nat) (h : b = { s.bog with regions := b.regions }) :
    State.cmdStatus { s with bog := b } 0 n =
      { s with bog := { s.bog with regions := b.regions }, sts := (State.cmdStatus { s with bog := b } 0 n).sts } :=
  congrArg (fun c : BogState => { s with bog := c, sts := (State.cmdStatus { s with bog := b } 0 n).sts }) h

theorem setRegion_withRegions (b : BogState) (n : Nat) (r : RegionRec) : b.setRegion n r = { b with regions := (b.setRegion n r).regions } := rfl

end Sys2Proof.Machine

open Sys2Proof Sys2Proof.Machine

/-- Settles O45: ARM by the two refusals and what `armFired` leaves, TRIGGER by what one trigger makes of the region's record, STOP by `regHalt`. -/
theorem captureCommands : Obligations.CaptureCommands := by
  unfold Obligations.CaptureCommands
  intro s n hup x shows others kept fires header
  have harm : bogArm n s = (s.armRegion n).1 := ifUp_of_regsUp _ hup
  have htrig : bogTrigger n s = { s with bog := fireRegion s s.bog n s.now }.cmdStatus 0 n := ifUp_of_regsUp _ hup
  have hstop : bogStop n s = (s.regHalt n).cmdStatus 0 n := ifUp_of_regsUp _ hup
  have hclear : bogClear n s =
      { s with bog := s.bog.setRegion n { corr := x.corr, uncorr := x.uncorr } }.cmdStatus 0 n := ifUp_of_regsUp _ hup
  have hfired : ∀ b : BogState, b = { s.bog with regions := b.regions } → (∀ m, m ≠ n.val → b.region m = s.bog.region m) →
      shows 0 (State.cmdStatus { s with bog := b } 0 n) ∧ others (State.cmdStatus { s with bog := b } 0 n) ∧
        kept (State.cmdStatus { s with bog := b } 0 n) := fun b hb hothers => ⟨cmdStatus_shows s b n n.isLt, hothers, cmdStatus_kept s n hb⟩
  have htold := hfired _ (fireRegion_withRegions s s.bog n s.now) fun m hm => fireRegion_region_ne s s.bog s.now hm
  obtain ⟨hshows, hothers, hkept⟩ := htold
  refine ⟨fun hactive => ⟨_, rfl, ?_⟩, fun hidle hlayout => ⟨_, rfl, ?_⟩, fun hidle hlayout => ⟨_, rfl, ?_⟩, fun hready hrule => ⟨_, rfl, ?_⟩,
    fun harmed hfull honce => ⟨_, rfl, ?_⟩, fun hst honce => ⟨_, rfl, ?_⟩, fun hidle => ⟨⟨_, rfl, ?_⟩, ⟨_, rfl, ?_⟩⟩,
    fun hactive hwr => ⟨_, rfl, ?_⟩, ⟨_, rfl, ?_⟩⟩
  · have heq : bogArm n s = (s.cmdStatus 2 n).raise 19 19 := harm.trans (congrArg Prod.fst (if_pos hactive))
    obtain ⟨hst, hne, hcounts, honly⟩ := cmdStatus_raise s 2 n (by decide) n.isLt
    rw [heq]
    exact ⟨⟨hst, hne⟩, hcounts, honly⟩
  · have heq : bogArm n s = (s.cmdStatus 1 n).raise 19 19 :=
      harm.trans (congrArg Prod.fst ((if_neg (by simp [show (s.bog.region n).active = false from hidle])).trans (if_pos (by simp [hlayout]))))
    obtain ⟨hst, hne, hcounts, honly⟩ := cmdStatus_raise s 1 n (by decide) n.isLt
    rw [heq]
    exact ⟨⟨hst, hne⟩, hcounts, honly⟩
  · rw [harm.trans (armRegion_of_layout hidle hlayout)]
    refine ⟨cmdStatus_shows s _ n n.isLt, fun m hm => armFired_region_ne s hm, ?_, fun hk => ?_, fun hk hfull => ?_, fun g i hg hi => ?_, fun a ha => ?_⟩
    · exact congrArg (fun b : BogState => { s with bog := b, sts := (State.cmdStatus { s with bog := s.armFired n } 0 n).sts })
        (armFired_withData s n)
    · have hb : s.armFired n = s.armedBog n := if_neg hk
      exact (congrArg (fun b : BogState => b.region n) hb).trans (BogState.region_setRegion_same ..)
    · have hb : s.armFired n = fireRegion { s with bog := s.armedBog n } (s.armedBog n) n s.now := if_pos hk
      have hst : ((s.armedBog n).region n).st = 1 := by rw [State.armedBog, BogState.region_setRegion_same]
      have hfires := fireRegion_fires (s := { s with bog := s.armedBog n }) s.now (.inl hst) (.inl hfull)
      rw [← hb] at hfires
      exact hfires
    · exact (armFired_byte s n _).trans (if_pos ⟨g, List.mem_range.mpr hg, Nat.le_add_right _ _, Nat.add_lt_add_left hi _⟩)
    · refine (armFired_byte s n a).trans (if_neg ?_)
      rintro ⟨g, hg, hlo, hhi⟩
      rcases ha g (List.mem_range.mp hg) with h | h
      · exact absurd hlo (Nat.not_le.mpr h)
      · exact absurd hhi (Nat.not_lt.mpr h)
  · rw [htrig]
    exact ⟨hshows, hothers, hkept, fireRegion_fires s.now hready hrule⟩
  · rw [htrig]
    refine ⟨hshows, hothers, hkept, (fireRegion_of_ready s.now (.inl harmed)).imp id fun ⟨_, _, h⟩ => ?_⟩
    exact (congrArg (fun b : BogState => b.region n) h).trans (BogState.region_setRegion_same ..)
  · rw [htrig]
    refine ⟨hshows, hothers, hkept, ?_⟩
    exact (congrArg (fun b : BogState => b.region n) (fireRegion_of_once s.now hst honce)).trans (BogState.region_setRegion_same ..)
  · rw [htrig]
    exact ⟨hshows, hkept, fireRegion_of_inactive s.now hidle⟩
  · have hhalt : s.regHalt n = s := if_neg (by simp [show (s.bog.region n).active = false from hidle])
    rw [hstop, hhalt]
    exact ⟨cmdStatus_shows s s.bog n n.isLt, rfl, rfl⟩
  · obtain ⟨hst, hbytes⟩ := regHalt_inside hactive hwr
    have hstill := regHalt_still s n
    rw [hstop]
    refine ⟨hst, (st_setSt_same _ _ _).trans ?_, congrArg Still.cfg hstill, congrArg Still.now hstill, hbytes⟩
    have := n.isLt
    omega
  · rw [hclear]
    obtain ⟨hshows, hothers, hkept⟩ := hfired _ (setRegion_withRegions s.bog n { corr := x.corr, uncorr := x.uncorr })
      fun m hm => BogState.region_setRegion_ne _ _ hm
    exact ⟨hshows, hothers, hkept, BogState.region_setRegion_same ..⟩
end

section
/-! SUPPORT. What requests and returns leave of a region at rest, the end of a segment and of a region (R291, R292), and the scrub (R283, R284). -/

namespace Sys2Proof.Machine

/-! ### What a request leaves of the Bog -/

theorem echoHold_bog (s : State) (d : Dir) : (s.echoHold d).bog = s.bog :=
  foldl_keeps State.bog _ _ (fun x m => setEcho_bog x d m _) s

theorem echoGoOn_bog (s : State) (d : Dir) : (s.echoGoOn d).bog = s.bog :=
  foldl_keeps State.bog _ _ (fun x m => setEcho_bog x d m _) s

theorem echoSave_bog (s : State) : s.echoSave.bog = s.bog := rfl

theorem lawStatus_bog (s : State) (code j f : Nat) : (s.lawStatus code j f).bog = s.bog := rfl

theorem pendingDone_bog (s : State) (j code : Nat) : (s.pendingDone j code).bog = s.bog := by
  unfold State.pendingDone
  dsimp only
  split <;> rfl

theorem reqEnd_bog (s : State) (no tag status : Nat) : (s.reqEnd no tag status).bog = s.bog := by rw [reqEnd_eq]

theorem dbOutcome_bog (s : State) (db : Option Nat) (result code : Nat) : (s.dbOutcome db result code).bog = s.bog := by
  cases db <;> rfl

theorem holdReq_bog (s : State) (q : Req) (w : Wait) : (s.holdReq q w).bog = s.bog :=
  (dbOutcome_bog _ _ 4 0).trans (reqEnd_bog s q.no q.tag 1)

theorem abandonTrans_bog (s : State) (d : Dir) : (s.abandonTrans d).bog = s.bog := by
  unfold State.abandonTrans
  split
  · rfl
  · dsimp only
    split
    · rw [setDir_bog]
    · split <;> simp only [dbOutcome_bog, reqEnd_bog, setDir_bog]

theorem overtakeReturns_bog (s : State) (ds : List Dir) : (s.overtakeReturns ds).bog = s.bog := by
  refine foldl_keeps State.bog _ _ (fun x d => ?_) s
  split
  · split
    · exact abandonTrans_bog x d
    · rfl
  · rfl

section
variable {P : BogState → Prop} (hP : BogClosed P)
include hP

theorem raiseIf_stays {s : State} (c : Bool) (b src : Nat) (u : Option Nat) (h : P s.bog) : P (s.raiseIf c b src u).bog := by
  cases c
  · exact h
  · exact raise_stays hP b src u h

theorem patStop_stays {s : State} (d : Dir) (h : P s.bog) : P (s.patStop d).bog := by
  unfold State.patStop
  split
  · exact h
  · exact signal_stays hP (s := { s.setPlaying d none with pcie := _ }) _ (hP.stop s d h)

theorem patEnd_stays {s : State} (d : Dir) (h : P s.bog) : P (s.patEnd d).bog := by
  unfold State.patEnd
  split
  · exact patStop_stays hP d (by rwa [setDir_bog])
  · exact patStop_stays hP d h

theorem lawsStart_stays {s : State} (d : Dir) (h : P s.bog) : P (s.lawsStart d).bog := by
  have hraise : ∀ {x : State}, P x.bog → P (x.raise 17 15).bog := fun hx => raise_stays hP 17 15 none hx
  refine foldl_stays (fun x : State => P x.bog) _ _ (fun x k hx => ?_) h
  dsimp only at hx ⊢
  have hone : ∀ j (y : State), P y.bog → P (if (y.loop.law j).isOpen then
      if (y.loop.law j).inverted j then
        (({ y with loop := y.loop.setLaw j { y.loop.law j with capHeld := true, pendClose := false } } : State).pendingDone j 7).raise 17 15
      else ({ y with loop := y.loop.setLaw j ((y.loop.law j).closeNow j) } : State).pendingDone j 0 else y).bog := fun j y hy => by
    split
    · split
      · exact hraise (by rwa [pendingDone_bog])
      · rwa [pendingDone_bog]
    · exact hy
  refine hone _ _ ?_
  split
  · exact hraise (by rwa [lawStatus_bog])
  · exact hx

theorem beginTrans_stays {s : State} (d : Dir) (t : Trans) (h : P s.bog) : P (s.beginTrans d t).bog := by
  have hlaws : P (if t.toAir s && !s.onAir d then s.lawsStart d else s).bog := by
    split
    · exact lawsStart_stays hP d h
    · exact h
  unfold State.beginTrans
  dsimp only
  rw [setDir_bog]
  generalize (if t.toAir s && !s.onAir d then s.lawsStart d else s) = x at *
  have hend : P (if x.dirSt d = .playback && t.target != .playback then x.patEnd d else x).bog := by
    split
    · exact patEnd_stays hP d hlaws
    · exact hlaws
  generalize (if x.dirSt d = .playback && t.target != .playback then x.patEnd d else x) = y at *
  split
  · rwa [echoHold_bog]
  · exact hend

theorem enterStandby_stays {s : State} (d : Dir) (cause : Nat) (h : P s.bog) : P (s.enterStandby d cause).bog := by
  unfold State.enterStandby
  split
  · rwa [setDir_bog]
  · split
    · split
      · exact h
      · rwa [setDir_bog]
    · split
      · exact h
      · exact beginTrans_stays hP d _ h

theorem fallBack_stays {s : State} (d : Dir) (cause : Nat) (h : P s.bog) : P (s.fallBack d cause).bog := by
  unfold State.fallBack
  split
  · rwa [setDir_bog]
  · exact enterStandby_stays hP d cause h

theorem refuse_stays {s : State} (q : Req) (code src : Nat) (h : P s.bog) : P (s.refuse q code src).bog := by
  have hback : ∀ (c : Nat) (ds : List Dir) {x : State}, P x.bog → P (ds.foldl (fun s d => s.fallBack d c) x).bog := fun c ds x hx =>
    foldl_stays (fun x : State => P x.bog) ds _ (fun x d hx => fallBack_stays hP d c hx) hx
  unfold State.refuse
  dsimp only
  have hshown : P ((((s.setSt Reg.SYS_REFUSE_CODE (code + 65536 * q.tag)).reqEnd q.no q.tag 3).dbOutcome q.doorbell 5 code).raiseIf
      q.doorbell.isSome 5 8).bog := raiseIf_stays hP _ 5 8 none (by rwa [dbOutcome_bog, reqEnd_bog, setSt_bog])
  have hcounted := raise_stays hP 0 src none hshown
  split
  · exact hback 3 _ (raise_stays hP 0 7 none hcounted)
  · split
    · exact hback 5 _ (raise_stays hP 0 9 none hcounted)
    · exact hcounted

theorem startDir_stays {s : State} (q : Req) (d : Dir) (h : P s.bog) : P (s.startDir q d).bog := by
  have hgo : ∀ t, P (s.beginTrans d t).bog := fun t => beginTrans_stays hP d t h
  have hresume : P (((s.patStop d).echoGoOn d).setDir d { ((s.patStop d).echoGoOn d).dirRec d with st := .full }).bog := by
    rw [setDir_bog, echoGoOn_bog]
    exact patStop_stays hP d h
  have hcautious : P (if s.dirSt d = .cautious ∨ s.dirSt d = .full ∨ s.dirSt d = .muted then s
      else if q.tag = 0xFD ∧ s.resumesFull d then
        (((s.patStop d).echoGoOn d).setDir d { ((s.patStop d).echoGoOn d).dirRec d with st := .full }).record 7 4 d.bit q.cause
      else s.beginTrans d { target := .cautious, cause := q.cause, no := q.no, tag := q.tag, pattern := none, doorbell := q.doorbell }).bog := by
    split
    · exact h
    · split
      · exact hresume
      · exact hgo _
  unfold State.startDir
  dsimp only
  split
  · exact hcautious
  · exact hcautious
  · split
    · exact h
    · exact hgo _
  · split
    · exact h
    · exact hgo _
  · exact hgo _
  · exact h

theorem sleepStart_stays {s : State} (cause no tag : Nat) (h : P s.bog) : P (s.sleepStart cause no tag).bog := by
  unfold State.sleepStart
  simp only [mramWrite_bog, echoSave_bog]
  exact raiseEvs_stays hP _ (raiseEvs_stays hP (s := { s with peat := _, mram := _ }) _ h)

theorem trySleep_stays {s : State} (h : P s.bog) : P s.trySleep.bog := by
  unfold State.trySleep
  split
  · exact h
  · split
    · exact sleepStart_stays hP _ _ _ h
    · exact h

theorem startReq_stays {s : State} (q : Req) (h : P s.bog) : P (s.startReq q).bog := by
  unfold State.startReq
  split
  · refine trySleep_stays hP (foldl_stays (fun x : State => P x.bog) dirs _ (fun x d hx => enterStandby_stays hP d q.cause hx) ?_)
    exact (reqEnd_bog s q.no q.tag 1).symm ▸ h
  · have hstart : P ((s.reqDirs q).foldl (fun s d => s.startDir q d) s).bog :=
      foldl_stays (fun x : State => P x.bog) _ _ (fun x d hx => startDir_stays hP q d hx) h
    dsimp only
    split <;> rwa [dbOutcome_bog, reqEnd_bog]

theorem handle_stays {s : State} (q : Req) (h : P s.bog) : P (s.handle q).bog := by
  have hover : P (if q.cause = 0 ∨ q.cause = 1 then s.overtakeReturns (s.reqDirs q) else s).bog := by
    split
    · rwa [overtakeReturns_bog]
    · exact h
  unfold State.handle
  dsimp only
  generalize (if q.cause = 0 ∨ q.cause = 1 then s.overtakeReturns (s.reqDirs q) else s) = x at *
  split
  · exact refuse_stays hP q _ _ h
  · split
    · split
      · rwa [holdReq_bog]
      · exact refuse_stays hP q _ _ h
    · split
      · rwa [holdReq_bog]
      · split
        · rwa [holdReq_bog]
        · split
          · exact refuse_stays hP q _ _ hover
          · split
            · exact startReq_stays hP q hover
            · split
              · rwa [holdReq_bog]
              · split
                · rwa [holdReq_bog]
                · exact startReq_stays hP q hover

theorem supersede_stays {s : State} (p : Req) (h : P s.bog) : P (s.supersede p).bog := by
  refine raise_stays hP 0 1 none ?_
  rwa [dbOutcome_bog]

theorem supersedeAll_stays {s : State} (h : P s.bog) : P s.supersedeAll.bog := by
  have hone : P (match s.sys.pendingReq with
      | some (p, _) => ({ s with sys := { s.sys with pendingReq := none, behind := none } } : State).supersede p
      | none => { s with sys := { s.sys with pendingReq := none, behind := none } }).bog := by
    split
    · exact supersede_stays hP _ h
    · exact h
  unfold State.supersedeAll
  dsimp only
  split
  · exact supersede_stays hP _ hone
  · exact hone

theorem request_stays {s : State} (q : Req) (h : P s.bog) : P (s.request q).bog := by
  unfold State.request
  dsimp only
  split
  · exact h
  · split
    · exact handle_stays hP _ h
    · split
      · exact h
      · split
        · exact refuse_stays hP _ _ 0 h
        · exact handle_stays hP _ (supersedeAll_stays hP (s := { s with sys := _ }) h)

theorem captureReturn_stays {s : State} (rule : Nat) (h : P s.bog) : P (s.captureReturn rule).bog := by
  have hreturns : ∀ (t : Target) (l : List Dir), P (l.foldl (fun s d => s.autoReturn d t 3) s).bog :=
    fun t l => foldl_stays (fun x : State => P x.bog) l _ (fun x d hx => request_stays hP _ hx) h
  unfold State.captureReturn
  dsimp only
  split
  · exact h
  · split
    · exact hreturns _ _
    · exact request_stays hP _ (hreturns _ _)

end

theorem captureReturn_base (s : State) (rule : Nat) : (s.captureReturn rule).base = s.base := by
  have hreturns : ∀ (t : Target) (l : List Dir) (x : State), (l.foldl (fun s d => s.autoReturn d t 3) x).base = x.base :=
    fun t l x => foldl_keeps State.base _ _ (fun x d => request_base x _) x
  unfold State.captureReturn
  dsimp only
  split
  · rfl
  · split <;> simp only [request_base, hreturns]

/-! ### The end of a segment and of a region (R291, R292) -/

/-- The last bytes of a stream fill the data area from the region's position on; of the record they leave the segment and the counts. -/
theorem regFill_eq (s : State) (n k : Nat) : s.regFill n k = s ∨ ∃ r stamp, r.seg = (s.bog.region n).seg ∧ r.corr = (s.bog.region n).corr ∧
    r.uncorr = (s.bog.region n).uncorr ∧ s.regFill n k =
      { s with bog := (s.bog.fill (s.dataStart n (s.bog.region n).seg) (s.dataBytes n) (s.bog.region n).wr k stamp).setRegion n r } := by
  unfold State.regFill
  dsimp only
  split
  · exact .inl rfl
  · refine .inr ⟨_, _, ?_, ?_, ?_, rfl⟩ <;> rfl

/-- What the end of a segment writes: its last bytes and its header. -/
def State.segFill (s : State) (n : Nat) : State := (s.regFill n (s.regLeft n)).regHeader n

theorem regFill_frame (s : State) (n k : Nat) : s.regFill n k = { s with bog := (s.regFill n k).bog } := by
  rcases regFill_eq s n k with h | ⟨r, stamp, -, -, -, h⟩
  · rw [h]
  · rw [h]

theorem segFill_frame (s : State) (n : Nat) : s.segFill n = { s with bog := (s.segFill n).bog, free := (s.segFill n).free } := by
  obtain ⟨v, k, -, h⟩ := regHeader_eq (s.regFill n (s.regLeft n)) n
  unfold State.segFill
  rw [h, regFill_frame]

theorem segFill_region (s : State) (n : Nat) : ((s.segFill n).bog.region n).seg = (s.bog.region n).seg ∧
    ((s.segFill n).bog.region n).corr = (s.bog.region n).corr ∧ ((s.segFill n).bog.region n).uncorr = (s.bog.region n).uncorr ∧
    ∀ m, m ≠ n → (s.segFill n).bog.region m = s.bog.region m := by
  have hheader : ∀ m, (s.segFill n).bog.region m = (s.regFill n (s.regLeft n)).bog.region m := region_of_regions (regHeader_regions _ n)
  simp only [hheader]
  rcases regFill_eq s n (s.regLeft n) with h | ⟨r, stamp, hseg, hcorr, huncorr, h⟩
  · rw [h]
    exact ⟨rfl, rfl, rfl, fun _ _ => rfl⟩
  · rw [h]
    refine ⟨?_, ?_, ?_, fun m hm => ?_⟩
    · rw [BogState.region_setRegion_same, hseg]
    · rw [BogState.region_setRegion_same, hcorr]
    · rw [BogState.region_setRegion_same, huncorr]
    · exact (BogState.region_setRegion_ne _ _ hm).trans (region_of_regions (BogState.fill_regions ..) m)

theorem segFill_inside {s : State} {n a : Nat} (hwr : (s.bog.region n).wr ≤ s.dataBytes n) (ha : s.offSegment n (s.bog.region n).seg a) :
    (s.segFill n).bog.byte a = s.bog.byte a := by
  have hfill : ((s.regFill n (s.regLeft n)).bog.region n).seg = (s.bog.region n).seg ∧
      (s.regFill n (s.regLeft n)).bog.byte a = s.bog.byte a := by
    rcases regFill_eq s n (s.regLeft n) with h | ⟨r, stamp, hseg, -, -, h⟩
    · rw [h]
      exact ⟨rfl, rfl⟩
    · rw [h]
      exact ⟨by rw [BogState.region_setRegion_same, hseg],
        (byte_setRegion ..).trans (BogState.byte_fill_out s.bog _ stamp a hwr (offSegment_cases ha).1)⟩
  obtain ⟨hseg, hbyte⟩ := hfill
  have hcfg : (s.regFill n (s.regLeft n)).cfg = s.cfg := by rw [regFill_frame]
  refine (regHeader_inside _ n a ?_).trans hbyte
  rw [hseg]
  exact (offSegment_of_cfg hcfg n _ a).mpr ha

/-- The next segment of a segmented region, armed and empty, from the record of the one that is full (R291). -/
def RegionRec.nextSegment (r : RegionRec) : RegionRec :=
  { st := 1, seg := r.seg + 1, upTo := r.upTo, lostSamples := r.lostSamples, paused := r.paused, corr := r.corr, uncorr := r.uncorr }

/-- Region n with its next segment armed. -/
def State.segNext (s : State) (n : Nat) : State :=
  { s.segFill n with bog := (s.segFill n).bog.setRegion n ((s.segFill n).bog.region n).nextSegment }

theorem segmentEnd_of_more {s : State} {n : Fin 8} (hup : s.regsUp = true)
    (h : s.regStop n = 3 ∧ (s.bog.region n).st = 2 ∧ (s.bog.region n).seg + 1 < s.regSegs n) : segmentEnd n s = s.segNext n :=
  (ifUp_of_regsUp _ hup).trans (if_pos h)

theorem segNext_region (s : State) (n : Nat) : (s.segNext n).bog.region n = ((s.segFill n).bog.region n).nextSegment :=
  BogState.region_setRegion_same ..

theorem segNext_inside {s : State} {n a : Nat} (hwr : (s.bog.region n).wr ≤ s.dataBytes n) (ha : s.offSegment n (s.bog.region n).seg a) :
    (s.segNext n).bog.byte a = s.bog.byte a := (byte_setRegion ..).trans (segFill_inside (s := s) hwr ha)

theorem segNext_frame (s : State) (n : Nat) : s.segNext n = { s with bog := (s.segNext n).bog, free := (s.segNext n).free } :=
  congrArg (fun x : State => { x with bog := (s.segNext n).bog }) (segFill_frame s n)

/-- Region n as its rule ends it, before its completion is signalled. -/
def State.regEnded (s : State) (n : Nat) : State :=
  { s.segFill n with bog := (s.segFill n).bog.setRegion n { (s.segFill n).bog.region n with st := 3 } }

theorem regEnded_inside {s : State} {n a : Nat} (hwr : (s.bog.region n).wr ≤ s.dataBytes n) (ha : s.offSegment n (s.bog.region n).seg a) :
    (s.regEnded n).bog.byte a = s.bog.byte a := (byte_setRegion ..).trans (segFill_inside (s := s) hwr ha)

theorem regionEnd_of_mayEnd {s : State} {n : Fin 8} (hup : s.regsUp = true) (h : s.mayEnd n = true) :
    regionEnd n s = ((s.regEnded n).regionDone n).captureReturn (s.rd (Reg.BOG_REG_RULE n)) := (ifUp_of_regsUp _ hup).trans (if_pos h)

theorem regionEnd_rest {s : State} {n : Fin 8} (hup : s.regsUp = true) (h : s.mayEnd n = true) :
    (regionEnd n s).bog.rest n = (s.regEnded n).bog.rest n := by
  rw [regionEnd_of_mayEnd hup h]
  exact captureReturn_stays (rest_stays n _) _ (regionDone_rest _ n n)

theorem segFill_base (s : State) (n : Nat) : (s.segFill n).base = s.base := by rw [segFill_frame]; rfl

theorem regionEnd_base {s : State} {n : Fin 8} (hup : s.regsUp = true) (h : s.mayEnd n = true) : (regionEnd n s).base = s.base := by
  rw [regionEnd_of_mayEnd hup h, captureReturn_base, base_of_still (regionDone_still _ _)]
  exact (base_bog _ _).trans (segFill_base s n)

/-! ### The scrub (R283, R284) -/

theorem setPat_byte (b : BogState) (p : Nat) (r : PatRec) (a : Nat) : (b.setPat p r).byte a = b.byte a := rfl

theorem cwCount_byte (s : State) (cw : Nat) (ue : Bool) (a : Nat) : (s.cwCount cw ue).bog.byte a = s.bog.byte a := by
  unfold State.cwCount
  dsimp only
  refine (foldl_keeps (fun b : BogState => b.byte a) _ _ (fun b p => ?_) _).trans
    (foldl_keeps (fun b : BogState => b.byte a) _ _ (fun b m => ?_) _)
  · split <;> rfl
  · split <;> rfl

theorem raise_byte (s : State) (b src : Nat) (u : Option Nat) (a : Nat) : (s.raise b src u).bog.byte a = s.bog.byte a :=
  byte_of_rest (raise_rest s b src u 0) a

theorem cwFixed_byte (s : State) (cw a : Nat) : (s.cwFixed cw).bog.byte a = s.bog.byte a := cwCount_byte s cw false a

theorem cwUe_byte (s : State) (cw a : Nat) : (s.cwUe cw).bog.byte a = s.bog.byte a := (raise_byte _ _ _ _ a).trans (cwCount_byte s cw true a)

theorem cwFixed_base (s : State) (cw : Nat) : (s.cwFixed cw).base = s.base := bump_base (s.cwCount cw false) _ 1

theorem cwUe_base (s : State) (cw : Nat) : (s.cwUe cw).base = s.base :=
  (raise_base _ _ _ _).trans ((setSt_base _ _ _).trans (bump_base (s.cwCount cw true) _ 1))

theorem cwFixed_st (s : State) (cw a : Nat) : (s.cwFixed cw).st a = ((s.bump Reg.BOG_CORR_TOTAL 1).st a) := rfl

theorem cwUe_st (s : State) (cw a : Nat) (h : a ≠ Reg.BOG_LAST_UE) : (s.cwUe cw).st a = (s.bump Reg.BOG_UNCORR_TOTAL 1).st a := by
  have hlost : (s.cwLost cw).st a = ((s.cwCount cw true).bump Reg.BOG_UNCORR_TOTAL 1).st a := st_setSt_ne _ cw h
  exact (st_of_sts (raise_sts _ _ _ _) a).trans hlost

/-- A fold in which every step counts one advances the count by its length. -/
theorem foldl_count {α : Type} (f : State → α → State) (a : Nat) (h : ∀ s e, (f s e).st a = (s.bump a 1).st a) (l : List α) (s : State) :
    (l.foldl f s).st a = satAdd (2 ^ 32 - 1) (s.st a) l.length := by
  induction l generalizing s with
  | nil => exact (satAdd_zero_of_le (Nat.le_sub_one_of_lt (st_lt s a))).symm
  | cons e l ih => rw [List.foldl_cons, ih, h, st_bump_same, satAdd_satAdd, List.length_cons, Nat.add_comm 1]

/-- The codewords that a pass of the scrub corrects. -/
def State.scrubFixes (s : State) (l : List (Nat × Nat)) : State := l.foldl (fun s e => s.cwFixed e.2) s

/-- The codewords that a pass of the scrub finds lost. -/
def State.scrubLoses (s : State) (l : List Nat) : State := l.foldl (fun s c => s.cwUe c) s

/-- The codewords of a pass that lie in the store (R283). -/
def corrected (f : ScrubIn) : List (Nat × Nat) := f.corr.filter (fun e => decide (e.2 < 2 ^ 29))

/-- The codewords that a pass of the scrub finds in error. -/
def State.scrubFinds (s : State) (f : ScrubIn) : State := (s.scrubFixes (corrected f)).scrubLoses (codewords f.ue)

/-- What a pass counts of the sources (R283, R284). -/
def State.scrubCounts (s : State) (f : ScrubIn) : State :=
  let x := s.scrubFinds f
  (x.raiseEvs (List.replicate ((List.range 8).map (x.corrOver (corrected f))).sum
    { blk := 19, src := 16 })).raiseIf (x.scrubPeriod < f.seconds) 19 21

theorem scrubPass_of_on {s : State} (f : ScrubIn) (hup : s.isUp = true) (hon : bitAt (s.rd Reg.BOG_SCRUB_CFG) 16 = true)
    (hready : s.bog.ready = true) : scrubPass f s =
      ((s.scrubCounts f).bumpF Reg.BOG_SCRUB_STAT 0 16 1).setStF Reg.BOG_SCRUB_STAT 16 16 (min f.seconds 65535) := by
  unfold scrubPass
  rw [if_neg (by simp [hup, hon, hready])]
  rfl

theorem scrubCounts_keeps {β : Type} (p : State → β) (hevs : ∀ s es, p (s.raiseEvs es) = p s) (s : State) (f : ScrubIn) :
    p (s.scrubCounts f) = p (s.scrubFinds f) := by
  unfold State.scrubCounts State.raiseIf State.raise
  dsimp only
  split <;> simp only [hevs]

theorem scrubFinds_keeps {β : Type} (p : State → β) (hfixed : ∀ s cw, p (s.cwFixed cw) = p s) (hue : ∀ s cw, p (s.cwUe cw) = p s)
    (s : State) (f : ScrubIn) : p (s.scrubFinds f) = p s :=
  (foldl_keeps p (codewords f.ue) _ hue (s.scrubFixes (corrected f))).trans (foldl_keeps p (corrected f) _ (fun s e => hfixed s e.2) s)

theorem length_corrected (f : ScrubIn) : (corrected f).length = (codewords (f.corr.map (·.2))).length := by
  rw [codewords, List.filter_map, List.length_map]
  rfl

theorem scrubFinds_corr (s : State) (f : ScrubIn) : (s.scrubFinds f).st Reg.BOG_CORR_TOTAL =
    satAdd (2 ^ 32 - 1) (s.st Reg.BOG_CORR_TOTAL) (codewords (f.corr.map (·.2))).length := by
  have hloses : (s.scrubFinds f).st Reg.BOG_CORR_TOTAL = (s.scrubFixes (corrected f)).st Reg.BOG_CORR_TOTAL :=
    foldl_keeps (fun s : State => s.st Reg.BOG_CORR_TOTAL) (codewords f.ue) (fun s c => s.cwUe c)
      (fun s c => (cwUe_st s c _ (by decide)).trans (st_bump_ne s 1 (by decide))) (s.scrubFixes (corrected f))
  rw [hloses, ← length_corrected]
  exact foldl_count (fun s (e : Nat × Nat) => s.cwFixed e.2) _ (fun s e => cwFixed_st s e.2 _) (corrected f) s

theorem scrubFinds_uncorr (s : State) (f : ScrubIn) : (s.scrubFinds f).st Reg.BOG_UNCORR_TOTAL =
    satAdd (2 ^ 32 - 1) (s.st Reg.BOG_UNCORR_TOTAL) (codewords f.ue).length := by
  have hfixes : (s.scrubFixes (corrected f)).st Reg.BOG_UNCORR_TOTAL = s.st Reg.BOG_UNCORR_TOTAL :=
    foldl_keeps (fun s : State => s.st Reg.BOG_UNCORR_TOTAL) (corrected f) (fun s e => s.cwFixed e.2)
      (fun s e => (cwFixed_st s e.2 _).trans (st_bump_ne s 1 (by decide))) s
  rw [← hfixes]
  exact foldl_count (fun s c => s.cwUe c) _ (fun s c => cwUe_st s c _ (by decide)) (codewords f.ue) (s.scrubFixes (corrected f))

theorem scrubFinds_stat (s : State) (f : ScrubIn) : (s.scrubFinds f).st Reg.BOG_SCRUB_STAT = s.st Reg.BOG_SCRUB_STAT :=
  scrubFinds_keeps (fun s => s.st Reg.BOG_SCRUB_STAT) (fun s cw => (cwFixed_st s cw _).trans (st_bump_ne s 1 (by decide)))
    (fun s cw => (cwUe_st s cw _ (by decide)).trans (st_bump_ne s 1 (by decide))) s f

end Sys2Proof.Machine

open Sys2Proof Sys2Proof.Machine

/-- Settles O46: the end of a segment and of a region by `segFill`, which writes in the segment only; the scrub by what its folds count. -/
theorem regionsAndScrub : Obligations.RegionsAndScrub := by
  unfold Obligations.RegionsAndScrub
  intro s n hup x inside more
  refine ⟨fun hmore hwr => ⟨_, rfl, ?_⟩, fun hmore => ⟨_, rfl, ?_⟩, fun hmay hwr => ⟨_, rfl, ?_⟩, fun hmay => ⟨_, rfl, ?_⟩, ?_⟩
  · obtain ⟨hseg, hcorr, huncorr, hothers⟩ := segFill_region s n
    rw [segmentEnd_of_more hup hmore]
    simp only [segNext_region]
    refine ⟨rfl, congrArg (· + 1) hseg, rfl, hcorr, huncorr, fun a ha => segNext_inside hwr ha, fun m hm => ?_, segNext_frame s n⟩
    exact (BogState.region_setRegion_ne _ _ hm).trans (hothers m hm)
  · exact (ifUp_of_regsUp _ hup).trans (if_neg hmore)
  · have hrest := regionEnd_rest hup hmay
    have hbase := regionEnd_base hup hmay
    have hst : ((s.regEnded n).bog.region n).st = 3 := congrArg RegionRec.st (BogState.region_setRegion_same ..)
    have hregion := region_of_rest hrest (RegionRec.active_eq_false.mpr (by rw [hst]; decide))
    refine ⟨(congrArg RegionRec.st hregion).trans hst, fun a ha => (byte_of_rest hrest a).trans (regEnded_inside hwr ha), ?_, ?_, ?_⟩
    · exact power_of_base hbase
    · exact cfg_of_base hbase
    · exact now_of_base hbase
  · exact (ifUp_of_regsUp _ hup).trans (if_neg (by simp [hmay]))
  intro f on
  refine ⟨fun hon => ⟨_, rfl, ?_⟩, fun hon => ⟨_, rfl, ?_⟩⟩
  · obtain ⟨hisUp, hen, hready⟩ := hon
    have hbase : (s.scrubCounts f).base = s.base := (scrubCounts_keeps State.base (fun _ _ => rfl) s f).trans
      (scrubFinds_keeps State.base cwFixed_base cwUe_base s f)
    have hst : ∀ a, (s.scrubCounts f).st a = (s.scrubFinds f).st a := fun a => scrubCounts_keeps (fun s => s.st a) (fun _ _ => rfl) s f
    rw [scrubPass_of_on f hisUp hen hready]
    generalize hx : s.scrubCounts f = x at *
    have hne : ∀ {a}, a ≠ Reg.BOG_SCRUB_STAT →
        ((x.bumpF Reg.BOG_SCRUB_STAT 0 16 1).setStF Reg.BOG_SCRUB_STAT 16 16 (min f.seconds 65535)).st a = (s.scrubFinds f).st a :=
      fun ha => (st_setStF_ne _ _ _ _ ha).trans ((st_bumpF_ne _ _ _ _ ha).trans (hst _))
    refine ⟨?_, ?_, (hne (by decide)).trans (scrubFinds_corr s f), (hne (by decide)).trans (scrubFinds_uncorr s f), fun a => ?_,
      cfg_of_base hbase, now_of_base hbase⟩
    · rw [stF_setStF_disjoint _ _ _ (by decide) (by decide), stF_bumpF_same _ _ _ (by decide),
        stF_of_st ((hst _).trans (scrubFinds_stat s f))]
      rfl
    · rw [stF_setStF_same _ _ _ (by decide)]
      exact Nat.mod_eq_of_lt (by omega)
    · have hbyte : x.bog.byte a = s.bog.byte a := hx ▸ (scrubCounts_keeps (fun s => s.bog.byte a)
        (fun s es => byte_of_rest (raiseEvs_rest s es 0) a) s f).trans
          (scrubFinds_keeps (fun s => s.bog.byte a) (fun s cw => cwFixed_byte s cw a) (fun s cw => cwUe_byte s cw a) s f)
      exact hbyte
  · refine if_pos ?_
    have hon : ¬(s.isUp = true ∧ bitAt (s.rd Reg.BOG_SCRUB_CFG) 16 = true ∧ s.bog.ready = true) := hon
    simp only [Bool.or_eq_true, Bool.not_eq_true', ← Bool.not_eq_true]
    tauto
end

section
/-! SUPPORT. Patterns: their end, their length and their placement (R296, R299), and the writes of the Bog's registers (R294, R308). -/

namespace Sys2Proof.Machine

/-! ### The end of a pattern (R299) -/

/-- The Bog but for its regions' records: no event and no completion changes it. -/
def BogState.offRegions (b : BogState) : BogState := { b with regions := [] }

theorem raise_offRegions (s : State) (b n : Nat) (u : Option Nat) : (s.raise b n u).bog.offRegions = s.bog.offRegions :=
  congrArg Prod.fst (raiseEvs_fixed s _)

theorem signal_offRegions (s : State) (v : Nat) : (s.signal v).bog.offRegions = s.bog.offRegions := by
  unfold State.signal
  split
  · rfl
  · split
    · exact raise_offRegions _ 5 10 none
    · split
      · exact raise_offRegions _ 5 10 none
      · split <;> rfl

theorem playing_of_offRegions {s t : State} (h : t.bog.offRegions = s.bog.offRegions) (d : Dir) : t.playing d = s.playing d := by
  cases d
  · exact (congrArg BogState.pbDl h :)
  · exact (congrArg BogState.pbUl h :)

theorem playing_setPlaying (s : State) (d : Dir) (p : Option Playing) : (s.setPlaying d p).playing d = p := by cases d <;> rfl

theorem patStop_playing (s : State) (d : Dir) : (s.patStop d).playing d = none := by
  unfold State.patStop
  split
  · next h => exact h
  · next x h =>
    exact (playing_of_offRegions (signal_offRegions { s.setPlaying d none with pcie := (s.setPlaying d none).pcie.bumpDone (playDb x.pattern) }
      (8 + x.pattern % 8)) d).trans (playing_setPlaying s d none)

theorem patEnd_playing (s : State) (d : Dir) : (s.patEnd d).playing d = none := by
  unfold State.patEnd
  split
  · exact patStop_playing _ d
  · exact patStop_playing s d

theorem patReturnNow_playing (s : State) (d : Dir) : (s.patReturnNow d).playing d = none := by
  unfold State.patReturnNow
  split
  · next h => exact h
  · split
    · exact patEnd_playing s d
    · split
      · exact patEnd_playing _ d
      · exact patEnd_playing _ d

theorem bitsAt_lt (n lo len : Nat) : bitsAt n lo len < 2 ^ len := Nat.mod_lt _ (Nat.two_pow_pos len)

theorem patLoops_lt (s : State) (x : Playing) : s.patLoops x < 2 ^ 16 := by
  unfold State.patLoops
  split
  · decide
  · exact bitsAt_lt _ _ _

/-- The count of PB_STAT as direction d's pattern x ends. -/
def State.playEnd (s : State) (d : Dir) (x : Playing) : State :=
  if s.latestPat = d then s.setStF Reg.BOG_PB_STAT 16 16 (s.patLoops x) else s

theorem patternEnd_of_playing {s : State} {d : Dir} {x : Playing} (hup : s.regsUp = true) (hplay : s.playing d = some x)
    (hloops : s.patLoops x ≠ 0) : patternEnd d s = (s.playEnd d x).patReturnNow d := by
  refine (ifUp_of_regsUp _ hup).trans ?_
  rw [hplay]
  exact if_neg hloops

theorem playEnd_base (s : State) (d : Dir) (x : Playing) : (s.playEnd d x).base = s.base := by
  unfold State.playEnd
  split <;> rfl

theorem playEnd_stat {s : State} {d : Dir} {x : Playing} (h : s.latestPat = d) :
    (s.playEnd d x).stF Reg.BOG_PB_STAT 16 16 = s.patLoops x := by
  have heq : s.playEnd d x = s.setStF Reg.BOG_PB_STAT 16 16 (s.patLoops x) := if_pos h
  rw [heq, stF_setStF_same _ _ _ (by decide), Nat.mod_eq_of_lt (patLoops_lt s x)]

theorem patternEnd_of_idle {s : State} {d : Dir} (hup : s.regsUp = true) (h : ∀ x, s.playing d = some x → s.patLoops x = 0) :
    patternEnd d s = s := by
  refine (ifUp_of_regsUp _ hup).trans ?_
  cases hplay : s.playing d with
  | none => rfl
  | some x => exact if_pos (h x hplay)

/-! ### Length and placement (R296) -/

@[simp] theorem BogState.pat_setPat_same (b : BogState) (p : Nat) (r : PatRec) : (b.setPat p r).pat p = r := by
  simp [BogState.pat, BogState.setPat]

theorem BogState.pat_setPat_ne (b : BogState) {p q : Nat} (r : PatRec) (h : q ≠ p) : (b.setPat p r).pat q = b.pat q := by
  simp [BogState.pat, BogState.setPat, NMap.get_put, h]

/-- A register of pattern slot p is written and the slot's record set to r. -/
def State.patStored (s : State) (p a : Nat) (v : Word) (r : PatRec) : State :=
  { s.wrc a v.toNat with bog := s.bog.setPat p r }

theorem patStored_stores (s : State) (p a : Nat) (v : Word) (r : PatRec) : Stores a v [] s { s.patStored p a v r with bog := s.bog } ∧
    (s.patStored p a v r).bog = { s.bog with pats := (s.patStored p a v r).bog.pats } ∧
    ∀ q, q ≠ p → (s.patStored p a v r).bog.pat q = s.bog.pat q := by
  obtain ⟨heq, hst⟩ := wrc_stores a v (onlyStatus_refl [] s)
  exact ⟨⟨congrArg (fun x : State => { x with bog := s.bog }) heq, hst⟩, rfl, fun q hq => BogState.pat_setPat_ne _ _ hq⟩

theorem wrc_bog (s : State) (a n : Nat) : (s.wrc a n).bog = s.bog := by
  rw [wrc_eq]

theorem patLen_of_idle {s : State} {p : Nat} (v : Word) (h : s.patPlays p = false) : s.patLen p v =
    s.patStored p (Reg.BOG_PAT_LEN p) v
      { s.bog.pat p with loaded := (s.wrc (Reg.BOG_PAT_LEN p) v.toNat).patFits p, preload := false } := by
  refine (if_neg (by simp [h])).trans ?_
  dsimp only
  rw [wrc_bog]
  rfl

theorem patPlace_of_idle {s : State} {p : Nat} (size : Bool) (v : Word) (h : s.patPlays p = false) : s.patPlace p size v =
    s.patStored p (if size then Reg.BOG_PAT_SIZE p else Reg.BOG_PAT_BASE p) v { s.bog.pat p with loaded := false } := by
  refine (if_neg (by simp [h])).trans ?_
  dsimp only
  rw [wrc_bog]
  rfl

theorem raise_counts_bog {s : State} {n : Nat} (hunit : sourceUnits 19 n = []) (hc : ¬chained (32 * 19 + n)) :
    Counts 19 n s (s.raise 19 n) ∧ OnlyCounts s (s.raise 19 n) :=
  ⟨raise_counts_of_unitless none hunit (by decide) (by decide) hc rfl, raise_onlyCounts s 19 n none⟩

/-! ### Register writes (R294, R308) -/

theorem regionLocked_lt {k : Nat} (h : regionLocked k = true) : k ≤ 0x18 := by
  simp only [regionLocked, Bool.or_eq_true, decide_eq_true_eq] at h
  omega

theorem bogWrite_of_region {s : State} {o n k : Nat} (v : Word) (ho : o = 0x100 + 0x40 * n + k) (hn : n < 8) (hk : k ≤ 0x20) (hk4 : k % 4 = 0) :
    s.bogWrite o v = if (s.bog.region n).active && regionLocked k then s.raise 19 19 else s.wrc (0x9800 + o) v.toNat := by
  have hregion : (o - 0x100) / 0x40 = n := by omega
  have hoff : (o - 0x100) % 0x40 = k := by omega
  unfold State.bogWrite
  dsimp only
  rw [if_neg (by omega), if_neg (by omega), if_neg (by omega), if_pos (by omega), hregion, hoff, if_pos hk]

theorem bogWrite_cmd (s : State) (v : Word) : s.bogWrite 0x5C v = s.bogCmd v.toNat := rfl

/-- The word of CMD for command c and region n. -/
theorem cmdWord_fields {c : Nat} (n : Fin 8) (hc : c < 16) :
    bitsAt (Word.ofNat (c + 16 * n)).toNat 4 3 = n ∧ bitsAt (Word.ofNat (c + 16 * n)).toNat 0 4 = c := by
  have hv : (Word.ofNat (c + 16 * n)).toNat = c + 16 * n := Nat.mod_eq_of_lt (by omega)
  rw [hv]
  unfold bitsAt
  omega

theorem bogRegisterWrite_cmd {s : State} {cmd : Fin 2048} (v : Word) (hup : s.regsUp = true) (h : cmd.val = 0x5C) :
    bogRegisterWrite cmd v s = s.bogCmd v.toNat := by
  refine (ifUp_of_regsUp _ hup).trans ?_
  rw [h, bogWrite_cmd]

end Sys2Proof.Machine

open Sys2Proof Sys2Proof.Machine

/-- Settles O47: a pattern's end by `patReturnNow`, a slot's registers by what stores them, the other registers by their place in the window. -/
theorem patternCommands : Obligations.PatternCommands := by
  unfold Obligations.PatternCommands
  intro s hup
  refine ⟨fun d => ⟨⟨_, rfl, ?_⟩, fun x hplay hloops => ⟨_, rfl, ?_⟩, fun h => ⟨_, rfl, patternEnd_of_idle hup h⟩⟩, fun p v => ?_,
    fun n k v off hoff hk4 => ⟨fun hlocked hactive => ⟨_, rfl, ?_⟩, fun hk hfree => ⟨_, rfl, ?_⟩⟩, fun n cmd hcmd => ?_⟩
  · have heq : stopPlayback d s = (s.patReturnNow d).cmdStatus 0 d.num := ifUp_of_regsUp _ hup
    have hstill := patReturnNow_still s d
    rw [heq]
    refine ⟨patReturnNow_playing s d, (st_setSt_same _ _ _).trans ?_, congrArg Still.power hstill, congrArg Still.cfg hstill,
      congrArg Still.now hstill⟩
    cases d <;> rfl
  · have hbase := base_of_still (patReturnNow_still (s.playEnd d x) d)
    rw [patternEnd_of_playing hup hplay hloops]
    refine ⟨patReturnNow_playing _ d, fun hlatest => ?_, ?_, ?_, ?_⟩
    · rw [stF_of_st (st_of_still (patReturnNow_still (s.playEnd d x) d) (by decide)), playEnd_stat hlatest]
    · exact power_of_base (hbase.trans (playEnd_base s d x))
    · exact cfg_of_base (hbase.trans (playEnd_base s d x))
    · exact now_of_base (hbase.trans (playEnd_base s d x))
  · intro stored
    have hlen : patLenWrite p v s = s.patLen p v := ifUp_of_regsUp _ hup
    have hplace : ∀ size, patPlacementWrite p size v s = s.patPlace p size v := fun size => ifUp_of_regsUp _ hup
    refine ⟨fun hplays => ⟨⟨_, rfl, ?_⟩, fun size => ⟨_, rfl, ?_⟩⟩, fun hidle => ⟨⟨_, rfl, ?_⟩, ⟨_, rfl, ?_⟩, ⟨_, rfl, ?_⟩⟩⟩
    · rw [hlen.trans (if_pos hplays)]
      exact raise_counts_bog rfl (by unfold chained; decide)
    · rw [(hplace size).trans (if_pos hplays)]
      exact raise_counts_bog rfl (by unfold chained; decide)
    · rw [hlen.trans (patLen_of_idle v hidle)]
      exact ⟨patStored_stores s p _ v _, congrArg PatRec.loaded (BogState.pat_setPat_same ..)⟩
    · rw [(hplace false).trans (patPlace_of_idle false v hidle)]
      exact ⟨patStored_stores s p _ v _, congrArg PatRec.loaded (BogState.pat_setPat_same ..)⟩
    · rw [(hplace true).trans (patPlace_of_idle true v hidle)]
      exact ⟨patStored_stores s p _ v _, congrArg PatRec.loaded (BogState.pat_setPat_same ..)⟩
  · have hwrite := bogWrite_of_region (s := s) v hoff n.isLt ((regionLocked_lt hlocked).trans (by decide)) hk4
    have heq : bogRegisterWrite off v s = s.raise 19 19 :=
      (ifUp_of_regsUp _ hup).trans (hwrite.trans (if_pos (by simp [hactive, hlocked])))
    rw [heq]
    exact raise_counts_bog rfl (by unfold chained; decide)
  · have heq : bogRegisterWrite off v s = s.wrc (0x9800 + off) v.toNat :=
      (ifUp_of_regsUp _ hup).trans ((bogWrite_of_region v hoff n.isLt hk hk4).trans (if_neg (by rcases hfree with h | h <;> simp [h])))
    rw [heq]
    exact wrc_stores _ v (onlyStatus_refl [] s)
  · have harm : bogArm n s = (s.armRegion n).1 := ifUp_of_regsUp _ hup
    have htrig : bogTrigger n s = s.triggerRegion n := ifUp_of_regsUp _ hup
    have hstop : bogStop n s = s.stopRegion n := ifUp_of_regsUp _ hup
    have hclear : bogClear n s = s.clearRegion n := ifUp_of_regsUp _ hup
    have hrun : ∀ c, c < 16 → ∀ x : State, (∀ w, bitsAt w 4 3 = n → bitsAt w 0 4 = c → s.bogCmd w = x) →
        exec (.bogRegisterWrite cmd (Word.ofNat (c + 16 * n))) s = done s x := fun c hc x h => by
      obtain ⟨hregion, hcode⟩ := cmdWord_fields n hc
      exact congrArg (done s) ((bogRegisterWrite_cmd _ hup hcmd).trans (h _ hregion hcode))
    refine ⟨hrun 1 (by decide) _ fun w hregion hcode => ?_, hrun 2 (by decide) _ fun w hregion hcode => ?_,
      hrun 3 (by decide) _ fun w hregion hcode => ?_, hrun 4 (by decide) _ fun w hregion hcode => ?_⟩
    · simp only [harm, State.bogCmd, hregion, hcode]
    · simp only [htrig, State.bogCmd, hregion, hcode]
    · simp only [hstop, State.bogCmd, hregion, hcode]
    · simp only [hclear, State.bogCmd, hregion, hcode]
end

section
/-! SUPPORT. The burst index (R302–R310): the entry that the oldest report becomes, the end of the table, and the dump. -/

namespace Sys2Proof.Machine

/-! ### An entry of the table (R304, R305) -/

/-- The oldest report leaves the queue. -/
def State.bixTake (s : State) (q : List BixEntry) : State := { s with bix := { s.bix with queue := q } }

/-- The report that an entry stands for: what capturing it leaves (R304). -/
def BixEntry.report (e : BixEntry) : Nat × Nat × Nat × Nat × Int × Nat := (e.t, e.kind, e.slot, e.lane, e.p, e.len)

theorem bixCapture_report (s : State) (e : BixEntry) : (s.bixCapture e).report = e.report := by
  unfold State.bixCapture
  split <;> rfl

/-- Entry e takes the next place of the table. -/
def BixState.stored (b : BixState) (e : BixEntry) : BixState :=
  { b with table := NMap.put (fun _ => {}) b.table b.wr e, wr := (b.wr + 1) % 65536, count := min 65536 (b.count + 1) }

/-- The table stops when it is full (R305). -/
def BixState.storedStop (b : BixState) (e : BixEntry) : BixState := { b.stored e with stopped := true }

/-- WRAP counts, with its source (R305). -/
def State.bixWrap (s : State) : State :=
  ((s.bump Reg.BIX_WRAP 1).raise 20 1).raiseIf (decide (s.st Reg.BIX_WRAP = 2 ^ 32 - 2)) 20 5

/-- How an entry is stored: STOP holds and this entry fills the table; it holds and the table has room; or the table wraps or goes on. -/
theorem bixStore_eq (s : State) (e : BixEntry) : s.bixStore e =
    if bitAt (s.rd Reg.BIX_IDX_CFG) 0 = true then
      if (s.bix.stored e).count = 65536 then State.raise { s with bix := s.bix.storedStop e } 20 0 else { s with bix := s.bix.stored e }
    else if s.bix.wr = 65535 then State.bixWrap { s with bix := s.bix.stored e } else { s with bix := s.bix.stored e } := rfl

theorem bixWrap_bix (s : State) : s.bixWrap.bix = s.bix := (raiseIf_bix _ _ 20 5 none).trans ((raise_bix _ 20 1 none).trans (setSt_bix s _ _))

theorem bixWrap_counts (s : State) : Counts 20 1 s s.bixWrap := by
  have hone : Counts 20 1 s ((s.bump Reg.BIX_WRAP 1).raise 20 1) :=
    raise_counts_of_flt 20 1 none (by unfold chained; decide) (by decide) (setSt_flt s _ _)
  unfold State.bixWrap State.raiseIf
  split
  · rw [Counts, raise_source_ne _ 20 1 20 5 none (by unfold chained; decide) (by decide)]
    exact hone
  · exact hone

theorem bixWrap_uncounted (s : State) : s.bixWrap.uncounted = s.uncounted := by
  unfold State.bixWrap State.raiseIf
  split
  · rw [uncounted_raise, uncounted_raise, uncounted_bump]
  · rw [uncounted_raise, uncounted_bump]

theorem bixWrap_st (s : State) (a : Nat) : s.bixWrap.st a = (s.bump Reg.BIX_WRAP 1).st a :=
  (st_of_sts (raiseIf_sts _ _ 20 5 none) a).trans (st_of_sts (raise_sts _ 20 1 none) a)

/-- Of the table, an entry stored leaves what `stored` or `storedStop` gives. -/
theorem bixStore_bix (s : State) (e : BixEntry) : (s.bixStore e).bix = s.bix.stored e ∨ (s.bixStore e).bix = s.bix.storedStop e := by
  rw [bixStore_eq]
  split
  · split
    · exact .inr (raise_bix _ 20 0 none)
    · exact .inl rfl
  · split
    · exact .inl (bixWrap_bix _)
    · exact .inl rfl

/-- The state but for the index: what storing an entry keeps but for WRAP and what counting changes. -/
theorem onlyStatusCounts_offBix {A : List Nat} {s t : State} (b : BixState) (h : OnlyStatusCounts A { s with bix := b } t) :
    OnlyStatusCounts A s { t with bix := s.bix } := by
  obtain ⟨heq, hparts, hst⟩ := h
  exact ⟨congrArg (fun x : State => { x with bix := s.bix }) heq, hparts, hst⟩

theorem bixTake_onlyStatusCounts {A : List Nat} {s t : State} {q : List BixEntry}
    (h : OnlyStatusCounts A (s.bixTake q) { t with bix := (s.bixTake q).bix }) : OnlyStatusCounts A s { t with bix := s.bix } := by
  obtain ⟨heq, hparts, hst⟩ := h
  exact ⟨congrArg (fun x : State => { x with bix := s.bix }) heq, hparts, hst⟩

theorem bixStore_onlyStatusCounts (s : State) (e : BixEntry) : OnlyStatusCounts [Reg.BIX_WRAP] s { s.bixStore e with bix := s.bix } := by
  have hself : ∀ b : BixState, OnlyStatusCounts [Reg.BIX_WRAP] { s with bix := b } { s with bix := b } := fun b =>
    onlyStatusCounts_of_uncounted rfl fun _ _ => rfl
  rw [bixStore_eq]
  split
  · split
    · exact onlyStatusCounts_offBix (s.bix.storedStop e) (onlyStatusCounts_of_uncounted (uncounted_raise _ 20 0) fun _ _ => rfl)
    · exact onlyStatusCounts_offBix _ (hself (s.bix.stored e))
  · split
    · refine onlyStatusCounts_offBix (s.bix.stored e) (onlyStatusCounts_of_uncounted (bixWrap_uncounted _) fun a ha => ?_)
      exact (bixWrap_st _ a).trans (st_bump_ne _ 1 (by simpa using ha))
    · exact onlyStatusCounts_offBix _ (hself (s.bix.stored e))

/-! ### The dump (R303, R307) -/

theorem length_bytes (e : BixEntry) : e.bytes.length = 32 := by
  unfold BixEntry.bytes
  split
  · rfl
  · simp [length_leBytes]

theorem length_dump (es : List BixEntry) : (es.flatMap BixEntry.bytes).length = 32 * es.length := by
  induction es with
  | nil => rfl
  | cons e es ih =>
    rw [List.flatMap_cons, List.length_append, length_bytes, ih, List.length_cons]
    omega

/-- The Bog after a dump of es into region n. -/
def BogState.dumped (b : BogState) (n base : Nat) (es : List BixEntry) : BogState :=
  (b.write base (es.flatMap BixEntry.bytes)).setRegion n { (b.write base (es.flatMap BixEntry.bytes)).region n with st := 3 }

theorem bixDumpComplete_of_running {s : State} {n : Nat} (hup : s.regsUp = true) (h : s.bix.dumping = some n) : bixDumpComplete s =
    State.setSt { s with bog := s.bog.dumped n (s.regBase n) (s.bix.valid.take (s.regSize n / 32)), bix := { s.bix with dumping := none } }
      Reg.BIX_DUMP_STAT (2 + 4 * (s.bix.valid.take (s.regSize n / 32)).length) := by
  refine (ifUp_of_regsUp _ hup).trans ?_
  rw [h]
  rfl

theorem dumped_read (b : BogState) (n base : Nat) (es : List BixEntry) :
    (b.dumped n base es).read base (32 * es.length) = es.flatMap BixEntry.bytes := by
  rw [BogState.dumped, read_setRegion, ← length_dump, BogState.read_write]

theorem dumped_byte_out (b : BogState) (n base a : Nat) (es : List BixEntry) (h : a < base ∨ base + 32 * es.length ≤ a) :
    (b.dumped n base es).byte a = b.byte a :=
  (byte_setRegion ..).trans (BogState.byte_write_out b base a _ (by rwa [length_dump]))

theorem dumped_region_ne (b : BogState) {n m : Nat} (base : Nat) (es : List BixEntry) (h : m ≠ n) :
    (b.dumped n base es).region m = b.region m := BogState.region_setRegion_ne _ _ h

theorem bixDump_of_refused {s : State} {n : Fin 8} (hup : s.regsUp = true) (h : s.bix.dumping ≠ none ∨ (s.bog.region n).st ≠ 0) :
    bixDump n s = (s.setStF Reg.BIX_DUMP_STAT 0 2 (if s.bix.dumping.isSome then 1 else 3)).raise 20 4 := by
  refine (ifUp_of_regsUp _ hup).trans (if_pos ?_)
  rcases h with h | h
  · simp [Option.isSome_iff_ne_none.mpr h]
  · simp [h]

theorem bixDump_of_free {s : State} {n : Fin 8} (hup : s.regsUp = true) (h : s.bix.dumping = none) (hidle : (s.bog.region n).st = 0) :
    bixDump n s = State.setSt { s with bix := { s.bix with dumping := some n.val } } Reg.BIX_DUMP_STAT 1 :=
  (ifUp_of_regsUp _ hup).trans (if_neg (by simp [h, hidle]))

/-! ### The queue and CLEAR (R304, R306, R307) -/

theorem bixQueueDrain_of_idle {s : State} (hup : s.regsUp = true) (h : s.bix.queue = [] ∨ s.bix.dumping ≠ none) : bixQueueDrain s = s := by
  refine (ifUp_of_regsUp _ hup).trans ?_
  cases hq : s.bix.queue with
  | nil => rfl
  | cons e q => exact if_pos (Option.isSome_iff_ne_none.mpr (h.resolve_left (by simp [hq])))

theorem bixQueueDrain_of_report {s : State} {e : BixEntry} {q : List BixEntry} (hup : s.regsUp = true) (hq : s.bix.queue = e :: q)
    (hd : s.bix.dumping = none) : bixQueueDrain s =
      if s.bix.stopped then s.bixTake q else (s.bixTake q).bixStore ((s.bixTake q).bixCapture e) := by
  refine (ifUp_of_regsUp _ hup).trans ?_
  rw [hq]
  exact if_neg (by simp [hd])

end Sys2Proof.Machine

open Sys2Proof Sys2Proof.Machine

/-- Settles O48: a report by `bixStore`'s cases, CLEAR and DUMP by their two conditions, a dump by the write of its bytes. -/
theorem burstIndexCommands : Obligations.BurstIndexCommands := by
  unfold Obligations.BurstIndexCommands
  intro s hup
  refine ⟨fun h => ⟨_, rfl, bixQueueDrain_of_idle hup h⟩, fun e q hq hd => ⟨fun hstop => ⟨_, rfl, ?_⟩, fun hstop => ⟨_, rfl, ?_⟩⟩,
    fun hd => ⟨_, rfl, ?_⟩, fun hd => ⟨_, rfl, ?_⟩, fun n => ⟨fun h => ⟨_, rfl, ?_⟩, fun hd hidle => ⟨_, rfl, ?_⟩⟩, fun hd => ⟨_, rfl, ?_⟩,
    fun n hd => ⟨_, rfl, ?_⟩⟩
  · exact (bixQueueDrain_of_report hup hq hd).trans (if_pos hstop)
  · have heq := (bixQueueDrain_of_report hup hq hd).trans (if_neg (by simp [hstop]))
    rw [heq]
    let x := s.bixTake q
    let c := x.bixCapture e
    have hentry : (x.bixStore c).bix.queue = q ∧ (x.bixStore c).bix.wr = (s.bix.wr + 1) % 65536 ∧
        (x.bixStore c).bix.count = min 65536 (s.bix.count + 1) ∧
        (x.bixStore c).bix.table = NMap.put (fun _ => {}) s.bix.table s.bix.wr c := by
      rcases bixStore_bix x c with h | h
      · rw [h]; exact ⟨rfl, rfl, rfl, rfl⟩
      · rw [h]; exact ⟨rfl, rfl, rfl, rfl⟩
    obtain ⟨hqueue, hwr, hcount, htable⟩ := hentry
    refine ⟨hqueue, hwr, hcount, ?_, fun i hi => ?_, fun hbit hfull => ?_, fun hbit hlast => ?_,
      bixTake_onlyStatusCounts (bixStore_onlyStatusCounts x c)⟩
    · have hreport : c.report = e.report := bixCapture_report x e
      simp only [BixEntry.report, Prod.mk.injEq] at hreport
      rw [htable, NMap.get_put_same]
      exact hreport
    · rw [htable, NMap.get_put_ne _ _ _ hi]
    · have hstored : x.bixStore c = State.raise { x with bix := x.bix.storedStop c } 20 0 :=
        (bixStore_eq x c).trans ((if_pos hbit).trans (if_pos (show min 65536 (s.bix.count + 1) = 65536 by rw [hfull]; decide)))
      rw [hstored]
      exact ⟨congrArg BixState.stopped (raise_bix _ 20 0 none), raise_counts_of_flt 20 0 none (by unfold chained; decide) (by decide) rfl⟩
    · have hstored : x.bixStore c = State.bixWrap { x with bix := x.bix.stored c } :=
        (bixStore_eq x c).trans ((if_neg (by rw [show bitAt (x.rd Reg.BIX_IDX_CFG) 0 = false from hbit]; decide)).trans (if_pos hlast))
      rw [hstored]
      exact ⟨(bixWrap_st _ _).trans (st_bump_same _ _ 1), bixWrap_counts _⟩
  · exact (ifUp_of_regsUp _ hup).trans (if_neg (by simp [hd]))
  · have heq : bixClear s = s.raise 20 6 := (ifUp_of_regsUp _ hup).trans (if_pos (Option.isSome_iff_ne_none.mpr hd))
    rw [heq]
    exact ⟨raise_counts_of_flt 20 6 none (by unfold chained; decide) (by decide) rfl, raise_onlyCounts s 20 6 none⟩
  · rw [bixDump_of_refused hup h]
    refine ⟨raise_counts_of_flt 20 4 none (by unfold chained; decide) (by decide) (setSt_flt s _ _),
      onlyStatusCounts_of_uncounted (uncounted_raise _ 20 4) fun a ha => st_setStF_ne s 0 2 _ (by simpa using ha), ?_⟩
    refine (stF_setStF_same s Reg.BIX_DUMP_STAT _ (by decide)).trans ?_
    cases s.bix.dumping <;> rfl
  · rw [bixDump_of_free hup hd hidle]
    exact ⟨(st_setSt_same _ _ _).trans rfl, rfl, rfl,
      fun a ha => st_setSt_ne { s with bix := { s.bix with dumping := some n.val } } 1 (by simpa using ha)⟩
  · refine (ifUp_of_regsUp _ hup).trans ?_
    rw [hd]
  · rw [bixDumpComplete_of_running hup hd]
    exact ⟨rfl, congrArg RegionRec.st (BogState.region_setRegion_same ..), st_setSt_same _ _ _, dumped_read s.bog n _ _,
      fun a ha => dumped_byte_out s.bog n _ a _ ha, fun m hm => dumped_region_ne s.bog _ _ hm⟩
end

section
/-! SUPPORT. The endpoint: its requests, its link, its reset and its vectors (R404, R407–R409). -/

namespace Sys2Proof.Machine

/-! ### Requests and events of the endpoint -/

theorem raise_onlyCounts_offPcie (s : State) (p : PcieState) (b n : Nat) (u : Option Nat) :
    OnlyCounts s { State.raise { s with pcie := p } b n u with pcie := s.pcie } :=
  onlyCounts_of_uncounted (Prod.ext rfl (raiseEvs_fixed _ _)) rfl

/-- An event of the endpoint that names no unit. -/
theorem raise_counts_pcie {s x : State} {n : Nat} (hunit : sourceUnits 5 n = []) (hc : ¬chained (32 * 5 + n)) (h : x.flt = s.flt) :
    Counts 5 n s (x.raise 5 n) := raise_counts_of_unitless none hunit (by decide) (by decide) hc h

/-- A request is unsupported. -/
theorem pcieUr_shows (s : State) {src : Nat} (hunit : sourceUnits 5 src = []) (hc : ¬chained (32 * 5 + src)) :
    Counts 5 src s (s.pcieUr src) ∧ (s.pcieUr src).pcie = { s.pcie with lastStatus := 1, lastRead := [] } ∧
      OnlyCounts s { s.pcieUr src with pcie := s.pcie } :=
  ⟨raise_counts_pcie hunit hc rfl, raise_pcie _ 5 src none, raise_onlyCounts_offPcie s _ 5 src none⟩

theorem memRequest_of_down {s : State} (f : State → State) (h : s.pcie.up = false) : s.memRequest f = s := if_pos (by simp [h])

theorem memRequest_of_closed {s : State} (f : State → State) (hup : s.pcie.up = true) (h : s.memOpen = false) :
    s.memRequest f = s.pcieUr 6 := (if_neg (by simp [hup])).trans (if_pos (by simp [h]))

theorem memRequest_of_open {s : State} (f : State → State) (hup : s.pcie.up = true) (h : s.memOpen = true) : s.memRequest f = f s :=
  (if_neg (by simp [hup])).trans (if_neg (by simp [h]))

theorem memOpen_parts {s : State} (h : s.memOpen = true) : s.pcie.memEnable = true ∧ s.pcie.d3 = false ∧ s.isUp = true ∧ s.sys.entering = none := by
  simpa [State.memOpen, and_assoc] using h

theorem regsUp_of_memOpen {s : State} (h : s.memOpen = true) : s.regsUp = true := by
  obtain ⟨-, -, hup, -⟩ := memOpen_parts h
  simp [State.regsUp, hup]

/-! ### The link (R408, R409) -/

theorem clampN_bounds {lo hi : Nat} (x : Nat) (h : lo ≤ hi) : lo ≤ clampN lo hi x ∧ clampN lo hi x ≤ hi := by
  unfold clampN
  split
  · omega
  · split <;> omega

theorem clampN_of_mem {lo hi x : Nat} (hlo : lo ≤ x) (hhi : x ≤ hi) : clampN lo hi x = x :=
  (if_neg (Nat.not_lt.mpr hlo)).trans (if_neg (Nat.not_lt.mpr hhi))

theorem maxGen_pos (s : State) : 1 ≤ s.maxGen := by
  unfold State.maxGen
  dsimp only
  split <;> omega

theorem maxWidth_mem (s : State) : s.maxWidth = 1 ∨ s.maxWidth = 2 ∨ s.maxWidth = 4 := by
  have hle : min 2 (s.fld Reg.PCIE_LINK_CFG 3 2) ≤ 2 := min_le_left ..
  unfold State.maxWidth
  generalize min 2 (s.fld Reg.PCIE_LINK_CFG 3 2) = k at hle
  interval_cases k <;> simp

/-- The width that the link trains to when the partner offers `width`. -/
def trainedWidth (top width : Nat) : Nat := if top ≤ width then top else if 2 ≤ width then 2 else 1

theorem trainedWidth_spec {top : Nat} (width : Nat) (h : top = 1 ∨ top = 2 ∨ top = 4) : trainedWidth top width ∈ [1, 2, 4] ∧
    trainedWidth top width ≤ top ∧ (width = 1 ∨ width = 2 ∨ width = 4 → width ≤ top → trainedWidth top width = width) := by
  have hlist : ∀ k : Nat, k ∈ [1, 2, 4] ↔ k = 1 ∨ k = 2 ∨ k = 4 := fun k => by simp
  rw [hlist]
  unfold trainedWidth
  split
  · omega
  · split <;> omega

theorem pcieLinkUp_of_trained {s : State} (gen width : Nat) (h : s.mayTrain = true) : pcieLinkUp gen width s =
    State.raiseIf { s with pcie := { s.pcie with up := true, gen := clampN 1 s.maxGen gen, width := trainedWidth s.maxWidth width } }
      (decide (clampN 1 s.maxGen gen < s.maxGen) || decide (trainedWidth s.maxWidth width < s.maxWidth)) 5 1 := if_neg (by simp [h])

theorem linkDown_of_up {s : State} (h : s.pcie.up = true) : s.linkDown =
    State.bumpF { s with pcie := { s.pcie with up := false, gen := 0, width := 0 } } Reg.PCIE_LINK_STAT 16 16 1 := if_neg (by simp [h])

theorem linkDown_of_down {s : State} (h : s.pcie.up = false) : s.linkDown = s := if_pos (by simp [h])

/-- A link that goes down is counted in DOWNS; nothing else of the status registers changes. -/
theorem linkDown_stat {s : State} (h : s.pcie.up = true) :
    s.linkDown.stF Reg.PCIE_LINK_STAT 16 16 = satAdd 65535 (s.stF Reg.PCIE_LINK_STAT 16 16) 1 := by
  rw [linkDown_of_up h]
  exact (stF_bumpF_same _ _ 1 (by decide)).trans rfl

theorem linkDown_onlyStatus (s : State) : OnlyStatus [Reg.PCIE_LINK_STAT] s { s.linkDown with pcie := s.pcie } := by
  cases h : s.pcie.up with
  | false =>
    rw [linkDown_of_down h]
    exact onlyStatus_refl _ s
  | true =>
    rw [linkDown_of_up h]
    exact ⟨rfl, fun a ha => st_bumpF_ne { s with pcie := { s.pcie with up := false, gen := 0, width := 0 } } 16 16 1 (by simpa using ha)⟩

theorem linkDown_pcie (s : State) : s.linkDown.pcie.up = false ∧ s.linkDown.pcie.perst = s.pcie.perst := by
  cases h : s.pcie.up with
  | false =>
    rw [linkDown_of_down h]
    exact ⟨h, rfl⟩
  | true =>
    rw [linkDown_of_up h]
    exact ⟨rfl, rfl⟩

/-- Configuration, BARs and the MSI-X table of p at their reset values, the link down (R408). -/
def PcieState.atReset (p : PcieState) (subsys : Nat) : Prop :=
  p.up = false ∧ p.d3 = false ∧ p.bar0 = 0 ∧ p.bar2 = 0 ∧ p.memEnable = false ∧ p.busMaster = false ∧ p.msixEnable = false ∧
    p.msix = [] ∧ p.pending = 0 ∧ p.vecMask = 0xFFFF ∧ p.subsys.toNat = subsys

theorem rd_lt (s : State) (a : Nat) : s.rd a < 2 ^ 32 := BitVec.isLt _

theorem pcieReset_atReset (s : State) : s.linkDown.pcieReset.pcie.atReset (s.rd Reg.PCIE_SUBSYS) := by
  have hrd : s.linkDown.rd Reg.PCIE_SUBSYS = s.rd Reg.PCIE_SUBSYS := rd_of_cfg (congrArg State.cfg (linkDown_onlyStatus s).1 :) _
  refine ⟨(linkDown_pcie s).1, rfl, rfl, rfl, rfl, rfl, rfl, rfl, rfl, rfl, ?_⟩
  refine (Word.toNat_ofNat _).trans ?_
  rw [hrd, Nat.mod_eq_of_lt (rd_lt s _)]

theorem pcieReset_onlyStatus (s : State) : OnlyStatus [Reg.PCIE_LINK_STAT] s { s.linkDown.pcieReset with pcie := s.pcie } := linkDown_onlyStatus s

/-! ### Vectors (R407) -/

/-- A pending vector that nothing masks is sent. -/
def State.flushOne (s : State) (v : Nat) : State :=
  if s.pcie.pending.getLsbD v && !s.pcie.vecMasked v then { s with pcie := s.pcie.setPend v false }.msgSent else s

theorem msixFlush_eq (s : State) : s.msixFlush =
    if !s.pcie.up || s.pcie.d3 || !s.pcie.msixEnable then s else (List.range 16).foldl State.flushOne s := rfl

/-- x differs from s by messages sent: pending vectors and the count of messages. -/
def Flushed (s x : State) : Prop :=
  OnlyStatus [Reg.PCIE_MSG_COUNT] s { x with pcie := s.pcie } ∧ x.pcie = { s.pcie with pending := x.pcie.pending }

theorem flushed_refl (s : State) : Flushed s s := ⟨onlyStatus_refl _ s, rfl⟩

theorem flushOne_flushed {s x : State} (v : Nat) (h : Flushed s x) : Flushed s (x.flushOne v) := by
  obtain ⟨⟨heq, hst⟩, hpcie⟩ := h
  have hst : ∀ a, a ∉ [Reg.PCIE_MSG_COUNT] → x.st a = s.st a := hst
  have hsent : ∀ p : PcieState, ∀ a, a ∉ [Reg.PCIE_MSG_COUNT] → ({ x with pcie := p } : State).msgSent.st a = x.st a :=
    fun p a ha => st_bump_ne { x with pcie := p } 1 (by simpa using ha)
  unfold State.flushOne
  split
  · refine ⟨⟨?_, fun a ha => (hsent _ a ha).trans (hst a ha)⟩, ?_⟩
    · exact congrArg (fun y : State => { y with sts := ({ x with pcie := x.pcie.setPend v false } : State).msgSent.sts }) heq
    · exact congrArg (fun p : PcieState => { p with pending := (x.pcie.setPend v false).pending }) hpcie
  · exact ⟨⟨heq, hst⟩, hpcie⟩

theorem msixFlush_flushed (s : State) : Flushed s s.msixFlush := by
  rw [msixFlush_eq]
  split
  · exact flushed_refl s
  · exact foldl_stays (Flushed s) _ _ (fun x v h => flushOne_flushed v h) (flushed_refl s)

theorem setPend_pending (p : PcieState) {v : Nat} (w : Nat) (b : Bool) (hv : v < 16) :
    (p.setPend v b).pending.getLsbD w = if w = v then b else p.pending.getLsbD w := getLsbD_putBit p.pending w b hv

theorem flushOne_pending (s : State) {v w : Nat} (hv : v < 16) (h : s.pcie.pending.getLsbD w = false) :
    (s.flushOne v).pcie.pending.getLsbD w = false := by
  unfold State.flushOne
  split
  · refine (setPend_pending s.pcie w false hv).trans ?_
    rw [h, ite_self]
  · exact h

theorem flushOne_clears {s : State} {v : Nat} (hv : v < 16) (hmask : s.pcie.vecMasked v = false) :
    (s.flushOne v).pcie.pending.getLsbD v = false := by
  unfold State.flushOne
  cases hp : s.pcie.pending.getLsbD v with
  | false => exact hp
  | true =>
    rw [if_pos (by simp [hmask])]
    exact (setPend_pending s.pcie v false hv).trans (if_pos rfl)

theorem vecMasked_flushOne (s : State) (v w : Nat) : (s.flushOne v).pcie.vecMasked w = s.pcie.vecMasked w := by
  unfold State.flushOne
  split <;> rfl

theorem foldl_flushOne_clears (l : List Nat) {s : State} {v : Nat} (hl : ∀ w ∈ l, w < 16) (hv : v ∈ l) (hmask : s.pcie.vecMasked v = false) :
    (l.foldl State.flushOne s).pcie.pending.getLsbD v = false := by
  have hkeep : ∀ (l : List Nat), (∀ w ∈ l, w < 16) → ∀ x : State, x.pcie.pending.getLsbD v = false →
      (l.foldl State.flushOne x).pcie.pending.getLsbD v = false := fun l hl => by
    induction l with
    | nil => exact fun x hx => hx
    | cons w l ih =>
      exact fun x hx => ih (fun w' hw' => hl w' (List.mem_cons_of_mem _ hw')) _ (flushOne_pending x (hl w List.mem_cons_self) hx)
  induction l generalizing s with
  | nil => cases hv
  | cons w l ih =>
    have hl' : ∀ w' ∈ l, w' < 16 := fun w' hw' => hl w' (List.mem_cons_of_mem _ hw')
    rcases List.mem_cons.mp hv with rfl | hv
    · exact hkeep l hl' _ (flushOne_clears (hl v List.mem_cons_self) hmask)
    · exact ih hl' hv (by rw [vecMasked_flushOne, hmask])

theorem msixFlush_clears {s : State} (v : Fin 16) (hup : s.pcie.up = true) (hd3 : s.pcie.d3 = false) (hen : s.pcie.msixEnable = true)
    (hmask : s.pcie.vecMasked v = false) : s.msixFlush.pcie.pending.getLsbD v = false := by
  rw [msixFlush_eq, if_neg (by simp [hup, hd3, hen])]
  exact foldl_flushOne_clears _ (fun w hw => List.mem_range.mp hw) (List.mem_range.mpr v.isLt) hmask

/-- Vector v with its mask bit cleared, before what was pending is sent. -/
def State.unmasked (s : State) (v : Nat) : State :=
  { s with pcie := { s.pcie with vecMask := BitVec.ofNat 16 (putBits s.pcie.vecMask.toNat v 1 (ofBool false)) } }

theorem msixWrite_unmasks (s : State) (v : Fin 16) : s.msixWrite (4 * v.val + 3) 0 = (s.unmasked v).msixFlush := by
  have hdiv : (4 * v.val + 3) / 4 = v.val := by omega
  unfold State.msixWrite
  rw [if_pos (by omega), hdiv]
  rfl

/-- Messages are sent after a change of the endpoint's registers. -/
theorem msixFlush_offPcie (s : State) (p : PcieState) :
    OnlyStatus [Reg.PCIE_MSG_COUNT] s { State.msixFlush { s with pcie := p } with pcie := s.pcie } := by
  obtain ⟨⟨heq, hst⟩, -⟩ := msixFlush_flushed { s with pcie := p }
  exact ⟨congrArg (fun x : State => { x with pcie := s.pcie }) heq, hst⟩

end Sys2Proof.Machine

open Sys2Proof Sys2Proof.Machine

/-- Settles O60: the link by `linkDown` and what it trains to, a reset by `pcieReset`, vectors by what a flush sends, a configuration request by
its operation. -/
theorem endpointCommands : Obligations.EndpointCommands := by
  unfold Obligations.EndpointCommands
  intro s fresh downs
  have hfresh : ∀ t : State, t.pcie.atReset (s.rd Reg.PCIE_SUBSYS) → OnlyStatus [Reg.PCIE_LINK_STAT] s { t with pcie := s.pcie } → fresh t :=
    fun t hreset hst => by
      obtain ⟨h1, h2, h3, h4, h5, h6, h7, h8, h9, h10, h11⟩ := hreset
      exact ⟨h1, h2, h3, h4, h5, h6, h7, h8, h9, h10, h11, hst⟩
  refine ⟨fun gen width => ⟨fun h => ⟨_, rfl, ?_⟩, fun h => ⟨_, rfl, ?_⟩⟩, fun hdown => ⟨⟨_, rfl, ?_⟩, ⟨_, rfl, ?_⟩⟩,
    fun hup => ⟨⟨_, rfl, ?_⟩, ⟨_, rfl, ?_⟩⟩, ⟨_, rfl, ?_⟩, ⟨_, rfl, rfl⟩, fun v hup hopen => ⟨_, rfl, ?_⟩, fun hup hisUp => ⟨_, rfl, ?_⟩,
    fun op => ⟨fun hdown => ⟨⟨_, rfl, ?_⟩, fun v => ⟨_, rfl, ?_⟩⟩, fun hup hent => ⟨_, rfl, ?_⟩, fun hup hent hisUp => ⟨_, rfl, ?_⟩,
      fun hup hent hisUp => ⟨_, rfl, ?_⟩⟩⟩
  · exact if_pos (by simp [h])
  · obtain ⟨hglo, hghi⟩ := clampN_bounds gen (maxGen_pos s)
    obtain ⟨hwmem, hwle, hwof⟩ := trainedWidth_spec width (maxWidth_mem s)
    rw [pcieLinkUp_of_trained gen width h]
    refine ⟨by rw [raiseIf_pcie], by rwa [raiseIf_pcie], by rwa [raiseIf_pcie], by rwa [raiseIf_pcie], by rwa [raiseIf_pcie],
      fun hlo hhi => by rw [raiseIf_pcie]; exact clampN_of_mem hlo hhi, fun hw htop => by rw [raiseIf_pcie]; exact hwof hw htop, ?_, ?_, ?_⟩
    · rw [raiseIf_pcie]
      intro hlow
      unfold State.raiseIf
      rw [if_pos (by simpa using hlow)]
      exact raise_counts_pcie rfl (by unfold chained; decide) rfl
    · unfold State.raiseIf
      split
      · exact raise_onlyCounts_offPcie s _ 5 1 none
      · exact onlyCounts_of_uncounted rfl rfl
    · rw [raiseIf_pcie]
      intro hgen hwidth
      have hgen : clampN 1 s.maxGen gen = s.maxGen := hgen
      have hwidth : trainedWidth s.maxWidth width = s.maxWidth := hwidth
      unfold State.raiseIf
      rw [if_neg (by simp [hgen, hwidth])]
  · exact if_neg (by simp [hdown])
  · exact (if_pos rfl).trans (if_neg (by simp [hdown]))
  · have heq : pcieLinkDown s = s.linkDown.raise 5 0 := if_pos hup
    have hflt : s.linkDown.flt = s.flt := (congrArg State.flt (linkDown_onlyStatus s).1 :)
    rw [heq]
    refine ⟨?_, (stF_of_st (st_of_sts (raise_sts ..) _) 16 16).trans (linkDown_stat hup), raise_counts_pcie rfl (by unfold chained; decide) hflt, ?_⟩
    · rw [raise_pcie, linkDown_of_up hup]
      rfl
    · obtain ⟨honly, hst⟩ := linkDown_onlyStatus s
      refine onlyStatusCounts_of_uncounted (Prod.ext ?_ ?_) hst
      · exact congrArg (fun x : State => { x with sts := [], flt := {}, twb := {}, peat := {}, mram := {}, bog := {} }) honly
      · exact (raiseEvs_fixed _ _).trans (congrArg (fun x : State => x.fx.fixed) honly :)
  · have heq : perst true s = s.linkDown.pcieReset := (if_pos rfl).trans (if_pos hup)
    rw [heq]
    exact ⟨hfresh _ (pcieReset_atReset s) (pcieReset_onlyStatus s), linkDown_stat hup, (linkDown_pcie s).2⟩
  · exact ⟨hfresh _ (pcieReset_atReset s) (pcieReset_onlyStatus s), rfl, fun hup => linkDown_stat hup⟩
  · obtain ⟨-, hd3, -, -⟩ := memOpen_parts hopen
    have heq : msixUnmask (some v) s = (s.unmasked v).msixFlush :=
      (memRequest_of_open (fun s => s.msixWrite (4 * v.val + 3) 0) hup hopen).trans (msixWrite_unmasks s v)
    obtain ⟨-, hpcie⟩ := msixFlush_flushed (s.unmasked v)
    have hmask : (s.unmasked v).msixFlush.pcie.vecMask = (s.unmasked v).pcie.vecMask := (congrArg PcieState.vecMask hpcie :)
    have hbit : ∀ w, (s.unmasked v).pcie.vecMask.getLsbD w = if w = v.val then false else s.pcie.vecMask.getLsbD w :=
      fun w => getLsbD_putBit s.pcie.vecMask w false v.isLt
    rw [heq]
    refine ⟨?_, msixFlush_offPcie s _, fun u hu => ?_, fun hen hfunc hbus => msixFlush_clears v hup hd3 hen ?_⟩
    · rw [hmask, hbit, if_pos rfl]
    · rw [hmask, hbit, if_neg fun h => hu (Fin.ext h)]
    · have hv := hbit v
      rw [if_pos rfl] at hv
      unfold PcieState.vecMasked
      rw [hv, show (s.unmasked v).pcie.funcMask = false from hfunc, show (s.unmasked v).pcie.busMaster = true from hbus]
      rfl
  · have heq : msixUnmask none s = State.msixFlush { s with pcie := { s.pcie with funcMask := false } } := if_neg (by simp [hup, hisUp])
    obtain ⟨-, hpcie⟩ := msixFlush_flushed { s with pcie := { s.pcie with funcMask := false } }
    rw [heq]
    exact ⟨(congrArg PcieState.funcMask hpcie :), (congrArg PcieState.vecMask hpcie :), msixFlush_offPcie s _⟩
  · exact if_pos (by simp [hdown])
  · cases v with
    | some v => exact memRequest_of_down (fun s => s.msixWrite (4 * v.val + 3) 0) hdown
    | none => exact if_pos (by simp [hdown])
  · have heq : configRequest op s = s.pcieUr 6 := (if_neg (by simp [hup])).trans (if_pos (Option.isSome_iff_ne_none.mpr hent))
    rw [heq]
    exact pcieUr_shows s rfl (by unfold chained; decide)
  · exact (if_neg (by simp [hup])).trans ((if_neg (by simp [hent])).trans (if_pos (by simp [hisUp])))
  · unfold configRequest
    rw [if_neg (by simp [hup]), if_neg (by simp [hent]), if_neg (by simp [hisUp])]
    have hflush : ∀ p : PcieState, OnlyStatus [Reg.PCIE_MSG_COUNT] s { State.msixFlush { s with pcie := p } with pcie := s.pcie } ∧
        (State.msixFlush { s with pcie := p }).pcie = { p with pending := (State.msixFlush { s with pcie := p }).pcie.pending } :=
      fun p => ⟨msixFlush_offPcie s p, (msixFlush_flushed { s with pcie := p }).2⟩
    cases op with
    | read o => rfl
    | setBar0 b => rfl
    | setBar2 b => rfl
    | command m b =>
      obtain ⟨hst, hpcie⟩ := hflush { s.pcie with lastStatus := 0, lastRead := [], memEnable := m, busMaster := b }
      exact ⟨(congrArg PcieState.memEnable hpcie :), (congrArg PcieState.busMaster hpcie :), hst⟩
    | power d =>
      obtain ⟨hst, hpcie⟩ := hflush { s.pcie with lastStatus := 0, lastRead := [], d3 := d }
      exact ⟨(congrArg PcieState.d3 hpcie :), hst⟩
    | msixControl e m =>
      obtain ⟨hst, hpcie⟩ := hflush { s.pcie with lastStatus := 0, lastRead := [], msixEnable := e, funcMask := m }
      exact ⟨(congrArg PcieState.msixEnable hpcie :), (congrArg PcieState.funcMask hpcie :), hst⟩
    | flr =>
      have hperst : perst true (s.pcieOk []) = (s.pcieOk []).linkDown.pcieReset := (if_pos rfl).trans (if_pos hup)
      obtain ⟨honly, hst⟩ := pcieReset_onlyStatus (s.pcieOk [])
      show fresh (perst true (s.pcieOk [])) ∧ downs (perst true (s.pcieOk []))
      rw [hperst]
      refine ⟨hfresh _ (pcieReset_atReset (s.pcieOk [])) ⟨?_, hst⟩, linkDown_stat (s := s.pcieOk []) hup⟩
      exact congrArg (fun x : State => { x with pcie := s.pcie }) honly
end

section
/-! SUPPORT. The Bog's window (R402): the bytes that a read returns and that a write stores, and what codeword errors leave of the state. -/

namespace Sys2Proof.Machine

/-! ### What codeword errors leave (R283) -/

/-- What a request through the window leaves of the state beside the endpoint's own registers. -/
def State.windowed (s : State) : Base × NMap SlotRec × LockState × Sys := (s.base, s.slots, s.lock, s.sys)

/-- The same with the endpoint's registers. -/
def State.served (s : State) : (Base × NMap SlotRec × LockState × Sys) × PcieState := (s.windowed, s.pcie)

theorem raise_served (s : State) (b n : Nat) (u : Option Nat) : (s.raise b n u).served = s.served := rfl

theorem raiseIf_served (s : State) (c : Bool) (b n : Nat) (u : Option Nat) : (s.raiseIf c b n u).served = s.served := by cases c <;> rfl

theorem cwCorr_served (s : State) (cw : Nat) : (s.cwCorr cw).served = s.served := by
  unfold State.cwCorr
  dsimp only
  rw [raiseIf_served]
  rfl

theorem cwUe_served (s : State) (cw : Nat) : (s.cwUe cw).served = s.served := by
  unfold State.cwUe
  rw [raise_served]
  rfl

theorem cwCorr_byte (s : State) (cw a : Nat) : (s.cwCorr cw).bog.byte a = s.bog.byte a := by
  have hif : ∀ (x : State) (c : Bool), (x.raiseIf c 19 16).bog.byte a = x.bog.byte a := fun x c => by
    cases c
    · rfl
    · exact raise_byte x 19 16 none a
  unfold State.cwCorr
  dsimp only
  rw [hif]
  exact cwFixed_byte s cw a

/-- The codewords that a request finds in error. -/
def State.cwErrors (s : State) (corr ue : List Nat) : State := ue.foldl (fun s c => s.cwUe c) (corr.foldl (fun s c => s.cwCorr c) s)

theorem cwErrors_keeps {β : Type} (p : State → β) (hcorr : ∀ s cw, p (s.cwCorr cw) = p s) (hue : ∀ s cw, p (s.cwUe cw) = p s)
    (s : State) (corr ue : List Nat) : p (s.cwErrors corr ue) = p s :=
  (foldl_keeps p ue (fun s c => s.cwUe c) hue (corr.foldl (fun s c => s.cwCorr c) s)).trans
    (foldl_keeps p corr (fun s c => s.cwCorr c) hcorr s)

/-! ### Reads -/

theorem mem_cwOf {a n c : Nat} : c ∈ cwOf a n ↔ ∃ j, a ≤ j ∧ j < a + n ∧ j / 32 = c := by
  unfold cwOf
  split
  · next h =>
    refine ⟨fun h => absurd h List.not_mem_nil, fun ⟨j, h1, h2, _⟩ => ?_⟩
    omega
  · next h =>
    simp only [List.mem_map, List.mem_range]
    constructor
    · rintro ⟨k, hk, rfl⟩
      refine ⟨max a (32 * (a / 32 + k)), by omega, by omega, by omega⟩
    · rintro ⟨j, h1, h2, rfl⟩
      exact ⟨j / 32 - a / 32, by omega, by omega⟩

/-- The state after a read of n bytes is answered, before codeword errors are counted. -/
def State.readServed (s : State) (ue : List Nat) (a n : Nat) : State :=
  { s.bogWake (chansOf a n) with
    pcie := { s.pcie with lastStatus := 0, lastRead := (s.bogWake (chansOf a n)).bogBytes ue a n, rdBytes := s.pcie.rdBytes + n }
    free := s.free + 1 }

theorem bar0Read_of_open {s : State} (a : BogAccess) (hup : s.pcie.up = true) (hopen : s.memOpen = true)
    (hclosed : s.bogClosed (accessChans a (min a.len 4096)) = false) : bar0Read a s =
      (s.readServed (a.ue.filter (fun c => (cwOf a.addr (min a.len 4096)).contains c)) a.addr (min a.len 4096)).cwErrors
        (a.corr.filter (fun c => (cwOf a.addr (min a.len 4096)).contains c))
        (a.ue.filter (fun c => (cwOf a.addr (min a.len 4096)).contains c)) := by
  unfold bar0Read
  rw [memRequest_of_open _ hup hopen, if_neg (by simp [hclosed])]
  rfl

theorem length_bogBytes (s : State) (ue : List Nat) (a n : Nat) : (s.bogBytes ue a n).length = n := by
  simp [State.bogBytes]

/-- A byte of a sound codeword is read as it stands. -/
theorem bogBytes_of_sound (s : State) {ue : List Nat} {a n k : Nat} (hk : k < n) (h : (a + k) / 32 ∉ ue) :
    (s.bogBytes ue a n)[k]? = some (s.bog.byte (a + k)) := by
  simp [State.bogBytes, hk, h]

/-! ### Writes -/

theorem bar0Write_of_barred {s : State} (a : BogAccess) (hup : s.pcie.up = true) (hopen : s.memOpen = true) (hsound : a.poisoned = false)
    (hclosed : s.bogClosed (accessChans a a.data.length) = false) (hbar : s.writeBarred a.addr a.data.length = true) :
    bar0Write a s = (s.bogWake (accessChans a a.data.length)).raise 19 20 := by
  unfold bar0Write
  rw [memRequest_of_open _ hup hopen]
  dsimp only
  rw [if_neg (by simp [hsound]), if_neg (by simp [hclosed])]
  exact if_pos hbar

theorem bar0Write_of_free {s : State} (a : BogAccess) (hup : s.pcie.up = true) (hopen : s.memOpen = true) (hsound : a.poisoned = false)
    (hclosed : s.bogClosed (accessChans a a.data.length) = false) (hbar : s.writeBarred a.addr a.data.length = false) :
    bar0Write a s = (s.bogWake (accessChans a a.data.length)).bogStore a := by
  unfold bar0Write
  rw [memRequest_of_open _ hup hopen]
  dsimp only
  rw [if_neg (by simp [hsound]), if_neg (by simp [hclosed])]
  refine if_neg fun h => ?_
  rw [show (s.bogWake (accessChans a a.data.length)).writeBarred a.addr a.data.length = false from hbar] at h
  cases h

/-- The codewords that a write touches in part and that cannot be corrected. -/
def spoiltCodewords (a : BogAccess) : List Nat :=
  ((cwOf a.addr a.data.length).filter (fun c => partWrite a.addr a.data.length c)).filter (fun c => a.ue.contains c)

/-- The Bog with the write's bytes stored, the uncorrectable codewords at its edges spoilt. -/
def BogState.merged (b : BogState) (a : BogAccess) (stamp : Nat) : BogState :=
  ((spoiltCodewords a).foldl (fun b c => b.write (32 * c) (damagedBytes c stamp)) b).write a.addr a.data

/-- The state with the write's bytes stored. -/
def State.bytesStored (s : State) (a : BogAccess) : State :=
  { s with bog := s.bog.merged a s.free, free := s.free + 1
           pcie := { s.pcie with wrBytes := s.pcie.wrBytes + a.data.length, lastStatus := 0 } }

/-- The codeword errors that a write meets are counted. -/
def State.mergeCounts (s : State) (corr bad : List Nat) : State :=
  bad.foldl (fun s _ => s.raise 5 11) (corr.foldl (fun s c => s.cwCorr c) s)

theorem bogStore_eq (s : State) (a : BogAccess) : s.bogStore a = ((s.bytesStored a).mergeCounts
    (((cwOf a.addr a.data.length).filter (fun c => partWrite a.addr a.data.length c)).filter (fun c => a.corr.contains c))
      (spoiltCodewords a)).patSpoil a.addr a.data.length := rfl

theorem mergeCounts_keeps {β : Type} (p : State → β) (hcorr : ∀ s cw, p (s.cwCorr cw) = p s) (hraise : ∀ s : State, p (s.raise 5 11) = p s)
    (s : State) (corr bad : List Nat) : p (s.mergeCounts corr bad) = p s :=
  (foldl_keeps p bad (fun s _ => s.raise 5 11) (fun s _ => hraise s) (corr.foldl (fun s c => s.cwCorr c) s)).trans
    (foldl_keeps p corr (fun s c => s.cwCorr c) hcorr s)

theorem patSpoil_byte (s : State) (a n i : Nat) : (s.patSpoil a n).bog.byte i = s.bog.byte i := by
  refine foldl_keeps (fun b : BogState => b.byte i) _ _ (fun b p => ?_) s.bog
  split
  · exact setPat_byte ..
  · rfl

/-- Pattern slot p loses LOADED where the write touches it. -/
def State.spoilOne (s : State) (a n : Nat) (b : BogState) (p : Nat) : BogState :=
  if overlap (s.patBase p) (s.patBytes p) a n then b.setPat p { b.pat p with loaded := false } else b

theorem patSpoil_eq (s : State) (a n : Nat) : s.patSpoil a n = { s with bog := patNums.foldl (s.spoilOne a n) s.bog } := rfl

theorem spoilOne_keeps (s : State) (a n q : Nat) {b : BogState} {p : Nat} (h : (b.pat p).loaded = false) :
    ((s.spoilOne a n b q).pat p).loaded = false := by
  unfold State.spoilOne
  split
  · by_cases hq : p = q
    · subst hq
      rw [BogState.pat_setPat_same]
    · rwa [BogState.pat_setPat_ne _ _ hq]
  · exact h

theorem foldl_spoilOne (s : State) {a n p : Nat} (h : overlap (s.patBase p) (s.patBytes p) a n = true) (l : List Nat) (hl : p ∈ l) (b : BogState) :
    ((l.foldl (s.spoilOne a n) b).pat p).loaded = false := by
  induction l generalizing b with
  | nil => exact absurd hl List.not_mem_nil
  | cons q l ih =>
    rcases List.mem_cons.mp hl with rfl | hl
    · refine foldl_stays (fun b : BogState => (b.pat p).loaded = false) l _ (fun b q hb => spoilOne_keeps s a n q hb) ?_
      rw [State.spoilOne, if_pos h, BogState.pat_setPat_same]
    · exact ih hl _

/-- A pattern slot under a write loses LOADED. -/
theorem patSpoil_loaded (s : State) {a n p : Nat} (hp : p < 16) (h : overlap (s.patBase p) (s.patBytes p) a n = true) :
    ((s.patSpoil a n).bog.pat p).loaded = false := by
  refine foldl_spoilOne s h patNums ?_ s.bog
  simp only [patNums, List.mem_cons, List.not_mem_nil, or_false]
  omega

theorem length_damagedBytes (cw stamp : Nat) : (damagedBytes cw stamp).length = 32 := by simp [damagedBytes]

/-- Outside the write's bytes and its spoilt codewords the store stands. -/
theorem merged_byte_out (b : BogState) (a : BogAccess) (stamp i : Nat) (hout : i < a.addr ∨ a.addr + a.data.length ≤ i) (hsound : i / 32 ∉ (spoiltCodewords a)) :
    (b.merged a stamp).byte i = b.byte i := by
  have hfold : ∀ (l : List Nat) (b : BogState), i / 32 ∉ l →
      (l.foldl (fun b c => b.write (32 * c) (damagedBytes c stamp)) b).byte i = b.byte i := fun l => by
    induction l with
    | nil => exact fun _ _ => rfl
    | cons c l ih =>
      intro b hl
      obtain ⟨hc, hl⟩ := not_or.mp (mt List.mem_cons.mpr hl)
      rw [List.foldl_cons, ih _ hl]
      exact BogState.byte_write_out _ _ _ _ (by rw [length_damagedBytes]; omega)
  exact (BogState.byte_write_out _ _ _ _ hout).trans (hfold _ b hsound)

theorem spoilt_sound {a : BogAccess} {i : Nat}
    (h : i / 32 ∉ a.ue ∨ ∀ j, a.addr ≤ j → j < a.addr + a.data.length → i / 32 ≠ j / 32) : i / 32 ∉ (spoiltCodewords a) := by
  intro hi
  simp only [spoiltCodewords, List.mem_filter, List.contains_iff_mem] at hi
  obtain ⟨⟨hcw, -⟩, hue⟩ := hi
  rcases h with h | h
  · exact h hue
  · obtain ⟨j, h1, h2, h3⟩ := mem_cwOf.mp hcw
    exact h j h1 h2 h3.symm

/-- What a stored write leaves: its bytes, and the state beside them. -/
theorem bogStore_served (s : State) (a : BogAccess) : (s.bogStore a).served = (s.bytesStored a).served := by
  rw [bogStore_eq]
  exact mergeCounts_keeps State.served cwCorr_served (fun s => raise_served s 5 11 none) _ _ _

theorem bogStore_byte (s : State) (a : BogAccess) (i : Nat) : (s.bogStore a).bog.byte i = (s.bog.merged a s.free).byte i := by
  rw [bogStore_eq, patSpoil_byte]
  exact mergeCounts_keeps (fun s => s.bog.byte i) (fun s cw => cwCorr_byte s cw i) (fun s => raise_byte s 5 11 none i) _ _ _

theorem read_of_byte {b c : BogState} (h : ∀ a, b.byte a = c.byte a) (a n : Nat) : b.read a n = c.read a n := by
  induction n generalizing a with
  | zero => rfl
  | succ n ih => rw [BogState.read, BogState.read, h, ih]

theorem bogStore_loaded (s : State) (a : BogAccess) {p : Nat} (hp : p < 16)
    (h : overlap (s.patBase p) (s.patBytes p) a.addr a.data.length = true) : ((s.bogStore a).bog.pat p).loaded = false := by
  rw [bogStore_eq]
  refine patSpoil_loaded _ hp ?_
  have hserved := mergeCounts_keeps State.served cwCorr_served (fun s => raise_served s 5 11 none) (s.bytesStored a)
    (((cwOf a.addr a.data.length).filter (fun c => partWrite a.addr a.data.length c)).filter (fun c => a.corr.contains c)) (spoiltCodewords a)
  have hcfg := congrArg (fun x => x.1.1.cfg) hserved
  simp only [State.patBase, State.patBytes, fld_of_cfg hcfg]
  exact h

end Sys2Proof.Machine

open Sys2Proof Sys2Proof.Machine

/-- Settles O58: a read by the bytes that `bogBytes` lists, a write by `merged` and what the errors beside it leave. -/
theorem bogWindow : Obligations.BogWindow := by
  unfold Obligations.BogWindow
  intro s a n w up ur rest
  have hrest : ∀ t : State, t.windowed = s.windowed → t.pcie.up = s.pcie.up → rest t := fun t hw hup => by
    simp only [State.windowed, Prod.mk.injEq] at hw
    obtain ⟨hbase, hslots, hlock, hsys⟩ := hw
    exact ⟨power_of_base hbase, cfg_of_base hbase, now_of_base hbase, hslots, hlock, hup, hsys⟩
  have hur6 := pcieUr_shows s (src := 6) rfl (by unfold chained; decide)
  have hur15 := pcieUr_shows s (src := 15) rfl (by unfold chained; decide)
  refine ⟨fun hdown => ⟨⟨_, rfl, memRequest_of_down _ hdown⟩, ⟨_, rfl, memRequest_of_down _ hdown⟩⟩, fun hup hopen => ⟨⟨_, rfl, ?_⟩, ⟨_, rfl, ?_⟩⟩,
    fun ⟨hup, hopen⟩ hclosed => ⟨_, rfl, ?_⟩, fun ⟨hup, hopen⟩ hclosed => ⟨_, rfl, ?_⟩, fun ⟨hup, hopen⟩ hpoisoned => ⟨_, rfl, ?_⟩,
    fun ⟨hup, hopen⟩ hsound hclosed => ⟨_, rfl, ?_⟩, fun ⟨hup, hopen⟩ hsound hclosed => ⟨fun hbar => ⟨_, rfl, ?_⟩, fun hbar => ⟨_, rfl, ?_⟩⟩,
    fun c => ⟨fun hpower => ⟨_, rfl, ?_⟩, fun hpower => ⟨_, rfl, if_neg hpower⟩⟩⟩
  · rw [show bar0Read a s = s.pcieUr 6 from memRequest_of_closed _ hup hopen]
    exact hur6
  · rw [show bar0Write a s = s.pcieUr 6 from memRequest_of_closed _ hup hopen]
    exact hur6
  · rw [show bar0Read a s = s.pcieUr 15 from (memRequest_of_open _ hup hopen).trans (if_pos hclosed)]
    exact hur15
  · rw [bar0Read_of_open a hup hopen hclosed]
    have hserved := cwErrors_keeps State.served cwCorr_served cwUe_served
    have hpcie := fun x corr ue => congrArg Prod.snd (hserved x corr ue)
    refine ⟨?_, ?_, ?_, fun i => ?_, hrest _ ?_ ?_, fun k hk hue => ?_⟩
    · exact congrArg PcieState.lastStatus (hpcie _ _ _)
    · exact (congrArg (fun p : PcieState => p.lastRead.length) (hpcie _ _ _)).trans (length_bogBytes _ _ _ _)
    · exact congrArg PcieState.rdBytes (hpcie _ _ _)
    · exact cwErrors_keeps (fun x => x.bog.byte i) (fun x cw => cwCorr_byte x cw i) (fun x cw => cwUe_byte x cw i) _ _ _
    · exact congrArg Prod.fst (hserved _ _ _)
    · exact (congrArg PcieState.up (hpcie (s.readServed _ _ _) _ _) :)
    · exact (congrArg (fun p : PcieState => p.lastRead[k]?) (hpcie _ _ _)).trans
        (bogBytes_of_sound _ hk fun h => hue (List.mem_filter.mp h).1)
  · rw [show bar0Write a s = s.raise 5 5 from (memRequest_of_open _ hup hopen).trans (if_pos hpoisoned)]
    exact ⟨raise_counts_pcie rfl (by unfold chained; decide) rfl, raise_onlyCounts s 5 5 none⟩
  · rw [show bar0Write a s = s.pcieUr 15 from
      (memRequest_of_open _ hup hopen).trans ((if_neg (by simp [hsound])).trans (if_pos hclosed))]
    exact hur15
  · rw [bar0Write_of_barred a hup hopen hsound hclosed hbar]
    exact ⟨raise_counts_of_unitless none rfl (by decide) (by decide) (by unfold chained; decide) rfl, fun i => raise_byte _ 19 20 none i, rfl,
      hrest _ rfl rfl⟩
  · rw [bar0Write_of_free a hup hopen hsound hclosed hbar]
    let x := s.bogWake (accessChans a a.data.length)
    have hserved := bogStore_served x a
    have hpcie := congrArg Prod.snd hserved
    refine ⟨?_, congrArg PcieState.wrBytes hpcie, congrArg PcieState.lastStatus hpcie, hrest _ (congrArg Prod.fst hserved)
      (congrArg PcieState.up hpcie :), fun i hout hcw => ?_, fun p hp hover => bogStore_loaded x a hp hover⟩
    · exact (read_of_byte (bogStore_byte x a) _ _).trans (BogState.read_write _ _ _)
    · exact (bogStore_byte x a i).trans (merged_byte_out _ a _ i hout (spoilt_sound hcw))
  · have heq : selfRefreshIdleTimeout c s = { s with bog := { s.bog with awake := BitVec.ofNat 8 (putBits s.bog.awake.toNat c 1 (ofBool false)) } } :=
      if_pos hpower
    have hbit : ∀ d : Nat, (BitVec.ofNat 8 (putBits s.bog.awake.toNat c 1 (ofBool false))).getLsbD d =
        if d = c.val then false else s.bog.awake.getLsbD d := fun d => getLsbD_putBit s.bog.awake d false c.isLt
    rw [heq]
    exact ⟨rfl, (hbit c).trans (if_pos rfl), fun d hd => (hbit d).trans (if_neg fun h => hd (Fin.ext h))⟩
end

section
/-! SUPPORT. The doorbells (R405, R406): what DB_STAT shows of a command, and the playback that a doorbell starts and stops. -/

namespace Sys2Proof.Machine

/-! ### DB_STAT (R405) -/

/-- The word of DB_STAT of a doorbell. -/
def State.dbWord (s : State) (db : Nat) : Nat := (NMap.get (fun _ => (0 : Word)) s.pcie.dbStat db).toNat

theorem dbWord_dbStat_same (s : State) {db result op tag : Nat} (hresult : result < 16) (hop : op < 16) (htag : tag < 256) :
    (s.dbStat db result op tag 0).dbWord db = result + 16 * op + 256 * tag := by
  unfold State.dbWord State.dbStat
  dsimp only
  rw [NMap.get_put_same, Word.toNat_ofNat]
  exact Nat.mod_eq_of_lt (by omega)

theorem dbWord_dbStat_ne (s : State) {db db' : Nat} (result op tag code : Nat) (h : db' ≠ db) :
    (s.dbStat db result op tag code).dbWord db' = s.dbWord db' := by
  unfold State.dbWord State.dbStat
  dsimp only
  rw [NMap.get_put_ne _ _ _ h]

/-- An outcome keeps the operation and the tag that DB_STAT shows. -/
theorem dbOutcome_eq (s : State) (db result code : Nat) :
    s.dbOutcome (some db) result code = s.dbStat db result (bitsAt (s.dbWord db) 4 4) (bitsAt (s.dbWord db) 8 8) code := rfl

/-- Nothing has changed but DB_STAT of the doorbell db, which shows a word. -/
theorem dbStat_frame (s : State) (db result op tag code : Nat) : s.dbStat db result op tag code =
    { s with pcie := { s.pcie with dbStat := (s.dbStat db result op tag code).pcie.dbStat } } := rfl

/-! ### The commands of a capture doorbell (R406) -/

/-- A doorbell command that the endpoint takes. -/
theorem captDoor_of_open {s : State} (op : Nat) (n : Fin 8) (tag : Fin 256) (hup : s.pcie.up = true) (hopen : s.memOpen = true) :
    s.memRequest (fun s => s.captDoor n op tag) = s.captDoor n op tag := memRequest_of_open (fun s => s.captDoor n op tag) hup hopen

theorem doorArm_of_layout {s : State} {n : Nat} (tag : Nat) (hidle : (s.bog.region n).active = false) (hlayout : s.armLayout n = true) :
    s.doorArm n tag = (s.armRegion n).1.dbStat (captDb n) 1 1 tag 0 := by
  have hcode : (s.armRegion n).2 = 0 := by
    unfold State.armRegion
    dsimp only
    rw [if_neg (by simp [hidle]), if_neg (by simp [hlayout])]
  unfold State.doorArm
  dsimp only
  rw [hcode]
  rfl

/-- An event of a source that names no unit and that nothing has counted before. -/
theorem raise_counts_of_unitless_source {s x : State} {b n : Nat} (u : Option Nat) (hunit : sourceUnits b n = []) (h7 : b ≠ 7) (h8 : b ≠ 8)
    (hc : ¬chained (32 * b + n)) (h : x.flt.source b n = s.flt.source b n) : Counts b n s (x.raise b n u) := by
  have hx : Counts b n x (x.raise b n u) := raise_counts_of_unitless u hunit h7 h8 hc rfl
  rwa [Counts, h] at hx

/-- A refused ARM shows its outcome and counts in both blocks. -/
theorem doorArm_of_refused {s : State} {n code result : Nat} (tag : Nat) (hcode : code ≠ 0) (hresult : (if code = 1 then 2 else 3) = result)
    (h : s.armRegion n = ((s.cmdStatus code n).raise 19 19, code)) :
    s.doorArm n tag = (((s.cmdStatus code n).raise 19 19).dbStat (captDb n) result 1 tag 0).raise 5 8 := by
  subst hresult
  unfold State.doorArm
  rw [h]
  dsimp only
  rw [if_neg hcode]
  exact if_pos (bne_iff_ne.mpr hcode)

/-- The outcome of a refused ARM in DB_STAT, with its event, after what its own refusal leaves. -/
theorem doorRefused_shows {A : List Nat} {s y : State} (db result tag : Nat) (h19 : Counts 19 19 s y)
    (h5 : y.flt.source 5 8 = s.flt.source 5 8) (honly : OnlyStatusCounts A s y) (htag : tag < 256) (hresult : result < 16) :
    let t := (y.dbStat db result 1 tag 0).raise 5 8
    Counts 19 19 s t ∧ Counts 5 8 s t ∧ OnlyStatusCounts A s { t with pcie := s.pcie } ∧ t.dbWord db = result + 16 * 1 + 256 * tag := by
  intro t
  obtain ⟨heq, hparts, hst⟩ := honly
  have hkeep : t.flt.source 19 19 = y.flt.source 19 19 :=
    raise_source_ne (y.dbStat db result 1 tag 0) 19 19 5 8 none (by unfold chained; decide) (by decide)
  refine ⟨?_, ?_, ⟨?_, ?_, hst⟩, ?_⟩
  · rwa [Counts, hkeep]
  · exact raise_counts_of_unitless_source (x := y.dbStat db result 1 tag 0) none rfl (by decide) (by decide) (by unfold chained; decide) h5
  · exact congrArg (fun x : State =>
      { x with flt := t.flt, twb := t.twb, peat := t.peat, mram := t.mram, bog := t.bog, pcie := s.pcie }) heq
  · exact countParts_of_fixed ((raiseEvs_fixed (y.dbStat db result 1 tag 0) _).trans (countParts_fixed hparts))
  · exact dbWord_dbStat_same y hresult (by decide) htag

theorem doorArm_refused_shows (s : State) (n tag code : Nat) (hn : n < 8) (hcode : code ≤ 2) (htag : tag < 256) (result : Nat) (hresult : result < 16) :
    let t := (((s.cmdStatus code n).raise 19 19).dbStat (captDb n) result 1 tag 0).raise 5 8
    Counts 19 19 s t ∧ Counts 5 8 s t ∧ OnlyStatusCounts [Reg.BOG_CMD_STATUS] s { t with pcie := s.pcie } ∧
      t.dbWord (captDb n) = result + 16 * 1 + 256 * tag := by
  obtain ⟨-, -, hcounts, honly⟩ := cmdStatus_raise s code n hcode hn
  exact doorRefused_shows _ _ _ hcounts (raise_source_ne (s.cmdStatus code n) 5 8 19 19 none (by unfold chained; decide) (by decide)) honly
    htag hresult

/-! ### START of a playback doorbell (R299, R406) -/

theorem pendingDone_pcie (s : State) (j code : Nat) : (s.pendingDone j code).pcie = s.pcie := by
  unfold State.pendingDone
  dsimp only
  split <;> rfl

theorem lawsStart_pcie (s : State) (d : Dir) : (s.lawsStart d).pcie = s.pcie := by
  refine foldl_keeps State.pcie _ _ (fun s k => ?_) s
  extract_lets j x s1 x1
  have h1 : s1.pcie = s.pcie := by
    simp only [s1]
    split <;> rfl
  split
  · split
    · exact (pendingDone_pcie _ _ _).trans h1
    · exact (pendingDone_pcie _ _ _).trans h1
  · exact h1

/-- A transition to a playback leaves the endpoint alone. -/
theorem beginTrans_pcie (s : State) (d : Dir) {t : Trans} (h : t.target = .playback) : (s.beginTrans d t).pcie = s.pcie := by
  have hecho : ∀ x : State, (x.echoHold d).pcie = x.pcie := fun x => foldl_keeps State.pcie _ _ (fun x m => setEcho_pcie x d m _) x
  rw [beginTrans_eq, setDir_pcie]
  unfold State.transPrep
  simp only [h, bne_self_eq_false, Bool.and_false, Bool.false_eq_true, if_false]
  split <;> split <;> simp only [hecho, lawsStart_pcie]

/-- The request that START of a playback doorbell makes. -/
def State.playReq (s : State) (p tag : Nat) : Req :=
  { target := .playback p, scope := (s.patDir p).bit, tag := hostTag tag, cause := 0, doorbell := some (playDb p), no := s.sys.serial + 1 }

/-- A loaded pattern for a point that does not transmit is refused in no direction but a muted one. -/
theorem refusal_of_playable {s : State} {q : Req} {p : Nat} (hq : q.target = .playback p) (hpoint : s.patTransmit p = false)
    (hloaded : (s.bog.pat p).loaded = true) (hmuted : s.dirSt (s.patDir p) ≠ .muted) : s.refusal q = none := by
  simp [State.refusal, State.reqAir, State.reqDirs, hq, hpoint, hloaded, hmuted]

/-- The transition that a request for playback starts. -/
def Req.playTrans (q : Req) (p : Nat) : Trans :=
  { target := .playback, cause := q.cause, no := q.no, tag := q.tag, pattern := some p, doorbell := q.doorbell }

/-- A direction that goes to a playback runs the request's transition, which its doorbell shows as pending. -/
theorem startReq_playback {s : State} {q : Req} {p : Nat} (hq : q.target = .playback p) : s.startReq q =
    ((s.beginTrans (s.patDir p) (q.playTrans p)).reqEnd q.no q.tag 1).dbOutcome q.doorbell 4 0 := by
  have hdirs : (s.reqDirs q).foldl (fun s d => s.startDir q d) s = s.beginTrans (s.patDir p) (q.playTrans p) := by
    simp only [State.reqDirs, hq, List.foldl_cons, List.foldl_nil, State.startDir]
    rfl
  have hruns : (s.beginTrans (s.patDir p) (q.playTrans p)).runsReq q.no = true := by
    have htrans := congrArg DirRec.trans (beginTrans_dirRec s (s.patDir p) (q.playTrans p))
    refine List.any_eq_true.mpr ⟨s.patDir p, by cases s.patDir p <;> decide, ?_⟩
    rw [htrans]
    exact decide_eq_true rfl
  unfold State.startReq
  rw [hq]
  dsimp only
  rw [hdirs, if_pos hruns]

theorem reqAwaits_of_silent {s : State} {q : Req} (hair : s.reqAir q = false) (hres : q.isResume = false) : s.reqAwaits q = 0 := by
  simp [State.reqAwaits, hair, hres]

/-- A host's request of a calm device, by a doorbell. -/
theorem hostRequest_of_calm_doorbell {s : State} (t : Target) (scope tag db : Nat) (h : Calm s) : s.hostRequest t scope tag 0 (some db) =
    (s.taken { s.hostReq t scope tag with doorbell := some db }).handle { s.hostReq t scope tag with doorbell := some db } := by
  obtain ⟨hup, -, -, -, hreq, hbehind, hent, -⟩ := h
  have hwait : State.waiting { s with sys := { s.sys with serial := s.sys.serial + 1 } } = none := by simp [State.waiting, hreq, hbehind]
  have hab : s.sleepAbandon = s := by simp [State.sleepAbandon, hent]
  rw [State.hostRequest, hab, State.request, if_neg (by simp [hup])]
  dsimp only
  rw [hwait]
  rfl

/-- The state in which the request of a playback doorbell is handled: DB_STAT shows it pending. -/
def State.playTaken (s : State) (p tag : Nat) : State := (s.dbStat (playDb p) 4 1 tag 0).taken (s.playReq p tag)

/-- START of a playback that nothing refuses and nothing holds. -/
theorem doorPlay_of_calm {s : State} {p : Nat} (tag : Nat) (hcalm : Calm s) (hloaded : (s.bog.pat p).loaded = true)
    (hpoint : s.patTransmit p = false) (hmuted : s.dirSt (s.patDir p) ≠ .muted) : s.doorPlay p tag =
      (((s.playTaken p tag).beginTrans (s.patDir p) ((s.playReq p tag).playTrans p)).reqEnd (s.sys.serial + 1) (hostTag tag) 1).dbOutcome
        (some (playDb p)) 4 0 := by
  have hrequest : s.doorPlay p tag = (s.playTaken p tag).handle (s.playReq p tag) :=
    hostRequest_of_calm_doorbell (s := s.dbStat (playDb p) 4 1 tag 0) (.playback p) (s.patDir p).bit tag (playDb p) hcalm
  have hidle : ∀ d, ((s.playTaken p tag).dirRec d).trans = none := fun d => (congrArg DirRec.trans (by cases d <;> rfl)).trans (calm_idle hcalm d)
  have hstate : (s.playTaken p tag).dirSt (s.patDir p) = s.dirSt (s.patDir p) := congrArg DirRec.st (by cases s.patDir p <;> rfl)
  have hrefusal : (s.playTaken p tag).refusal (s.playReq p tag) = none :=
    refusal_of_playable (s := s.playTaken p tag) rfl hpoint hloaded (fun h => hmuted (hstate.symm.trans h))
  obtain ⟨hup, -, -, hcheck, -⟩ := hcalm
  rw [hrequest, handle_of_start (s := s.playTaken p tag) hup (show Target.playback p ≠ .bad from nofun) (Nat.succ_ne_zero _) hidle hrefusal (reqAwaits_of_silent hpoint rfl) hcheck]
  exact startReq_playback rfl

/-- What START leaves. -/
theorem doorPlay_shows {s : State} {p : Nat} {tag : Nat} (htag : tag < 256) (hcalm : Calm s) (hloaded : (s.bog.pat p).loaded = true)
    (hpoint : s.patTransmit p = false) (hmuted : s.dirSt (s.patDir p) ≠ .muted) :
    (s.doorPlay p tag).dbWord (playDb p) = 4 + 16 * 1 + 256 * tag ∧
      (s.doorPlay p tag).sys = (((s.playTaken p tag).beginTrans (s.patDir p) ((s.playReq p tag).playTrans p)).reqEnd (s.sys.serial + 1)
        (hostTag tag) 1).sys ∧ (s.doorPlay p tag).cfg = s.cfg := by
  rw [doorPlay_of_calm tag hcalm hloaded hpoint hmuted]
  generalize hx : (s.playTaken p tag).beginTrans (s.patDir p) ((s.playReq p tag).playTrans p) = x
  have hpcie : x.pcie = (s.dbStat (playDb p) 4 1 tag 0).pcie := hx ▸ beginTrans_pcie (s.playTaken p tag) (s.patDir p) rfl
  have hcfg : x.cfg = s.cfg := hx ▸ cfg_of_base (beginTrans_base (s.playTaken p tag) (s.patDir p) _)
  have hword : (x.reqEnd (s.sys.serial + 1) (hostTag tag) 1).dbWord (playDb p) = 4 + 16 * 1 + 256 * tag := by
    have hsame : (x.reqEnd (s.sys.serial + 1) (hostTag tag) 1).pcie = (s.dbStat (playDb p) 4 1 tag 0).pcie := by
      rw [reqEnd_eq]
      exact hpcie
    have hshown := dbWord_dbStat_same s (db := playDb p) (result := 4) (op := 1) (by decide) (by decide) htag
    unfold State.dbWord at hshown ⊢
    rwa [hsame]
  refine ⟨?_, dbOutcome_sys _ _ 4 0, ?_⟩
  · have hop : bitsAt ((x.reqEnd (s.sys.serial + 1) (hostTag tag) 1).dbWord (playDb p)) 4 4 = 1 := by
      rw [hword]; unfold bitsAt; omega
    have hftag : bitsAt ((x.reqEnd (s.sys.serial + 1) (hostTag tag) 1).dbWord (playDb p)) 8 8 = tag := by
      rw [hword]; unfold bitsAt; omega
    rw [dbOutcome_eq, hop, hftag]
    exact dbWord_dbStat_same _ (by decide) (by decide) htag
  · rw [reqEnd_eq]
    exact hcfg

/-! ### STOP of a playback doorbell (R299, R406) -/

theorem patReturnNow_stays {P : BogState → Prop} (hP : BogClosed P) {s : State} (d : Dir) (h : P s.bog) : P (s.patReturnNow d).bog := by
  unfold State.patReturnNow
  split
  · exact h
  · split
    · exact patEnd_stays hP d h
    · split
      · exact patEnd_stays hP d (request_stays hP _ h)
      · exact patEnd_stays hP d (enterStandby_stays hP d 3 (raise_stays hP 0 7 none h))

/-- The pattern that plays in a direction. -/
def BogState.playingIn (b : BogState) : Dir → Option Playing
  | .dl => b.pbDl
  | .ul => b.pbUl

theorem playing_eq (s : State) (d : Dir) : s.playing d = s.bog.playingIn d := by cases d <;> rfl

/-- No trigger and no end of a pattern starts one. -/
theorem silent_stays (d : Dir) : BogClosed (fun b => b.playingIn d = none) where
  fire := fun s b n t h => by
    rw [fireRegion_withRegions]
    cases d <;> exact h
  stop := fun s e h => by
    cases d with
    | dl => cases e with
      | dl => rfl
      | ul => exact h
    | ul => cases e with
      | dl => exact h
      | ul => rfl

/-- Pattern p plays in direction d. -/
def State.playsHere (s : State) (p : Nat) (d : Dir) : Bool := match s.playing d with | some x => decide (x.pattern = p) | none => false

/-- STOP of pattern p in the directions in which it plays. -/
def State.stopIn (s : State) (p : Nat) (t : State) (d : Dir) : State :=
  if s.playsHere p d then (t.patReturnNow d).cmdStatus 0 d.num else t

theorem stopIn_stays (s : State) {p : Nat} {t : State} (d e : Dir) (h : t.playing e = none) : (s.stopIn p t d).playing e = none := by
  rw [playing_eq] at h ⊢
  unfold State.stopIn
  split
  · exact patReturnNow_stays (silent_stays e) d h
  · exact h

theorem stopIn_stops {s : State} {p : Nat} {x : Playing} (t : State) {d : Dir} (h : s.playing d = some x) (hp : x.pattern = p) :
    (s.stopIn p t d).playing d = none := by
  unfold State.stopIn
  rw [if_pos (show s.playsHere p d = true by unfold State.playsHere; rw [h]; exact decide_eq_true hp)]
  exact patReturnNow_playing t d

theorem stopIn_base (s : State) (p : Nat) (t : State) (d : Dir) : (s.stopIn p t d).base = t.base := by
  unfold State.stopIn
  split
  · exact (setSt_base _ _ _).trans (base_of_still (patReturnNow_still t d))
  · rfl

/-- The directions in which pattern p plays, stopped. -/
def State.stopAll (s : State) (p : Nat) : State := s.stopIn p (s.stopIn p s .dl) .ul

theorem stopAll_silent {s : State} {p : Nat} {x : Playing} {e : Dir} (h : s.playing e = some x) (hp : x.pattern = p) :
    (s.stopAll p).playing e = none := by
  cases e with
  | dl => exact stopIn_stays s .ul .dl (stopIn_stops s h hp)
  | ul => exact stopIn_stops _ h hp

theorem stopAll_base (s : State) (p : Nat) : (s.stopAll p).base = s.base := (stopIn_base s p _ .ul).trans (stopIn_base s p s .dl)

theorem patPlays_of_playing {s : State} {p : Nat} {x : Playing} {e : Dir} (h : s.playing e = some x) (hp : x.pattern = p) : s.patPlays p = true := by
  subst hp
  cases e with
  | dl => simp [State.patPlays, show s.bog.pbDl = some x from h]
  | ul => simp [State.patPlays, show s.bog.pbUl = some x from h]

theorem doorStop_of_playing {s : State} {p : Nat} (tag : Nat) (h : s.patPlays p = true) :
    s.doorStop p tag = (s.stopAll p).dbStat (playDb p) 1 2 tag 0 := if_neg (by simp [h])

theorem doorStop_of_silent {s : State} {p : Nat} (tag : Nat) (h : s.patPlays p = false) :
    s.doorStop p tag = (s.dbStat (playDb p) 3 2 tag 0).raise 5 8 := if_pos (by simp [h])

end Sys2Proof.Machine

open Sys2Proof Sys2Proof.Machine

/-- Settles O59: a capture doorbell by the Bog's command and `dbStat`, a playback doorbell by the request that START makes and the ends that STOP
brings about. -/
theorem doorbells : Obligations.Doorbells := by
  unfold Obligations.Doorbells
  intro s stat open_ with_
  have hwith : ∀ (db word : Nat) (u : State) (result op tag : Nat), result < 16 → op < 16 → tag < 256 → word = result + 16 * op + 256 * tag →
      with_ db word u (u.dbStat db result op tag 0) := fun db word u result op tag hr ho ht hw =>
    ⟨dbStat_frame u db result op tag 0, (dbWord_dbStat_same u hr ho ht).trans hw.symm, fun x hx => dbWord_dbStat_ne u result op tag 0 hx⟩
  refine ⟨fun n tag => ?_, fun p tag => ?_, fun off v => ?_⟩
  · intro db
    refine ⟨fun ⟨hup, hopen⟩ => ?_, fun ⟨hup, hopen⟩ hidle hlayout => ?_, fun ⟨hup, hopen⟩ hrefused => ⟨_, rfl, ?_⟩, fun hdown c hc => ?_⟩
    · have hregs := regsUp_of_memOpen hopen
      refine ⟨⟨_, rfl, ⟨_, rfl, ?_⟩⟩, ⟨_, rfl, ⟨_, rfl, ?_⟩⟩, ⟨_, rfl, ⟨_, rfl, ?_⟩⟩⟩
      · rw [show bogTrigger n s = s.triggerRegion n from ifUp_of_regsUp _ hregs,
          show captureDoorbellTrigger n tag s = (s.triggerRegion n).dbStat db 1 2 tag 0 from captDoor_of_open 2 n tag hup hopen]
        exact hwith db _ _ 1 2 tag (by decide) (by decide) tag.isLt rfl
      · rw [show bogStop n s = s.stopRegion n from ifUp_of_regsUp _ hregs,
          show captureDoorbellStop n tag s = (s.stopRegion n).dbStat db 1 3 tag 0 from captDoor_of_open 3 n tag hup hopen]
        exact hwith db _ _ 1 3 tag (by decide) (by decide) tag.isLt rfl
      · rw [show bogClear n s = s.clearRegion n from ifUp_of_regsUp _ hregs,
          show captureDoorbellClear n tag s = (s.clearRegion n).dbStat db 1 4 tag 0 from captDoor_of_open 4 n tag hup hopen]
        exact hwith db _ _ 1 4 tag (by decide) (by decide) tag.isLt rfl
    · refine ⟨_, rfl, ⟨_, rfl, ?_⟩⟩
      rw [show bogArm n s = (s.armRegion n).1 from ifUp_of_regsUp _ (regsUp_of_memOpen hopen),
        show captureDoorbellArm n tag s = s.doorArm n tag from captDoor_of_open 1 n tag hup hopen, doorArm_of_layout _ hidle hlayout]
      exact hwith db _ _ 1 1 tag (by decide) (by decide) tag.isLt rfl
    · rw [show captureDoorbellArm n tag s = s.doorArm n tag from captDoor_of_open 1 n tag hup hopen]
      cases hactive : (s.bog.region n).active with
      | true =>
        rw [doorArm_of_refused (result := 3) tag (by decide) rfl (if_pos hactive), if_pos rfl]
        exact doorArm_refused_shows s n tag 2 n.isLt (by decide) tag.isLt 3 (by decide)
      | false =>
        have hlayout : s.armLayout n = false := hrefused.resolve_left (by simp [hactive])
        rw [doorArm_of_refused (result := 2) tag (by decide) rfl ((if_neg (by simp [hactive])).trans (if_pos (by simp [hlayout]))),
          if_neg (by decide)]
        exact doorArm_refused_shows s n tag 1 n.isLt (by decide) tag.isLt 2 (by decide)
    · simp only [List.mem_cons, List.not_mem_nil, or_false] at hc
      rcases hc with rfl | rfl | rfl | rfl <;> exact ⟨_, rfl, memRequest_of_down _ hdown⟩
  · intro db d
    have hstop : open_ → playbackDoorbellStop p tag s = s.doorStop p tag := fun ⟨hup, hopen⟩ =>
      memRequest_of_open (fun s => s.playDoor p 2 tag) hup hopen
    refine ⟨fun ⟨hup, hopen⟩ hcalm hloaded hpoint hmuted => ⟨_, rfl, ?_⟩, fun hopen hsilent => ⟨_, rfl, ?_⟩,
      fun e x hopen hplay hp => ⟨_, rfl, ?_⟩, fun hdown => ⟨⟨_, rfl, ?_⟩, ⟨_, rfl, ?_⟩⟩⟩
    · rw [show playbackDoorbellStart p tag s = s.doorPlay p tag from memRequest_of_open (fun s => s.playDoor p 1 tag) hup hopen]
      obtain ⟨hword, hsys, hcfg⟩ := doorPlay_shows tag.isLt hcalm hloaded hpoint hmuted
      let x := (s.playTaken p tag).beginTrans d ((s.playReq p tag).playTrans p)
      have hend := reqEnd_sys x (s.sys.serial + 1) (hostTag tag) 1
      have hrec : ∀ e, (s.doorPlay p tag).dirRec e = x.dirRec e := fun e => by
        cases e
        · exact (congrArg Sys.dl (hsys.trans hend)).trans rfl
        · exact (congrArg Sys.ul (hsys.trans hend)).trans rfl
      have htaken : ∀ e, (s.playTaken p tag).dirRec e = s.dirRec e := fun e => by cases e <;> rfl
      refine ⟨hword, ?_, ?_, hcfg, ?_⟩
      · exact (congrArg DirRec.st (hrec d)).trans ((beginTrans_dirSt (s.playTaken p tag) d d _).trans (congrArg DirRec.st (htaken d)))
      · exact (hrec d.other).trans ((beginTrans_onlyDir (s.playTaken p tag) d _).other.trans (htaken d.other))
      · exact (congrArg DirRec.trans (hrec d)).trans
          (congrArg DirRec.trans (beginTrans_dirRec (s.playTaken p tag) d ((s.playReq p tag).playTrans p)))
    · rw [hstop hopen, doorStop_of_silent tag hsilent]
      exact ⟨raise_counts_pcie rfl (by unfold chained; decide) rfl, dbWord_dbStat_same s (by decide) (by decide) tag.isLt,
        raise_onlyCounts_offPcie s _ 5 8 none⟩
    · rw [hstop hopen, doorStop_of_playing tag (patPlays_of_playing hplay hp)]
      exact ⟨stopAll_silent hplay hp, dbWord_dbStat_same _ (by decide) (by decide) tag.isLt, cfg_of_base (stopAll_base s p),
        power_of_base (stopAll_base s p)⟩
    · exact memRequest_of_down (fun s => s.playDoor p 1 tag) hdown
    · exact memRequest_of_down (fun s => s.playDoor p 2 tag) hdown
  · refine ⟨fun ⟨hup, hopen⟩ => ⟨_, rfl, ?_⟩, fun hdown => ⟨_, rfl, memRequest_of_down _ hdown⟩, fun hup hclosed => ⟨_, rfl, ?_⟩⟩
    · rw [show doorbellMalformed off v s = s.raise 5 7 from memRequest_of_open (fun s => s.raise 5 7) hup hopen]
      exact ⟨raise_counts_pcie rfl (by unfold chained; decide) rfl, raise_onlyCounts s 5 7 none⟩
    · rw [show doorbellMalformed off v s = s.pcieUr 6 from memRequest_of_closed _ hup hclosed]
      obtain ⟨hcounts, hpcie, -⟩ := pcieUr_shows s (src := 6) rfl (by unfold chained; decide)
      exact ⟨hcounts, congrArg PcieState.lastStatus hpcie⟩
end

section
/-! SUPPORT. What the housekeeping commands leave alone, and what an urgent trigger does to each converter (R316–R319). -/

namespace Sys2Proof.Machine

/-! ### The converters' records -/

theorem hkRec_setHk_same (s : State) {c : Nat} (r : HkRec) : (s.setHk c r).hkRec c = r := by
  unfold State.setHk State.hkRec
  split <;> rfl

theorem hkRec_setHk_other (s : State) {c c' : Nat} (r : HkRec) (hc : c < 2) (hc' : c' < 2) (h : c' ≠ c) : (s.setHk c r).hkRec c' = s.hkRec c' := by
  unfold State.setHk State.hkRec
  by_cases h0 : c = 0
  · rw [if_pos h0, if_neg (by omega), if_neg (by omega)]
  · rw [if_neg h0, if_pos (by omega), if_pos (by omega)]

/-- What a state holds beside the converters, the status registers and what counting an event changes. -/
def State.offHk (s : State) : State × (BogState × TwbState) := State.uncounted { s with hk := {} }

theorem setHk_offHk (s : State) (c : Nat) (r : HkRec) : (s.setHk c r).offHk = s.offHk := by
  unfold State.setHk
  split <;> rfl

theorem raise_offHk (s : State) (b n : Nat) : (s.raise b n).offHk = s.offHk := Prod.ext rfl (raiseEvs_fixed _ _)

theorem setSt_offHk (s : State) (a n : Nat) : (s.setSt a n).offHk = s.offHk := rfl

/-- Where a command changes nothing beside the converters, its frame is what it does to the status registers. -/
theorem onlyStatusCounts_of_offHk {A : List Nat} {s t : State} (h : t.offHk = s.offHk) (hst : ∀ a, a ∉ A → t.st a = s.st a) :
    OnlyStatusCounts A s { t with hk := s.hk } :=
  onlyStatusCounts_of_uncounted (congrArg (fun p : State × (BogState × TwbState) => ({ p.1 with hk := s.hk }, p.2)) h) hst

theorem onlyCounts_of_offHk {s t : State} (h : t.offHk = s.offHk) (hsts : t.sts = s.sts) : OnlyCounts s { t with hk := s.hk } :=
  onlyCounts_of_uncounted (congrArg (fun p : State × (BogState × TwbState) => ({ p.1 with hk := s.hk }, p.2)) h) hsts

/-! ### An urgent trigger (R316, R317) -/

/-- An urgent trigger as converter c meets it. -/
def State.hkTake (s : State) (bit c : Nat) : State :=
  if !s.hkOn || !bitAt (s.rd (hkCtrlReg c)) bit then s
  else if (s.hkRec c).injPending || (s.hkRec c).injRun then s.raise 18 (4 + c)
  else (s.setHk c { s.hkRec c with injPending := true }).bumpF Reg.HK_TRIG_COUNT (16 * c) 16 1

theorem hkTrigger_eq (s : State) (bit : Nat) : s.hkTrigger bit = (s.hkTake bit 0).hkTake bit 1 := rfl

/-- What two states may differ in while converter c takes no notice: neither its power nor a setting, neither its record nor its counts. -/
structure HkAgree (c : Nat) (s t : State) : Prop where
  on : t.hkOn = s.hkOn
  cfg : t.cfg = s.cfg
  rcd : t.hkRec c = s.hkRec c
  ignored : t.flt.source 18 (4 + c) = s.flt.source 18 (4 + c)
  count : t.stF Reg.HK_TRIG_COUNT (16 * c) 16 = s.stF Reg.HK_TRIG_COUNT (16 * c) 16

theorem HkAgree.refl (c : Nat) (s : State) : HkAgree c s s := ⟨rfl, rfl, rfl, rfl, rfl⟩

theorem HkAgree.trans {c : Nat} {s t u : State} (h : HkAgree c s t) (k : HkAgree c t u) : HkAgree c s u :=
  ⟨k.on.trans h.on, k.cfg.trans h.cfg, k.rcd.trans h.rcd, k.ignored.trans h.ignored, k.count.trans h.count⟩

/-- What an urgent trigger does to converter c between s and t: it accepts it, or counts it ignored while an injected run is pending or in
progress; a trigger that it does not select passes it by. -/
def HkTakes (bit c : Nat) (s t : State) : Prop :=
  (s.hkOn = false ∨ bitAt (s.rd (hkCtrlReg c)) bit = false → t.hkRec c = s.hkRec c) ∧
  (s.hkOn = true → bitAt (s.rd (hkCtrlReg c)) bit = true → (s.hkRec c).injPending = true ∨ (s.hkRec c).injRun = true →
    t.hkRec c = s.hkRec c ∧ Counts 18 (4 + c) s t) ∧
  (s.hkOn = true → bitAt (s.rd (hkCtrlReg c)) bit = true → (s.hkRec c).injPending = false → (s.hkRec c).injRun = false →
    t.hkRec c = { s.hkRec c with injPending := true } ∧
      t.stF Reg.HK_TRIG_COUNT (16 * c) 16 = satAdd 65535 (s.stF Reg.HK_TRIG_COUNT (16 * c) 16) 1)

theorem HkTakes.of_agree {bit c : Nat} {s s' t t' : State} (h : HkTakes bit c s' t') (hs : HkAgree c s s') (ht : HkAgree c t' t) : HkTakes bit c s t := by
  unfold HkTakes Counts at h ⊢
  rw [ht.rcd, ht.ignored, ht.count]
  rwa [hs.on, rd_of_cfg hs.cfg, hs.rcd, hs.ignored, hs.count] at h

theorem hkOn_of_units {s t : State} (hup : t.isUp = s.isUp) (hunits : t.flt.units = s.flt.units) : t.hkOn = s.hkOn := by
  unfold State.hkOn State.isOut State.isFenced State.isRetired State.unitSt Flt.unit
  rw [hup, hunits]

theorem hkTake_takes (s : State) (bit : Nat) {c : Nat} (hc : c < 2) : HkTakes bit c s (s.hkTake bit c) := by
  unfold State.hkTake
  refine ⟨fun hoff => ?_, fun hon hbit hbusy => ?_, fun hon hbit hfree hidle => ?_⟩
  · rw [if_pos (by rcases hoff with h | h <;> simp [h])]
  · rw [if_neg (by simp [hon, hbit]), if_pos (by simpa using hbusy)]
    exact ⟨rfl, raise_counts_of_flt 18 (4 + c) none (by unfold chained; omega) (by decide) rfl⟩
  · rw [if_neg (by simp [hon, hbit]), if_neg (by simp [hfree, hidle])]
    refine ⟨hkRec_setHk_same s _, ?_⟩
    rw [stF_bumpF_same _ _ _ (by omega), stF_of_st (st_of_sts (setHk_sts s c _) _)]
    rfl

/-- Converter c' takes no notice of what the other one does with a trigger. -/
theorem hkTake_agree (s : State) (bit : Nat) {c c' : Nat} (hc : c < 2) (hc' : c' < 2) (h : c' ≠ c) : HkAgree c' s (s.hkTake bit c) := by
  unfold State.hkTake
  split
  · exact HkAgree.refl c' s
  · split
    · have hunit : sourceUnits 18 (4 + c) = [] := by
        rcases (by omega : c = 0 ∨ c = 1) with rfl | rfl <;> rfl
      exact ⟨hkOn_of_units rfl (raise_units s hunit), rfl, rfl, raise_source_ne s _ _ _ _ none (by unfold chained; omega) (by omega), rfl⟩
    · refine ⟨hkOn_of_units (by simp [State.isUp, State.bumpF, State.setStF]) (congrArg Flt.units (setHk_flt s c _)), setHk_cfg s c _,
        hkRec_setHk_other s _ hc hc' h, congrArg (fun f : Flt => f.source 18 (4 + c')) (setHk_flt s c _), ?_⟩
      exact (stF_setStF_disjoint _ _ _ (by omega) (by omega)).trans (stF_of_st (st_of_sts (setHk_sts s c _) _) _ _)

/-- Each converter takes an urgent trigger as it stands. -/
theorem hkTrigger_takes (s : State) (bit : Nat) {c : Nat} (hc : c < 2) : HkTakes bit c s (s.hkTrigger bit) := by
  rw [hkTrigger_eq]
  rcases (by omega : c = 0 ∨ c = 1) with rfl | rfl
  · exact (hkTake_takes s bit (by decide)).of_agree (HkAgree.refl 0 s) (hkTake_agree _ bit (by decide) (by decide) (by decide))
  · exact (hkTake_takes _ bit (by decide)).of_agree (hkTake_agree s bit (by decide) (by decide) (by decide)) (HkAgree.refl 1 _)

theorem hkTake_offHk (s : State) (bit c : Nat) : (s.hkTake bit c).offHk = s.offHk := by
  unfold State.hkTake
  split
  · rfl
  · split
    · exact raise_offHk s 18 (4 + c)
    · exact (setSt_offHk _ _ _).trans (setHk_offHk s c _)

theorem hkTake_st (s : State) (bit c : Nat) {a : Nat} (ha : a ≠ Reg.HK_TRIG_COUNT) : (s.hkTake bit c).st a = s.st a := by
  unfold State.hkTake
  split
  · rfl
  · split
    · rfl
    · exact (st_bumpF_ne _ _ _ _ ha).trans (st_of_sts (setHk_sts s c _) a)

/-- What an urgent trigger leaves of the converters: all but their records. -/
theorem hkTake_hk (s : State) (bit c : Nat) : (s.hkTake bit c).hk = { s.hk with a := (s.hkTake bit c).hk.a, b := (s.hkTake bit c).hk.b } := by
  unfold State.hkTake
  split
  · rfl
  · split
    · rfl
    · unfold State.setHk
      split <;> rfl

theorem hkTrigger_hk (s : State) (bit : Nat) : (s.hkTrigger bit).hk = { s.hk with a := (s.hkTrigger bit).hk.a, b := (s.hkTrigger bit).hk.b } := by
  rw [hkTrigger_eq]
  conv_lhs => rw [hkTake_hk, hkTake_hk]

theorem hkTrigger_offHk (s : State) (bit : Nat) : (s.hkTrigger bit).offHk = s.offHk := (hkTake_offHk _ bit 1).trans (hkTake_offHk s bit 0)

theorem hkTrigger_st (s : State) (bit : Nat) {a : Nat} (ha : a ≠ Reg.HK_TRIG_COUNT) : (s.hkTrigger bit).st a = s.st a :=
  (hkTake_st _ bit 1 ha).trans (hkTake_st s bit 0 ha)

/-- A source of block 18 other than those of an ignored trigger keeps its count. -/
theorem hkTrigger_source (s : State) (bit : Nat) {n : Nat} (hn : n < 32) (h4 : n ≠ 4) (h5 : n ≠ 5) : (s.hkTrigger bit).flt.source 18 n = s.flt.source 18 n := by
  have hstep : ∀ (x : State) (c : Nat), c < 2 → (x.hkTake bit c).flt.source 18 n = x.flt.source 18 n := fun x c hc => by
    unfold State.hkTake
    split
    · rfl
    · split
      · exact raise_source_ne x _ _ _ _ none (by unfold chained; omega) (by omega)
      · exact congrArg (fun f : Flt => f.source 18 n) (setHk_flt x c _)
  exact (hstep _ 1 (by decide)).trans (hstep s 0 (by decide))

/-! ### The comparators (R319) -/

theorem setOvd_ovd (s : State) {l : Nat} (on : Bool) (hl : l < 4) (m : Nat) :
    (s.setOvd l on).hk.ovd.getLsbD m = if m = l then on else s.hk.ovd.getLsbD m := getLsbD_putBit s.hk.ovd m on hl

theorem setOvd_agree (s : State) (c l : Nat) (on : Bool) : HkAgree c s (s.setOvd l on) := ⟨rfl, rfl, rfl, rfl, rfl⟩

/-- An event of the converters that names no unit, beside those of an ignored trigger, is no notice to converter c. -/
theorem raise_agree (s : State) {c n : Nat} (hunit : sourceUnits 18 n = []) (hc : c < 2) (h : n ≠ 4 + c) : HkAgree c s (s.raise 18 n) :=
  ⟨hkOn_of_units rfl (raise_units s hunit), rfl, rfl, raise_source_ne s _ _ _ _ none (by unfold chained; omega) (by omega), rfl⟩

/-- The state in which a comparator has tripped, before its trigger. -/
def State.tripped (s : State) (l : Nat) : State := (s.setOvd l true).raise 18 (15 + l)

theorem tripped_agree (s : State) {c l : Nat} (hl : l < 4) (hc : c < 2) : HkAgree c s (s.tripped l) := by
  have hunit : sourceUnits 18 (15 + l) = [] := by
    rcases (by omega : l = 0 ∨ l = 1 ∨ l = 2 ∨ l = 3) with rfl | rfl | rfl | rfl <;> rfl
  exact (setOvd_agree s c l true).trans (raise_agree _ hunit hc (by omega))

/-! ### The trigger pin (R318) -/

/-- The state of an accepted edge, before the Bog hears of it. -/
def State.edgeTaken (s : State) (e : Nat) : State := State.hkTrigger { s with hk := { s.hk with trigLast := some e } } 16

theorem hkTrigEdge_of_taken {s : State} {e : Nat} (hon : s.hkOn = true) (hen : bitAt (s.rd Reg.HK_HK_TRIG_CFG) 0 = true) (hok : s.hk.trigStuck = false)
    (hfar : ¬∃ l, s.hk.trigLast = some l ∧ e < l + usTime (s.fld Reg.HK_HK_TRIG_HOLD 0 16)) :
    hkTrigEdge e s = { s.edgeTaken e with bog := fireWhere (s.edgeTaken e) (s.edgeTaken e).bog e (fun n => (s.edgeTaken e).trigKind n = 6) } := by
  unfold hkTrigEdge
  rw [if_neg (by simp [hon, hen, hok])]
  cases hlast : s.hk.trigLast with
  | none => rfl
  | some l => exact if_neg (fun h => hfar ⟨l, hlast, of_decide_eq_true h⟩)

theorem hkTrigEdge_of_near {s : State} {e : Nat} (hon : s.hkOn = true) (hen : bitAt (s.rd Reg.HK_HK_TRIG_CFG) 0 = true) (hok : s.hk.trigStuck = false)
    (hnear : ∃ l, s.hk.trigLast = some l ∧ e < l + usTime (s.fld Reg.HK_HK_TRIG_HOLD 0 16)) : hkTrigEdge e s = s.raise 18 6 := by
  obtain ⟨l, hlast, hlt⟩ := hnear
  unfold hkTrigEdge
  rw [if_neg (by simp [hon, hen, hok])]
  simp only [hlast]
  exact if_pos (decide_eq_true hlt)

theorem fire_offHk (s : State) (x : State) (e : Nat) (p : Nat → Bool) : State.offHk { s with bog := fireWhere x s.bog e p } = s.offHk :=
  Prod.ext rfl (Prod.ext (fireWhere_mem x s.bog e p) rfl)

end Sys2Proof.Machine

open Sys2Proof Sys2Proof.Machine

/-- Settles O50: both converters take an urgent trigger by `hkTrigger_takes`, whatever pin or comparator it comes from. -/
theorem hkTriggers : Obligations.HkTriggers := by
  unfold Obligations.HkTriggers
  intro s on takes frame
  have hnum : ∀ c : HkConv, convNum c < 2 := fun c => by cases c <;> decide
  have htakes : ∀ (bit : Nat) (t : State), (∀ c : HkConv, HkTakes bit (convNum c) s t) → takes bit t := fun bit t h => h
  have hoff : ¬on → (!s.hkOn || !bitAt (s.rd Reg.HK_HK_TRIG_CFG) 0 || s.hk.trigStuck) = true := by
    intro h
    simp only [on, not_and_or, Bool.not_eq_true, Bool.not_eq_false] at h
    rcases h with h | h | h <;> simp [h]
  refine ⟨fun e => ?_, fun h => ⟨_, rfl, ?_⟩, fun ⟨hon, hen, hok⟩ => ⟨_, rfl, ?_⟩, ⟨_, rfl, rfl⟩, fun x => ?_⟩
  · intro near
    refine ⟨fun h => ⟨_, rfl, ?_⟩, fun ⟨hon, hen, hok⟩ hnear => ⟨_, rfl, ?_⟩, fun ⟨hon, hen, hok⟩ hfar => ⟨_, rfl, ?_⟩⟩
    · exact if_pos (hoff h)
    · rw [hkTrigEdge_of_near hon hen hok hnear]
      exact ⟨raise_counts_of_flt 18 6 none (by unfold chained; decide) (by decide) rfl, raise_onlyCounts s 18 6 none⟩
    · rw [hkTrigEdge_of_taken hon hen hok hfar]
      refine ⟨congrArg HkState.trigLast (hkTrigger_hk _ 16), htakes 16 _ fun c => ?_, ?_⟩
      · exact (hkTrigger_takes { s with hk := { s.hk with trigLast := some e } } 16 (hnum c)).of_agree ⟨rfl, rfl, rfl, rfl, rfl⟩ ⟨rfl, rfl, rfl, rfl, rfl⟩
      · refine onlyStatusCounts_of_offHk ((fire_offHk (s.edgeTaken e) (s.edgeTaken e) e _).trans (hkTrigger_offHk _ 16)) fun a ha => ?_
        exact hkTrigger_st _ 16 (fun h => ha (by simp [h]))
  · exact if_pos (hoff h)
  · rw [show hkTrigStuck s = State.raise { s with hk := { s.hk with trigStuck := true } } 18 7 from if_neg (by simp [hon, hen, hok])]
    exact ⟨rfl, raise_counts_of_flt 18 7 none (by unfold chained; decide) (by decide) rfl,
      onlyCounts_of_offHk (raise_offHk { s with hk := { s.hk with trigStuck := true } } 18 7) rfl⟩
  · intro l armed
    refine ⟨fun h => ⟨_, rfl, ?_⟩, fun ⟨hup, hen, htab, hovd, habove⟩ => ⟨_, rfl, ?_⟩, fun h => ⟨_, rfl, if_pos h⟩, fun h => ⟨_, rfl, ?_⟩⟩
    · refine if_pos ?_
      simp only [armed, not_and_or, Bool.not_eq_true, Bool.not_eq_false] at h
      rcases h with h | h | h | h | h <;> simp [l, h]
    · rw [show overdriveTrip x s = (s.tripped l).hkTrigger (19 + l) from
        if_neg (Bool.eq_false_iff.mp (by
          simp only [Bool.or_eq_false_iff, Bool.not_eq_false']; exact ⟨⟨⟨⟨hup, hen⟩, htab⟩, hovd⟩, habove⟩))]
      have hovds : ∀ m : Nat, ((s.tripped l).hkTrigger (19 + l)).hk.ovd.getLsbD m = if m = l then true else s.hk.ovd.getLsbD m := fun m =>
        (congrArg (fun h : HkState => h.ovd.getLsbD m) (hkTrigger_hk (s.tripped l) (19 + l))).trans (setOvd_ovd s true l.isLt m)
      refine ⟨(hovds l).trans (if_pos rfl), ?_, htakes (19 + l) _ fun c => ?_, ?_, fun m hm => (hovds m).trans (if_neg (by omega))⟩
      · unfold Counts
        rw [hkTrigger_source _ _ (by omega) (by omega) (by omega)]
        exact raise_counts_of_flt (s := s) (x := s.setOvd l true) 18 (15 + l) none (by unfold chained; omega) (by decide) rfl
      · exact (hkTrigger_takes (s.tripped l) (19 + l) (hnum c)).of_agree (tripped_agree s l.isLt (hnum c)) (HkAgree.refl _ _)
      · refine onlyStatusCounts_of_offHk ((hkTrigger_offHk _ _).trans ((raise_offHk (s.setOvd l true) 18 (15 + l)).trans rfl)) fun a ha => ?_
        exact hkTrigger_st _ _ (fun h => ha (by simp [h]))
    · rw [show overdriveRearm x s = s.setOvd l false from if_neg (by simp [l, h])]
      exact ⟨rfl, (setOvd_ovd s false l.isLt l).trans (if_pos rfl), fun m hm => (setOvd_ovd s false l.isLt m).trans (if_neg (by omega))⟩
end

section
/-! SUPPORT. The throttle's steps and their undoing, and the fence of a sensor (R341, R344, R345, R350). -/

namespace Sys2Proof.Machine

/-! ### The next slot to drop (R344) -/

/-- What a fold that keeps one element of its list answers is in the list, or was there before. -/
theorem mem_of_pick {α : Type} {f : Option α → α → Option α} (hf : ∀ m e x, f m e = some x → x = e ∨ m = some x) {x : α} (l : List α) (m : Option α)
    (h : l.foldl f m = some x) : x ∈ l ∨ m = some x := by
  induction l generalizing m with
  | nil => exact Or.inr h
  | cons e l ih =>
    rcases ih _ h with hmem | hx
    · exact Or.inl (List.mem_cons_of_mem e hmem)
    · rcases hf m e x hx with rfl | hm
      · exact Or.inl List.mem_cons_self
      · exact Or.inr hm

theorem nextDrop_droppable {s : State} {d : Dir} {n : Nat} (h : s.nextDrop = some (d, n)) : n ∈ s.droppable d := by
  unfold State.nextDrop at h
  refine (mem_of_pick (fun m e x hx => ?_) _ none h).elim (fun hmem => ?_) (fun hnone => nomatch hnone)
  · cases m with
    | none => exact Or.inl (Option.some.inj hx).symm
    | some b =>
      dsimp only at hx
      split at hx
      · exact Or.inl (Option.some.inj hx).symm
      · exact Or.inr hx
  · rcases List.mem_append.mp hmem with hmem | hmem <;> obtain ⟨m, hm, heq⟩ := List.mem_map.mp hmem <;> cases heq <;> exact hm

theorem nextDrop_slot {s : State} {d : Dir} {n : Nat} (h : s.nextDrop = some (d, n)) :
    n < 17 ∧ s.slotPrio d n < 15 ∧ (s.slotRec d n).dropped = false := by
  obtain ⟨hlive, hcond⟩ := List.mem_filter.mp (nextDrop_droppable h)
  simp only [Bool.and_eq_true, Bool.not_eq_true', decide_eq_true_eq] at hcond
  exact ⟨enabled_lt (List.mem_filter.mp hlive).1, hcond.2, hcond.1.2⟩

/-- Another slot keeps its record while one is set. -/
theorem slotRec_setSlot_other (s : State) {d c : Dir} {n m : Nat} (r : SlotRec) (hn : n < 17) (hm : m < 17) (h : ¬(c = d ∧ m = n)) :
    (s.setSlot d n r).slotRec c m = s.slotRec c m :=
  NMap.get_put_ne _ _ _ (fun hkey => h ((slotKey_inj hm hn).mp hkey))

/-! ### Dropping (R344) -/

/-- A slot dropped, before the counts. -/
def State.slotDropped (s : State) (d : Dir) (n : Nat) : State :=
  let s := s.clocksAnew.setSlot d n { s.slotRec d n with dropped := true }
  State.bumpF { s with therm := { s.therm with dropped := slotKey d n :: s.therm.dropped } } Reg.THERM_THR_COUNT 16 16 1

theorem slotDrop_of_some {s : State} {d : Dir} {n : Nat} (hup : s.isUp = true) (hthr : s.therm.throttling = true) (hhalf : s.bog.halving = false)
    (hhold : s.dropHold ≤ s.therm.stepN) (h : s.nextDrop = some (d, n)) :
    slotDrop s = ((s.slotDropped d n).raise 2 13).raise (12 + d.num) 27 := by
  unfold slotDrop
  rw [if_neg (by simp [hup, hthr, hhalf, hhold])]
  dsimp only
  rw [show s.clocksAnew.nextDrop = some (d, n) from h]
  rfl

/-- What a dropped slot leaves in the state, whatever is counted for it. -/
theorem slotDropped_raised (x : State) (m : Nat) : ((x.raise 2 13).raise m 27).slots = x.slots ∧ ((x.raise 2 13).raise m 27).therm = x.therm ∧
    ((x.raise 2 13).raise m 27).sts = x.sts := ⟨rfl, rfl, rfl⟩

/-- What the halving of the capture rate leaves in the state, whatever is counted for it. -/
theorem halve_raised (x : State) : ((x.raise 2 14).raise 19 22).slots = x.slots ∧ ((x.raise 2 14).raise 19 22).therm = x.therm ∧
    ((x.raise 2 14).raise 19 22).sts = x.sts ∧ ((x.raise 2 14).raise 19 22).cfg = x.cfg ∧ ((x.raise 2 14).raise 19 22).power = x.power :=
  ⟨rfl, rfl, rfl, rfl, rfl⟩

theorem slotRec_of_slots {s t : State} (h : t.slots = s.slots) (d : Dir) (n : Nat) : t.slotRec d n = s.slotRec d n := by
  rw [State.slotRec, h, State.slotRec]

theorem slotDropped_slotRec (s : State) (d : Dir) (n : Nat) : (s.slotDropped d n).slotRec d n = { s.slotRec d n with dropped := true } :=
  slotRec_setSlot_same s.clocksAnew d n _

theorem slotDropped_slotRec_other (s : State) {d c : Dir} {n m : Nat} (hn : n < 17) (hm : m < 17) (h : ¬(c = d ∧ m = n)) :
    (s.slotDropped d n).slotRec c m = s.slotRec c m := slotRec_setSlot_other s.clocksAnew _ hn hm h

theorem slotDropped_count (s : State) (d : Dir) (n : Nat) :
    (s.slotDropped d n).stF Reg.THERM_THR_COUNT 16 16 = satAdd 65535 (s.stF Reg.THERM_THR_COUNT 16 16) 1 :=
  stF_bumpF_same { s.clocksAnew.setSlot d n { s.slotRec d n with dropped := true } with
    therm := { s.clocksAnew.therm with dropped := slotKey d n :: s.therm.dropped } } Reg.THERM_THR_COUNT 1 (by decide)

theorem slotDropped_st (s : State) (d : Dir) (n : Nat) {a : Nat} (h : a ≠ Reg.THERM_THR_COUNT) : (s.slotDropped d n).st a = s.st a :=
  st_bumpF_ne { s.clocksAnew.setSlot d n { s.slotRec d n with dropped := true } with
    therm := { s.clocksAnew.therm with dropped := slotKey d n :: s.therm.dropped } } 16 16 1 h

/-- What a state holds beside the slots, the throttle, the status registers and what counting an event changes. -/
def State.offThrottle (s : State) : State × (BogState × TwbState) := State.uncounted { s with slots := [], therm := {} }

theorem raise_offThrottle (s : State) (b n : Nat) : (s.raise b n).offThrottle = s.offThrottle := Prod.ext rfl (raiseEvs_fixed _ _)

theorem slotDropped_offThrottle (s : State) (d : Dir) (n : Nat) : (s.slotDropped d n).offThrottle = s.offThrottle := rfl

theorem onlyStatusCounts_of_offThrottle {A : List Nat} {s t : State} (h : t.offThrottle = s.offThrottle) (hst : ∀ a, a ∉ A → t.st a = s.st a) :
    OnlyStatusCounts A s { t with slots := s.slots, therm := s.therm } :=
  onlyStatusCounts_of_uncounted (congrArg (fun p : State × (BogState × TwbState) => ({ p.1 with slots := s.slots, therm := s.therm }, p.2)) h) hst

theorem slotDrop_of_none {s : State} (hup : s.isUp = true) (hthr : s.therm.throttling = true) (hhalf : s.bog.halving = false)
    (hhold : s.dropHold ≤ s.therm.stepN) (h : s.nextDrop = none) : slotDrop s = ((s.clocksAnew.halve true).raise 2 14).raise 19 22 := by
  unfold slotDrop
  rw [if_neg (by simp [hup, hthr, hhalf, hhold])]
  dsimp only
  rw [show s.clocksAnew.nextDrop = none from h]

/-- Halving that starts or ends breaks the streams into the Bog, and changes nothing else. -/
theorem halve_eq (s : State) (on : Bool) : s.halve on = { s with bog := (s.halve on).bog } := by
  have h := eq_withBog_of_offBog (breakStreams_offBog s false (fun _ => true))
  unfold State.halve
  dsimp only
  exact congrArg (fun x : State => { x with bog := (s.halve on).bog }) h

/-- What halving leaves in the state. -/
theorem halve_shows (s : State) (on : Bool) : (s.halve on).bog.halving = on ∧ (s.halve on).flt = s.flt ∧ (s.halve on).slots = s.slots ∧
    (s.halve on).therm = s.therm ∧ (s.halve on).sts = s.sts ∧ (s.halve on).cfg = s.cfg ∧ (s.halve on).power = s.power := by
  have heq := halve_eq s on
  have hhalving : (s.halve on).bog.halving = on := by unfold State.halve; rfl
  generalize s.halve on = t at heq hhalving ⊢
  rw [heq]
  exact ⟨hhalving, rfl, rfl, rfl, rfl, rfl, rfl⟩

theorem raise_halving (s : State) (b n : Nat) : (s.raise b n).bog.halving = s.bog.halving :=
  (congrArg BogState.halving (raise_onlyCounts s b n none).2.1).trans rfl

/-! ### Undoing (R345) -/

/-- UNDO_HOLD has run, and nothing holds the undo. -/
theorem throttleUndo_of_due {s : State} (hup : s.isUp = true) (hthr : s.therm.throttling = true) (hhold : s.undoHold ≤ s.therm.undoN)
    (hquiet : s.therm.hotQuiet ≤ s.now) (t : State)
    (h : (if s.clocksAnew.bog.halving then s.clocksAnew.halve false
      else match s.clocksAnew.therm.dropped with
        | k :: rest => { s.clocksAnew.setSlot (keyDir k) (keySlot k) { s.clocksAnew.slotRec (keyDir k) (keySlot k) with dropped := false } with
            therm := { s.clocksAnew.therm with dropped := rest } }
        | [] => { s.clocksAnew with therm := { s.clocksAnew.therm with falling := true } }) = t) : throttleUndo s = t := by
  subst h
  unfold throttleUndo State.undoHeld
  rw [if_neg (by simp [hup, hthr, hhold]), if_neg (by simp [hquiet])]
  rfl

theorem throttleUndo_of_held {s : State} (hup : s.isUp = true) (hthr : s.therm.throttling = true) (hhold : s.undoHold ≤ s.therm.undoN)
    (hquiet : s.now < s.therm.hotQuiet) : throttleUndo s = s.raise 2 21 := by
  unfold throttleUndo State.undoHeld
  rw [if_neg (by simp [hup, hthr, hhold]), if_pos (by simp [hthr, hquiet])]

theorem keyDir_slotKey {d : Dir} {n : Nat} (h : n < 17) : keyDir (slotKey d n) = d := by
  cases d <;> simp only [keyDir, slotKey, Dir.num]
  · exact if_pos (by omega)
  · exact if_neg (by omega)

theorem keySlot_slotKey {d : Dir} {n : Nat} (h : n < 17) : keySlot (slotKey d n) = n := by
  cases d <;> simp only [keySlot, slotKey, Dir.num] <;> omega

/-! ### A unit put out of service at once (R341, R357) -/

theorem isOut_iff {s : State} {b u : Nat} : s.isOut b u = true ↔ (s.flt.unit b u).st = .fenced ∨ (s.flt.unit b u).st = .retired := by
  unfold State.isOut State.isFenced State.isRetired State.unitSt
  rw [Bool.or_eq_true]
  exact or_congr decide_eq_true_iff decide_eq_true_iff

theorem fenceNow_isOut (s : State) (b u n : Nat) : (s.fenceNow b u n).isOut b u = true := by
  unfold State.fenceNow
  split
  · assumption
  · rw [isOut_iff]
    dsimp only
    rw [fenceUnit_unit]
    unfold UnitRec.putOut
    split
    · exact Or.inr rfl
    · exact Or.inl rfl

theorem fenceNow_source (s : State) (b u n b' n' : Nat) : (s.fenceNow b u n).flt.source b' n' = s.flt.source b' n' := by
  unfold State.fenceNow
  split
  · rfl
  · exact source_fenceUnit s s.flt s.peat.opsec b u n b' n'

theorem fenceNow_eq (s : State) (b u n : Nat) : s.fenceNow b u n = { s with flt := (s.fenceNow b u n).flt } := by
  unfold State.fenceNow
  split <;> rfl

/-- An event of a unit that at once puts the unit out of service. -/
theorem raise_fenceNow_shows (s : State) {b n : Nat} (u : Option Nat) (k : Nat) (hc : ¬chained (32 * b + n)) (hb : b ∉ [5, 7, 8, 19]) :
    Counts b n s ((s.raise b n u).fenceNow b k n) ∧ ((s.raise b n u).fenceNow b k n).isOut b k = true ∧
      OnlyCounts s ((s.raise b n u).fenceNow b k n) := by
  refine ⟨?_, fenceNow_isOut _ b k n, ?_⟩
  · unfold Counts
    rw [fenceNow_source]
    exact raise_counts_of_flt b n u hc hb rfl
  · rw [fenceNow_eq]
    exact onlyCounts_withFlt _ (raise_onlyCounts s b n u)

theorem onlyCounts_withTherm {s t : State} (h : OnlyCounts s t) : OnlyCounts s { t with therm := s.therm } :=
  ⟨congrArg (fun x : State => { x with therm := s.therm }) h.1, h.2⟩

theorem fenceSensor_of_in {s : State} {k : Fin 6} {noReading : Bool} (hin : s.isOut 2 k = false) :
    let src := if noReading then 6 + k.val else k.val
    s.fenceSensor k noReading = { (s.raise 2 src).fenceNow 2 k src with
      therm := { s.therm with hotQuiet := (if s.hotSensor = k.val then s.now + s.quietMs 2 * msTime else s.therm.hotQuiet) } } := by
  intro src
  have heq := fenceNow_eq (s.raise 2 src) 2 k src
  unfold State.fenceSensor
  rw [if_neg (by simp [hin])]
  by_cases hhot : s.hotSensor = k.val
  · rw [if_pos hhot]
    simp only [hhot, decide_true, if_true]
    rw [heq]
    rfl
  · rw [if_neg hhot]
    simp only [hhot, decide_false, Bool.false_eq_true, if_false]
    rw [heq]
    rfl

/-! ### PEAK (R350) -/

theorem hottest_mem (s : State) (l : List Nat) (hl : l ≠ []) : s.hottest l ∈ l := by
  have hfold : ∀ (t : List Nat) (j : Nat), t.foldl (fun m k => if s.regionFine m < s.regionFine k then k else m) j ∈ j :: t := by
    intro t
    induction t with
    | nil => exact fun j => List.mem_cons_self
    | cons k t ih =>
      intro j
      rw [List.foldl_cons]
      split
      · exact List.mem_cons_of_mem j (ih k)
      · rcases List.mem_cons.mp (ih j) with h | h
        · rw [h]; exact List.mem_cons_self
        · exact List.mem_cons_of_mem j (List.mem_cons_of_mem k h)
  cases l with
  | nil => exact absurd rfl hl
  | cons j t => exact hfold t j

theorem peakWord_lt (s : State) : s.peakWord < 2 ^ 32 := by
  have hword := bitsOf_lt 16 (sat16 s.tMax)
  have hregion : s.hottest regionTs ≤ 11 := by
    have hmem := hottest_mem s regionTs (by decide)
    generalize s.hottest regionTs = r at hmem ⊢
    simp only [regionTs, List.mem_cons, List.not_mem_nil, or_false] at hmem
    omega
  unfold State.peakWord
  omega

end Sys2Proof.Machine

open Sys2Proof Sys2Proof.Machine

/-- Settles O52: a step of the throttle by `slotDrop_of_some` and `slotDrop_of_none`, its undoing by the three cases of `throttleUndo_of_due`. -/
theorem thermCommands : Obligations.ThermCommands := by
  unfold Obligations.ThermCommands
  intro s on others drops undoes anew
  refine ⟨fun h => ⟨_, rfl, ?_⟩, fun d n ⟨⟨hup, hthr⟩, hhalf, hhold⟩ hnext => ⟨_, rfl, ?_⟩, fun ⟨⟨hup, hthr⟩, hhalf, hhold⟩ hnext => ⟨_, rfl, ?_⟩,
    fun h => ⟨_, rfl, ?_⟩, fun ⟨⟨hup, hthr⟩, hhold⟩ hquiet => ⟨_, rfl, ?_⟩, fun ⟨⟨hup, hthr⟩, hhold⟩ hquiet hhalf => ⟨_, rfl, ?_⟩,
    fun d n rest ⟨⟨hup, hthr⟩, hhold⟩ hquiet hhalf hn hdropped => ⟨_, rfl, ?_⟩, fun ⟨⟨hup, hthr⟩, hhold⟩ hquiet hhalf hdropped => ⟨_, rfl, ?_⟩,
    fun k noReading => ?_, fun v => ⟨fun hregs hbit => ⟨_, rfl, ?_⟩, fun h => ⟨_, rfl, ?_⟩⟩⟩
  · refine if_pos ?_
    simp only [drops, on, not_and_or, not_le, Bool.not_eq_true, Bool.not_eq_false] at h
    rcases h with (h | h) | h | h <;> simp [h]
  · obtain ⟨hn, hprio, hin⟩ := nextDrop_slot hnext
    rw [slotDrop_of_some hup hthr hhalf hhold hnext]
    obtain ⟨hslots, htherm, hsts⟩ := slotDropped_raised (s.slotDropped d n) (12 + d.num)
    refine ⟨(slotRec_of_slots hslots d n).trans (slotDropped_slotRec s d n),
      fun d' m hm hne => (slotRec_of_slots hslots d' m).trans (slotDropped_slotRec_other s hn hm hne), htherm, hprio, hin,
      (stF_of_st (st_of_sts hsts _) 16 16).trans (slotDropped_count s d n), ?_, ?_, ?_⟩
    · unfold Counts
      rw [raise_source_ne _ 2 13 (12 + d.num) 27 none (by unfold chained; decide) (by cases d <;> decide)]
      exact raise_counts_of_flt (s := s) (x := s.slotDropped d n) 2 13 none (by unfold chained; decide) (by decide) rfl
    · refine raise_counts_of_source (12 + d.num) 27 none (by cases d <;> unfold chained <;> decide) (by cases d <;> decide) ?_
      exact raise_source_ne (s.slotDropped d n) (12 + d.num) 27 2 13 none (by cases d <;> unfold chained <;> decide) (by cases d <;> decide)
    · refine onlyStatusCounts_of_offThrottle ((raise_offThrottle _ (12 + d.num) 27).trans ((raise_offThrottle _ 2 13).trans
        (slotDropped_offThrottle s d n))) fun a ha => ?_
      exact (st_of_sts hsts a).trans (slotDropped_st s d n (by simpa using ha))
  · rw [slotDrop_of_none hup hthr hhalf hhold hnext]
    obtain ⟨hhalving, hflt, hslots, htherm, hsts, hcfg, hpower⟩ := halve_shows s.clocksAnew true
    generalize s.clocksAnew.halve true = x at hhalving hflt hslots htherm hsts hcfg hpower ⊢
    obtain ⟨hslots', htherm', hsts', hcfg', hpower'⟩ := halve_raised x
    refine ⟨(raise_halving _ 19 22).trans ((raise_halving _ 2 14).trans hhalving), ?_, ?_, hslots'.trans hslots, htherm'.trans htherm,
      hsts'.trans hsts, hcfg'.trans hcfg, hpower'.trans hpower⟩
    · unfold Counts
      rw [raise_source_ne _ 2 14 19 22 none (by unfold chained; decide) (by decide)]
      exact raise_counts_of_flt 2 14 none (by unfold chained; decide) (by decide) hflt
    · refine raise_counts_of_unitless_source none rfl (by decide) (by decide) (by unfold chained; decide) ?_
      rw [raise_source_ne _ 19 22 2 14 none (by unfold chained; decide) (by decide), hflt]
      rfl
  · refine if_pos ?_
    simp only [undoes, on, not_and_or, not_le, Bool.not_eq_true] at h
    rcases h with (h | h) | h <;> simp [h]
  · rw [throttleUndo_of_held hup hthr hhold hquiet]
    exact ⟨raise_counts_of_flt 2 21 none (by unfold chained; decide) (by decide) rfl, raise_onlyCounts s 2 21 none⟩
  · rw [throttleUndo_of_due hup hthr hhold hquiet _ (if_pos hhalf)]
    obtain ⟨hhalving, hflt, hrest⟩ := halve_shows s.clocksAnew false
    exact ⟨hhalving, hrest⟩
  · have hundo := throttleUndo_of_due hup hthr hhold hquiet _ (if_neg (by rw [show s.clocksAnew.bog.halving = false from hhalf]; decide))
    rw [show s.clocksAnew.therm.dropped = slotKey d n :: rest from hdropped] at hundo
    dsimp only at hundo
    rw [keyDir_slotKey hn, keySlot_slotKey hn] at hundo
    rw [hundo]
    exact ⟨rfl, slotRec_setSlot_same s.clocksAnew d n _, fun d' m hm hne => slotRec_setSlot_other s.clocksAnew _ hn hm hne⟩
  · have hundo := throttleUndo_of_due hup hthr hhold hquiet _ (if_neg (by rw [show s.clocksAnew.bog.halving = false from hhalf]; decide))
    rw [show s.clocksAnew.therm.dropped = [] from hdropped] at hundo
    exact hundo
  · intro src
    refine ⟨fun h => ⟨_, rfl, ?_⟩, fun hregs hin hdue => ⟨_, rfl, ?_⟩⟩
    · unfold sensorFence State.ifUp
      split
      · next hregs =>
        rcases h with h | h | h
        · rw [h] at hregs; cases hregs
        · dsimp only
          split
          · exact if_pos h
          · rfl
        · exact if_neg (by simp [h])
      · rfl
    · rw [show sensorFence k noReading s = s.fenceSensor k noReading from (ifUp_of_regsUp _ hregs).trans (if_pos hdue), fenceSensor_of_in hin]
      have hchain : ¬chained (32 * 2 + src) := by
        have hsrc : src ≤ 11 := by dsimp only [src]; split <;> omega
        unfold chained; omega
      obtain ⟨hcounts, hout, honly⟩ := raise_fenceNow_shows s none k hchain (by decide)
      generalize (s.raise 2 src).fenceNow 2 k src = x at hcounts hout honly ⊢
      exact ⟨hout, hcounts, (onlyCounts_withTherm honly :), rfl⟩
  · rw [show thermPeakClr v s = s.setSt Reg.THERM_PEAK s.peakWord from (ifUp_of_regsUp _ hregs).trans (if_pos hbit)]
    refine ⟨setSt_onlyStatus s Reg.THERM_PEAK _, (st_setSt_same s Reg.THERM_PEAK _).trans ((Nat.mod_eq_of_lt (peakWord_lt s)).trans ?_)⟩
    unfold State.peakWord
    omega
  · unfold thermPeakClr State.ifUp
    rcases h with h | h <;> simp [h]
end

section
/-! SUPPORT. What events that name no unit leave of the recorder and of its port, and how often a list of events counts a source; the closes,
the commits and the freeze of the Peat recorder (R368, R372–R380). -/

namespace Sys2Proof.Machine

/-! ### Events that name no unit -/

/-- The MRAM port, and the open interval but for its counts of severe sources and of dropped messages. -/
def Fx.port (x : Fx) : MramState × Interval := (x.mram, { x.peat.openI with severe := 0, attnDrops := 0 })

theorem enqueue_port (s : State) (x : Fx) (b src cls total : Nat) (inj : Bool) : (enqueue s x b src cls total inj).1.port = x.port := by
  unfold enqueue
  split
  · rfl
  · dsimp only
    split
    · rfl
    · split <;> rfl

theorem countOne_port (s : State) (x : Fx) (e : Ev) (hu : namedUnit e.blk e.src e.unit = none) : (countOne s x e).1.port = x.port := by
  unfold countOne
  simp only [hu, countUnit]
  split
  · rfl
  · simp only [Bool.false_eq_true, if_false]
    split
    · exact (enqueue_port _ _ _ _ _ _ _).trans rfl
    · split
      · exact (enqueue_port _ _ _ _ _ _ _).trans rfl
      · rfl

/-- An event that names no unit gives rise to none but those of the attention queue. -/
theorem countOne_follow_twb (s : State) (x : Fx) (e : Ev) (hu : namedUnit e.blk e.src e.unit = none) :
    ∀ e' ∈ (countOne s x e).2, 32 * e'.blk + e'.src = 130 ∨ 32 * e'.blk + e'.src = 140 := by
  unfold countOne
  simp only [hu, countUnit]
  split
  · exact fun e' he' => absurd he' List.not_mem_nil
  · simp only [Bool.false_eq_true, if_false, List.append_nil]
    split
    · exact enqueue_events _ _ _ _ _ _ _
    · split
      · exact enqueue_events _ _ _ _ _ _ _
      · exact fun e' he' => absurd he' List.not_mem_nil

theorem countAll_port (s : State) (k : Nat) (x : Fx) (es : List Ev) (hes : ∀ e ∈ es, namedUnit e.blk e.src e.unit = none) :
    (countAll s k x es).port = x.port := by
  induction k generalizing x es with
  | zero => rfl
  | succ k ih =>
    cases es with
    | nil => rfl
    | cons e t =>
      obtain ⟨-, hmore⟩ := countOne_unitless s x e (hes e List.mem_cons_self)
      exact (ih _ _ fun e' he' => (List.mem_append.mp he').elim (fun h => hes e' (List.mem_cons_of_mem e h)) (hmore e')).trans
        (countOne_port s x e (hes e List.mem_cons_self))

theorem raiseEvs_port (s : State) (es : List Ev) (hes : ∀ e ∈ es, namedUnit e.blk e.src e.unit = none) : (s.raiseEvs es).fx.port = s.fx.port :=
  countAll_port s _ s.fx es hes

/-- What events that name no unit leave of the recorder and of its port. -/
theorem raiseEvs_recorder (s : State) (es : List Ev) (hes : ∀ e ∈ es, namedUnit e.blk e.src e.unit = none) :
    (s.raiseEvs es).peat = { s.peat with openI := (s.raiseEvs es).peat.openI } ∧ (s.raiseEvs es).mram = s.mram ∧
      (s.raiseEvs es).peat.openI.openedAt = s.peat.openI.openedAt := by
  have hport := raiseEvs_port s es hes
  exact ⟨congrArg (fun p : PeatState => { p with openI := (s.raiseEvs es).peat.openI }) (raiseEvs_closed s es hes),
    congrArg Prod.fst hport, congrArg (fun p : MramState × Interval => p.2.openedAt) hport⟩

theorem namedUnit_of_unitless {b n : Nat} (h : sourceUnits b n = []) (u : Option Nat) : namedUnit b n u = none := by simp [namedUnit, h]

theorem raise_recorder (s : State) {b n : Nat} (h : sourceUnits b n = []) :
    (s.raise b n).peat = { s.peat with openI := (s.raise b n).peat.openI } ∧ (s.raise b n).mram = s.mram ∧
      (s.raise b n).peat.openI.openedAt = s.peat.openI.openedAt :=
  raiseEvs_recorder s _ (by simp [namedUnit_of_unitless h])

/-! ### How often a list of events counts a source (R355) -/

/-- Counted m times. -/
def countedTimes (m total : Nat) : Nat := (fun n => satAdd 65535 n 1)^[m] total

theorem countedTimes_succ (m total : Nat) : countedTimes (m + 1) total = countedTimes m (satAdd 65535 total 1) := rfl

theorem countedTimes_eq {m : Nat} (total : Nat) (h : m ≠ 0) : countedTimes m total = satAdd 65535 total m := by
  induction m generalizing total with
  | zero => exact absurd rfl h
  | succ m ih =>
    rw [countedTimes_succ]
    rcases m.eq_zero_or_pos with rfl | hpos
    · rfl
    · rw [ih _ (Nat.ne_of_gt hpos), satAdd_satAdd, Nat.add_comm]

/-- The events of a list that are of source n of block b. -/
def eventsOf (b n : Nat) (es : List Ev) : Nat := es.countP (fun e => decide (32 * e.blk + e.src = 32 * b + n))

/-- A list of events that name no unit counts a source as often as it stands in the list: what a count gives rise to is counted behind it, and
is of the attention queue. -/
theorem countAll_total (s : State) {b n : Nat} (hid : 32 * b + n ≠ 130 ∧ 32 * b + n ≠ 140) (hn : n < 32) (hb : b ∉ [5, 7, 8, 19]) (es rest : List Ev) (x : Fx)
    (k : Nat) (hk : es.length ≤ k) (hes : ∀ e ∈ es, namedUnit e.blk e.src e.unit = none ∧ e.src < 32)
    (hrest : ∀ e ∈ rest, 32 * e.blk + e.src = 130 ∨ 32 * e.blk + e.src = 140) :
    ((countAll s k x (es ++ rest)).flt.source b n).total = countedTimes (eventsOf b n es) (x.flt.source b n).total := by
  have hrestAll : ∀ (k : Nat) (x : Fx) (rest : List Ev), (∀ e ∈ rest, 32 * e.blk + e.src = 130 ∨ 32 * e.blk + e.src = 140) →
      (countAll s k x rest).flt.source b n = x.flt.source b n := by
    intro k
    induction k with
    | zero => exact fun x rest _ => rfl
    | succ k ih =>
      intro x rest hrest
      cases rest with
      | nil => rfl
      | cons e t =>
        have he := hrest e List.mem_cons_self
        have hone : (countOne s x e).1.flt.source b n = x.flt.source b n := by
          rw [countOne_source, if_neg (show ¬32 * b + n = 32 * e.blk + e.src by omega), ite_self]
        exact (ih _ _ fun e' he' => (List.mem_append.mp he').elim (fun h => hrest e' (List.mem_cons_of_mem e h))
          (countOne_follow_twb s x e (namedUnit_of_twb e.unit he) e')).trans hone
  induction es generalizing x k rest with
  | nil => exact congrArg Src.total (hrestAll k x rest hrest)
  | cons e es ih =>
    obtain ⟨hu, hsrc⟩ := hes e List.mem_cons_self
    obtain ⟨k, rfl⟩ : ∃ j, k = j + 1 := ⟨k - 1, by simp only [List.length_cons] at hk; omega⟩
    have hstep := ih (rest ++ (countOne s x e).2) (countOne s x e).1 k (by simpa using hk) (fun e' he' => hes e' (List.mem_cons_of_mem e he'))
      (fun e' he' => (List.mem_append.mp he').elim (hrest e') (countOne_follow_twb s x e hu e'))
    rw [← List.append_assoc] at hstep
    refine hstep.trans ?_
    rw [countOne_source]
    by_cases hmatch : 32 * e.blk + e.src = 32 * b + n
    · have hblk : e.blk = b := by omega
      have hsrcn : e.src = n := by omega
      simp only [List.mem_cons, List.not_mem_nil, or_false, not_or] at hb
      obtain ⟨h5, h7, h8, h19⟩ := hb
      rw [hblk, hsrcn, suppressed_other x.flt b n _ h19 h5 h7 h8, if_neg Bool.false_ne_true, if_pos rfl, Src.count_total]
      rw [eventsOf, eventsOf, List.countP_cons_of_pos (by simpa using hmatch), countedTimes_succ]
    · rw [if_neg (Ne.symm hmatch), ite_self, eventsOf, eventsOf, List.countP_cons_of_neg (by simpa using hmatch)]

theorem raiseEvs_total (s : State) {b n : Nat} (hid : 32 * b + n ≠ 130 ∧ 32 * b + n ≠ 140) (hn : n < 32) (hb : b ∉ [5, 7, 8, 19]) (es : List Ev)
    (hes : ∀ e ∈ es, namedUnit e.blk e.src e.unit = none ∧ e.src < 32) (h : eventsOf b n es ≠ 0) :
    ((s.raiseEvs es).flt.source b n).total = satAdd 65535 (s.flt.source b n).total (eventsOf b n es) := by
  have hall := countAll_total s hid hn hb es [] s.fx (es.length + 12) (by omega) hes (by simp)
  rw [List.append_nil] at hall
  exact hall.trans (countedTimes_eq _ h)

theorem eventsOf_append (b n : Nat) (l r : List Ev) : eventsOf b n (l ++ r) = eventsOf b n l + eventsOf b n r := List.countP_append

theorem eventsOf_const {α : Type} (b n : Nat) (l : List α) (e : Ev) :
    eventsOf b n (l.map (fun _ => e)) = if 32 * e.blk + e.src = 32 * b + n then l.length else 0 := by
  unfold eventsOf
  rw [List.countP_map]
  split
  · next h => exact List.countP_eq_length.mpr fun _ _ => by simp [h]
  · next h => exact List.countP_eq_zero.mpr fun _ _ => by simp [h]


/-! ### The start of the next write (R374, R375) -/

/-- The next write takes nothing from the open interval, and a held record goes nowhere but into the write. -/
theorem Rec.drain_keeps (c : Rec) : c.drain.p.openI = c.p.openI ∧ c.drain.p.nextSeq = c.p.nextSeq ∧
    c.drain.p.freezePending = c.p.freezePending ∧ c.drain.p.hold.length ≤ c.p.hold.length ∧
    ∀ r ∈ c.p.hold, c.drain.p.writing = some (some r) ∨ r ∈ c.drain.p.hold := by
  unfold Rec.drain
  split
  · exact ⟨rfl, rfl, rfl, le_rfl, fun r hr => Or.inr hr⟩
  · split
    · next r t hhold =>
      rw [hhold]
      refine ⟨rfl, rfl, rfl, Nat.le_succ _, fun q hq => ?_⟩
      rcases List.mem_cons.mp hq with rfl | hq
      · exact Or.inl rfl
      · exact Or.inr hq
    · next hhold =>
      split
      · exact ⟨rfl, rfl, rfl, le_rfl, fun r hr => Or.inr hr⟩
      · split <;> exact ⟨rfl, rfl, rfl, le_rfl, fun r hr => Or.inr hr⟩

/-- With the record area free, the first held record goes into the write. -/
theorem Rec.drain_of_hold {c : Rec} {r : PeatRec} {rest : List PeatRec} (hwriting : c.p.writing = none) (hfrozen : c.p.frozen = false)
    (hpending : c.p.freezePending = false) (hout : c.p.out = false) (hhold : c.p.hold = r :: rest) :
    c.drain = { c with p := { c.p with hold := rest, writing := some (some r), left := recWords }, m := c.m.submit .peat } := by
  unfold Rec.drain
  rw [if_neg (by simp [hwriting, hfrozen, hpending, hout])]
  simp only [hhold]

theorem Rec.drain_of_busy {c : Rec} (h : c.p.writing ≠ none ∨ c.p.out = true) : c.drain = c := by
  unfold Rec.drain
  exact if_pos (by rcases h with h | h <;> simp [h, Option.isSome_iff_ne_none])

/-! ### Closes of the open interval (R372–R375, R380) -/

/-- The recorder's own part of a state. -/
def State.recPart (s : State) : Rec := { p := s.peat, m := s.mram }

/-- A step of the recorder that reports nothing changes the recorder and its port alone. -/
theorem recorder_of_silent {s : State} {f : Rec → Rec} (h : (f s.recPart).counts = []) :
    s.recorder f = { s with peat := (f s.recPart).p, mram := (f s.recPart).m } := by
  unfold State.recorder
  dsimp only
  rw [show f { p := s.peat, m := s.mram } = f s.recPart from rfl, h]
  rfl

theorem peatClose_eq (s : State) (cause detail : Nat) :
    s.peatClose cause detail = s.recorder (fun c => Rec.close s (s.isOut 21 0) c cause detail) := rfl

/-- The interval that opens as one closes with a cause. -/
def State.newInterval (s : State) (cause : Nat) : Interval := { openedAt := s.peat.opsec, limit := s.interval, born := bornAfter s cause }

/-- Out of service, a close loses the interval. -/
theorem peatClose_of_out {s : State} (cause : Nat) (hout : s.isOut 21 0 = true) :
    s.peatClose cause 0 = { s with peat := { s.peat with lost := satAdd 65535 s.peat.lost 1, openI := s.newInterval cause } } := by
  rw [peatClose_eq, hout]
  exact recorder_of_silent (f := fun c => Rec.close s true c cause 0) rfl

/-- The record that the open interval of s becomes. -/
theorem openRecord_shows (s : State) (p : PeatState) (cause : Nat) :
    let r := openRecord s p 1 cause 0
    r.kind = 1 ∧ r.seq = p.nextSeq ∧ r.opsecClose = p.opsec ∧ (p.openI.folded = none → r.cause = cause ∧ r.detail = 0) := by
  refine ⟨rfl, rfl, rfl, fun hfold => ?_⟩
  simp only [openRecord, hfold, and_self]

/-- With room in the queue, a close that repeats no record makes one of the open interval. -/
theorem peatClose_of_room {s : State} {cause : Nat} (hin : s.isOut 21 0 = false) (hnew : repeats s s.peat cause 0 = none)
    (hroom : s.peat.hold.length < 4) :
    let t := s.peatClose cause 0
    t = { s with peat := t.peat, mram := t.mram } ∧ t.peat.nextSeq = s.peat.nextSeq + 1 ∧ t.peat.openI = s.newInterval cause ∧
      ∃ r : PeatRec, r.kind = 1 ∧ r.seq = s.peat.nextSeq ∧ r.opsecClose = s.peat.opsec ∧
        (s.peat.openI.folded = none → r.cause = cause ∧ r.detail = 0) ∧ (t.peat.writing = some (some r) ∨ r ∈ t.peat.hold) := by
  intro t
  have hclose : Rec.close s false s.recPart cause 0 = Rec.push s s.recPart 1 cause 0 := by
    unfold Rec.close
    rw [if_neg Bool.false_ne_true]
    dsimp only
    rw [show repeats s s.recPart.p cause 0 = none from hnew]
    exact if_neg (by rw [decide_eq_true_eq]; exact Nat.not_le.mpr hroom)
  have ht : t = { s with peat := (Rec.push s s.recPart 1 cause 0).p, mram := (Rec.push s s.recPart 1 cause 0).m } := by
    rw [← hclose]
    refine (peatClose_eq s cause 0).trans ?_
    rw [hin]
    exact recorder_of_silent (f := fun c => Rec.close s false c cause 0) ((congrArg Rec.counts hclose).trans (Rec.drain_counts _))
  let c : Rec := { s.recPart with p := PeatState.reopen { s.peat with
    hold := s.peat.hold ++ [openRecord s s.peat 1 cause 0], nextSeq := s.peat.nextSeq + 1 } s.interval (bornAfter s cause) }
  obtain ⟨hopen, hseq, -, -, hheld⟩ := Rec.drain_keeps c
  obtain ⟨hkind, hrseq, hclosed, hcause⟩ := openRecord_shows s s.peat cause
  have hpeat : t.peat = c.drain.p := congrArg State.peat ht
  refine ⟨?_, (congrArg PeatState.nextSeq hpeat).trans hseq, (congrArg PeatState.openI hpeat).trans hopen, openRecord s s.peat 1 cause 0, hkind, hrseq,
    hclosed, hcause, ?_⟩
  · rw [ht]
  · rw [hpeat]
    exact hheld _ (List.mem_append_right _ List.mem_cons_self)

/-- With four records held, a close is folded into the open interval. -/
def State.folded (s : State) (cause : Nat) : State :=
  { s with peat := { s.peat with openI := { s.peat.openI with folded := foldCause s.peat.openI.folded cause 0 } } }

theorem peatClose_of_full {s : State} {cause : Nat} (hin : s.isOut 21 0 = false) (hnew : repeats s s.peat cause 0 = none)
    (hfull : 4 ≤ s.peat.hold.length) : s.peatClose cause 0 = (s.folded cause).raise 21 9 := by
  have hclose : Rec.close s false s.recPart cause 0 = { p := (s.folded cause).peat, m := s.mram, counts := [9] } := by
    unfold Rec.close
    rw [if_neg Bool.false_ne_true]
    dsimp only
    rw [show repeats s s.recPart.p cause 0 = none from hnew]
    exact if_pos (decide_eq_true hfull)
  rw [peatClose_eq, hin]
  unfold State.recorder
  dsimp only
  rw [show Rec.close s false { p := s.peat, m := s.mram } cause 0 = _ from hclose]
  rfl

/-- A close that repeats the newest record leaves the open interval. -/
theorem peatClose_of_repeat {s : State} {cause : Nat} {r : PeatRec} (hin : s.isOut 21 0 = false) (hrep : repeats s s.peat cause 0 = some r)
    (hroom : r.rep + (s.peat.pending r.seq).1 < 65535) :
    let t := s.peatClose cause 0
    t = { s with peat := t.peat, mram := t.mram } ∧ t.peat.openI = s.peat.openI ∧ t.peat.nextSeq = s.peat.nextSeq ∧
      t.peat.hold.length ≤ s.peat.hold.length := by
  intro t
  let c : Rec := { s.recPart with p := { s.peat with
    pend := NMap.put (fun _ => (0, 0)) s.peat.pend r.seq ((s.peat.pending r.seq).1 + 1, s.peat.opsec)
    lastRepeat := some [s.now, r.seq, cause, 0, max r.opsecLast (s.peat.pending r.seq).2] } }
  have hclose : Rec.close s false s.recPart cause 0 = c.drain := by
    unfold Rec.close
    rw [if_neg Bool.false_ne_true]
    dsimp only
    rw [show repeats s s.recPart.p cause 0 = some r from hrep]
    exact if_neg (by simpa [State.recPart] using hroom)
  have ht : t = { s with peat := c.drain.p, mram := c.drain.m } := by
    rw [← hclose]
    refine (peatClose_eq s cause 0).trans ?_
    rw [hin]
    exact recorder_of_silent (f := fun c => Rec.close s false c cause 0) ((congrArg Rec.counts hclose).trans (Rec.drain_counts _))
  obtain ⟨hopen, hseq, -, hhold, -⟩ := Rec.drain_keeps c
  have hpeat : t.peat = c.drain.p := congrArg State.peat ht
  refine ⟨?_, (congrArg PeatState.openI hpeat).trans hopen, (congrArg PeatState.nextSeq hpeat).trans hseq,
    (congrArg (fun p : PeatState => p.hold.length) hpeat).trans_le hhold⟩
  rw [ht]

/-- A TIMER close repeats no record. -/
theorem repeats_timer (s : State) (p : PeatState) (detail : Nat) : repeats s p 1 detail = none := by
  unfold repeats
  split
  · rfl
  · exact if_neg (fun h => h.2.2.2.1 rfl)

/-- A change of the recorder, its port and the counts is what counting may change. -/
theorem onlyCounts_of_recorder {s t : State} (h : t = { s with peat := t.peat, mram := t.mram }) : OnlyCounts s t :=
  onlyCounts_of_uncounted (by rw [h]; rfl) (congrArg State.sts h :)

theorem onlyCounts_of_recorder_raise {s t : State} (es : List Ev) (h : t = { s with peat := t.peat, mram := t.mram }) : OnlyCounts s (t.raiseEvs es) :=
  onlyCounts_of_uncounted ((show (t.raiseEvs es).uncounted = t.uncounted from Prod.ext rfl (raiseEvs_fixed t es)).trans
    (show t.uncounted = s.uncounted by rw [h]; rfl)) (congrArg State.sts h :)

/-- What a folded close shows. -/
theorem folded_shows {s x : State} (cause : Nat) (hx : x = { s with peat := x.peat }) (hseq : x.peat.nextSeq = s.peat.nextSeq)
    (hhold : x.peat.hold = s.peat.hold) (hopened : x.peat.openI.openedAt = s.peat.openI.openedAt) :
    let t := (x.folded cause).raise 21 9
    OnlyCounts s t ∧ Counts 21 9 s t ∧ t.peat.nextSeq = s.peat.nextSeq ∧ t.peat.hold = s.peat.hold ∧ t.peat.openI.openedAt = s.peat.openI.openedAt := by
  intro t
  obtain ⟨hpeat, -, hopen⟩ := raise_recorder (x.folded cause) (b := 21) (n := 9) rfl
  have hflt : (x.folded cause).flt = s.flt := (congrArg State.flt hx :)
  refine ⟨onlyCounts_of_recorder_raise (t := x.folded cause) _ (by unfold State.folded; rw [hx]), ?_, (congrArg PeatState.nextSeq hpeat).trans hseq,
    (congrArg PeatState.hold hpeat).trans hhold, hopen.trans hopened⟩
  have htotal := raiseEvs_total (x.folded cause) (b := 21) (n := 9) (by decide) (by decide) (by decide) [{ blk := 21, src := 9 }]
    (by decide) (by decide)
  rw [hflt] at htotal
  exact htotal

/-! ### PEAT_TIMER (R373, R380) -/

/-- A repeat of the tick, folded into the interval, leaves what closes are made of. -/
theorem foldRepeat_keeps (s : State) : s.foldRepeat = { s with peat := s.foldRepeat.peat } ∧ s.foldRepeat.peat.nextSeq = s.peat.nextSeq ∧
    s.foldRepeat.peat.hold = s.peat.hold ∧ s.foldRepeat.peat.lost = s.peat.lost ∧ s.foldRepeat.peat.opsec = s.peat.opsec ∧
    s.foldRepeat.peat.openI.openedAt = s.peat.openI.openedAt ∧ (s.peat.lastRepeat = none → s.foldRepeat = s) := by
  have hunrepeat : ∀ (p : PeatState) (seq before : Nat), (p.unrepeat seq before).nextSeq = p.nextSeq ∧ (p.unrepeat seq before).hold = p.hold ∧
      (p.unrepeat seq before).lost = p.lost ∧ (p.unrepeat seq before).opsec = p.opsec ∧
      (p.unrepeat seq before).openI.openedAt = p.openI.openedAt := fun p seq before => by
    unfold PeatState.unrepeat
    dsimp only
    split
    · exact ⟨rfl, rfl, rfl, rfl, rfl⟩
    · split <;> exact ⟨rfl, rfl, rfl, rfl, rfl⟩
  unfold State.foldRepeat
  split
  · next t seq cause detail before hlast =>
    split
    · obtain ⟨hseq, hhold, hlost, hopsec, hopened⟩ := hunrepeat s.peat seq before
      exact ⟨rfl, hseq, hhold, hlost, hopsec, hopened, fun h => absurd (hlast.symm.trans h) (by simp)⟩
    · exact ⟨rfl, rfl, rfl, rfl, rfl, rfl, fun _ => rfl⟩
  · exact ⟨rfl, rfl, rfl, rfl, rfl, rfl, fun _ => rfl⟩

/-! ### The commit of a record (R375, R376) -/

theorem Rec.store_port (c : Rec) (r : PeatRec) : (c.store r).m = c.m := by
  unfold Rec.store
  split <;> rfl

/-- A commit with nothing else due frees the port. -/
theorem Rec.complete_port {c : Rec} {r : PeatRec} (hw : c.p.writing = some (some r)) (hhold : (c.store r).p.hold = []) (hpend : (c.store r).p.pend = []) :
    c.complete.m = c.m.finish .peat := by
  simp only [Rec.complete, hw]
  rw [Rec.drain_of_nothing_due (by exact hhold) (by exact hpend)]
  exact congrArg (fun m => m.finish .peat) (c.store_port r)

/-- A commit with nothing else due, of a record that has no place: it is discarded. -/
theorem Rec.complete_of_no_place {c : Rec} {r : PeatRec} (hw : c.p.writing = some (some r)) (hplace : c.p.place r = none) (hhold : c.p.hold = [])
    (hpend : c.p.pend = []) : c.complete.p.discarded = satAdd 65535 c.p.discarded 1 ∧ c.complete.p.slots = c.p.slots ∧ c.complete.p.writing = none ∧
      c.complete.counts = c.counts ++ [12] := by
  have hstore : c.store r = { c with p := { c.p with discarded := satAdd 65535 c.p.discarded 1 }, counts := c.counts ++ [12] } := by
    unfold Rec.store
    rw [hplace]
  simp only [Rec.complete, hw, hstore]
  rw [Rec.drain_of_nothing_due (by exact hhold) (by exact hpend)]
  exact ⟨rfl, rfl, rfl, rfl⟩

/-- The recorder after the last codeword of a write, before its counts. -/
def State.committed (s : State) : State := { s with peat := s.recPart.complete.p, mram := s.recPart.complete.m }

theorem recorder_complete (s : State) :
    s.recorder Rec.complete = s.committed.raiseEvs (s.recPart.complete.counts.map (fun n => { blk := 21, src := n })) := rfl

theorem peatCommitComplete_shows {s : State} {r : PeatRec} (hport : s.mram.inFlight = some .peat) (hw : s.peat.writing = some (some r))
    (hhold : s.peat.hold = []) (hpend : s.peat.pend = []) :
    (∀ i, s.peat.place r = some i → let t := s.recorder Rec.complete
      t.peat.slot i = r ∧ t.peat.newest = some i ∧ t.peat.writing = none ∧ t.mram = s.mram.next ∧
        (∀ j, j ≠ i → t.peat.slot j = s.peat.slot j) ∧ OnlyCounts s t) ∧
    (s.peat.place r = none → let t := s.recorder Rec.complete
      t.peat.discarded = satAdd 65535 s.peat.discarded 1 ∧ Counts 21 12 s t ∧ t.peat.slots = s.peat.slots ∧ t.peat.writing = none ∧ OnlyCounts s t) := by
  have honly : OnlyCounts s (s.recorder Rec.complete) := onlyCounts_of_recorder_raise (t := s.committed) _ rfl
  constructor
  · intro i hi t
    obtain ⟨hslots, hnewest, hnone, hcounts⟩ := Rec.complete_of_place (c := s.recPart) hw hi hhold hpend
    have hunit : ∀ e ∈ s.recPart.complete.counts.map (fun n => ({ blk := 21, src := n } : Ev)), namedUnit e.blk e.src e.unit = none := fun e he => by
      obtain ⟨n, hn, rfl⟩ := List.mem_map.mp he
      rcases hcounts n hn with h | rfl | rfl
      · exact absurd h List.not_mem_nil
      · rfl
      · rfl
    obtain ⟨hpeat, hmram, -⟩ := raiseEvs_recorder s.committed _ hunit
    have hs : t.peat.slots = NMap.put (fun _ => {}) s.peat.slots i r := (congrArg PeatState.slots hpeat).trans hslots
    obtain ⟨-, -, hsh, hsp, -⟩ := Rec.store_of_place (c := s.recPart) hi
    refine ⟨?_, (congrArg PeatState.newest hpeat).trans hnewest, (congrArg PeatState.writing hpeat).trans hnone, ?_, fun j hj => ?_, honly⟩
    · rw [PeatState.slot, hs, NMap.get_put_same]
    · exact hmram.trans ((Rec.complete_port (c := s.recPart) hw (hsh.trans hhold) (hsp.trans hpend)).trans (if_pos hport))
    · rw [PeatState.slot, hs, NMap.get_put_ne _ _ _ hj, PeatState.slot]
  · intro hplace t
    obtain ⟨hdiscarded, hslots, hnone, hcounts⟩ := Rec.complete_of_no_place (c := s.recPart) hw hplace hhold hpend
    have ht : t = s.committed.raise 21 12 := by
      refine (recorder_complete s).trans ?_
      rw [hcounts]
      rfl
    obtain ⟨hpeat, -, -⟩ := raise_recorder s.committed (b := 21) (n := 12) rfl
    rw [ht]
    rw [show s.recorder Rec.complete = _ from ht] at honly
    exact ⟨(congrArg PeatState.discarded hpeat).trans hdiscarded, raise_counts_of_flt 21 12 none (by unfold chained; decide) (by decide) rfl,
      (congrArg PeatState.slots hpeat).trans hslots, (congrArg PeatState.writing hpeat).trans hnone, honly⟩

/-! ### PEAT_FLUSH (R368) -/

/-- OPSEC has just come to its end. -/
def State.opsecFull (s : State) : Bool :=
  decide (satAdd 4294967295 s.peat.opsec 1 = 4294967295 ∧ s.peat.opsec ≠ satAdd 4294967295 s.peat.opsec 1)

/-- One more operating second, before the flush. -/
def State.secondOn (s : State) : State :=
  State.raiseIf { s with peat := { s.peat with opsec := satAdd 4294967295 s.peat.opsec 1 } } s.opsecFull 21 15

theorem secondOn_recorder (s : State) : s.secondOn.peat = { s.peat with opsec := satAdd 4294967295 s.peat.opsec 1, openI := s.secondOn.peat.openI } ∧
    s.secondOn.mram = s.mram := by
  unfold State.secondOn State.raiseIf
  split
  · obtain ⟨hpeat, hmram, -⟩ := raise_recorder { s with peat := { s.peat with opsec := satAdd 4294967295 s.peat.opsec 1 } } (b := 21) (n := 15) rfl
    exact ⟨hpeat, hmram⟩
  · exact ⟨rfl, rfl⟩

theorem secondOn_onlyCounts (s : State) : OnlyCounts s s.secondOn := by
  unfold State.secondOn State.raiseIf
  split
  · exact onlyCounts_of_recorder_raise (t := { s with peat := { s.peat with opsec := satAdd 4294967295 s.peat.opsec 1 } }) _ rfl
  · exact onlyCounts_of_recorder (t := { s with peat := { s.peat with opsec := satAdd 4294967295 s.peat.opsec 1 } }) rfl

theorem peatFlush_eq {s : State} (hregs : s.regsUp = true) : peatFlush s = { s.secondOn with
    peat := { s.secondOn.peat with flushNext := some (s.secondOn.peat.openI, s.secondOn.peat.opsec, s.secondOn.peat.pcc) }
    mram := if s.peat.flushNext.isSome then s.mram else s.mram.submit .flush } := by
  obtain ⟨hpeat, hmram⟩ := secondOn_recorder s
  have hbusy : s.secondOn.peat.flushNext = s.peat.flushNext := (congrArg PeatState.flushNext hpeat :)
  have heq : peatFlush s = (if s.secondOn.peat.flushNext.isSome then { s.secondOn with
      peat := { s.secondOn.peat with flushNext := some (s.secondOn.peat.openI, s.secondOn.peat.opsec, s.secondOn.peat.pcc) } }
    else State.mramWrite { s.secondOn with
      peat := { s.secondOn.peat with flushNext := some (s.secondOn.peat.openI, s.secondOn.peat.opsec, s.secondOn.peat.pcc) } } .flush) := by
    unfold peatFlush
    exact if_neg (by simp [hregs])
  rw [heq, hbusy, ← hmram]
  split <;> rfl

/-! ### PEAT_AUDIT (R377) -/

/-- Records whose count of codewords in error is set keep all else. -/
theorem audited_slots (p : PeatState) (l : List (Nat × Nat)) (m : NMap PeatRec)
    (hm : ∀ i, NMap.get (fun _ => {}) m i = { p.slot i with ue := (NMap.get (fun _ => ({} : PeatRec)) m i).ue }) (i : Nat) :
    NMap.get (fun _ => {}) (l.foldl (fun m e => NMap.put (fun _ => {}) m e.1 { p.slot e.1 with ue := e.2 % 256 }) m) i =
      { p.slot i with ue := (NMap.get (fun _ => ({} : PeatRec))
        (l.foldl (fun m e => NMap.put (fun _ => {}) m e.1 { p.slot e.1 with ue := e.2 % 256 }) m) i).ue } := by
  induction l generalizing m with
  | nil => exact hm i
  | cons e l ih =>
    refine ih _ fun j => ?_
    by_cases hj : j = e.1
    · rw [hj, NMap.get_put_same]
    · rw [NMap.get_put_ne _ _ _ hj]
      exact hm j

/-- The events of an audit. -/
def auditEvs (bad fixed : List Nat) : List Ev :=
  bad.map (fun _ => ({ blk := 21, src := 4 } : Ev)) ++ fixed.map (fun _ => ({ blk := 21, src := 2 } : Ev))

theorem auditEvs_unitless (bad fixed : List Nat) : ∀ e ∈ auditEvs bad fixed, namedUnit e.blk e.src e.unit = none ∧ e.src < 32 := by
  intro e he
  rcases List.mem_append.mp he with h | h <;> obtain ⟨_, _, rfl⟩ := List.mem_map.mp h
  · exact ⟨rfl, by decide⟩
  · exact ⟨rfl, by decide⟩

theorem auditEvs_bad (bad fixed : List Nat) : eventsOf 21 4 (auditEvs bad fixed) = bad.length := by
  rw [auditEvs, eventsOf_append, eventsOf_const, eventsOf_const, if_pos rfl, if_neg (by decide), Nat.add_zero]

theorem auditEvs_fixed (bad fixed : List Nat) : eventsOf 21 2 (auditEvs bad fixed) = fixed.length := by
  rw [auditEvs, eventsOf_append, eventsOf_const, eventsOf_const, if_neg (by decide), if_pos rfl, Nat.zero_add]

/-! ### The freeze (R379) -/

/-- The freeze has ended between s and t: what was held back goes on. -/
def Thawed (s t : State) : Prop :=
  t.peat.frozen = false ∧ t.peat.freezePending = false ∧ t.peat.openI.openedAt = s.peat.openI.openedAt ∧
    (∀ r rest, s.peat.writing = none → s.peat.out = false → s.peat.hold = r :: rest →
      t.peat.writing = some (some r) ∧ t.peat.hold = rest ∧ t.mram = s.mram.submit .peat) ∧
    (s.peat.writing ≠ none ∨ s.peat.out = true → t.peat.writing = s.peat.writing ∧ t.peat.hold = s.peat.hold ∧ t.mram = s.mram)

theorem thaw_shows (s : State) : Thawed s s.thaw ∧ s.thaw = { s with peat := s.thaw.peat, mram := s.thaw.mram } := by
  let c : Rec := { p := { s.peat with frozen := false, freezePending := false }, m := s.mram }
  have ht : s.thaw = { s with peat := c.drain.p, mram := c.drain.m } :=
    recorder_of_silent (s := { s with peat := { s.peat with frozen := false, freezePending := false } }) (f := Rec.drain) (Rec.drain_counts c)
  obtain ⟨hopen, -, hpending, -⟩ := Rec.drain_keeps c
  refine ⟨?_, by rw [ht]⟩
  rw [ht]
  refine ⟨c.drain_frozen, hpending, congrArg Interval.openedAt hopen, fun r rest hwriting hout hhold => ?_, fun hbusy => ?_⟩
  · have hdrain := Rec.drain_of_hold (c := c) hwriting rfl rfl hout hhold
    dsimp only
    rw [hdrain]
    exact ⟨rfl, rfl, rfl⟩
  · have hdrain := Rec.drain_of_busy (c := c) hbusy
    dsimp only
    rw [hdrain]
    exact ⟨rfl, rfl, rfl⟩

/-- An event that names no unit does not touch what a thaw has set going. -/
theorem Thawed.raise {s t : State} (h : Thawed s t) {b n : Nat} (hunit : sourceUnits b n = []) : Thawed s (t.raise b n) := by
  obtain ⟨hpeat, hmram, hopened⟩ := raise_recorder t hunit
  have hfrozen : (t.raise b n).peat.frozen = t.peat.frozen := (congrArg PeatState.frozen hpeat :)
  have hpending : (t.raise b n).peat.freezePending = t.peat.freezePending := (congrArg PeatState.freezePending hpeat :)
  have hwriting : (t.raise b n).peat.writing = t.peat.writing := (congrArg PeatState.writing hpeat :)
  have hhold : (t.raise b n).peat.hold = t.peat.hold := (congrArg PeatState.hold hpeat :)
  unfold Thawed at h ⊢
  rw [hfrozen, hpending, hopened, hwriting, hhold, hmram]
  exact h

end Sys2Proof.Machine

open Sys2Proof Sys2Proof.Machine

/-- Settles O54: the closes by the four outcomes of `peatClose` (`peatClose_of_out`, `_of_room`, `_of_full`, `_of_repeat`), the commit by
`peatCommitComplete_shows`, the freeze by `thaw_shows`. -/
theorem peatCommands : Obligations.PeatCommands := by
  unfold Obligations.PeatCommands
  constructor
  · intro s out counted lost closed folds
    have hin : ¬out → s.isOut 21 0 = false := fun h => Bool.eq_false_iff.mpr h
    refine ⟨fun h => ⟨_, rfl, ?_⟩, fun hup hdue hborn => ?_, fun h => ⟨_, rfl, ?_⟩, fun hregs => ?_, fun h => ⟨_, rfl, ?_⟩,
      fun r hport hw hhold hpend => ?_⟩
    · refine if_pos ?_
      rcases h with h | h | h <;> simp [h]
    · obtain ⟨hx, hseq, hhold, hlost, hopsec, hopened, hlast⟩ := foldRepeat_keeps s
      have ht : peatTimer s = s.foldRepeat.peatClose 1 0 := if_neg (by simp [hup, hdue, hborn])
      have hout : s.foldRepeat.isOut 21 0 = s.isOut 21 0 := (congrArg (fun x : State => x.isOut 21 0) hx :)
      have hopens : s.foldRepeat.newInterval 1 = { openedAt := s.peat.opsec, limit := s.interval, born := none } := by
        unfold State.newInterval
        rw [hopsec, show s.foldRepeat.interval = s.interval from (congrArg State.interval hx :)]
        rfl
      refine ⟨fun ho => ⟨_, rfl, ?_⟩, fun ho hroom => ⟨_, rfl, ?_⟩, fun ho hfull => ⟨_, rfl, ?_⟩⟩
      · rw [ht, peatClose_of_out 1 (hout.trans ho), hopens, hlost]
        refine ⟨onlyCounts_of_recorder ?_, rfl, rfl, hseq⟩
        rw [hx]
      · rw [ht]
        obtain ⟨heq, hseq', hopen, r, hkind, hrseq, hclosed, hcause, hheld⟩ :=
          peatClose_of_room (hout.trans (hin ho)) (repeats_timer _ _ 0) (by rw [hhold]; exact hroom)
        refine ⟨onlyCounts_of_recorder ?_, hseq'.trans (by rw [hseq]), hopen.trans hopens, r, hkind, hrseq.trans hseq, hclosed.trans hopsec,
          fun hfold hnone => hcause (by rw [hlast hnone]; exact hfold), hheld⟩
        rw [heq, hx]
      · rw [ht, peatClose_of_full (hout.trans (hin ho)) (repeats_timer _ _ 0) (by rw [hhold]; exact hfull)]
        exact folded_shows 1 hx hseq hhold hopened
    · unfold peatCloseCmd State.ifUp
      exact if_neg (by simp [h])
    · have ht : peatCloseCmd s = s.peatClose 2 0 := ifUp_of_regsUp _ hregs
      refine ⟨fun ho => ⟨_, rfl, ?_⟩, fun ho hnew hroom => ⟨_, rfl, ?_⟩, fun ho hnew hfull => ⟨_, rfl, ?_⟩, fun r ho hrep hroom => ⟨_, rfl, ?_⟩⟩
      · rw [ht, peatClose_of_out 2 ho]
        exact ⟨onlyCounts_of_recorder rfl, rfl, rfl, rfl⟩
      · rw [ht]
        obtain ⟨heq, hseq, hopen, r, hkind, hrseq, hclosed, hcause, hheld⟩ := peatClose_of_room (hin ho) hnew hroom
        exact ⟨onlyCounts_of_recorder heq, hseq, hopen, r, hkind, hrseq, hclosed, fun hfold _ => hcause hfold, hheld⟩
      · rw [ht, peatClose_of_full (hin ho) hnew hfull]
        exact folded_shows 2 rfl rfl rfl rfl
      · rw [ht]
        obtain ⟨heq, hopen, hseq, hhold⟩ := peatClose_of_repeat (hin ho) hrep hroom
        exact ⟨onlyCounts_of_recorder heq, hopen, hseq, hhold⟩
    · unfold peatCommitComplete
      split
      · next hport =>
        have hnone := h.resolve_left (fun hne => hne hport)
        have hcomplete : s.recPart.complete = s.recPart := by
          unfold Rec.complete
          rw [show s.recPart.p.writing = none from hnone]
        refine (recorder_complete s).trans ?_
        unfold State.committed
        rw [hcomplete]
        rfl
      · rfl
    · obtain ⟨hplaced, hdiscarded⟩ := peatCommitComplete_shows hport hw hhold hpend
      have ht : peatCommitComplete s = s.recorder Rec.complete := if_pos hport
      refine ⟨fun i hi => ⟨_, rfl, ?_⟩, fun hi => ⟨_, rfl, ?_⟩⟩
      · rw [ht]
        exact hplaced i hi
      · rw [ht]
        exact hdiscarded hi
  · intro s thawed
    refine ⟨fun h => ⟨_, rfl, ?_⟩, fun hregs => ⟨_, rfl, ?_⟩, fun f => ?_, ?_, fun h => ⟨_, rfl, ?_⟩, fun hregs => ⟨_, rfl, ?_⟩, fun h => ⟨_, rfl, ?_⟩,
      fun hup hfrozen hlong => ⟨_, rfl, ?_⟩⟩
    · exact if_pos (by simp [h])
    · rw [peatFlush_eq hregs]
      obtain ⟨hpeat, hmram⟩ := secondOn_recorder s
      have hopsec : s.secondOn.peat.opsec = satAdd 4294967295 s.peat.opsec 1 := (congrArg PeatState.opsec hpeat :)
      have hpcc : s.secondOn.peat.pcc = s.peat.pcc := (congrArg PeatState.pcc hpeat :)
      refine ⟨hopsec, ?_, fun hidle => ?_, fun hbusy => ?_, ?_, fun hlast => ?_, fun hmore => ?_⟩
      · dsimp only
        rw [hpcc]
      · exact if_neg (by simp [hidle])
      · exact if_pos (Option.isSome_iff_ne_none.mpr hbusy)
      · have honly := secondOn_onlyCounts s
        generalize s.secondOn = x at honly ⊢
        exact onlyCounts_of_uncounted ((show _ = x.uncounted from rfl).trans (by rw [honly.1]; exact Prod.ext rfl (countParts_fixed honly.2)))
          (congrArg State.sts honly.1 :)
      · have hfull : s.opsecFull = true := by unfold State.opsecFull; rw [hlast]; decide
        have hcounts : Counts 21 15 s s.secondOn := by
          unfold State.secondOn State.raiseIf
          rw [if_pos hfull]
          exact raise_counts_of_flt 21 15 none (by unfold chained; decide) (by decide) rfl
        exact hcounts
      · have hfull : s.opsecFull = false := by
          unfold State.opsecFull
          rw [satAdd_one, if_pos (by omega)]
          exact decide_eq_false (by omega)
        have hsecond : s.secondOn = { s with peat := { s.peat with opsec := satAdd 4294967295 s.peat.opsec 1 } } := if_neg (by simp [hfull])
        rw [hsecond]
    · intro bad fixed
      refine ⟨fun hdown => ⟨_, rfl, if_pos (by simp [hdown])⟩, fun hup => ⟨_, rfl, ?_⟩⟩
      let hurt := (f.ue.filter (fun e => decide (e.1 < 21504) && (s.peat.slot e.1).kind != 0)).foldl (fun m e =>
        NMap.put (fun _ => {}) m e.1 { s.peat.slot e.1 with ue := e.2 % 256 }) s.peat.slots
      let x : State := { s with peat := { s.peat with failed := min 65535 bad.length, auditRunning := false, slots := hurt } }
      have ht : peatAudit f s = x.raiseEvs (auditEvs bad fixed) := if_neg (by simp [hup])
      have hunit := auditEvs_unitless bad fixed
      obtain ⟨hpeat, -, -⟩ := raiseEvs_recorder x (auditEvs bad fixed) (fun e he => (hunit e he).1)
      rw [ht]
      refine ⟨congrArg PeatState.failed hpeat, congrArg PeatState.auditRunning hpeat, fun hne => ?_, fun hne => ?_, fun i => ?_, ?_⟩
      · have hlen := auditEvs_bad bad fixed
        have htotal := raiseEvs_total x (b := 21) (n := 4) (by decide) (by decide) (by decide) (auditEvs bad fixed) hunit
          (by rw [hlen]; exact fun h => hne (List.length_eq_zero_iff.mp h))
        rw [hlen] at htotal
        exact htotal
      · have hlen := auditEvs_fixed bad fixed
        have htotal := raiseEvs_total x (b := 21) (n := 2) (by decide) (by decide) (by decide) (auditEvs bad fixed) hunit
          (by rw [hlen]; exact fun h => hne (List.length_eq_zero_iff.mp h))
        rw [hlen] at htotal
        exact htotal
      · have hslots : (x.raiseEvs (auditEvs bad fixed)).peat.slots = hurt := (congrArg PeatState.slots hpeat :)
        rw [PeatState.slot, hslots]
        exact audited_slots s.peat _ s.peat.slots (fun j => rfl) i
      · exact onlyCounts_of_recorder_raise (t := x) _ rfl
    · intro up may
      refine ⟨fun h => ⟨_, rfl, ?_⟩, fun ⟨hup, hout, hpend⟩ hfrozen => ⟨_, rfl, ?_⟩, fun ⟨⟨hup, hout, hpend⟩, hfree⟩ hheld => ⟨_, rfl, ?_⟩,
        fun ⟨⟨hup, hout, hpend⟩, hfree⟩ hidle hbusy => ⟨_, rfl, ?_⟩, fun ⟨⟨hup, hout, hpend⟩, hfree⟩ hidle hnone => ⟨_, rfl, ?_⟩⟩
      · refine if_pos ?_
        simp only [up, not_and_or, Bool.not_eq_true, Bool.not_eq_false] at h
        rcases h with h | h | h <;> simp [h]
      · simp [peatFreeze, hup, hout, hpend, hfrozen]
      · rw [show peatFreeze s = s.raise 21 8 by simp [peatFreeze, hup, hout, hpend, hfree, hheld]]
        obtain ⟨hpeat, -, -⟩ := raise_recorder s (b := 21) (n := 8) rfl
        exact ⟨raise_counts_of_flt 21 8 none (by unfold chained; decide) (by decide) rfl, raise_onlyCounts s 21 8 none,
          (congrArg PeatState.frozen hpeat).trans hfree⟩
      · simp [peatFreeze, hup, hout, hpend, hfree, hidle, Option.isSome_iff_ne_none.mpr hbusy]
      · simp [peatFreeze, hup, hout, hpend, hfree, hidle, hnone]
    · unfold peatThaw State.ifUp
      exact if_neg (by simp [h])
    · rw [show peatThaw s = s.thaw from ifUp_of_regsUp _ hregs]
      exact thaw_shows s
    · refine if_neg ?_
      rcases h with h | h | h <;> simp [h]
    · rw [show freezeTimeout s = s.thaw.raise 21 7 from if_pos (by simp [hup, hfrozen, hlong])]
      obtain ⟨hthawed, heq⟩ := thaw_shows s
      have hflt : s.thaw.flt = s.flt := (congrArg State.flt heq :)
      exact ⟨hthawed.raise rfl, raise_counts_of_flt 21 7 none (by unfold chained; decide) (by decide) hflt,
        onlyCounts_of_recorder_raise (t := s.thaw) _ heq⟩
end

section
/-! SUPPORT. The write of one register of plain configuration, and the read of one register with its snapshot (R387, R388, R404, R412). -/

namespace Sys2Proof.Machine

/-! ### Writes (R269, R387, R412) -/

theorem writable_of_row {a : Nat} {row : RegRow} (ha : a < 0xC000) (hrow : rowAt a = some row) (hacc : row.acc = .rw) : writable a = true := by
  simp [writable, ha, hrow, hacc]

/-- A register of plain configuration takes the value; a Lichen frequency, where its band allows. -/
theorem writeReg_of_plain (s : State) {a : Nat} {v : Word} (hblk : a / 0x800 ∈ [3, 5, 8, 10]) (hoff : 0x40 ≤ a % 0x800) (hw : writable a = true)
    (hband : noBand a v.toNat = false) : s.writeReg a v = s.wrc a v.toNat := by
  have hdiv := Nat.div_add_mod a 0x800
  unfold State.writeReg
  rw [if_neg (by simp [hw]), if_neg (by omega)]
  simp only [List.mem_cons, List.not_mem_nil, or_false] at hblk
  rcases hblk with h | h | h | h <;> rw [h] at hdiv ⊢
  · exact congrArg (fun x => s.wrc x v.toNat) hdiv
  · exact congrArg (fun x => s.wrc x v.toNat) hdiv
  · exact congrArg (fun x => s.wrc x v.toNat) hdiv
  · have hin : ¬(0x64 ≤ a % 0x800 ∧ a % 0x800 ≤ 0x80 ∧ (v.toNat % 2 ^ 23 < 600000 ∨ 3800000 < v.toNat % 2 ^ 23)) := by
      rintro ⟨hlo, hhi, hfreq⟩
      refine Bool.eq_false_iff.mp hband ?_
      simp only [noBand, Bool.and_eq_true, Bool.or_eq_true, decide_eq_true_eq]
      exact ⟨⟨by omega, by omega⟩, hfreq⟩
    exact (if_neg hin).trans (congrArg (fun x => s.wrc x v.toNat) hdiv)

theorem freqs_writable : ∀ k < 8, writable (0x5064 + 4 * k) = true := by decide

/-- A Lichen frequency out of its band is not taken. -/
theorem writeReg_of_noBand (s : State) {a : Nat} {v : Word} (halign : a % 4 = 0) (hband : noBand a v.toNat = true) : s.writeReg a v = s.raise 10 10 := by
  simp only [noBand, Bool.and_eq_true, Bool.or_eq_true, decide_eq_true_eq] at hband
  obtain ⟨⟨hlo, hhi⟩, hfreq⟩ := hband
  have hw : writable a = true := by
    have hk := freqs_writable ((a - 0x5064) / 4) (by omega)
    rwa [show 0x5064 + 4 * ((a - 0x5064) / 4) = a by omega] at hk
  unfold State.writeReg
  rw [if_neg (by simp [hw]), if_neg (by omega), show a / 0x800 = 10 by omega]
  exact if_pos ⟨by omega, by omega, hfreq⟩

/-- A write that stores shows the value at its register, without its reserved bits, and no other register changes. -/
theorem rd_wrc_same (s : State) {a : Nat} (v : Word) {row : RegRow} (hrow : rowAt a = some row) : (s.wrc a v.toNat).rd a = v.toNat &&& row.mask := by
  rw [rd_of_cfg (wrc_cfg s a v.toNat), rd_wr_same s a v.toNat hrow, Word.toNat_ofNat, Nat.mod_eq_of_lt v.isLt]
  exact Nat.mod_eq_of_lt (lt_of_le_of_lt Nat.and_le_left v.isLt)

theorem rd_wrc_ne (s : State) {a r : Nat} (n : Nat) (h : r ≠ a) : (s.wrc a n).rd r = s.rd r := by
  rw [rd_of_cfg (wrc_cfg s a n), rd_wr_ne s n h]

/-- The state with the bus's address and stretching as in s. -/
def State.busAs (s t : State) : State := { t with twb := { t.twb with addr := s.twb.addr, stretching := s.twb.stretching } }

/-- A STOP takes the address anew and lets the line go; an outcome that leaves both is otherwise that of the transfer. -/
theorem busAs_busStop {s t : State} (haddr : t.twb.addr = s.twb.addr) (hstretch : t.twb.stretching = s.twb.stretching) : s.busAs t.busStop = t := by
  unfold State.busAs State.busStop
  dsimp only
  rw [← haddr, ← hstretch]

theorem onlyCounts_busStop {s t : State} (h : OnlyCounts s t) : OnlyCounts s (s.busAs t.busStop) := by
  rw [busAs_busStop (congrArg TwbState.addr h.2.2 :) (congrArg TwbState.stretching h.2.2 :)]
  exact h

theorem sleepAbandon_of_idle {s : State} (h : s.sys.entering = none) : s.sleepAbandon = s := by simp [State.sleepAbandon, h]

theorem registerWrite_of_calm {s : State} (addr : Fin 65536) (v : Word) (hregs : s.regsUp = true) (hent : s.sys.entering = none) :
    registerWrite addr v s = (s.writeReg (addr.val - addr.val % 4) v).busStop := by
  refine (ifUp_of_regsUp _ hregs).trans ?_
  rw [sleepAbandon_of_idle hent]

/-! ### Snapshots (R388) -/

/-- The words l of what a state shows, kept in the shadow of an interface. -/
def State.keepAll (s : State) (f : Iface) (val : Nat → Nat) (l : List Nat) : State := l.foldl (fun t k => t.keepShadow f k (val k)) s

theorem keepAll_frame (s : State) (f : Iface) (val : Nat → Nat) (l : List Nat) : s.keepAll f val l = s.withShadows f ((s.keepAll f val l).shadows f) := by
  unfold State.keepAll
  induction l generalizing s with
  | nil => cases f <;> rfl
  | cons k l ih =>
    rw [List.foldl_cons]
    refine (ih _).trans ?_
    cases f <;> rfl

theorem shadowWord_keepAll_out (s : State) (f : Iface) (val : Nat → Nat) {l : List Nat} {k : Nat} (h : k ∉ l) :
    (s.keepAll f val l).shadowWord f k = s.shadowWord f k := by
  unfold State.keepAll
  induction l generalizing s with
  | nil => rfl
  | cons j l ih =>
    rw [List.foldl_cons, ih _ (fun hk => h (List.mem_cons_of_mem j hk))]
    have hne : k ≠ j := fun hk => h (by simp [hk])
    cases f <;> exact congrArg BitVec.toNat (NMap.get_put_ne _ _ _ hne)

theorem shadowWord_keepAll (s : State) (f : Iface) (val : Nat → Nat) {l : List Nat} {k : Nat} (h : k ∈ l) :
    (s.keepAll f val l).shadowWord f k = val k % 2 ^ 32 := by
  unfold State.keepAll
  induction l generalizing s with
  | nil => exact absurd h List.not_mem_nil
  | cons j l ih =>
    rw [List.foldl_cons]
    by_cases hl : k ∈ l
    · exact ih _ hl
    · have hk : k = j := (List.mem_cons.mp h).resolve_right hl
      refine (shadowWord_keepAll_out _ f val hl).trans ?_
      subst hk
      have hword : (NMap.get shadowReset (NMap.put shadowReset (s.shadows f) k (Word.ofNat (val k))) k).toNat = val k % 2 ^ 32 := by
        rw [NMap.get_put_same, Word.toNat_ofNat]
      cases f <;> exact hword

theorem openSlot_of_low (s : State) {a : Nat} (h : a < 0xC000) : s.openSlot a = false := by
  simp [State.openSlot, Nat.not_le.mpr h]

theorem windowHit_of_low (s : State) (f : Iface) (first : Bool) {a : Nat} (h : a < 0xC000) : s.windowHit f first a = s :=
  if_neg (fun hc => absurd hc.2.1 (Nat.not_le.mpr h))

theorem snapshot_of_low (s : State) (f : Iface) {a : Nat} (h : a < 0xC000) :
    s.snapshot f a = if groupLead a = some a then s.keepAll f (s.live f) (groupRest a) else s := by
  unfold State.snapshot
  rw [if_neg (by simp [openSlot_of_low s h])]
  rfl

/-- A snapshot changes the shadow of its interface alone. -/
theorem snapshot_frame (s : State) (f : Iface) {a : Nat} (h : a < 0xC000) : s.snapshot f a = s.withShadows f ((s.snapshot f a).shadows f) := by
  rw [snapshot_of_low s f h]
  split
  · exact keepAll_frame s f (s.live f) (groupRest a)
  · cases f <;> rfl

/-! ### A read of one register (R388) -/

theorem readByte_first (s : State) (f : Iface) (sh : BusShadow) (first : Bool) {a : Nat} (h : a < 0xC000) (halign : a % 4 = 0) :
    s.readByte f sh first a = (BitVec.ofNat 8 (s.regRead f a), some (a, s.regRead f a), s.snapshot f a) := by
  unfold State.readByte
  rw [windowHit_of_low s f first h, if_pos halign]

theorem readByte_rest (s : State) (f : Iface) (first : Bool) {a i w : Nat} (h : a + i < 0xC000) (halign : a % 4 = 0) (hi : 0 < i) (hi4 : i < 4) :
    s.readByte f (some (a, w)) first (a + i) = (BitVec.ofNat 8 (w / 256 ^ i), some (a, w), s) := by
  have hmod : (a + i) % 4 = i := by omega
  have hreg : a + i - i = a := by omega
  unfold State.readByte
  rw [windowHit_of_low s f first h]
  dsimp only
  rw [hmod, if_neg (by omega), hreg, if_pos rfl]

/-- A register below the windows reads as its four bytes, and its wide value is snapshotted. -/
theorem readReg_of_low (s : State) (f : Iface) {a : Nat} (h : a < 0xC000) (halign : a % 4 = 0) :
    s.readReg f a = (leBytes 4 (s.regRead f a), s.snapshot f a) := by
  have hnext : ∀ i, i < 4 → (a + i) % 65536 = a + i := fun i hi => Nat.mod_eq_of_lt (by omega)
  unfold State.readReg
  rw [if_neg (by omega)]
  simp only [readBytes, readByte_first s f none true h halign]
  rw [hnext 1 (by decide), readByte_rest _ f false (by omega) halign (by decide) (by decide)]
  simp only [Nat.add_assoc, Nat.reduceAdd]
  rw [hnext 2 (by decide), readByte_rest _ f false (by omega) halign (by decide) (by decide)]
  simp only [Nat.add_assoc, Nat.reduceAdd]
  rw [hnext 3 (by decide), readByte_rest _ f false (by omega) halign (by decide) (by decide)]
  simp only [leBytes, Nat.div_div_eq_div_mul, Nat.reducePow, Nat.reduceMul]

theorem snapshotRead_twoWire (addr : Fin 65536) (s : State) : snapshotRead .twoWire addr s = s.ifUp (fun s =>
    { (s.sleepAbandon.readReg .twoWire (addr.val - addr.val % 4)).2 with
      twb := { (s.sleepAbandon.readReg .twoWire (addr.val - addr.val % 4)).2.twb with
        lastRead := (s.sleepAbandon.readReg .twoWire (addr.val - addr.val % 4)).1 } }) := rfl

theorem snapshotRead_pcie (addr : Fin 65536) (s : State) : snapshotRead .pcie addr s = s.memRequest (fun s =>
    (s.readReg .pcie (addr.val - addr.val % 4)).2.pcieOk (s.readReg .pcie (addr.val - addr.val % 4)).1) := rfl

end Sys2Proof.Machine

open Sys2Proof Sys2Proof.Machine

/-- Settles O56: the writes by `writeReg_of_plain` and `writeReg_of_noBand`, the reads by `readReg_of_low`, the mirror by the cases of `bar2Write`. -/
theorem registerAccess : Obligations.RegisterAccess := by
  unfold Obligations.RegisterAccess
  intro s addr a calmBus
  have halign : a % 4 = 0 := by omega
  have haddr : a ≤ addr.val ∧ addr.val < a + 4 := by omega
  refine ⟨fun hdown v => ⟨⟨_, rfl, ?_⟩, ⟨_, rfl, ?_⟩⟩, fun ⟨hregs, hent⟩ v => ?_, fun ⟨hregs, hent⟩ hlow => ⟨_, rfl, ?_⟩,
    fun hdown v => ⟨⟨_, rfl, (snapshotRead_pcie addr s).trans (memRequest_of_down _ hdown)⟩,
      ⟨_, rfl, memRequest_of_down _ hdown⟩⟩, fun hup hclosed v => ?_, fun hup hopen => ?_⟩
  · exact if_neg (by simp [hdown])
  · exact if_neg (by simp [hdown])
  · intro bare
    have hwrite := registerWrite_of_calm addr v hregs hent
    refine ⟨fun hro => ⟨_, rfl, ?_⟩, fun row hblk hoff hrow hacc hband => ⟨_, rfl, ?_⟩, fun hband => ⟨_, rfl, ?_⟩⟩
    · rw [hwrite, show s.writeReg a v = s.raise 4 10 from if_pos (by simp [hro])]
      exact ⟨raise_counts_of_flt (s := s) (x := s) 4 10 none (by unfold chained; decide) (by decide) rfl, onlyCounts_busStop (raise_onlyCounts s 4 10 none)⟩
    · have hlow : a < 0xC000 := by
        simp only [List.mem_cons, List.not_mem_nil, or_false] at hblk
        omega
      rw [hwrite, writeReg_of_plain s hblk hoff (writable_of_row hlow hrow hacc) hband]
      have htwb : (s.wrc a v.toNat).twb = s.twb := by rw [wrc_eq]
      have hbare : bare (s.wrc a v.toNat).busStop = s.wrc a v.toNat :=
        busAs_busStop (congrArg TwbState.addr htwb) (congrArg TwbState.stretching htwb)
      refine ⟨?_, rd_wrc_same s v hrow, fun r hr => rd_wrc_ne s v.toNat hr⟩
      rw [hbare]
      exact wrc_stores a v (onlyStatus_refl [] s)
    · rw [hwrite, writeReg_of_noBand s halign hband]
      exact ⟨raise_counts_of_flt (s := s) (x := s) 10 10 none (by unfold chained; decide) (by decide) rfl, onlyCounts_busStop (raise_onlyCounts s 10 10 none)⟩
  · have hread : snapshotRead .twoWire addr s = { s.snapshot .twoWire a with
        twb := { (s.snapshot .twoWire a).twb with lastRead := leBytes 4 (s.regRead .twoWire a) } } := by
      rw [snapshotRead_twoWire, ifUp_of_regsUp _ hregs, sleepAbandon_of_idle hent, readReg_of_low s .twoWire hlow halign]
    have hframe := snapshot_frame s .twoWire hlow
    rw [hread]
    refine ⟨?_, ?_, fun k hlead hk => ?_⟩
    · rw [hframe]
      rfl
    · rw [hframe]
      rfl
    · have hsnap : s.snapshot .twoWire a = s.keepAll .twoWire (s.live .twoWire) (groupRest a) := (snapshot_of_low s .twoWire hlow).trans (if_pos hlead)
      rw [hsnap]
      exact shadowWord_keepAll s .twoWire (s.live .twoWire) hk
  · intro ur
    have hur : ∀ f : State → State, s.memRequest f = s.pcieUr 6 := fun f => memRequest_of_closed f hup hclosed
    obtain ⟨hcounts, hpcie, honly⟩ := pcieUr_shows s (src := 6) rfl (by unfold chained; decide)
    refine ⟨⟨_, rfl, ?_⟩, ⟨_, rfl, ?_⟩⟩
    · rw [show snapshotRead .pcie addr s = s.pcieUr 6 from (snapshotRead_pcie addr s).trans (hur _)]
      exact ⟨hcounts, hpcie, honly⟩
    · rw [show mirrorWrite addr v s = s.pcieUr 6 from hur _]
      exact ⟨hcounts, hpcie, honly⟩
  · have hmirror : ∀ v, mirrorWrite addr v s = s.bar2Write addr v := fun v => memRequest_of_open (fun s => s.bar2Write addr v) hup hopen
    refine ⟨fun hlow => ⟨_, rfl, ?_⟩, fun v => ⟨fun hlow => ⟨_, rfl, ?_⟩, fun k hk hword haddr => ⟨_, rfl, ?_⟩, fun hlo hhi => ⟨_, rfl, ?_⟩⟩⟩
    · have hread : snapshotRead .pcie addr s = (s.snapshot .pcie a).pcieOk (leBytes 4 (s.regRead .pcie a)) := by
        rw [snapshotRead_pcie, memRequest_of_open _ hup hopen, readReg_of_low s .pcie hlow halign]
      rw [hread, snapshot_frame s .pcie hlow]
      exact ⟨rfl, rfl⟩
    · rw [hmirror, show s.bar2Write addr v = s.raise 5 9 from if_pos hlow]
      exact ⟨raise_counts_pcie rfl (by unfold chained; decide) rfl, raise_onlyCounts s 5 9 none⟩
    · have hput : mirrorWrite addr v s = { s with pcie := { s.pcie with msix := NMap.put (fun _ => (0 : Word)) s.pcie.msix k v } } := by
        rw [hmirror]
        unfold State.bar2Write
        rw [if_neg (by omega), if_neg (by omega), if_neg (by omega), if_neg (by omega), if_neg (by omega), if_pos (by omega),
          show (addr.val - 0xF800) / 4 = k by omega]
        exact if_neg hword
      rw [hput]
      exact ⟨rfl, rfl, NMap.get_put_same _ _ _ _, fun j hj => NMap.get_put_ne _ _ _ hj⟩
    · rw [hmirror]
      unfold State.bar2Write
      rw [if_neg (by omega), if_neg (by omega), if_neg (by omega), if_neg (by omega), if_neg (by omega), if_neg (by omega)]
end

section
/-! SUPPORT. A two-wire transfer to the device as a target (R384–R389, R395): what it leaves alone, the bytes that it writes and reads. -/

namespace Sys2Proof.Machine

/-! ### What a transfer leaves alone -/

/-- What a state holds beside the bus's own part, the status registers and what counting an event changes. -/
def State.offBus (s : State) : State × (BogState × TwbState) :=
  State.uncounted { s with twb := { s.twb with addr := 0, stretching := false, ptr := 0, lastRead := [], shadow := [] } }

/-- The state with the bus's own part as in s. -/
def State.busOf (s t : State) : State :=
  { t with twb := { t.twb with addr := s.twb.addr, stretching := s.twb.stretching, ptr := s.twb.ptr, lastRead := s.twb.lastRead
                               shadow := s.twb.shadow } }

theorem uncounted_busOf {s t : State} (h : t.offBus = s.offBus) : (s.busOf t).uncounted = s.uncounted :=
  congrArg (fun p : State × (BogState × TwbState) => (p.1, p.2.1, { p.2.2 with
    addr := s.twb.addr, stretching := s.twb.stretching, ptr := s.twb.ptr, lastRead := s.twb.lastRead, shadow := s.twb.shadow })) h

theorem busStop_offBus (s : State) : s.busStop.offBus = s.offBus := rfl

theorem raise_offBus (s : State) (b n : Nat) : (s.raise b n).offBus = s.offBus :=
  Prod.ext rfl (congrArg (fun p : BogState × TwbState => (p.1, { p.2 with addr := 0, stretching := false, ptr := 0, lastRead := [], shadow := [] }))
    (raiseEvs_fixed s [{ blk := b, src := n }]))

/-- What a target's transfer leaves of the state beside its own count: all but the bus's own part, with the registers as counted. -/
structure Served (s y : State) : Prop where
  rest : y.offBus = s.offBus
  sts : y.sts = (s.targetStat 0).sts

/-- A served transfer has counted itself, and it has taken its address anew; what else it has changed is its own part of the bus. -/
theorem Served.counted {s y : State} (h : Served s y) :
    y.busStop.stF Reg.TWB_TARGET_STAT 0 16 = satAdd 65535 (s.stF Reg.TWB_TARGET_STAT 0 16) 1 ∧ y.busStop.twb.stretching = false ∧
      y.busStop.twb.addr = bitsAt (s.rd Reg.TWB_ADDR_CFG) 3 4 * 8 + s.twb.strap % 8 ∧
      OnlyStatusCounts [Reg.TWB_TARGET_STAT] s (s.busOf y.busStop) := by
  have hcfg : y.cfg = s.cfg := (congrArg (fun p : State × (BogState × TwbState) => p.1.cfg) h.rest :)
  have hstrap : y.twb.strap = s.twb.strap := (congrArg (fun p : State × (BogState × TwbState) => p.2.2.strap) h.rest :)
  refine ⟨?_, rfl, ?_, onlyStatusCounts_of_uncounted (uncounted_busOf ((busStop_offBus y).trans h.rest)) fun a ha => ?_⟩
  · exact (stF_of_st (st_of_sts h.sts _) 0 16).trans (stF_bumpF_same s Reg.TWB_TARGET_STAT 1 (by decide))
  · unfold State.busStop
    dsimp only
    rw [rd_of_cfg hcfg, hstrap]
  · exact (st_of_sts h.sts a).trans (st_bumpF_ne s _ _ _ (by simpa using ha))

theorem targetStat_served (s : State) : Served s (s.targetStat 0) := ⟨rfl, rfl⟩

theorem Served.raise {s y : State} (h : Served s y) (b n : Nat) : Served s (y.raise b n) := ⟨(raise_offBus y b n).trans h.rest, h.sts⟩

theorem Served.of_ptr {s y : State} (h : Served s y) (p : Nat) : Served s { y with twb := { y.twb with ptr := p } } := ⟨h.rest, h.sts⟩

/-! ### Whom the device answers (R384) -/

theorem busServe_of_silent {s : State} (f : State → State) (h : s.power = .off ∨ ∃ r, s.power = .discovery r) : s.busServe f = s := by
  unfold State.busServe
  rcases h with h | ⟨r, h⟩ <;> rw [h]

theorem busServe_of_up {s : State} (f : State → State) (hup : s.isUp = true) (hent : s.sys.entering = none) :
    s.busServe f = (f (s.targetStat 0)).busStop := by
  have hwake : twoWireWake s = s := by
    unfold twoWireWake
    rw [if_neg (fun h => by simp [State.isUp, h] at hup), if_neg (by simp [hent])]
  unfold State.busServe
  rw [hwake]
  split
  · next h => simp [State.isUp, h] at hup
  · next h => simp [State.isUp, h] at hup
  · rfl

/-! ### The bytes of a write (R386, R387) -/

theorem writeBytes_cons (s : State) (x : Option Assembly) (b : Byte) (t : List Byte) : s.writeBytes x (b :: t) =
    if s.twb.ptr % 4 = 3 then
      (State.assembled { s with twb := { s.twb with ptr := pageNext s.twb.ptr } } (joinByte x s.twb.ptr b)).writeBytes none t
    else State.writeBytes { s with twb := { s.twb with ptr := pageNext s.twb.ptr } } (some (joinByte x s.twb.ptr b)) t := rfl

theorem pageNext_of_inner {a : Nat} (h : a % 4 ≠ 3) : pageNext a = a + 1 := by
  unfold pageNext
  omega

/-- A byte that is not the last of its register joins it, and the pointer moves on. -/
theorem writeBytes_within (s : State) (x : Option Assembly) (b : Byte) (t : List Byte) (h : s.twb.ptr % 4 ≠ 3) : s.writeBytes x (b :: t) =
    State.writeBytes { s with twb := { s.twb with ptr := s.twb.ptr + 1 } } (some (joinByte x s.twb.ptr b)) t := by
  rw [writeBytes_cons, if_neg h, pageNext_of_inner h]

/-- A byte behind those of the same register joins them. -/
theorem joinByte_next {a i : Nat} (m v : Nat) (b : Byte) (halign : a % 4 = 0) (hi : i < 4) :
    joinByte (some { reg := a, mask := m, val := v }) (a + i) b = { reg := a, mask := m + 2 ^ i, val := v + b.toNat * 256 ^ i } := by
  have hmod : (a + i) % 4 = i := by omega
  unfold joinByte
  dsimp only
  rw [hmod, Nat.add_sub_cancel, if_pos rfl]

/-- The little-endian word of four bytes. -/
def wordOf (b0 b1 b2 b3 : Byte) : Nat := b0.toNat + 256 * b1.toNat + 65536 * b2.toNat + 16777216 * b3.toNat

theorem wordOf_lt (b0 b1 b2 b3 : Byte) : wordOf b0 b1 b2 b3 < 2 ^ 32 := by
  have h0 := b0.isLt
  have h1 := b1.isLt
  have h2 := b2.isLt
  have h3 := b3.isLt
  unfold wordOf
  omega

/-- A register of which every byte was received takes those bytes. -/
theorem assembled_of_all (s : State) (a : Nat) (b0 b1 b2 b3 : Byte) :
    s.assembled { reg := a, mask := 15, val := wordOf b0 b1 b2 b3 } = (s.writeReg a (Word.ofNat (wordOf b0 b1 b2 b3))).settle := by
  have h0 := b0.isLt
  have h1 := b1.isLt
  have h2 := b2.isLt
  have h3 := b3.isLt
  have hword : bitsAt (wordOf b0 b1 b2 b3) (8 * 0) 8 + 256 * bitsAt (wordOf b0 b1 b2 b3) (8 * 1) 8 + 65536 * bitsAt (wordOf b0 b1 b2 b3) (8 * 2) 8 +
      16777216 * bitsAt (wordOf b0 b1 b2 b3) (8 * 3) 8 = wordOf b0 b1 b2 b3 := by
    unfold bitsAt wordOf
    omega
  unfold State.assembled
  dsimp only
  rw [if_pos (by decide), if_pos (by decide), if_pos (by decide), if_pos (by decide), hword]

/-- The four bytes of a word with the one at 8k replaced. -/
theorem putBits_bytes {o b k : Nat} (ho : o < 2 ^ 32) (hb : b < 256) (hk : k < 4) :
    let byte_ (i : Nat) : Nat := if bitAt (2 ^ k) i then bitsAt (b * 256 ^ k) (8 * i) 8 else bitsAt o (8 * i) 8
    byte_ 0 + 256 * byte_ 1 + 65536 * byte_ 2 + 16777216 * byte_ 3 = putBits o (8 * k) 8 b := by
  rcases (by omega : k = 0 ∨ k = 1 ∨ k = 2 ∨ k = 3) with rfl | rfl | rfl | rfl <;>
    simp only [bitAt, bitsAt, putBits, Nat.reduceMul, Nat.reducePow, Nat.reduceDiv, Nat.reduceMod, decide_true, decide_false, if_true,
      Bool.false_eq_true, if_false, Nat.reduceEqDiff] <;> omega

/-- A register of plain configuration of which one byte was received keeps the others. -/
theorem assembled_of_one (s : State) {r k : Nat} (b : Byte) {row : RegRow} (hk : k < 4) (hrow : rowAt r = some row) (hacc : row.acc = .rw)
    (hview : s.viewRw r = s.rd r) : s.assembled { reg := r, mask := 2 ^ k, val := b.toNat * 256 ^ k } =
      (s.writeReg r (Word.ofNat (putBits (s.rd r) (8 * k) 8 b.toNat))).settle := by
  unfold State.assembled
  dsimp only
  rw [hrow]
  dsimp only
  rw [if_pos hacc, hview, putBits_bytes (rd_lt s r) b.isLt hk]

theorem viewRw_of_plain (s : State) {r : Nat} (hblk : r / 0x800 ∈ [3, 5, 8, 10]) : s.viewRw r = s.rd r := by
  simp only [List.mem_cons, List.not_mem_nil, or_false] at hblk
  unfold State.viewRw
  rw [if_neg (fun h => by rw [h] at hblk; revert hblk; decide), if_neg (fun h => by rw [h] at hblk; revert hblk; decide),
    if_neg (fun h => by rw [h] at hblk; revert hblk; decide)]

theorem writeBytes_of_four {x : State} (b0 b1 b2 b3 : Byte) (halign : x.twb.ptr % 4 = 0) : ∃ p, x.writeBytes none [b0, b1, b2, b3] =
    State.assembled { x with twb := { x.twb with ptr := p } } { reg := x.twb.ptr, mask := 15, val := wordOf b0 b1 b2 b3 } := by
  have hfirst : joinByte none x.twb.ptr b0 = { reg := x.twb.ptr, mask := 1, val := b0.toNat } := by
    unfold joinByte
    dsimp only
    rw [halign]
    simp
  refine ⟨pageNext (x.twb.ptr + 3), ?_⟩
  rw [writeBytes_within x _ b0 _ (by omega), hfirst, writeBytes_within _ _ b1 _ (by dsimp only; omega)]
  dsimp only
  rw [joinByte_next 1 b0.toNat b1 halign (by decide), writeBytes_within _ _ b2 _ (by dsimp only; omega)]
  dsimp only
  rw [show x.twb.ptr + 1 + 1 = x.twb.ptr + 2 from rfl, joinByte_next _ _ b2 halign (by decide), writeBytes_cons, if_pos (by dsimp only; omega)]
  dsimp only
  rw [show x.twb.ptr + 2 + 1 = x.twb.ptr + 3 from rfl, joinByte_next _ _ b3 halign (by decide),
    show b0.toNat + b1.toNat * 256 ^ 1 + b2.toNat * 256 ^ 2 + b3.toNat * 256 ^ 3 = wordOf b0 b1 b2 b3 by unfold wordOf; omega]
  rfl

theorem writeBytes_of_one (x : State) (b : Byte) : ∃ p, x.writeBytes none [b] = State.assembled { x with twb := { x.twb with ptr := p } }
    { reg := x.twb.ptr - x.twb.ptr % 4, mask := 2 ^ (x.twb.ptr % 4), val := b.toNat * 256 ^ (x.twb.ptr % 4) } := by
  refine ⟨pageNext x.twb.ptr, ?_⟩
  rw [writeBytes_cons]
  split <;> rfl

/-- What a write of one register leaves at the end of its instant. -/
theorem writeSettled_shows {s x : State} (a : Nat) (v : Word) (hcfg : x.cfg = s.cfg) (hnow : x.now = s.now) (hpower : x.power = s.power) {row : RegRow}
    (hrow : rowAt a = some row) : let u := s.after (x.wrc a v.toNat).settle.busStop
    u.cfg = (s.wr a v.toNat).cfg ∧ u.rd a = v.toNat &&& row.mask ∧ (∀ r, r ≠ a → u.rd r = s.rd r) ∧ u.now = s.now ∧ u.power = s.power := by
  intro u
  obtain ⟨hupower, -, hunow, hucfg, -⟩ := after_keeps s (x.wrc a v.toNat).settle.busStop
  have hstill := base_of_still (settle_still (x.wrc a v.toNat))
  have heq := wrc_eq x a v.toNat
  have hwr : u.cfg = (x.wrc a v.toNat).cfg := hucfg.trans (cfg_of_base hstill)
  have hwrcfg : (x.wr a v.toNat).cfg = (s.wr a v.toNat).cfg := by
    unfold State.wr
    dsimp only
    rw [hcfg]
  refine ⟨hwr.trans ((wrc_cfg x a v.toNat).trans hwrcfg), (rd_of_cfg hwr a).trans (rd_wrc_same x v hrow), fun r hr => ?_, ?_, ?_⟩
  · exact (rd_of_cfg hwr r).trans ((rd_wrc_ne x v.toNat hr).trans (rd_of_cfg hcfg r))
  · exact hunow.trans ((now_of_base hstill).trans ((congrArg State.now heq).trans hnow))
  · exact hupower.trans ((power_of_base hstill).trans ((congrArg State.power heq).trans hpower))

/-! ### The bytes of a read (R385–R389, R378) -/

/-- What a read looks at and leaves: the state beside the bus's own part, the status registers, and the count of late data. -/
def State.readRest (s : State) : (State × (BogState × TwbState)) × NMap Word × Src := (s.offBus, s.sts, s.flt.source 4 11)

theorem windowHit_readRest (s : State) (f : Iface) (first : Bool) (a : Nat) : (s.windowHit f first a).readRest = s.readRest := by
  unfold State.windowHit State.raiseIf
  split
  · split
    · exact Prod.ext (raise_offBus s 21 1) (Prod.ext rfl (raise_source_ne s 4 11 21 1 none (by unfold chained; decide) (by decide)))
    · rfl
  · rfl

theorem snapshot_readRest (s : State) (a : Nat) : (s.snapshot .twoWire a).readRest = s.readRest := by
  have hfold : ∀ (key : Nat → Nat) (l : List Nat), (l.foldl (fun t k => t.keepShadow .twoWire (key k) (s.live .twoWire k)) s).readRest = s.readRest :=
    fun key l => foldl_keeps State.readRest l (fun t k => t.keepShadow .twoWire (key k) (s.live .twoWire k)) (fun t k => rfl) s
  unfold State.snapshot
  split
  · split
    · exact hfold openKey _
    · rfl
  · split
    · exact hfold id _
    · rfl

theorem readByte_readRest (s : State) (sh : BusShadow) (first : Bool) (a : Nat) : (s.readByte .twoWire sh first a).2.2.readRest = s.readRest := by
  unfold State.readByte
  dsimp only
  split
  · exact (snapshot_readRest _ a).trans (windowHit_readRest s .twoWire first a)
  · exact windowHit_readRest s .twoWire first a

theorem readBytes_keeps (n : Nat) (first : Bool) (sh : BusShadow) (a : Nat) (s : State) :
    (readBytes .twoWire n first sh a s).2.readRest = s.readRest ∧ (readBytes .twoWire n first sh a s).1.length = n := by
  induction n generalizing first sh a s with
  | zero => exact ⟨rfl, rfl⟩
  | succ n ih =>
    obtain ⟨hrest, hlen⟩ := ih false (s.readByte .twoWire sh first a).2.1 ((a + 1) % 65536) (s.readByte .twoWire sh first a).2.2
    exact ⟨hrest.trans (readByte_readRest s sh first a), congrArg Nat.succ hlen⟩

/-- A read of n bytes from the pointer on: it moves the pointer, and where its data were not there in time the first byte is 0xFF. -/
theorem busRead_shows {s y : State} (h : Served s y) (hflt : y.flt = s.flt) (n : Nat) (ready : Bool) :
    Served s (y.busRead n ready) ∧ (y.busRead n ready).twb.ptr = (y.twb.ptr + n) % 65536 ∧ (y.busRead n ready).twb.lastRead.length = n ∧
      (ready = false → n ≠ 0 → (y.busRead n ready).twb.lastRead.head? = some 0xFF ∧ Counts 4 11 s (y.busRead n ready)) := by
  have hserved : ∀ z t : State, Served s z → t.readRest = z.readRest → Served s t := fun z t hz heq =>
    ⟨(congrArg Prod.fst heq).trans hz.rest, (congrArg (fun p => p.2.1) heq).trans hz.sts⟩
  by_cases hlate : (!ready && n != 0) = true
  · obtain ⟨m, rfl⟩ : ∃ m, n = m + 1 := ⟨n - 1, by simp at hlate; omega⟩
    have hread : y.busRead (m + 1) ready = { (readBytes .twoWire m true none ((y.twb.ptr + 1) % 65536) (y.raise 4 11)).2 with
        twb := { (readBytes .twoWire m true none ((y.twb.ptr + 1) % 65536) (y.raise 4 11)).2.twb with
          lastRead := 0xFF :: (readBytes .twoWire m true none ((y.twb.ptr + 1) % 65536) (y.raise 4 11)).1
          ptr := (y.twb.ptr + (m + 1)) % 65536 } } := by
      unfold State.busRead State.raiseIf
      dsimp only
      rw [hlate]
      rfl
    obtain ⟨hrest, hlen⟩ := readBytes_keeps m true none ((y.twb.ptr + 1) % 65536) (y.raise 4 11)
    rw [hread]
    have hkept := hserved (y.raise 4 11) _ (h.raise 4 11) hrest
    refine ⟨⟨hkept.rest, hkept.sts⟩, rfl, congrArg Nat.succ hlen, fun _ _ => ⟨rfl, ?_⟩⟩
    have hsource := congrArg (fun p => p.2.2) hrest
    exact (congrArg Src.total hsource).trans (raise_counts_of_flt 4 11 none (by unfold chained; decide) (by decide) hflt)
  · have hread : y.busRead n ready = { (readBytes .twoWire n true none y.twb.ptr y).2 with
        twb := { (readBytes .twoWire n true none y.twb.ptr y).2.twb with
          lastRead := (readBytes .twoWire n true none y.twb.ptr y).1, ptr := (y.twb.ptr + n) % 65536 } } := by
      unfold State.busRead State.raiseIf
      dsimp only
      rw [Bool.eq_false_iff.mpr hlate]
      rfl
    obtain ⟨hrest, hlen⟩ := readBytes_keeps n true none y.twb.ptr y
    rw [hread]
    have hkept := hserved y _ h hrest
    exact ⟨⟨hkept.rest, hkept.sts⟩, rfl, hlen, fun hnot hn => absurd (by simp [hnot, hn]) hlate⟩

end Sys2Proof.Machine

open Sys2Proof Sys2Proof.Machine

/-- Settles O55: every served transfer is `Served`; the writes by `assembled_of_all` and `assembled_of_one`, the reads by `busRead_shows`. -/
theorem targetTransfers : Obligations.TargetTransfers := by
  unfold Obligations.TargetTransfers
  intro s silent served bare counted reads
  refine ⟨fun h => ⟨fun bytes => ⟨_, rfl, busServe_of_silent _ h⟩, fun hi lo n ready => ⟨⟨_, rfl, busServe_of_silent _ h⟩,
    ⟨_, rfl, busServe_of_silent _ h⟩⟩⟩, fun ⟨hup, hent⟩ => ?_, fun hdown => ⟨_, rfl, if_neg (by simp [hdown])⟩, fun hregs => ⟨_, rfl, ?_⟩,
    fun hidle => ⟨_, rfl, if_neg (by simp [hidle])⟩, fun hstretch => ⟨_, rfl, ?_⟩⟩
  · have hserve := fun f => busServe_of_up f hup hent
    have hplain : ∀ (x : State) (a : Nat) (v : Word) (row : RegRow), a / 0x800 ∈ [3, 5, 8, 10] → 0x40 ≤ a % 0x800 → rowAt a = some row →
        row.acc = .rw → noBand a v.toNat = false → x.writeReg a v = x.wrc a v.toNat := fun x a v row hblk hoff hrow hacc hband => by
      refine writeReg_of_plain x hblk hoff (writable_of_row ?_ hrow hacc) hband
      simp only [List.mem_cons, List.not_mem_nil, or_false] at hblk
      omega
    refine ⟨fun b => ⟨_, rfl, ?_⟩, fun hi lo => ⟨_, rfl, ?_⟩, fun hi lo b0 b1 b2 b3 row => ?_, fun hi lo b row => ?_, fun n ready => ⟨_, rfl, ?_⟩,
      fun hi lo n ready => ⟨_, rfl, ?_⟩⟩
    · rw [show twoWireWrite [b] s = ((s.targetStat 0).raise 4 9).busStop from hserve _]
      exact ⟨((targetStat_served s).raise 4 9).counted, (congrArg TwbState.ptr (raise_onlyCounts (s.targetStat 0) 4 9 none).2.2 :),
        raise_counts_of_flt (s := s) (x := s.targetStat 0) 4 9 none (by unfold chained; decide) (by decide) rfl⟩
    · rw [show twoWireWrite [hi, lo] s = State.busStop { s.targetStat 0 with
        twb := { (s.targetStat 0).twb with ptr := hi.toNat * 256 + lo.toNat } } from hserve _]
      exact ⟨((targetStat_served s).of_ptr (hi.toNat * 256 + lo.toNat)).counted, rfl⟩
    · intro a w halign hblk hoff hrow hacc hband
      let x : State := { s.targetStat 0 with twb := { (s.targetStat 0).twb with ptr := a } }
      obtain ⟨p, hbytes⟩ := writeBytes_of_four (x := x) b0 b1 b2 b3 halign
      have hw : (Word.ofNat w).toNat = w := (Word.toNat_ofNat w).trans (Nat.mod_eq_of_lt (wordOf_lt b0 b1 b2 b3))
      have ht : twoWireWrite [hi, lo, b0, b1, b2, b3] s = (State.wrc { x with twb := { x.twb with ptr := p } } a (Word.ofNat w).toNat).settle.busStop := by
        refine (hserve _).trans (congrArg State.busStop (hbytes.trans ?_))
        rw [assembled_of_all]
        exact congrArg State.settle (hplain _ a (Word.ofNat w) row hblk hoff hrow hacc (by rw [hw]; exact hband))
      have hshows := writeSettled_shows (s := s) (x := { x with twb := { x.twb with ptr := p } }) a (Word.ofNat w) rfl rfl rfl hrow
      rw [← ht, hw] at hshows
      exact ⟨_, rfl, hshows⟩
    · intro a r hblk hoff hrow hacc hband
      let x : State := { s.targetStat 0 with twb := { (s.targetStat 0).twb with ptr := a } }
      obtain ⟨p, hbytes⟩ := writeBytes_of_one x b
      have hlt : putBits (s.rd r) (8 * (a % 4)) 8 b.toNat < 2 ^ 32 := by
        have hb := b.isLt
        have hrd := rd_lt s r
        rcases (by omega : a % 4 = 0 ∨ a % 4 = 1 ∨ a % 4 = 2 ∨ a % 4 = 3) with h | h | h | h <;> rw [h] <;> unfold putBits bitsAt <;> omega
      have hw : (Word.ofNat (putBits (s.rd r) (8 * (a % 4)) 8 b.toNat)).toNat = putBits (s.rd r) (8 * (a % 4)) 8 b.toNat :=
        (Word.toNat_ofNat _).trans (Nat.mod_eq_of_lt hlt)
      have hband' : noBand r (Word.ofNat (putBits (s.rd r) (8 * (a % 4)) 8 b.toNat)).toNat = false := by
        rw [hw]
        exact hband
      have ht : twoWireWrite [hi, lo, b] s = (State.wrc { x with twb := { x.twb with ptr := p } } r
          (Word.ofNat (putBits (s.rd r) (8 * (a % 4)) 8 b.toNat)).toNat).settle.busStop := by
        refine (hserve _).trans (congrArg State.busStop (hbytes.trans ?_))
        refine (assembled_of_one _ b (by omega) hrow hacc (viewRw_of_plain _ hblk)).trans ?_
        exact congrArg State.settle (hplain _ r _ row hblk hoff hrow hacc hband')
      have hshows := writeSettled_shows (s := s) (x := { x with twb := { x.twb with ptr := p } }) r
        (Word.ofNat (putBits (s.rd r) (8 * (a % 4)) 8 b.toNat)) rfl rfl rfl hrow
      rw [← ht, hw] at hshows
      exact ⟨_, rfl, hshows.2⟩
    · rw [show currentPointerRead n ready s = ((s.targetStat 0).busRead n ready).busStop from hserve _]
      obtain ⟨hserved, hptr, hlen, hlate⟩ := busRead_shows (targetStat_served s) rfl n ready
      exact ⟨hserved.counted, hptr, hlen, hlate⟩
    · rw [show setPointerRead hi lo n ready s = (State.busRead { s.targetStat 0 with
        twb := { (s.targetStat 0).twb with ptr := hi.toNat * 256 + lo.toNat } } n ready).busStop from hserve _]
      obtain ⟨hserved, hptr, hlen, hlate⟩ := busRead_shows ((targetStat_served s).of_ptr (hi.toNat * 256 + lo.toNat)) rfl n ready
      exact ⟨hserved.counted, hptr, hlen, hlate⟩
  · rw [show targetTimeout s = (s.raise 4 7).targetStat 16 from ifUp_of_regsUp _ hregs]
    refine ⟨raise_counts_of_flt (s := s) (x := s) 4 7 none (by unfold chained; decide) (by decide) rfl, ?_, stF_bumpF_same (s.raise 4 7) Reg.TWB_TARGET_STAT 1 (by decide)⟩
    exact onlyStatusCounts_of_uncounted (uncounted_raise s 4 7) fun a ha => st_bumpF_ne (s.raise 4 7) _ _ _ (by simpa using ha)
  · let x : State := { s with twb := { s.twb with stretching := false, lastRead := [] } }
    rw [show wakeStretchTimeout s = x.raise 4 8 from if_pos hstretch]
    have htwb := (raise_onlyCounts x 4 8 none).2.2
    exact ⟨raise_counts_of_flt (s := s) (x := x) 4 8 none (by unfold chained; decide) (by decide) rfl,
      onlyCounts_of_uncounted (uncounted_busOf (raise_offBus x 4 8)) rfl, (congrArg TwbState.stretching htwb :), (congrArg TwbState.lastRead htwb :)⟩
end

section
/-! SUPPORT. A conversion of a housekeeping converter and its result (R320–R325). -/

namespace Sys2Proof.Machine

/-! ### What a conversion leaves alone -/

/-- What a state holds beside what a conversion and its counts may change. -/
def State.beyondHk (s : State) : State :=
  { s with hk := {}, therm := {}, sts := [], flt := {}, twb := {}, peat := {}, mram := {}, bog := {} }

theorem eq_of_beyondHk {s t : State} (h : t.beyondHk = s.beyondHk) :
    t = { s with hk := t.hk, therm := t.therm, sts := t.sts, flt := t.flt, twb := t.twb, peat := t.peat, mram := t.mram, bog := t.bog } := by
  have h' := congrArg (fun x : State =>
    { x with hk := t.hk, therm := t.therm, sts := t.sts, flt := t.flt, twb := t.twb, peat := t.peat, mram := t.mram, bog := t.bog }) h
  exact h'

theorem cfg_of_beyondHk {s t : State} (h : t.beyondHk = s.beyondHk) : t.cfg = s.cfg := (congrArg State.cfg h :)

theorem raiseIf_beyondHk (s : State) (c : Bool) (b n : Nat) : (s.raiseIf c b n).beyondHk = s.beyondHk := by
  unfold State.raiseIf
  split <;> rfl

theorem setHk_beyondHk (s : State) (c : Nat) (r : HkRec) : (s.setHk c r).beyondHk = s.beyondHk := by
  unfold State.setHk
  split <;> rfl

theorem hkRec_of_hk {s t : State} (h : t.hk = s.hk) (c : Nat) : t.hkRec c = s.hkRec c := by rw [State.hkRec, h, State.hkRec]

theorem raiseIf_st (s : State) (c : Bool) (b n a : Nat) : (s.raiseIf c b n).st a = s.st a := by
  unfold State.raiseIf
  split <;> rfl

theorem setHk_st (s : State) (c : Nat) (r : HkRec) (a : Nat) : (s.setHk c r).st a = s.st a := st_of_sts (setHk_sts s c r) a

/-- The cross-check's own part of the converters. -/
def HkState.cross (h : HkState) : Nat × Bool × Nat := (h.crossRun, h.arbitrate, h.crossAt)

theorem setHk_cross (s : State) (c : Nat) (r : HkRec) : (s.setHk c r).hk.cross = s.hk.cross := by
  unfold State.setHk
  split <;> rfl

/-! ### The counts of a conversion (R320, R322) -/

/-- An excursion of HK_VREF begins, or ends, with a conversion of converter p. -/
def State.vrefNote (s : State) (p : Nat) (x : ConvIn) : State :=
  if s.vrefBad p x then { s with hk := { s.hk with vrefOut := true } }.raiseIf (!s.hk.vrefOut) 18 23
  else if s.hkRefSel p = 1 then { s with hk := { s.hk with vrefOut := false } } else s

/-- The record of the converter whose sequence it is, after a conversion. -/
def HkRec.converted (r : HkRec) (over_ : Bool) : HkRec :=
  { r with used := if r.passOpen then r.used + 1 else r.used, ovrPass := r.ovrPass || (over_ && r.passOpen) }

/-- The states of a conversion before its count of over-range: the record of the converter that makes it, the reference's excursion, the record
of the converter whose sequence it is. -/
def State.hkNoted (s : State) (c p : Nat) (x : ConvIn) : State :=
  let s := (s.setHk p { s.hkRec p with ovrLast := convOvr x }).vrefNote p x
  s.setHk c ((s.hkRec c).converted (convOvr x))

theorem hkCounts_eq (s : State) (c p : Nat) (x : ConvIn) : s.hkCounts c p x =
    if convOvr x then ((s.hkNoted c p x).bumpF Reg.HK_OVR_COUNT (16 * p) 16 1).raiseIf
      ((((s.setHk p { s.hkRec p with ovrLast := convOvr x }).vrefNote p x).hkRec c).passOpen &&
        !(((s.setHk p { s.hkRec p with ovrLast := convOvr x }).vrefNote p x).hkRec c).ovrPass) 18 p
    else s.hkNoted c p x := rfl

theorem vrefNote_keeps (s : State) (p : Nat) (x : ConvIn) : (s.vrefNote p x).beyondHk = s.beyondHk ∧ (s.vrefNote p x).sts = s.sts ∧
    (s.vrefNote p x).hk.cross = s.hk.cross ∧ (∀ j, (s.vrefNote p x).hkRec j = s.hkRec j) ∧
    ∀ n, n < 32 → n ≠ 23 → (s.vrefNote p x).flt.source 18 n = s.flt.source 18 n := by
  unfold State.vrefNote State.raiseIf
  split
  · split
    · refine ⟨rfl, rfl, rfl, fun j => rfl, fun n hlt hn => ?_⟩
      exact raise_source_ne { s with hk := { s.hk with vrefOut := true } } 18 n 18 23 none (by unfold chained; omega) (by omega)
    · exact ⟨rfl, rfl, rfl, fun j => rfl, fun n _ _ => rfl⟩
  · split <;> exact ⟨rfl, rfl, rfl, fun j => rfl, fun n _ _ => rfl⟩

/-- The record of converter j after a conversion by p for the sequence of c. -/
def State.recAfter (s : State) (c p : Nat) (x : ConvIn) (j : Nat) : HkRec :=
  let r := if j = p then { s.hkRec j with ovrLast := convOvr x } else s.hkRec j
  if j = c then r.converted (convOvr x) else r

theorem hkNoted_keeps (s : State) {c p : Nat} (x : ConvIn) (hc : c < 2) (hp : p < 2) : (s.hkNoted c p x).beyondHk = s.beyondHk ∧
    (s.hkNoted c p x).sts = s.sts ∧ (s.hkNoted c p x).hk.cross = s.hk.cross ∧ (∀ j, j < 2 → (s.hkNoted c p x).hkRec j = s.recAfter c p x j) ∧
    ∀ n, n < 32 → n ≠ 23 → (s.hkNoted c p x).flt.source 18 n = s.flt.source 18 n := by
  obtain ⟨hoff, hsts, hcross, hrec, hflt⟩ := vrefNote_keeps (s.setHk p { s.hkRec p with ovrLast := convOvr x }) p x
  have hfirst : ∀ j, j < 2 → ((s.setHk p { s.hkRec p with ovrLast := convOvr x }).vrefNote p x).hkRec j =
      if j = p then { s.hkRec j with ovrLast := convOvr x } else s.hkRec j := fun j hj => by
    rw [hrec]
    split
    · next h => rw [h, hkRec_setHk_same]
    · next h => exact hkRec_setHk_other s _ hp hj h
  unfold State.hkNoted
  refine ⟨(setHk_beyondHk _ _ _).trans (hoff.trans (setHk_beyondHk _ _ _)), (setHk_sts _ _ _).trans (hsts.trans (setHk_sts _ _ _)),
    (setHk_cross _ _ _).trans (hcross.trans (setHk_cross _ _ _)), fun j hj => ?_, fun n hlt hn => ?_⟩
  · unfold State.recAfter
    dsimp only
    split
    · next h => rw [h, hkRec_setHk_same, hfirst c hc]
    · next h => rw [hkRec_setHk_other _ _ hc hj h, hfirst j hj]
  · refine (congrArg (fun f : Flt => f.source 18 n) (setHk_flt _ _ _)).trans ((hflt n hlt hn).trans ?_)
    exact congrArg (fun f : Flt => f.source 18 n) (setHk_flt _ _ _)

/-- What the counts of a conversion leave: the converters' records as it leaves them, one count of over-range, and no other register. -/
theorem hkCounts_shows (s : State) {c p : Nat} (x : ConvIn) (hc : c < 2) (hp : p < 2) : (s.hkCounts c p x).beyondHk = s.beyondHk ∧
    (s.hkCounts c p x).hk.cross = s.hk.cross ∧ (∀ j, j < 2 → (s.hkCounts c p x).hkRec j = s.recAfter c p x j) ∧
    (∀ a, a ≠ Reg.HK_OVR_COUNT → (s.hkCounts c p x).st a = s.st a) ∧
    (s.hkCounts c p x).stF Reg.HK_OVR_COUNT (16 * p) 16 = satAdd 65535 (s.stF Reg.HK_OVR_COUNT (16 * p) 16) (ofBool (convOvr x)) ∧
    ∀ n, n < 32 → n ≠ 23 → 2 ≤ n → (s.hkCounts c p x).flt.source 18 n = s.flt.source 18 n := by
  obtain ⟨hoff, hsts, hcross, hrec, hflt⟩ := hkNoted_keeps s x hc hp
  rw [hkCounts_eq]
  split
  · next hover =>
    refine ⟨(raiseIf_beyondHk _ _ _ _).trans hoff, (congrArg HkState.cross (raiseIf_hk _ _ _ _ _)).trans hcross,
      fun j hj => (hkRec_of_hk (raiseIf_hk _ _ _ _ _) j).trans (hrec j hj), fun a ha => ?_, ?_, fun n hlt hn h2 => ?_⟩
    · exact (raiseIf_st _ _ _ _ a).trans ((st_bumpF_ne _ _ _ _ ha).trans (st_of_sts hsts a))
    · rw [stF_of_st (raiseIf_st _ _ _ _ _) (16 * p) 16, stF_bumpF_same _ _ _ (by omega), stF_of_st (st_of_sts hsts _)]
      simp [hover, ofBool]
    · refine Eq.trans ?_ (hflt n hlt hn)
      unfold State.raiseIf
      split
      · exact raise_source_ne _ 18 n 18 p none (by unfold chained; omega) (by omega)
      · rfl
  · next hover =>
    refine ⟨hoff, hcross, hrec, fun a _ => st_of_sts hsts a, ?_, fun n hlt hn _ => hflt n hlt hn⟩
    rw [stF_of_st (st_of_sts hsts _), Bool.eq_false_iff.mpr hover]
    exact (satAdd_zero_of_le (Nat.le_of_lt_succ (Nat.mod_lt _ (by decide)))).symm

/-! ### A result (R321) -/

/-- A result of a channel shows in RES_c, and the consumers take it from there; nothing else of the converters changes. -/
theorem hkResult_shows (s : State) (ch word : Nat) : (s.hkResult ch word).beyondHk = s.beyondHk ∧ (s.hkResult ch word).hk.cross = s.hk.cross ∧
    (∀ j, (s.hkResult ch word).hkRec j = s.hkRec j) ∧ (s.hkResult ch word).flt = s.flt ∧ (s.hkResult ch word).st (Reg.HK_RES ch) = word % 2 ^ 32 ∧
    ∀ a, a ≠ Reg.HK_RES ch → (s.hkResult ch word).st a = s.st a := by
  have hst := st_setSt_same { s with hk := { s.hk with inWin := s.detWindow ch } } (Reg.HK_RES ch) word
  have hne : ∀ a, a ≠ Reg.HK_RES ch → (State.setSt { s with hk := { s.hk with inWin := s.detWindow ch } } (Reg.HK_RES ch) word).st a = s.st a :=
    fun a ha => st_setSt_ne { s with hk := { s.hk with inWin := s.detWindow ch } } word ha
  unfold State.hkResult
  dsimp only
  split
  · exact ⟨rfl, rfl, fun j => rfl, rfl, hst, hne⟩
  · split <;> exact ⟨rfl, rfl, fun j => rfl, rfl, hst, hne⟩

/-- A word of RES_c is one: its fields lie apart. -/
theorem resWord_parts (value : Nat) (ovr ns settling filt : Bool) {conv tick : Nat} (inj test : Bool) (hconv : conv < 2) (htick : tick < 256) :
    resWord value ovr ns settling filt conv inj test tick < 2 ^ 32 ∧ resWord value ovr ns settling filt conv inj test tick % 65536 = value % 65536 ∧
      resWord value ovr ns settling filt conv inj test tick / 2 ^ 20 % 2 = conv ∧
      bitAt (resWord value ovr ns settling filt conv inj test tick) 16 = ovr ∧ bitAt (resWord value ovr ns settling filt conv inj test tick) 18 = settling ∧
      bitAt (resWord value ovr ns settling filt conv inj test tick) 22 = test := by
  have hbit : ∀ b : Bool, ofBool b < 2 := fun b => by cases b <;> decide
  have hofBool : ∀ (n : Nat) (b : Bool), n = ofBool b → decide (n = 1) = b := fun n b h => by rw [h]; cases b <;> rfl
  have h16 := hbit ovr
  have h17 := hbit ns
  have h18 := hbit settling
  have h19 := hbit filt
  have h21 := hbit inj
  have h22 := hbit test
  unfold resWord bitAt
  refine ⟨by omega, by omega, by omega, hofBool _ _ ?_, hofBool _ _ ?_, hofBool _ _ ?_⟩
  · generalize ofBool ovr = a at *
    omega
  · generalize ofBool settling = a at *
    omega
  · generalize ofBool test = a at *
    omega

theorem hkTick_lt (s : State) : s.hkTick < 256 := by
  unfold State.hkTick
  split
  · exact Nat.mod_lt _ (by decide)
  · decide

theorem hkCode_le (v : Int) (vref : Nat) : Signal.hkCode v vref ≤ 4095 := by
  unfold Signal.hkCode
  split
  · exact le_rfl
  · unfold clampI
    omega

theorem res_ne_count (ch : Nat) : Reg.HK_RES ch ≠ Reg.HK_OVR_COUNT ∧ Reg.HK_RES ch ≠ Reg.HK_REPEAT_COUNT ∧ Reg.HK_RES ch ≠ Reg.HK_PASS_TIME ∧
    Reg.HK_RES ch ≠ Reg.HK_CROSS_STAT := by
  unfold Reg.HK_RES Reg.HK_OVR_COUNT Reg.HK_REPEAT_COUNT Reg.HK_PASS_TIME Reg.HK_CROSS_STAT
  omega

/-! ### An inserted conversion (R325) -/

/-- A comparison may use a conversion by converter p. -/
def State.usable (s : State) (p : Nat) (x : ConvIn) : Prop :=
  convOvr x = false ∧ ((s.hkRec p).ovrLast && x.soonAfterOvr) = false ∧ (s.hkRec p).refOk = true ∧ s.vrefBad p x = false

/-- The test DAC drives channel ch. -/
def State.aimedAt (s : State) (ch : Nat) : Prop := bitAt (s.rd Reg.HK_TDAC) 16 = true ∧ s.dacTarget = ch

/-- A channel whose conversions carry TEST is the DAC's target. -/
theorem dacDrives_of_unaimed {s : State} {ch : Nat} (h : ¬s.aimedAt ch) : s.dacDrives ch = false := by
  refine Bool.eq_false_iff.mpr fun hd => h ?_
  simp only [State.dacDrives, Bool.and_eq_true, decide_eq_true_eq] at hd
  obtain ⟨⟨hon, hlt⟩, htarget⟩ := hd
  refine ⟨hon, ?_⟩
  unfold State.dacTarget
  dsimp only
  rw [htarget, if_pos hlt]

/-- A conversion of channel ch by converter p stands as settling (R320, R324). -/
def State.settlingAt (s : State) (p ch : Nat) (x : ConvIn) : Bool :=
  !(s.hkRec p).refOk || s.vrefBad p x || (x.dacMoving && ch = s.dacTarget && bitAt (s.rd Reg.HK_TDAC) 16)

theorem hkWord_eq (s : State) (p ch : Nat) (x : ConvIn) (ns inj : Bool) : s.hkWord p ch x ns inj =
    resWord (16 * Signal.hkCode x.v x.vref) (convOvr x) ns (s.settlingAt p ch x) false p inj (s.dacDrives ch) s.hkTick := rfl

/-- The fields of the word that a conversion fills RES_c with. -/
theorem hkWord_parts (s : State) {p : Nat} (ch : Nat) (x : ConvIn) (ns inj : Bool) (hp : p < 2) : s.hkWord p ch x ns inj < 2 ^ 32 ∧
    s.hkWord p ch x ns inj % 65536 = 16 * Signal.hkCode x.v x.vref ∧ s.hkWord p ch x ns inj / 2 ^ 20 % 2 = p ∧
    bitAt (s.hkWord p ch x ns inj) 16 = convOvr x ∧ bitAt (s.hkWord p ch x ns inj) 18 = s.settlingAt p ch x ∧
    bitAt (s.hkWord p ch x ns inj) 22 = s.dacDrives ch := by
  rw [hkWord_eq]
  obtain ⟨hlt, hvalue, hrest⟩ := resWord_parts (16 * Signal.hkCode x.v x.vref) (convOvr x) ns (s.settlingAt p ch x) false inj (s.dacDrives ch) hp (hkTick_lt s)
  have hcode := hkCode_le x.v x.vref
  exact ⟨hlt, hvalue.trans (Nat.mod_eq_of_lt (by omega)), hrest⟩

theorem hkInserted_fst (s : State) (p ch : Nat) (x : ConvIn) : (s.hkInserted p ch x).1 =
    (s.hkCounts p p x).hkResult ch (s.hkWord p ch x ((s.hkRec p).ovrLast && x.soonAfterOvr) false) := by
  dsimp only [State.hkInserted]

theorem hkInserted_snd (s : State) {p : Nat} (ch : Nat) (x : ConvIn) (hp : p < 2) : (s.hkInserted p ch x).2 =
    !(convOvr x || ((s.hkRec p).ovrLast && x.soonAfterOvr) || s.settlingAt p ch x || s.dacDrives ch) := by
  obtain ⟨-, -, -, h16, h18, h22⟩ := hkWord_parts s ch x ((s.hkRec p).ovrLast && x.soonAfterOvr) false hp
  dsimp only [State.hkInserted]
  rw [h16, h18, h22]

/-- Between an inserted conversion and the state before it: its result, its counts, its converter's record. -/
theorem hkInserted_shows (s : State) {p : Nat} (ch : Nat) (x : ConvIn) (hp : p < 2) : let t := (s.hkInserted p ch x).1
    t.beyondHk = s.beyondHk ∧ t.hk.cross = s.hk.cross ∧ (∀ j, j < 2 → t.hkRec j = s.recAfter p p x j) ∧
      (∀ a, a ≠ Reg.HK_OVR_COUNT → a ≠ Reg.HK_RES ch → t.st a = s.st a) ∧
      t.st (Reg.HK_RES ch) % 65536 = 16 * Signal.hkCode x.v x.vref ∧ t.st (Reg.HK_RES ch) / 2 ^ 20 % 2 = p ∧
      ∀ n, n < 32 → n ≠ 23 → 2 ≤ n → t.flt.source 18 n = s.flt.source 18 n := by
  intro t
  obtain ⟨hoff, hcross, hrec, hst, -, hflt⟩ := hkCounts_shows s x hp hp
  obtain ⟨hlt, hvalue, hconv, -⟩ := hkWord_parts s ch x ((s.hkRec p).ovrLast && x.soonAfterOvr) false hp
  have ht : t = _ := hkInserted_fst s p ch x
  clear_value t
  subst ht
  generalize s.hkWord p ch x ((s.hkRec p).ovrLast && x.soonAfterOvr) false = word at *
  obtain ⟨hoff', hcross', hrec', hflt', hres, hst'⟩ := hkResult_shows (s.hkCounts p p x) ch word
  rw [Nat.mod_eq_of_lt hlt] at hres
  rw [hres]
  exact ⟨hoff'.trans hoff, hcross'.trans hcross, fun j hj => (hrec' j).trans (hrec j hj), fun a ha hch => (hst' a hch).trans (hst a ha), hvalue, hconv,
    fun n hn h23 h2 => (congrArg (fun f : Flt => f.source 18 n) hflt').trans (hflt n hn h23 h2)⟩

/-- Where the DAC does not drive the channel, a comparison may use the conversion just when nothing flags it. -/
theorem hkInserted_ok {s : State} {p ch : Nat} {x : ConvIn} (hp : p < 2) (haim : ¬s.aimedAt ch) : (s.hkInserted p ch x).2 = true ↔ s.usable p x := by
  have hmoving : (x.dacMoving && ch = s.dacTarget && bitAt (s.rd Reg.HK_TDAC) 16) = false := by
    refine Bool.eq_false_iff.mpr fun h => haim ?_
    simp only [Bool.and_eq_true, decide_eq_true_eq] at h
    exact ⟨h.2, h.1.2.symm⟩
  rw [hkInserted_snd s ch x hp, dacDrives_of_unaimed haim]
  unfold State.settlingAt State.usable
  rw [hmoving]
  simp only [Bool.not_eq_true', Bool.or_eq_false_iff, Bool.not_eq_false', and_assoc, and_true]

end Sys2Proof.Machine
end

section
/-! SUPPORT. The cross-check of the housekeeping converters (R325), and HK_WRITE (R320, R328). -/

namespace Sys2Proof.Machine

/-! ### The cross-check (R325) -/

/-- An outcome of the cross-check keeps what its conversions have made. -/
structure CrossKept (x t : State) : Prop where
  rest : t.beyondHk = x.beyondHk
  made : t.hk.crossAt = x.hk.crossAt
  rcd : ∀ j, t.hkRec j = x.hkRec j
  st : ∀ a, a ≠ Reg.HK_CROSS_STAT → t.st a = x.st a

theorem CrossKept.refl (x : State) : CrossKept x x := ⟨rfl, rfl, fun _ => rfl, fun _ _ => rfl⟩

/-- What only counts, and changes neither register nor converter, keeps the conversions. -/
theorem CrossKept.counted {x t u : State} (h : CrossKept x t) (hrest : u.beyondHk = t.beyondHk) (hhk : u.hk = t.hk) (hsts : u.sts = t.sts) :
    CrossKept x u :=
  ⟨hrest.trans h.rest, (congrArg HkState.crossAt hhk).trans h.made, fun j => (hkRec_of_hk hhk j).trans (h.rcd j),
    fun a ha => (st_of_sts hsts a).trans (h.st a ha)⟩

theorem CrossKept.raise {x t : State} (h : CrossKept x t) (b n : Nat) (u : Option Nat) : CrossKept x (t.raise b n u) := h.counted rfl rfl rfl

theorem CrossKept.raiseIf {x t : State} (h : CrossKept x t) (c : Bool) (b n : Nat) : CrossKept x (t.raiseIf c b n) := by
  unfold State.raiseIf
  split
  · exact h.raise b n none
  · exact h

theorem CrossKept.fence {x t : State} (h : CrossKept x t) (b u n : Nat) : CrossKept x (t.fenceNow b u n) := by
  rw [fenceNow_eq]
  exact h.counted rfl rfl rfl

theorem CrossKept.setStat {x t : State} (h : CrossKept x t) (lo len v : Nat) : CrossKept x (t.setStF Reg.HK_CROSS_STAT lo len v) :=
  ⟨h.rest, h.made, h.rcd, fun a ha => (st_setStF_ne t lo len v ha).trans (h.st a ha)⟩

/-- A decision of the bench that waits for the test DAC is dropped, its code in CROSS_STAT read 0. -/
def State.crossReset (s : State) (arb : Bool) : State := if s.hk.arbitrate && !arb then s.setStF Reg.HK_CROSS_STAT 20 2 0 else s

/-- The cross-check of a tick begins. -/
def State.crossTicked (s : State) (tick : Nat) : State := { s with hk := { s.hk with crossAt := tick } }

/-- The cross-check of a tick converts channel ch twice: the state before the first conversion, and behind the second. -/
def State.crossBegun (s : State) (arb : Bool) (tick : Nat) : State := (s.crossReset arb).crossTicked tick

def State.crossMade (s : State) (arb : Bool) (tick ch : Nat) (xa xb : ConvIn) : State :=
  (((s.crossBegun arb tick).hkInserted 0 ch xa).1.hkInserted 1 ch xb).1

theorem crossReset_kept (s : State) (arb : Bool) : CrossKept s (s.crossReset arb) ∧ (s.crossReset arb).hk = s.hk ∧
    (s.crossReset arb).flt = s.flt ∧ (s.crossReset arb).stF Reg.HK_CROSS_STAT 0 20 = s.stF Reg.HK_CROSS_STAT 0 20 := by
  unfold State.crossReset
  split
  · exact ⟨(CrossKept.refl s).setStat 20 2 0, setStF_hk _ _ _ _ _, setStF_flt _ _ _ _ _, stF_setStF_disjoint s Reg.HK_CROSS_STAT 0 (by decide) (by decide)⟩
  · exact ⟨CrossKept.refl s, rfl, rfl, rfl⟩

theorem crossTicked_shows (s : State) (tick : Nat) : (s.crossTicked tick).beyondHk = s.beyondHk ∧
    (s.crossTicked tick).hk.cross = (s.hk.crossRun, s.hk.arbitrate, tick) ∧ (∀ j, (s.crossTicked tick).hkRec j = s.hkRec j) ∧
    (∀ a, (s.crossTicked tick).st a = s.st a) ∧ (s.crossTicked tick).flt = s.flt := ⟨rfl, rfl, fun _ => rfl, fun _ => rfl, rfl⟩

theorem crossBegun_shows (s : State) (arb : Bool) (tick : Nat) : (s.crossBegun arb tick).beyondHk = s.beyondHk ∧
    (s.crossBegun arb tick).hk.cross = (s.hk.crossRun, s.hk.arbitrate, tick) ∧ (∀ j, (s.crossBegun arb tick).hkRec j = s.hkRec j) ∧
    (∀ a, a ≠ Reg.HK_CROSS_STAT → (s.crossBegun arb tick).st a = s.st a) ∧
    (s.crossBegun arb tick).stF Reg.HK_CROSS_STAT 0 20 = s.stF Reg.HK_CROSS_STAT 0 20 ∧ (s.crossBegun arb tick).flt = s.flt := by
  obtain ⟨hkept, hhk, hflt, hstat⟩ := crossReset_kept s arb
  obtain ⟨hoff, hcross, hrec, hst, hflt'⟩ := crossTicked_shows (s.crossReset arb) tick
  rw [hhk] at hcross
  exact ⟨hoff.trans hkept.rest, hcross, fun j => (hrec j).trans (hkept.rcd j), fun a ha => (hst a).trans (hkept.st a ha),
    (stF_of_st (hst _) 0 20).trans hstat, hflt'.trans hflt⟩

theorem cross_parts {h : HkState} {run at_ : Nat} {arb : Bool} (hcross : h.cross = (run, arb, at_)) :
    h.crossRun = run ∧ h.arbitrate = arb ∧ h.crossAt = at_ := by
  simpa [HkState.cross] using hcross

theorem recAfter_ovrLast_same (s : State) (c p : Nat) (x : ConvIn) : (s.recAfter c p x p).ovrLast = convOvr x := by
  unfold State.recAfter
  rw [if_pos rfl]
  dsimp only
  split <;> rfl

theorem recAfter_ovrLast_other (s : State) {p j : Nat} (c : Nat) (x : ConvIn) (h : j ≠ p) : (s.recAfter c p x j).ovrLast = (s.hkRec j).ovrLast := by
  unfold State.recAfter
  rw [if_neg h]
  dsimp only
  split <;> rfl

/-- What both conversions of a cross-check leave between s and t: results code cb by converter b, over-ranges oa and ob. -/
def CrossBoth (s : State) (tick ch cb : Nat) (oa ob : Bool) (t : State) : Prop :=
  t.hk.crossAt = tick ∧ (t.hkRec 0).ovrLast = oa ∧ (t.hkRec 1).ovrLast = ob ∧ t.st (Reg.HK_RES ch) / 2 ^ 20 % 2 = 1 ∧
    t.st (Reg.HK_RES ch) % 65536 = 16 * cb ∧
    t = { s with hk := t.hk, therm := t.therm, sts := t.sts, flt := t.flt, twb := t.twb, peat := t.peat, mram := t.mram, bog := t.bog } ∧
    ∀ r, r ≠ Reg.HK_CROSS_STAT → r ≠ Reg.HK_OVR_COUNT → r ≠ Reg.HK_RES ch → t.st r = s.st r

theorem crossMade_shows (s : State) (arb : Bool) (tick ch : Nat) (xa xb : ConvIn) : (s.crossMade arb tick ch xa xb).beyondHk = s.beyondHk ∧
    CrossBoth s tick ch (Signal.hkCode xb.v xb.vref) (convOvr xa) (convOvr xb) (s.crossMade arb tick ch xa xb) ∧
    (s.crossMade arb tick ch xa xb).hk.arbitrate = s.hk.arbitrate ∧ (s.crossMade arb tick ch xa xb).hk.crossRun = s.hk.crossRun ∧
    (s.crossMade arb tick ch xa xb).stF Reg.HK_CROSS_STAT 0 20 = s.stF Reg.HK_CROSS_STAT 0 20 ∧
    ∀ n, n < 32 → n ≠ 23 → 2 ≤ n → (s.crossMade arb tick ch xa xb).flt.source 18 n = s.flt.source 18 n := by
  obtain ⟨hoff0, hcross0, hrec0, hst0, hstat, hflt0⟩ := crossBegun_shows s arb tick
  unfold State.crossMade
  generalize s.crossBegun arb tick = b at *
  obtain ⟨hoffA, hcrossA, hrecA, hstA, -, -, hfltA⟩ := hkInserted_shows b ch xa (p := 0) (by decide)
  generalize (b.hkInserted 0 ch xa).1 = m at *
  obtain ⟨hoffB, hcrossB, hrecB, hstB, hvalue, hconv, hfltB⟩ := hkInserted_shows m ch xb (p := 1) (by decide)
  generalize (m.hkInserted 1 ch xb).1 = t at *
  have hoff : t.beyondHk = s.beyondHk := hoffB.trans (hoffA.trans hoff0)
  have hcross : t.hk.cross = (s.hk.crossRun, s.hk.arbitrate, tick) := hcrossB.trans (hcrossA.trans hcross0)
  obtain ⟨-, -, -, hne⟩ := res_ne_count ch
  have hovr0 : (t.hkRec 0).ovrLast = convOvr xa := by rw [hrecB 0 (by decide), recAfter_ovrLast_other m 1 xb (by decide : (0 : Nat) ≠ 1), hrecA 0 (by decide), recAfter_ovrLast_same]
  have hovr1 : (t.hkRec 1).ovrLast = convOvr xb := by rw [hrecB 1 (by decide), recAfter_ovrLast_same]
  obtain ⟨hrun, harb, hat⟩ := cross_parts hcross
  refine ⟨hoff, ⟨hat, hovr0, hovr1, hconv, hvalue, eq_of_beyondHk hoff, fun r hr hr' hch => ?_⟩, harb, hrun, ?_, fun n hn h23 h2 => ?_⟩
  · exact (hstB r hr' hch).trans ((hstA r hr' hch).trans (hst0 r hr))
  · exact (stF_of_st (hstB _ (by decide) hne.symm) 0 20).trans ((stF_of_st (hstA _ (by decide) hne.symm) 0 20).trans hstat)
  · rw [hfltB n hn h23 h2, hfltA n hn h23 h2, hflt0]

theorem CrossBoth.kept {s x t : State} {tick ch cb : Nat} {oa ob : Bool} (h : CrossBoth s tick ch cb oa ob x) (hrest : x.beyondHk = s.beyondHk) (hk : CrossKept x t) :
    CrossBoth s tick ch cb oa ob t := by
  obtain ⟨hat, ha, hb, hconv, hvalue, -, hst⟩ := h
  obtain ⟨-, -, -, hne⟩ := res_ne_count ch
  refine ⟨hk.made.trans hat, (congrArg HkRec.ovrLast (hk.rcd 0)).trans ha, (congrArg HkRec.ovrLast (hk.rcd 1)).trans hb, ?_, ?_,
    eq_of_beyondHk (hk.rest.trans hrest), fun r hr hr' hch => (hk.st r hr).trans (hst r hr hr' hch)⟩
  · rw [hk.st _ hne]
    exact hconv
  · rw [hk.st _ hne]
    exact hvalue

/-- An arbitration has ended: the state before its outcome. -/
def State.arbEnded (s : State) : State := { s with hk := { s.hk with arbitrate := false, crossRun := 0 } }

theorem arbEnded_kept (s : State) : CrossKept s s.arbEnded := ⟨rfl, rfl, fun _ => rfl, fun _ _ => rfl⟩

/-- Converter c misses the test DAC's 600.0 mV with a code. -/
def State.missesDac (s : State) (c code : Nat) : Prop := s.crossTol * 4096 < (s.hkMv c code - 2457600).natAbs

theorem arbitrateWith_cases (s : State) (ca cb : Nat) :
    (¬s.missesDac 0 ca → ¬s.missesDac 1 cb → s.arbitrateWith ca cb = s.arbEnded.setStF Reg.HK_CROSS_STAT 20 2 1) ∧
    (s.missesDac 0 ca → ¬s.missesDac 1 cb →
      s.arbitrateWith ca cb = ((s.arbEnded.setStF Reg.HK_CROSS_STAT 20 2 2).raise 18 13 (some 0)).fenceNow 18 0 13) ∧
    (¬s.missesDac 0 ca → s.missesDac 1 cb →
      s.arbitrateWith ca cb = ((s.arbEnded.setStF Reg.HK_CROSS_STAT 20 2 3).raise 18 14 (some 1)).fenceNow 18 1 14) ∧
    (s.missesDac 0 ca → s.missesDac 1 cb → s.arbitrateWith ca cb = (s.arbEnded.raise 18 22 (some 2)).fenceNow 18 2 22) := by
  have hmiss : ∀ c code, s.missesDac c code → decide (s.crossTol * 4096 < (s.hkMv c code - 600 * 4096).natAbs) = true := fun c code h => decide_eq_true h
  have hhit : ∀ c code, ¬s.missesDac c code → decide (s.crossTol * 4096 < (s.hkMv c code - 600 * 4096).natAbs) = false := fun c code h => decide_eq_false h
  unfold State.arbitrateWith
  dsimp only
  refine ⟨fun ha hb => ?_, fun ha hb => ?_, fun ha hb => ?_, fun ha hb => ?_⟩
  · rw [hhit 0 ca ha, hhit 1 cb hb]
    rfl
  · rw [hmiss 0 ca ha, hhit 1 cb hb]
    rfl
  · rw [hhit 0 ca ha, hmiss 1 cb hb]
    rfl
  · rw [hmiss 0 ca ha, hmiss 1 cb hb]
    rfl

/-- The difference of two results, and the run of mismatches that it makes. -/
def State.crossDiff (s : State) (ca cb : Nat) : Int := s.hkMv 0 ca - s.hkMv 1 cb

def State.crossMism (s : State) (ca cb : Nat) : Nat := if s.crossTol * 4096 < (s.crossDiff ca cb).natAbs then s.hk.crossRun + 1 else 0

def State.crossCount (s : State) : Nat := max 1 (s.fld Reg.HK_CROSS_CFG 24 4)

/-- The run of mismatches, and whether an arbitration is due. -/
def State.crossNoted (s : State) (run : Nat) (due : Bool) : State := { s with hk := { s.hk with crossRun := run, arbitrate := due } }

theorem crossNoted_kept (s : State) (run : Nat) (due : Bool) : CrossKept s (s.crossNoted run due) := ⟨rfl, rfl, fun _ => rfl, fun _ _ => rfl⟩

/-- A comparison, before the count of the arbitration that it starts. -/
def State.compared (s : State) (ca cb : Nat) : State :=
  (((s.crossNoted (s.crossMism ca cb) (s.hk.arbitrate || decide (s.crossMism ca cb = s.crossCount))).setStF
    Reg.HK_CROSS_STAT 0 16 (bitsOf 16 (sat16 (rneDiv (s.crossDiff ca cb) 4096)))).setStF Reg.HK_CROSS_STAT 16 4 (min 15 (s.crossMism ca cb)))

theorem crossCompare_eq (s : State) (ca cb : Nat) :
    s.crossCompare ca cb = (s.compared ca cb).raiseIf (decide (s.crossMism ca cb = s.crossCount)) 18 12 := by
  unfold State.crossCompare State.compared State.crossNoted State.crossMism State.crossCount State.crossDiff
  simp only [decide_eq_true_eq]

theorem compared_kept (s : State) (ca cb : Nat) : CrossKept s (s.compared ca cb) := by
  unfold State.compared
  exact ((crossNoted_kept s _ _).setStat 0 16 _).setStat 16 4 _

theorem compared_stat (s : State) (ca cb : Nat) : (s.compared ca cb).stF Reg.HK_CROSS_STAT 0 16 = bitsOf 16 (sat16 (rneDiv (s.crossDiff ca cb) 4096)) ∧
    (s.compared ca cb).stF Reg.HK_CROSS_STAT 16 4 = min 15 (s.crossMism ca cb) := by
  unfold State.compared
  refine ⟨?_, ?_⟩
  · rw [stF_setStF_disjoint _ _ _ (by decide) (by decide), stF_setStF_same _ _ _ (by decide)]
    exact Nat.mod_eq_of_lt (bitsOf_lt 16 _)
  · rw [stF_setStF_same _ _ _ (by decide)]
    exact Nat.mod_eq_of_lt (by omega)

/-- The cross-check runs: the device is up, the check is on, no converter has taken the other's sequences over, and its period has passed. -/
def State.crossRuns (s : State) : Prop := s.isUp = true ∧ bitAt (s.rd Reg.HK_CROSS_CFG) 28 = true ∧ s.hk.takeover = false ∧
  (s.isOut 18 0 = false ∨ s.isOut 18 1 = false) ∧ s.crossDue = true

/-- The test DAC arbitrates. -/
def State.crossArb (s : State) : Bool := s.hk.arbitrate && !bitAt (s.rd Reg.HK_TDAC) 16 && !s.isOut 18 2

/-- The channel that the cross-check converts. -/
def State.crossCh (s : State) : Nat := if s.crossArb then 38 else s.fld Reg.HK_CROSS_CFG 0 6

/-- Both conversions may be compared, and both were completed. -/
def State.crossGood (s : State) (xa xb : ConvIn) (ended : Bool) : Prop :=
  s.usable 0 (s.hkSees s.crossCh xa) ∧ s.usable 1 (s.hkSees s.crossCh xb) ∧ ¬s.aimedAt s.crossCh ∧ ended = true

/-- Both conversions of a cross-check, made. -/
def State.crossPair (s : State) (xa xb : ConvIn) : State := s.crossMade s.crossArb (s.now / tickTime) s.crossCh (s.hkSees s.crossCh xa) (s.hkSees s.crossCh xb)

/-- Both conversions of a cross-check, and what follows from their codes. -/
def State.crossBy (s : State) (arb aimed ended : Bool) (ch : Nat) (xa xb : ConvIn) : State :=
  let (s, okA) := s.hkInserted 0 ch xa
  let (s, okB) := s.hkInserted 1 ch xb
  if !okA || !okB || aimed || !ended then s
  else if arb then s.arbitrateWith (Signal.hkCode xa.v xa.vref) (Signal.hkCode xb.v xb.vref)
  else s.crossCompare (Signal.hkCode xa.v xa.vref) (Signal.hkCode xb.v xb.vref)

theorem crossBy_eq (s : State) (arb aimed ended : Bool) (ch : Nat) (xa xb : ConvIn) : s.crossBy arb aimed ended ch xa xb =
    if !(s.hkInserted 0 ch xa).2 || !((s.hkInserted 0 ch xa).1.hkInserted 1 ch xb).2 || aimed || !ended then ((s.hkInserted 0 ch xa).1.hkInserted 1 ch xb).1
    else if arb then ((s.hkInserted 0 ch xa).1.hkInserted 1 ch xb).1.arbitrateWith (Signal.hkCode xa.v xa.vref) (Signal.hkCode xb.v xb.vref)
    else ((s.hkInserted 0 ch xa).1.hkInserted 1 ch xb).1.crossCompare (Signal.hkCode xa.v xa.vref) (Signal.hkCode xb.v xb.vref) := by
  unfold State.crossBy
  generalize s.hkInserted 0 ch xa = made
  obtain ⟨m, okA⟩ := made
  rfl

theorem hkCrossCheck_eq (s : State) (xa xb : ConvIn) (ended : Bool) : hkCrossCheck xa xb ended s =
    if !s.isUp || !bitAt (s.rd Reg.HK_CROSS_CFG) 28 || s.hk.takeover || (s.isOut 18 0 && s.isOut 18 1) || !s.crossDue then s
    else if 39 < s.crossCh then s
    else (s.crossBegun s.crossArb (s.now / tickTime)).crossBy s.crossArb (bitAt (s.rd Reg.HK_TDAC) 16 && s.dacTarget = s.crossCh) ended s.crossCh
      (s.hkSees s.crossCh xa) (s.hkSees s.crossCh xb) := by
  have hnow : (s.crossReset s.crossArb).now = s.now := (congrArg State.now (crossReset_kept s s.crossArb).1.rest :)
  unfold State.crossBegun
  rw [← hnow]
  rfl

theorem hkCrossCheck_of_idle {s : State} (xa xb : ConvIn) (ended : Bool) (h : ¬s.crossRuns ∨ 39 < s.crossCh) : hkCrossCheck xa xb ended s = s := by
  rw [hkCrossCheck_eq]
  split
  · rfl
  · next hrun =>
    refine if_pos (h.resolve_left fun hn => hn ?_)
    simp only [Bool.or_eq_true, Bool.not_eq_true', Bool.and_eq_true, not_or, Bool.not_eq_false, not_and_or, Bool.not_eq_true] at hrun
    obtain ⟨⟨⟨⟨hup, hcfg⟩, htake⟩, hin⟩, hdue⟩ := hrun
    exact ⟨hup, hcfg, htake, hin, hdue⟩

/-- A cross-check that runs makes its two conversions, and goes on with them where they may be compared. -/
theorem hkCrossCheck_of_runs {s : State} (xa xb : ConvIn) (ended : Bool) (hrun : s.crossRuns) (hch : s.crossCh < 40) :
    hkCrossCheck xa xb ended s =
      (s.crossBegun s.crossArb (s.now / tickTime)).crossBy s.crossArb (bitAt (s.rd Reg.HK_TDAC) 16 && s.dacTarget = s.crossCh) ended s.crossCh
        (s.hkSees s.crossCh xa) (s.hkSees s.crossCh xb) := by
  obtain ⟨hup, hcfg, htake, hin, hdue⟩ := hrun
  have hgo : (!s.isUp || !bitAt (s.rd Reg.HK_CROSS_CFG) 28 || s.hk.takeover || (s.isOut 18 0 && s.isOut 18 1) || !s.crossDue) = false := by
    rw [hup, hcfg, htake, hdue]
    rcases hin with h | h <;> simp [h]
  rw [hkCrossCheck_eq, if_neg (Bool.eq_false_iff.mp hgo), if_neg (Nat.not_lt.mpr (Nat.le_of_lt_succ hch))]

/-- Nothing of what makes a conversion usable changes before the second conversion. -/
theorem usable_second {s : State} (arb : Bool) (tick ch : Nat) (xa xb : ConvIn) :
    ((s.crossBegun arb tick).hkInserted 0 ch xa).1.usable 1 xb ↔ s.usable 1 xb := by
  obtain ⟨hoff0, -, hrec0, -⟩ := crossBegun_shows s arb tick
  obtain ⟨hoffA, -, hrecA, -⟩ := hkInserted_shows (s.crossBegun arb tick) ch xa (p := 0) (by decide)
  have hrec : ((s.crossBegun arb tick).hkInserted 0 ch xa).1.hkRec 1 = s.hkRec 1 := (hrecA 1 (by decide)).trans (hrec0 1)
  have hcfg := cfg_of_beyondHk (hoffA.trans hoff0)
  unfold State.usable
  rw [hrec, show ((s.crossBegun arb tick).hkInserted 0 ch xa).1.vrefBad 1 xb = s.vrefBad 1 xb by
    unfold State.vrefBad State.hkRefSel
    rw [fld_of_cfg hcfg]]

theorem aimedAt_of_beyondHk {s t : State} (h : t.beyondHk = s.beyondHk) (ch : Nat) : t.aimedAt ch ↔ s.aimedAt ch := by
  unfold State.aimedAt State.dacTarget
  rw [rd_of_cfg (cfg_of_beyondHk h), fld_of_cfg (cfg_of_beyondHk h)]

theorem hkCrossCheck_of_good {s : State} {xa xb : ConvIn} {ended : Bool} (hrun : s.crossRuns) (hch : s.crossCh < 40) (hgood : s.crossGood xa xb ended) :
    hkCrossCheck xa xb ended s =
      if s.crossArb then (s.crossPair xa xb).arbitrateWith (Signal.hkCode (s.hkSees s.crossCh xa).v (s.hkSees s.crossCh xa).vref)
        (Signal.hkCode (s.hkSees s.crossCh xb).v (s.hkSees s.crossCh xb).vref)
      else (s.crossPair xa xb).crossCompare (Signal.hkCode (s.hkSees s.crossCh xa).v (s.hkSees s.crossCh xa).vref)
        (Signal.hkCode (s.hkSees s.crossCh xb).v (s.hkSees s.crossCh xb).vref) := by
  obtain ⟨ha, hb, haim, hended⟩ := hgood
  obtain ⟨hoff0, -, hrec0, -⟩ := crossBegun_shows s s.crossArb (s.now / tickTime)
  obtain ⟨hoffA, -⟩ := hkInserted_shows (s.crossBegun s.crossArb (s.now / tickTime)) s.crossCh (s.hkSees s.crossCh xa) (p := 0) (by decide)
  have hfirst : (s.crossBegun s.crossArb (s.now / tickTime)).usable 0 (s.hkSees s.crossCh xa) := by
    unfold State.usable at ha ⊢
    rw [hrec0, show (s.crossBegun s.crossArb (s.now / tickTime)).vrefBad 0 (s.hkSees s.crossCh xa) = s.vrefBad 0 (s.hkSees s.crossCh xa) by
      unfold State.vrefBad State.hkRefSel
      rw [fld_of_cfg (cfg_of_beyondHk hoff0)]]
    exact ha
  have hokA := (hkInserted_ok (by decide) (fun h => haim ((aimedAt_of_beyondHk hoff0 _).mp h))).mpr hfirst
  have hokB := (hkInserted_ok (p := 1) (by decide) (fun h => haim ((aimedAt_of_beyondHk (hoffA.trans hoff0) _).mp h))).mpr
    ((usable_second s.crossArb (s.now / tickTime) s.crossCh (s.hkSees s.crossCh xa) (s.hkSees s.crossCh xb)).mpr hb)
  rw [hkCrossCheck_of_runs xa xb ended hrun hch, crossBy_eq, hokA, hokB, hended]
  refine if_neg ?_
  unfold State.aimedAt at haim
  simpa using haim

theorem hkCrossCheck_of_bad {s : State} {xa xb : ConvIn} {ended : Bool} (hrun : s.crossRuns) (hch : s.crossCh < 40) (hbad : ¬s.crossGood xa xb ended) :
    hkCrossCheck xa xb ended s = s.crossPair xa xb := by
  rw [hkCrossCheck_of_runs xa xb ended hrun hch, crossBy_eq]
  refine if_pos ?_
  by_contra hall
  simp only [Bool.or_eq_true, Bool.not_eq_true', Bool.and_eq_true, decide_eq_true_eq, not_or, Bool.not_eq_false] at hall
  obtain ⟨⟨⟨hokA, hokB⟩, haim⟩, hended⟩ := hall
  obtain ⟨hoff0, -, hrec0, -⟩ := crossBegun_shows s s.crossArb (s.now / tickTime)
  obtain ⟨hoffA, -⟩ := hkInserted_shows (s.crossBegun s.crossArb (s.now / tickTime)) s.crossCh (s.hkSees s.crossCh xa) (p := 0) (by decide)
  have hfirst := (hkInserted_ok (by decide) (fun h => haim ((aimedAt_of_beyondHk hoff0 _).mp h))).mp hokA
  have hsecond := (hkInserted_ok (p := 1) (by decide) (fun h => haim ((aimedAt_of_beyondHk (hoffA.trans hoff0) _).mp h))).mp hokB
  refine hbad ⟨?_, (usable_second _ _ _ _ _).mp hsecond, haim, hended⟩
  unfold State.usable at hfirst ⊢
  rw [hrec0, show (s.crossBegun s.crossArb (s.now / tickTime)).vrefBad 0 (s.hkSees s.crossCh xa) = s.vrefBad 0 (s.hkSees s.crossCh xa) by
    unfold State.vrefBad State.hkRefSel
    rw [fld_of_cfg (cfg_of_beyondHk hoff0)]] at hfirst
  exact hfirst

/-- What a comparison and an arbitration take of a state is configuration. -/
theorem crossTol_of_cfg {s x : State} (h : x.cfg = s.cfg) : x.crossTol = s.crossTol := by
  unfold State.crossTol
  rw [fld_of_cfg h]

theorem hkMv_of_cfg {s x : State} (h : x.cfg = s.cfg) (c code : Nat) : x.hkMv c code = s.hkMv c code := by
  unfold State.hkMv State.hkVref State.hkRefSel
  rw [fld_of_cfg h, fld_of_cfg h]

theorem missesDac_of_cfg {s x : State} (h : x.cfg = s.cfg) (c code : Nat) : x.missesDac c code ↔ s.missesDac c code := by
  unfold State.missesDac
  rw [crossTol_of_cfg h, hkMv_of_cfg h]

theorem crossMism_of_made {s x : State} (h : x.cfg = s.cfg) (hrun : x.hk.crossRun = s.hk.crossRun) (ca cb : Nat) :
    x.crossDiff ca cb = s.crossDiff ca cb ∧ x.crossMism ca cb = s.crossMism ca cb ∧ x.crossCount = s.crossCount := by
  unfold State.crossMism State.crossDiff State.crossCount
  rw [crossTol_of_cfg h, hkMv_of_cfg h, hkMv_of_cfg h, fld_of_cfg h, hrun]
  exact ⟨rfl, rfl, rfl⟩

/-- What a comparison leaves behind the conversions x. -/
theorem crossCompare_shows {s x : State} (ca cb : Nat) (hcfg : x.cfg = s.cfg) (hrun : x.hk.crossRun = s.hk.crossRun) (harb : x.hk.arbitrate = s.hk.arbitrate)
    (hflt : x.flt.source 18 12 = s.flt.source 18 12) : let t := x.crossCompare ca cb
    t.stF Reg.HK_CROSS_STAT 0 16 = bitsOf 16 (sat16 (rneDiv (s.crossDiff ca cb) 4096)) ∧ t.stF Reg.HK_CROSS_STAT 16 4 = min 15 (s.crossMism ca cb) ∧
      t.hk.crossRun = s.crossMism ca cb ∧ (t.hk.arbitrate = true ↔ s.hk.arbitrate = true ∨ s.crossMism ca cb = s.crossCount) ∧
      (s.crossMism ca cb = s.crossCount → Counts 18 12 s t) ∧ CrossKept x t := by
  obtain ⟨hdiff, hmism, hcount⟩ := crossMism_of_made hcfg hrun ca cb
  obtain ⟨hstatDiff, hstatRun⟩ := compared_stat x ca cb
  have hkept := (compared_kept x ca cb).raiseIf (decide (x.crossMism ca cb = x.crossCount)) 18 12
  have hhk : (x.compared ca cb).hk = (x.crossNoted (x.crossMism ca cb) (x.hk.arbitrate || decide (x.crossMism ca cb = x.crossCount))).hk :=
    (setStF_hk _ _ _ _ _).trans (setStF_hk _ _ _ _ _)
  have hcflt : (x.compared ca cb).flt = x.flt := (setStF_flt _ _ _ _ _).trans (setStF_flt _ _ _ _ _)
  have hcounts : s.crossMism ca cb = s.crossCount → Counts 18 12 s ((x.compared ca cb).raiseIf (decide (x.crossMism ca cb = x.crossCount)) 18 12) := fun h => by
    rw [hmism, hcount, decide_eq_true h]
    exact raise_counts_of_source 18 12 none (by unfold chained; decide) (by decide) ((congrArg (fun f : Flt => f.source 18 12) hcflt).trans hflt)
  intro t
  have ht : t = _ := crossCompare_eq x ca cb
  clear_value t
  subst ht
  have hrhk := (raiseIf_hk (x.compared ca cb) (decide (x.crossMism ca cb = x.crossCount)) 18 12 none).trans hhk
  have hst := raiseIf_st (x.compared ca cb) (decide (x.crossMism ca cb = x.crossCount)) 18 12 Reg.HK_CROSS_STAT
  generalize (x.compared ca cb).raiseIf (decide (x.crossMism ca cb = x.crossCount)) 18 12 = t at *
  refine ⟨?_, ?_, ?_, ?_, hcounts, hkept⟩
  · rw [stF_of_st hst, hstatDiff, hdiff]
  · rw [stF_of_st hst, hstatRun, hmism]
  · exact (congrArg HkState.crossRun hrhk).trans hmism
  · rw [show t.hk.arbitrate = (x.hk.arbitrate || decide (x.crossMism ca cb = x.crossCount)) from congrArg HkState.arbitrate hrhk, harb, hmism, hcount]
    exact (Bool.or_eq_true _ _).to_iff.trans (or_congr Iff.rfl decide_eq_true_iff)

/-- An arbitration is over: nothing is to arbitrate, and the conversions x stand. -/
def State.ArbOver (x t : State) : Prop := t.hk.arbitrate = false ∧ t.hk.crossRun = 0 ∧ CrossKept x t

theorem arbEnded_over (x : State) (lo len v : Nat) : x.ArbOver (x.arbEnded.setStF Reg.HK_CROSS_STAT lo len v) :=
  ⟨congrArg HkState.arbitrate (setStF_hk _ _ _ _ _), congrArg HkState.crossRun (setStF_hk _ _ _ _ _), (arbEnded_kept x).setStat lo len v⟩

theorem fenced_hk (t : State) (n u : Nat) : ((t.raise 18 n (some u)).fenceNow 18 u n).hk = t.hk := by
  rw [fenceNow_eq]
  exact raise_hk t 18 n (some u)

theorem fenced_st (t : State) (n u a : Nat) : ((t.raise 18 n (some u)).fenceNow 18 u n).st a = t.st a := by
  rw [fenceNow_eq]
  exact st_of_sts (raise_sts t 18 n (some u)) a

/-- An arbitration that fences unit u behind the conversions x counts source n, and is over. -/
theorem arbFence_shows {s x t : State} {n : Nat} (u : Nat) (hover : x.ArbOver t) (hc : ¬chained (32 * 18 + n)) (hflt : t.flt.source 18 n = s.flt.source 18 n) :
    Counts 18 n s ((t.raise 18 n (some u)).fenceNow 18 u n) ∧ ((t.raise 18 n (some u)).fenceNow 18 u n).isOut 18 u = true ∧
      x.ArbOver ((t.raise 18 n (some u)).fenceNow 18 u n) := by
  obtain ⟨harb, hrun, hkept⟩ := hover
  obtain ⟨hcounts, hout, -⟩ := raise_fenceNow_shows t (some u) u hc (by decide : (18 : Nat) ∉ [5, 7, 8, 19])
  have hhk := fenced_hk t n u
  refine ⟨?_, hout, (congrArg HkState.arbitrate hhk).trans harb, (congrArg HkState.crossRun hhk).trans hrun, (hkept.raise 18 n (some u)).fence 18 u n⟩
  unfold Counts at hcounts ⊢
  rw [← hflt]
  exact hcounts

/-- What an arbitration leaves behind the conversions x: its code in CROSS_STAT, the unit that it fences. -/
theorem arbitrateWith_shows {s x : State} (ca cb : Nat) (hcfg : x.cfg = s.cfg)
    (hflt : ∀ n, n < 32 → n ≠ 23 → 2 ≤ n → x.flt.source 18 n = s.flt.source 18 n) :
    (¬s.missesDac 0 ca → ¬s.missesDac 1 cb → (x.arbitrateWith ca cb).stF Reg.HK_CROSS_STAT 20 2 = 1 ∧ x.ArbOver (x.arbitrateWith ca cb)) ∧
    (s.missesDac 0 ca → ¬s.missesDac 1 cb → (x.arbitrateWith ca cb).stF Reg.HK_CROSS_STAT 20 2 = 2 ∧ Counts 18 13 s (x.arbitrateWith ca cb) ∧
      (x.arbitrateWith ca cb).isOut 18 0 = true ∧ x.ArbOver (x.arbitrateWith ca cb)) ∧
    (¬s.missesDac 0 ca → s.missesDac 1 cb → (x.arbitrateWith ca cb).stF Reg.HK_CROSS_STAT 20 2 = 3 ∧ Counts 18 14 s (x.arbitrateWith ca cb) ∧
      (x.arbitrateWith ca cb).isOut 18 1 = true ∧ x.ArbOver (x.arbitrateWith ca cb)) ∧
    (s.missesDac 0 ca → s.missesDac 1 cb → Counts 18 22 s (x.arbitrateWith ca cb) ∧ (x.arbitrateWith ca cb).isOut 18 2 = true ∧
      x.ArbOver (x.arbitrateWith ca cb)) := by
  obtain ⟨hnone, honlyA, honlyB, hall⟩ := arbitrateWith_cases x ca cb
  have hmiss := missesDac_of_cfg hcfg
  have hsource : ∀ v n, n < 32 → n ≠ 23 → 2 ≤ n → (x.arbEnded.setStF Reg.HK_CROSS_STAT 20 2 v).flt.source 18 n = s.flt.source 18 n := fun v n hn h23 h2 =>
    (congrArg (fun f : Flt => f.source 18 n) (setStF_flt _ _ _ _ _)).trans (hflt n hn h23 h2)
  have hcode : ∀ v, v < 4 → (x.arbEnded.setStF Reg.HK_CROSS_STAT 20 2 v).stF Reg.HK_CROSS_STAT 20 2 = v := fun v hv =>
    (stF_setStF_same _ _ _ (by decide)).trans (Nat.mod_eq_of_lt hv)
  refine ⟨fun ha hb => ?_, fun ha hb => ?_, fun ha hb => ?_, fun ha hb => ?_⟩
  · rw [hnone (mt (hmiss 0 ca).mp ha) (mt (hmiss 1 cb).mp hb)]
    exact ⟨hcode 1 (by decide), arbEnded_over x 20 2 1⟩
  · rw [honlyA ((hmiss 0 ca).mpr ha) (mt (hmiss 1 cb).mp hb)]
    exact ⟨(stF_of_st (fenced_st _ 13 0 _) 20 2).trans (hcode 2 (by decide)),
      arbFence_shows 0 (arbEnded_over x 20 2 2) (by unfold chained; decide) (hsource 2 13 (by decide) (by decide) (by decide))⟩
  · rw [honlyB (mt (hmiss 0 ca).mp ha) ((hmiss 1 cb).mpr hb)]
    exact ⟨(stF_of_st (fenced_st _ 14 1 _) 20 2).trans (hcode 3 (by decide)),
      arbFence_shows 1 (arbEnded_over x 20 2 3) (by unfold chained; decide) (hsource 3 14 (by decide) (by decide) (by decide))⟩
  · rw [hall ((hmiss 0 ca).mpr ha) ((hmiss 1 cb).mpr hb)]
    exact arbFence_shows 2 (t := x.arbEnded) ⟨rfl, rfl, arbEnded_kept x⟩ (by unfold chained; decide) (hflt 22 (by decide) (by decide) (by decide))

/-! ### HK_WRITE (R328) -/

/-- A write that changes CTRL of a converter settles a changed reference anew and keeps the pass. -/
theorem hkCtrlChanged_shows (s t : State) (k : Nat) : let r := (s.hkCtrlChanged t k).hkRec k
    r.refOk = ((t.hkRec k).refOk && s.hkRefSel k = t.hkRefSel k) ∧ r.seq = (t.hkRec k).seq ∧ r.passOpen = (t.hkRec k).passOpen := by
  unfold State.hkCtrlChanged
  dsimp only
  rw [hkRec_setHk_same]
  refine ⟨congrArg (fun b => (t.hkRec k).refOk && b) ?_, rfl, rfl⟩
  rw [bne, Bool.not_not]
  exact beq_eq_decide _ _

/-- What a write of HK_WRITE that takes effect leaves. -/
def HkWritten (s : State) (a : Nat) (v : Word) (t : State) : Prop :=
  Stores a v [] s { t with hk := s.hk } ∧ t.hk = { s.hk with a := t.hk.a, b := t.hk.b } ∧ ∀ c : HkConv,
    (a ≠ hkCtrlReg (convNum c) → t.hkRec (convNum c) = s.hkRec (convNum c)) ∧
    (a = hkCtrlReg (convNum c) → (t.hkRec (convNum c)).refOk = ((s.hkRec (convNum c)).refOk && s.hkRefSel (convNum c) = t.hkRefSel (convNum c)) ∧
      (t.hkRec (convNum c)).seq = (s.hkRec (convNum c)).seq ∧ (t.hkRec (convNum c)).passOpen = (s.hkRec (convNum c)).passOpen)

theorem wrc_hk (s : State) (a n : Nat) : (s.wrc a n).hk = s.hk := by rw [wrc_eq]

theorem wrc_written (s : State) {a : Nat} (v : Word) (ha : ∀ j, a ≠ hkCtrlReg j) : HkWritten s a v (s.wrc a v.toNat) := by
  have hhk := wrc_hk s a v.toNat
  refine ⟨?_, by rw [hhk], fun c => ⟨fun _ => hkRec_of_hk hhk _, fun h => absurd h (ha _)⟩⟩
  rw [← hhk]
  exact wrc_stores a v (onlyStatus_refl [] s)

theorem setHk_parts (s : State) (c : Nat) (r : HkRec) :
    (s.setHk c r).hk = { s.hk with a := (s.setHk c r).hk.a, b := (s.setHk c r).hk.b } ∧ (s.setHk c r) = { s with hk := (s.setHk c r).hk } := by
  unfold State.setHk
  split <;> exact ⟨rfl, rfl⟩

theorem hkCtrlReg_inj {j k : Nat} (hj : j < 2) (hk : k < 2) (h : hkCtrlReg j = hkCtrlReg k) : j = k := by
  revert h
  revert k
  revert j
  decide

theorem convNum_lt (c : HkConv) : convNum c < 2 := by cases c <;> decide

theorem ctrlChanged_written (s : State) {a j : Nat} (v : Word) (hj : j < 2) (ha : a = hkCtrlReg j) :
    HkWritten s a v (s.hkCtrlChanged (s.wrc a v.toNat) j) := by
  have hhk := wrc_hk s a v.toNat
  obtain ⟨href, hseq, hopen⟩ := hkCtrlChanged_shows s (s.wrc a v.toNat) j
  have hrefSel : ∀ i, (s.hkCtrlChanged (s.wrc a v.toNat) j).hkRefSel i = (s.wrc a v.toNat).hkRefSel i := fun i => by
    unfold State.hkCtrlChanged State.setHk
    dsimp only
    split <;> rfl
  have hother : ∀ i, i < 2 → i ≠ j → (s.hkCtrlChanged (s.wrc a v.toNat) j).hkRec i = s.hkRec i := fun i hi hne =>
    (hkRec_setHk_other _ _ hj hi hne).trans (hkRec_of_hk hhk i)
  obtain ⟨hparts, hframe⟩ := setHk_parts (s.wrc a v.toNat) j ((s.hkCtrlChanged (s.wrc a v.toNat) j).hkRec j)
  have hset : s.hkCtrlChanged (s.wrc a v.toNat) j = (s.wrc a v.toNat).setHk j ((s.hkCtrlChanged (s.wrc a v.toNat) j).hkRec j) := by
    conv_lhs => unfold State.hkCtrlChanged
    unfold State.hkCtrlChanged
    dsimp only
    rw [hkRec_setHk_same]
  rw [← hset, hhk] at hparts
  rw [← hset] at hframe
  refine ⟨?_, hparts, fun c => ⟨fun hne => hother _ (convNum_lt c) fun h => hne (by rw [h, ha]), fun heq => ?_⟩⟩
  · have hstores := wrc_stores a v (onlyStatus_refl [] s)
    rw [hframe]
    rw [show s.wrc a v.toNat = { s.wrc a v.toNat with hk := s.hk } by rw [← hhk]] at hstores
    exact hstores
  · obtain rfl := hkCtrlReg_inj (convNum_lt c) hj (heq.symm.trans ha)
    rw [href, hseq, hopen, hrefSel, hkRec_of_hk hhk]
    exact ⟨rfl, rfl, rfl⟩

/-- A legal write is refused where it would lose a detector, and takes effect else. -/
theorem hkWrite_of_legal {s : State} {off : Fin 2048} {v : Word} {row : RegRow} (hrow : rowAt (0x9000 + off.val) = some row)
    (hup : s.regsUp = true) (hacc : row.acc = .rw) (hoff : 0x40 ≤ off.val) : hkWrite off v s =
      if s.judgeEn && s.losesDetector (s.wrc (0x9000 + off.val) v.toNat) then s.raise 18 19
      else if 0x9000 + off.val = Reg.HK_CTRL_A then s.hkCtrlChanged (s.wrc (0x9000 + off.val) v.toNat) 0
      else if 0x9000 + off.val = Reg.HK_CTRL_B then s.hkCtrlChanged (s.wrc (0x9000 + off.val) v.toNat) 1
      else s.wrc (0x9000 + off.val) v.toNat := by
  unfold hkWrite
  dsimp only
  rw [hrow]
  refine if_neg ?_
  rw [hup, hacc]
  simpa using hoff

theorem hkWrite_of_illegal {s : State} {off : Fin 2048} {v : Word} {row : RegRow} (hrow : rowAt (0x9000 + off.val) = some row)
    (h : ¬(s.regsUp = true ∧ row.acc = .rw ∧ 0x40 ≤ off.val)) : hkWrite off v s = s := by
  unfold hkWrite
  dsimp only
  rw [hrow]
  refine if_pos ?_
  by_contra hn
  simp only [Bool.or_eq_true, Bool.not_eq_true', bne_iff_ne, decide_eq_true_eq, not_or, Bool.not_eq_false, not_not, not_lt] at hn
  obtain ⟨⟨hup, hacc⟩, hoff⟩ := hn
  exact h ⟨hup, hacc, hoff⟩

theorem hkWrite_written {s : State} {off : Fin 2048} {v : Word} {row : RegRow} (hrow : rowAt (0x9000 + off.val) = some row)
    (hup : s.regsUp = true) (hacc : row.acc = .rw) (hoff : 0x40 ≤ off.val)
    (hlost : ¬(s.judgeEn = true ∧ s.losesDetector (s.wrc (0x9000 + off.val) v.toNat) = true)) :
    HkWritten s (0x9000 + off.val) v (hkWrite off v s) := by
  rw [hkWrite_of_legal hrow hup hacc hoff, if_neg (by rwa [Bool.and_eq_true])]
  split
  · next ha => exact ctrlChanged_written s v (by decide) ha
  · next hna =>
    split
    · next hb => exact ctrlChanged_written s v (by decide) hb
    · next hnb =>
      refine wrc_written s v fun j => ?_
      unfold hkCtrlReg
      split
      · exact hna
      · exact hnb

end Sys2Proof.Machine

open Sys2Proof Sys2Proof.Machine

/-- Settles O51. The cross-check (R325): it does nothing, makes two conversions that may not be compared, compares them, or arbitrates on channel
38; a write of HK_WRITE (R328) by its legality and by the detector that it would lose. -/
theorem hkCrossAndWrites : Obligations.HkCrossAndWrites := by
  unfold Obligations.HkCrossAndWrites
  refine fun s => ⟨fun xa xb ended => ?_, fun off v row hrow => ?_⟩
  · intro run arb ch aimed a b ca cb usable good tol diff mism count misses cmd both done_
    obtain ⟨hrest, hboth, harb, hrun, hstat, hflt⟩ := crossMade_shows s s.crossArb (s.now / tickTime) s.crossCh (s.hkSees s.crossCh xa) (s.hkSees s.crossCh xb)
    have hcfg := cfg_of_beyondHk hrest
    refine ⟨fun h => ⟨_, rfl, hkCrossCheck_of_idle xa xb ended h⟩, fun hr hch hbad => ⟨_, rfl, ?_⟩, fun hr hch hgood hno => ⟨_, rfl, ?_⟩, fun hr hgood hyes => ?_⟩
    · rw [hkCrossCheck_of_bad hr hch hbad]
      exact ⟨harb, hrun, hstat, hboth⟩
    · have hoff : s.crossArb = false := hno
      rw [hkCrossCheck_of_good hr hch hgood, if_neg (Bool.eq_false_iff.mp hoff)]
      obtain ⟨hdiff, hmism, hcount, hdue, hcounts, hkept⟩ := crossCompare_shows ca cb hcfg hrun harb (hflt 12 (by decide) (by decide) (by decide))
      exact ⟨hdiff, hmism, hcount, hdue, hcounts, hboth.kept hrest hkept⟩
    · have hon : s.crossArb = true := hyes
      have hch : s.crossCh < 40 := by
        unfold State.crossCh
        rw [if_pos hon]
        decide
      have hgo : hkCrossCheck xa xb ended s = (s.crossPair xa xb).arbitrateWith ca cb := (hkCrossCheck_of_good hr hch hgood).trans (if_pos hon)
      obtain ⟨hnone, honlyA, honlyB, hall⟩ := arbitrateWith_shows (s := s) ca cb hcfg hflt
      have hdone : ∀ t, State.ArbOver _ t → done_ t := fun t ⟨harb', hrun', hkept⟩ => ⟨harb', hrun', hboth.kept hrest hkept⟩
      refine ⟨fun ha hb => ⟨_, rfl, ?_⟩, fun ha hb => ⟨_, rfl, ?_⟩, fun ha hb => ⟨_, rfl, ?_⟩, fun ha hb => ⟨_, rfl, ?_⟩⟩
      · rw [hgo]
        exact (hnone ha hb).imp_right (hdone _)
      · rw [hgo]
        exact (honlyA ha hb).imp_right (And.imp_right (And.imp_right (hdone _)))
      · rw [hgo]
        exact (honlyB ha hb).imp_right (And.imp_right (And.imp_right (hdone _)))
      · rw [hgo]
        exact (hall ha hb).imp_right (And.imp_right (hdone _))
  · intro a lost legal
    refine ⟨fun h => ⟨_, rfl, hkWrite_of_illegal hrow h⟩, fun hlegal hlost => ⟨_, rfl, ?_⟩, fun hlegal hlost => ⟨_, rfl, ?_⟩⟩
    · obtain ⟨hup, hacc, hoff⟩ := hlegal
      rw [hkWrite_of_legal hrow hup hacc hoff, if_pos ((Bool.and_eq_true _ _).mpr hlost)]
      exact ⟨raise_counts_of_flt 18 19 none (by unfold chained; decide) (by decide) rfl, raise_onlyCounts s 18 19 none⟩
    · obtain ⟨hup, hacc, hoff⟩ := hlegal
      exact hkWrite_written hrow hup hacc hoff hlost
end

section
/-! SUPPORT. Passes of the housekeeping converters and injected runs (R314–R317), and the conversion of an entry that is due (R315, R321–R324). -/

namespace Sys2Proof.Machine

/-! ### Skipped entries (R314) -/

/-- The channel of an entry does not exist (R314). -/
def badEntry (w : Nat) : Bool := decide (39 < bitsAt w 0 6)

/-- A sequence has a first entry just when the channel of one of its entries exists. -/
theorem validFrom_isSome (seq : List Nat) : (validFrom seq 0).isSome = seq.any (fun w => !badEntry w) := by
  rw [Bool.eq_iff_iff, List.any_eq_true]
  unfold validFrom badEntry
  rw [List.drop_zero, List.find?_isSome]
  constructor
  · rintro ⟨e, he, hch⟩
    have hlt := List.mem_range.mp he
    refine ⟨seq.getD e 63, ?_, ?_⟩
    · rw [List.getD_eq_getElem seq 63 hlt]
      exact List.getElem_mem hlt
    · simpa using hch
  · rintro ⟨w, hw, hch⟩
    obtain ⟨e, hlt, rfl⟩ := List.mem_iff_getElem.mp hw
    refine ⟨e, List.mem_range.mpr hlt, ?_⟩
    rw [List.getD_eq_getElem seq 63 hlt]
    simpa using hch

theorem hkSkip_eq (s : State) (seq : List Nat) : s.hkSkip seq = s.raiseEvs ((seq.filter badEntry).map (fun _ => { blk := 18, src := 19 })) := rfl

theorem hkSkip_keeps (s : State) (seq : List Nat) : (s.hkSkip seq).beyondHk = s.beyondHk ∧ (s.hkSkip seq).hk = s.hk ∧ (s.hkSkip seq).sts = s.sts ∧
    (s.hkSkip seq).offHk = s.offHk := by
  obtain ⟨heq, hparts⟩ := raiseEvs_onlyCounts s ((seq.filter badEntry).map (fun _ => ({ blk := 18, src := 19 } : Ev)))
  exact ⟨(congrArg State.beyondHk heq :), (congrArg State.hk heq :), (congrArg State.sts heq :), Prod.ext rfl (raiseEvs_fixed s _)⟩

/-- Between s and t the entries of a sequence have been skipped, and converter k alone has another record. -/
def HkSkips (s : State) (k : Nat) (seq : List Nat) (t : State) : Prop :=
  OnlyCounts s { t with hk := s.hk } ∧ t.hkRec (1 - k) = s.hkRec (1 - k) ∧
    (seq.filter badEntry ≠ [] → (t.flt.source 18 19).total = satAdd 65535 (s.flt.source 18 19).total (seq.filter badEntry).length)

/-- A record and then the count of the entries that are skipped. -/
theorem setHk_hkSkip_shows (s : State) {k : Nat} (hk : k < 2) (r : HkRec) (seq : List Nat) :
    ((s.setHk k r).hkSkip seq).hkRec k = r ∧ HkSkips s k seq ((s.setHk k r).hkSkip seq) := by
  obtain ⟨-, hhk, hsts, hoff⟩ := hkSkip_keeps (s.setHk k r) seq
  refine ⟨(hkRec_of_hk hhk k).trans (hkRec_setHk_same s r), onlyCounts_of_offHk (hoff.trans (setHk_offHk s k r)) (hsts.trans (setHk_sts s k r)),
    (hkRec_of_hk hhk _).trans (hkRec_setHk_other s r hk (by omega) (by omega)), fun hne => ?_⟩
  have hcount : eventsOf 18 19 ((seq.filter badEntry).map (fun _ => ({ blk := 18, src := 19 } : Ev))) = (seq.filter badEntry).length :=
    (eventsOf_const 18 19 _ _).trans (if_pos rfl)
  rw [hkSkip_eq, ← hcount, raiseEvs_total (s.setHk k r) (by decide) (by decide) (by decide) _ (fun e he => ?_) (by rw [hcount]; exact fun h => hne (List.length_eq_zero_iff.mp h)), setHk_flt]
  obtain ⟨w, -, rfl⟩ := List.mem_map.mp he
  exact ⟨rfl, by decide⟩

/-! ### Passes and runs (R314, R317) -/

/-- The entries of converter k's sequence as its registers have them. -/
def State.hkSeq (s : State) (k : Nat) : List Nat := (List.range (seqLen (s.rd (hkCtrlReg k)))).map (fun e => s.rd (hkSeqReg k e))

/-- The record with which a pass of converter k starts. -/
def State.passRec (s : State) (k : Nat) : HkRec :=
  { s.hkRec k with
    passOpen := (validFrom (s.hkSeq k) 0).isSome, seq := s.hkSeq k
    filt := (s.hkRec k).filt.filter (fun f => (s.hkRec k).seq[f.1]? = (s.hkSeq k)[f.1]?), used := 0, ovrPass := false, due := false, next := 0 }

theorem passStart_eq (s : State) (k : Nat) : s.passStart k = (s.setHk k (s.passRec k)).hkSkip (s.hkSeq k) := rfl

/-- What HK_PASS_START does while the converter is on and its sequence has entries. -/
theorem hkPassStart_of_on {s : State} {c : HkConv} (hon : s.hkOn = true) (hlen : seqLen (s.rd (hkCtrlReg (convNum c))) ≠ 0) : hkPassStart c s =
    if (s.hkRec (convNum c)).passOpen then
      (if s.fld (hkCtrlReg (convNum c)) 0 2 = 2 then (s.setHk (convNum c) { s.hkRec (convNum c) with due := true }).raise 18 (2 + convNum c) else s)
    else s.passStart (convNum c) := by
  unfold hkPassStart
  dsimp only
  rw [hon]
  exact if_neg (by simpa using hlen)

theorem hkPassStart_of_idle {s : State} {c : HkConv}
    (h : s.hkOn = false ∨ seqLen (s.rd (hkCtrlReg (convNum c))) = 0 ∨ ((s.hkRec (convNum c)).passOpen = true ∧ s.fld (hkCtrlReg (convNum c)) 0 2 ≠ 2)) :
    hkPassStart c s = s := by
  rcases h with h | h | ⟨hopen, hmode⟩
  · unfold hkPassStart
    exact if_pos (by simp [h])
  · unfold hkPassStart
    exact if_pos (by simp [h])
  · by_cases hidle : s.hkOn = true ∧ seqLen (s.rd (hkCtrlReg (convNum c))) ≠ 0
    · obtain ⟨hon, hlen⟩ := hidle
      rw [hkPassStart_of_on hon hlen, if_pos hopen, if_neg hmode]
    · unfold hkPassStart
      refine if_pos ?_
      simp only [Bool.or_eq_true, Bool.not_eq_true', decide_eq_true_eq]
      by_contra hn
      rw [not_or, Bool.not_eq_false] at hn
      exact hidle hn

/-- An overrun: the pass that is due waits. -/
theorem overrun_shows (s : State) {k : Nat} (hk : k < 2) (r : HkRec) : ((s.setHk k r).raise 18 (2 + k)).hkRec k = r ∧
    ((s.setHk k r).raise 18 (2 + k)).hkRec (1 - k) = s.hkRec (1 - k) ∧ Counts 18 (2 + k) s ((s.setHk k r).raise 18 (2 + k)) ∧
    OnlyCounts s { (s.setHk k r).raise 18 (2 + k) with hk := s.hk } := by
  have hhk := raise_hk (s.setHk k r) 18 (2 + k) none
  refine ⟨(hkRec_of_hk hhk k).trans (hkRec_setHk_same s r), (hkRec_of_hk hhk _).trans (hkRec_setHk_other s r hk (by omega) (by omega)), ?_, ?_⟩
  · exact raise_counts_of_flt 18 (2 + k) none (by unfold chained; omega) (by decide) (setHk_flt s k r)
  · exact onlyCounts_of_offHk ((raise_offHk _ _ _).trans (setHk_offHk s k r)) ((raise_sts _ _ _ _).trans (setHk_sts s k r))

theorem hkInjectedRun_of_idle {s : State} {c : HkConv} (h : s.hkOn = false ∨ (s.hkRec (convNum c)).injPending = false) : hkInjectedRun c s = s := by
  unfold hkInjectedRun
  rcases h with h | h <;> exact if_pos (by simp [h])

/-- The record with which an injected run of converter k starts. -/
def State.runRec (s : State) (k : Nat) : HkRec :=
  { s.hkRec k with injPending := false, injRun := (validFrom (s.injSeq k) 0).isSome, injNext := 0, again := false }

theorem hkInjectedRun_of_pending {s : State} {c : HkConv} (hon : s.hkOn = true) (h : (s.hkRec (convNum c)).injPending = true) :
    hkInjectedRun c s = (s.setHk (convNum c) (s.runRec (convNum c))).hkSkip (s.injSeq (convNum c)) := by
  unfold hkInjectedRun
  exact if_neg (by simp [hon, h])

/-! ### References (R320) -/

theorem hkReferenceSettled_of_idle {s : State} {c : HkConv} (settled : Bool) (h : s.isUp = false ∨ (s.hkRec (convNum c)).refOk = true) :
    hkReferenceSettled c settled s = s := by
  unfold hkReferenceSettled
  rcases h with h | h <;> exact if_pos (by simp [h])

theorem hkReferenceSettled_of_waiting {s : State} {c : HkConv} (settled : Bool) (hup : s.isUp = true) (h : (s.hkRec (convNum c)).refOk = false) :
    hkReferenceSettled c settled s = if settled then s.setHk (convNum c) { s.hkRec (convNum c) with refOk := true }
      else (s.raise 18 (8 + convNum c) (some (convNum c))).fenceNow 18 (convNum c) (8 + convNum c) := by
  unfold hkReferenceSettled
  exact if_neg (by simp [hup, h])

/-! ### The filter of an entry (R315) -/

/-- A record beside its filters. -/
def HkRec.offFilt (r : HkRec) : HkRec := { r with filt := [] }

theorem hkTick_of_beyondHk {s t : State} (h : t.beyondHk = s.beyondHk) : t.hkTick = s.hkTick := by
  have hsyn : t.syn = s.syn := (congrArg State.syn h :)
  have hnow : t.now = s.now := (congrArg State.now h :)
  unfold State.hkTick
  rw [hsyn, hnow]

/-- What a filter gives changes no record but its filter, and no register but its channel's RES: what its filter gives stands there. -/
theorem hkFilter_shows (s : State) {c : Nat} (p e w : Nat) (code : Nat × Bool) (held : Bool) (hc : c < 2) (hp : p < 2) :
    (s.hkFilter c p e w code held).beyondHk = s.beyondHk ∧ (∀ j, j < 2 → ((s.hkFilter c p e w code held).hkRec j).offFilt = (s.hkRec j).offFilt) ∧
    (∀ a, a ≠ Reg.HK_RES (bitsAt w 0 6) → (s.hkFilter c p e w code held).st a = s.st a) ∧
    (s.hkFilter c p e w code held).st (Reg.HK_RES (bitsAt w 0 6)) =
      match (if held then (NMap.get (fun _ => {}) (s.hkRec c).filt e).xs.head? else some code) with
      | none => s.st (Reg.HK_RES (bitsAt w 0 6))
      | some i =>
        match ((NMap.get (fun _ => {}) (s.hkRec c).filt e).feed (seqOrder w) (seqDec w) i).2 with
        | some (v, o) => resWord v o false false true p false false s.hkTick
        | none => s.st (Reg.HK_RES (bitsAt w 0 6)) := by
  unfold State.hkFilter
  dsimp only
  generalize (if held then (NMap.get (fun _ => {}) (s.hkRec c).filt e).xs.head? else some code) = input
  cases input with
  | none => exact ⟨rfl, fun j _ => rfl, fun a _ => rfl, rfl⟩
  | some i =>
    dsimp only
    generalize (NMap.get (fun _ => {}) (s.hkRec c).filt e).feed (seqOrder w) (seqDec w) i = fed
    obtain ⟨f, out⟩ := fed
    dsimp only
    generalize hr : ({ s.hkRec c with filt := NMap.put (fun _ => {}) (s.hkRec c).filt e f } : HkRec) = r
    have hrec : ∀ j, j < 2 → ((s.setHk c r).hkRec j).offFilt = (s.hkRec j).offFilt := fun j hj => by
      by_cases h : j = c
      · subst h
        rw [hkRec_setHk_same, ← hr]
        rfl
      · rw [hkRec_setHk_other s r hc hj h]
    cases out with
    | none => exact ⟨setHk_beyondHk s c r, hrec, fun a _ => setHk_st s c r a, setHk_st s c r _⟩
    | some out =>
      obtain ⟨v, o⟩ := out
      have hbeyond := setHk_beyondHk s c r
      have htick := hkTick_of_beyondHk hbeyond
      obtain ⟨hlt, -⟩ := resWord_parts v o false false true false false hp (hkTick_lt s)
      dsimp only
      rw [htick]
      obtain ⟨hoff, -, hrecs, -, hres, hst⟩ := hkResult_shows (s.setHk c r) (bitsAt w 0 6) (resWord v o false false true p false false s.hkTick)
      refine ⟨hoff.trans hbeyond, fun j hj => (congrArg HkRec.offFilt (hrecs j)).trans (hrec j hj), fun a ha => (hst a ha).trans (setHk_st s c r a), ?_⟩
      rw [hres]
      exact Nat.mod_eq_of_lt hlt

/-! ### The run or the pass goes on (R314, R317) -/

/-- What a pass keeps that starts or ends. -/
structure PassKept (s t : State) : Prop where
  rest : t.beyondHk = s.beyondHk
  ovr : ∀ j, j < 2 → (t.hkRec j).ovrLast = (s.hkRec j).ovrLast
  st : ∀ a, a ≠ Reg.HK_PASS_TIME → t.st a = s.st a

theorem PassKept.trans {s t u : State} (h : PassKept s t) (k : PassKept t u) : PassKept s u :=
  ⟨k.rest.trans h.rest, fun j hj => (k.ovr j hj).trans (h.ovr j hj), fun a ha => (k.st a ha).trans (h.st a ha)⟩

theorem setHk_passKept (s : State) {c : Nat} {r : HkRec} (hc : c < 2) (hr : r.ovrLast = (s.hkRec c).ovrLast) : PassKept s (s.setHk c r) := by
  refine ⟨setHk_beyondHk s c r, fun j hj => ?_, fun a _ => setHk_st s c r a⟩
  by_cases h : j = c
  · rw [h, hkRec_setHk_same, hr]
  · rw [hkRec_setHk_other s r hc hj h]

theorem hkSkip_passKept (s : State) (seq : List Nat) : PassKept s (s.hkSkip seq) := by
  obtain ⟨hrest, hhk, hsts, -⟩ := hkSkip_keeps s seq
  exact ⟨hrest, fun j _ => congrArg HkRec.ovrLast (hkRec_of_hk hhk j), fun a _ => st_of_sts hsts a⟩

theorem passStart_shows (s : State) {c : Nat} (hc : c < 2) : PassKept s (s.passStart c) ∧
    (s.passStart c).st Reg.HK_PASS_TIME = s.st Reg.HK_PASS_TIME := by
  rw [passStart_eq]
  obtain ⟨-, -, hsts, -⟩ := hkSkip_keeps (s.setHk c (s.passRec c)) (s.hkSeq c)
  exact ⟨(setHk_passKept (r := s.passRec c) s hc rfl).trans (hkSkip_passKept _ _), (st_of_sts hsts _).trans (setHk_st s c _ _)⟩

/-- The pass of converter c has ended, its time shown. -/
def State.passTimed (s : State) (c : Nat) : State :=
  (s.setHk c { s.hkRec c with passOpen := false }).setStF Reg.HK_PASS_TIME (16 * c) 16 (min 65535 (s.hkRec c).used)

theorem passEnd_eq (s : State) (c : Nat) : s.passEnd c =
    if ((s.hkRec c).due || (s.passTimed c).fld (hkCtrlReg c) 0 2 = 1) && seqLen ((s.passTimed c).rd (hkCtrlReg c)) != 0 then (s.passTimed c).passStart c
    else s.passTimed c := rfl

theorem setPassTime_kept (s : State) (lo len v : Nat) : PassKept s (s.setStF Reg.HK_PASS_TIME lo len v) :=
  ⟨rfl, fun _ _ => rfl, fun _ ha => st_setStF_ne s lo len v ha⟩

theorem passTimed_shows (s : State) {c : Nat} (hc : c < 2) : PassKept s (s.passTimed c) ∧
    (s.passTimed c).stF Reg.HK_PASS_TIME (16 * c) 16 = min 65535 (s.hkRec c).used ∧ ((s.passTimed c).hkRec c).passOpen = false := by
  refine ⟨(setHk_passKept (r := { s.hkRec c with passOpen := false }) s hc rfl).trans (setPassTime_kept _ _ _ _), ?_, ?_⟩
  · unfold State.passTimed
    rw [stF_setStF_same _ _ _ (by omega)]
    exact Nat.mod_eq_of_lt (by omega)
  · unfold State.passTimed
    rw [hkRec_of_hk (setStF_hk _ _ _ _ _), hkRec_setHk_same]

theorem passEnd_shows (s : State) {c : Nat} (hc : c < 2) : PassKept s (s.passEnd c) ∧
    (s.passEnd c).stF Reg.HK_PASS_TIME (16 * c) 16 = min 65535 (s.hkRec c).used ∧
    ((s.hkRec c).due = false → s.fld (hkCtrlReg c) 0 2 ≠ 1 → ((s.passEnd c).hkRec c).passOpen = false) := by
  obtain ⟨hkept, htime, hopen⟩ := passTimed_shows s hc
  have hcfg := cfg_of_beyondHk hkept.rest
  rw [passEnd_eq]
  split
  · next hnext =>
    obtain ⟨hstart, hst⟩ := passStart_shows (s.passTimed c) hc
    refine ⟨hkept.trans hstart, (stF_of_st hst (16 * c) 16).trans htime, fun hdue hmode => absurd hnext ?_⟩
    rw [hdue, fld_of_cfg hcfg]
    simp [hmode]
  · exact ⟨hkept, htime, fun _ _ => hopen⟩

end Sys2Proof.Machine
end

section
/-! SUPPORT. The conversion of an entry that is due (R314, R315, R321–R324). -/

namespace Sys2Proof.Machine

/-- The run or the pass of converter c goes on behind entry e. -/
theorem hkAdvance_inj (s : State) (c e : Nat) : s.hkAdvance c e true =
    s.setHk c { s.hkRec c with again := false, injNext := e + 1, injRun := (validFrom (s.injSeq c) (e + 1)).isSome } := rfl

theorem hkAdvance_regular (s : State) (c e : Nat) : s.hkAdvance c e false =
    if (validFrom (s.hkRec c).seq (e + 1)).isNone then (s.setHk c { s.hkRec c with again := false, next := e + 1 }).passEnd c
    else s.setHk c { s.hkRec c with again := false, next := e + 1 } := rfl

theorem hkAdvance_kept (s : State) {c : Nat} (e : Nat) (inj : Bool) (hc : c < 2) : PassKept s (s.hkAdvance c e inj) := by
  cases inj with
  | true =>
    rw [hkAdvance_inj]
    exact setHk_passKept s hc rfl
  | false =>
    have hnext : PassKept s (s.setHk c { s.hkRec c with again := false, next := e + 1 }) := setHk_passKept s hc rfl
    rw [hkAdvance_regular]
    split
    · obtain ⟨hend, -⟩ := passEnd_shows (s.setHk c { s.hkRec c with again := false, next := e + 1 }) hc
      exact hnext.trans hend
    · exact hnext

theorem hkAdvance_run (s : State) (c e : Nat) : ((s.hkAdvance c e true).hkRec c).injNext = e + 1 ∧
    (((s.hkAdvance c e true).hkRec c).injRun = true ↔ ¬(validFrom (s.injSeq c) (e + 1)).isNone = true) ∧
    ((s.hkAdvance c e true).hkRec c).next = (s.hkRec c).next := by
  rw [hkAdvance_inj, hkRec_setHk_same]
  refine ⟨rfl, ?_, rfl⟩
  dsimp only
  cases validFrom (s.injSeq c) (e + 1) <;> simp

theorem hkAdvance_more {s : State} {c e : Nat} (h : ¬(validFrom (s.hkRec c).seq (e + 1)).isNone = true) :
    ((s.hkAdvance c e false).hkRec c).next = e + 1 ∧ ((s.hkAdvance c e false).hkRec c).passOpen = (s.hkRec c).passOpen := by
  rw [hkAdvance_regular, if_neg h, hkRec_setHk_same]
  exact ⟨rfl, rfl⟩

theorem hkAdvance_last {s : State} {c e : Nat} (hc : c < 2) (h : (validFrom (s.hkRec c).seq (e + 1)).isNone = true) :
    (s.hkAdvance c e false).stF Reg.HK_PASS_TIME (16 * c) 16 = min 65535 (s.hkRec c).used ∧
    ((s.hkRec c).due = false → s.fld (hkCtrlReg c) 0 2 ≠ 1 → ((s.hkAdvance c e false).hkRec c).passOpen = false) := by
  have hbeyond := setHk_beyondHk s c { s.hkRec c with again := false, next := e + 1 }
  have hrec := hkRec_setHk_same s (c := c) { s.hkRec c with again := false, next := e + 1 }
  obtain ⟨-, htime, hopen⟩ := passEnd_shows (s.setHk c { s.hkRec c with again := false, next := e + 1 }) hc
  rw [hrec] at htime hopen
  rw [fld_of_cfg (cfg_of_beyondHk hbeyond)] at hopen
  rw [hkAdvance_regular, if_pos h]
  exact ⟨htime, hopen⟩

/-! ### The result of a conversion (R315, R321, R323) -/

/-- Where a conversion that is no neighbour-suspect one goes: to RES_c, and to the filter of its entry. -/
def State.hkDelivered (s : State) (c p e w word : Nat) (code : Nat × Bool) (inj : Bool) : State :=
  if inj || seqOrder w = 0 then s.hkResult (bitsAt w 0 6) word
  else if bitAt word 18 || bitAt word 22 then (s.hkResult (bitsAt w 0 6) word).hkFilter c p e w code true
  else s.hkFilter c p e w code false

/-- What a filtered entry of record r shows behind `base`: what its filter gives for its input. -/
def filtered (r : HkRec) (p e w : Nat) (code : Nat × Bool) (held : Bool) (tick base : Nat) : Nat :=
  match (if held then (NMap.get (fun _ => {}) r.filt e).xs.head? else some code) with
  | none => base
  | some i =>
    match ((NMap.get (fun _ => {}) r.filt e).feed (seqOrder w) (seqDec w) i).2 with
    | some (v, o) => resWord v o false false true p false false tick
    | none => base

/-- What a delivery leaves: the records but for filters, the registers but for its channel's RES. -/
structure Delivered (s : State) (ch : Nat) (t : State) : Prop where
  rest : t.beyondHk = s.beyondHk
  rcd : ∀ j, j < 2 → (t.hkRec j).offFilt = (s.hkRec j).offFilt
  st : ∀ a, a ≠ Reg.HK_RES ch → t.st a = s.st a

theorem hkResult_delivered (s : State) (ch word : Nat) : Delivered s ch (s.hkResult ch word) := by
  obtain ⟨hoff, -, hrec, -, -, hst⟩ := hkResult_shows s ch word
  exact ⟨hoff, fun j _ => congrArg HkRec.offFilt (hrec j), hst⟩

theorem hkDelivered_kept (s : State) {c p : Nat} (e w word : Nat) (code : Nat × Bool) (inj : Bool) (hc : c < 2) (hp : p < 2) :
    Delivered s (bitsAt w 0 6) (s.hkDelivered c p e w word code inj) := by
  unfold State.hkDelivered
  split
  · exact hkResult_delivered s _ word
  · split
    · obtain ⟨hrest, hrec, hst⟩ := hkResult_delivered s (bitsAt w 0 6) word
      obtain ⟨hrest', hrec', hst', -⟩ := hkFilter_shows (s.hkResult (bitsAt w 0 6) word) p e w code true hc hp
      exact ⟨hrest'.trans hrest, fun j hj => (hrec' j hj).trans (hrec j hj), fun a ha => (hst' a ha).trans (hst a ha)⟩
    · obtain ⟨hrest, hrec, hst, -⟩ := hkFilter_shows s p e w code false hc hp
      exact ⟨hrest, hrec, hst⟩

theorem hkDelivered_direct (s : State) {c p e w word : Nat} {code : Nat × Bool} {inj : Bool} (hlt : word < 2 ^ 32) (h : inj = true ∨ seqOrder w = 0) :
    (s.hkDelivered c p e w word code inj).st (Reg.HK_RES (bitsAt w 0 6)) = word := by
  obtain ⟨-, -, -, -, hres, -⟩ := hkResult_shows s (bitsAt w 0 6) word
  unfold State.hkDelivered
  rw [if_pos (by simpa using h), hres]
  exact Nat.mod_eq_of_lt hlt

theorem hkDelivered_filtered (s : State) {c p e w word : Nat} {code : Nat × Bool} (hc : c < 2) (hp : p < 2) (hlt : word < 2 ^ 32) (h : seqOrder w ≠ 0)
    {flagged : Bool} (hflag : (bitAt word 18 || bitAt word 22) = flagged) :
    (s.hkDelivered c p e w word code false).st (Reg.HK_RES (bitsAt w 0 6)) =
      filtered (s.hkRec c) p e w code flagged s.hkTick (if flagged then word else s.st (Reg.HK_RES (bitsAt w 0 6))) := by
  unfold State.hkDelivered
  rw [if_neg (by simpa using h), hflag]
  cases flagged with
  | true =>
    obtain ⟨hoff, -, hrec, -, hres, -⟩ := hkResult_shows s (bitsAt w 0 6) word
    obtain ⟨-, -, -, hshow⟩ := hkFilter_shows (s.hkResult (bitsAt w 0 6) word) p e w code true hc hp
    rw [hrec, hres, Nat.mod_eq_of_lt hlt, hkTick_of_beyondHk hoff] at hshow
    exact hshow
  | false =>
    obtain ⟨-, -, -, hshow⟩ := hkFilter_shows s p e w code false hc hp
    exact hshow

/-- A neighbour-suspect conversion: its entry converts again, and is counted; its result goes to RES_c only. -/
def State.hkRepeated (s : State) (k p ch word : Nat) : State :=
  ((s.setHk k { s.hkRec k with again := true }).bumpF Reg.HK_REPEAT_COUNT (16 * p) 16 1).hkResult ch word

theorem hkRepeated_shows (s : State) {k p : Nat} (ch word : Nat) (hk : k < 2) (hp : p < 2) (hlt : word < 2 ^ 32) : let t := s.hkRepeated k p ch word
    t.beyondHk = s.beyondHk ∧ t.hkRec k = { s.hkRec k with again := true } ∧ (∀ j, j < 2 → (t.hkRec j).ovrLast = (s.hkRec j).ovrLast) ∧
      t.st (Reg.HK_RES ch) = word ∧ t.stF Reg.HK_REPEAT_COUNT (16 * p) 16 = satAdd 65535 (s.stF Reg.HK_REPEAT_COUNT (16 * p) 16) 1 ∧
      ∀ a, a ≠ Reg.HK_REPEAT_COUNT → a ≠ Reg.HK_RES ch → t.st a = s.st a := by
  intro t
  generalize hr : ({ s.hkRec k with again := true } : HkRec) = r
  have ht : t = (State.bumpF (s.setHk k r) Reg.HK_REPEAT_COUNT (16 * p) 16 1).hkResult ch word := by rw [← hr]; rfl
  have hovr := (setHk_passKept (r := r) s hk (by rw [← hr])).ovr
  have hset := setHk_beyondHk s k r
  have hsame := hkRec_setHk_same s (c := k) r
  have hstSet := setHk_st s k r
  clear_value t
  generalize s.setHk k r = x at *
  have hbump : (x.bumpF Reg.HK_REPEAT_COUNT (16 * p) 16 1).beyondHk = x.beyondHk ∧ (x.bumpF Reg.HK_REPEAT_COUNT (16 * p) 16 1).hk = x.hk := ⟨rfl, rfl⟩
  have hcount : (x.bumpF Reg.HK_REPEAT_COUNT (16 * p) 16 1).stF Reg.HK_REPEAT_COUNT (16 * p) 16 = satAdd 65535 (x.stF Reg.HK_REPEAT_COUNT (16 * p) 16) 1 :=
    stF_bumpF_same _ _ _ (by omega)
  have hne : ∀ a, a ≠ Reg.HK_REPEAT_COUNT → (x.bumpF Reg.HK_REPEAT_COUNT (16 * p) 16 1).st a = x.st a := fun a ha => st_bumpF_ne _ _ _ _ ha
  obtain ⟨hoff, -, hrec, -, hres, hst⟩ := hkResult_shows (x.bumpF Reg.HK_REPEAT_COUNT (16 * p) 16 1) ch word
  rw [← ht] at hoff hrec hres hst
  have hrecs : ∀ j, t.hkRec j = x.hkRec j := fun j => (hrec j).trans (hkRec_of_hk hbump.2 j)
  obtain ⟨-, hres_ne, -⟩ := res_ne_count ch
  refine ⟨hoff.trans (hbump.1.trans hset), (hrecs k).trans hsame, fun j hj => (congrArg HkRec.ovrLast (hrecs j)).trans (hovr j hj),
    hres.trans (Nat.mod_eq_of_lt hlt), ?_, fun a ha hch => (hst a hch).trans ((hne a ha).trans (hstSet a))⟩
  rw [stF_of_st (hst _ hres_ne.symm), hcount, stF_of_st (hstSet _)]

/-! ### The conversion that is due -/

/-- The conversion of channel ch is neighbour-suspect (R323). -/
def State.suspect (s : State) (k : Nat) (x : ConvIn) : Bool := (s.hkRec (s.hkBy k)).ovrLast && x.soonAfterOvr && !(s.hkRec k).again

theorem hkConversionEnd_of_due {s : State} {c : HkConv} {x : ConvIn} {e w : Nat} {inj : Bool} (hon : s.hkOn = true)
    (hdue : s.hkDue (convNum c) = some (e, w, inj)) : hkConversionEnd c x s =
      if s.suspect (convNum c) x then (s.hkCounts (convNum c) (s.hkBy (convNum c)) (s.hkSees (bitsAt w 0 6) x)).hkRepeated (convNum c) (s.hkBy (convNum c))
        (bitsAt w 0 6) (s.hkWord (s.hkBy (convNum c)) (bitsAt w 0 6) (s.hkSees (bitsAt w 0 6) x) (s.suspect (convNum c) x) inj)
      else ((s.hkCounts (convNum c) (s.hkBy (convNum c)) (s.hkSees (bitsAt w 0 6) x)).hkDelivered (convNum c) (s.hkBy (convNum c)) e w
        (s.hkWord (s.hkBy (convNum c)) (bitsAt w 0 6) (s.hkSees (bitsAt w 0 6) x) (s.suspect (convNum c) x) inj)
        (Signal.hkCode (s.hkSees (bitsAt w 0 6) x).v (s.hkSees (bitsAt w 0 6) x).vref, convOvr (s.hkSees (bitsAt w 0 6) x)) inj).hkAdvance (convNum c) e inj := by
  have hsoon : (s.hkSees (bitsAt w 0 6) x).soonAfterOvr = x.soonAfterOvr := by
    unfold State.hkSees
    split <;> rfl
  unfold hkConversionEnd State.suspect
  dsimp only
  rw [hdue]
  dsimp only
  rw [hon, hsoon]
  rfl

theorem hkConversionEnd_of_idle {s : State} {c : HkConv} (x : ConvIn) (h : s.hkOn = false ∨ s.hkDue (convNum c) = none) : hkConversionEnd c x s = s := by
  unfold hkConversionEnd
  dsimp only
  cases hdue : s.hkDue (convNum c) with
  | none => rfl
  | some due =>
    obtain ⟨e, w, inj⟩ := due
    rw [hdue] at h
    exact if_pos (by simpa using h)

/-- What converts outside an injected run is an entry of the open pass. -/
theorem passOpen_of_due {s : State} {k e w : Nat} (h : s.hkDue k = some (e, w, false)) : (s.hkRec k).passOpen = true := by
  unfold State.hkDue at h
  dsimp only at h
  split at h
  · simp at h
  · split at h
    · assumption
    · cases h

/-- The record of the sequence's converter as a conversion leaves it. -/
theorem recAfter_seq (s : State) (c p : Nat) (x : ConvIn) : let q := s.recAfter c p x c
    let r := s.hkRec c
    q.next = r.next ∧ q.injNext = r.injNext ∧ q.due = r.due ∧ q.seq = r.seq ∧ q.passOpen = r.passOpen ∧ q.filt = r.filt ∧
      q.used = if r.passOpen then r.used + 1 else r.used := by
  unfold State.recAfter
  dsimp only
  rw [if_pos rfl]
  split <;> exact ⟨rfl, rfl, rfl, rfl, rfl, rfl, rfl⟩

theorem offFilt_parts {q r : HkRec} (h : q.offFilt = r.offFilt) :
    q.next = r.next ∧ q.due = r.due ∧ q.seq = r.seq ∧ q.passOpen = r.passOpen ∧ q.used = r.used ∧ q.ovrLast = r.ovrLast :=
  ⟨(congrArg HkRec.next h :), (congrArg HkRec.due h :), (congrArg HkRec.seq h :), (congrArg HkRec.passOpen h :), (congrArg HkRec.used h :),
    (congrArg HkRec.ovrLast h :)⟩

theorem injSeq_of_cfg {s t : State} (h : t.cfg = s.cfg) (c : Nat) : t.injSeq c = s.injSeq c := by
  unfold State.injSeq State.injLen
  rw [fld_of_cfg h]
  exact List.map_congr_left fun e _ => rd_of_cfg h _

/-- What every conversion of channel ch by converter p leaves, the registers of its results and counts apart. -/
structure Converted (s : State) (p ch : Nat) (ovr ns : Bool) (t : State) : Prop where
  rest : t.beyondHk = s.beyondHk
  ovrLast : (t.hkRec p).ovrLast = ovr
  ovrCount : t.stF Reg.HK_OVR_COUNT (16 * p) 16 = satAdd 65535 (s.stF Reg.HK_OVR_COUNT (16 * p) 16) (ofBool ovr)
  repeats : t.stF Reg.HK_REPEAT_COUNT (16 * p) 16 = satAdd 65535 (s.stF Reg.HK_REPEAT_COUNT (16 * p) 16) (ofBool ns)
  st : ∀ a, a ≠ Reg.HK_OVR_COUNT → a ≠ Reg.HK_REPEAT_COUNT → a ≠ Reg.HK_PASS_TIME → a ≠ Reg.HK_RES ch → t.st a = s.st a

theorem res_ne_res {i ch : Nat} (h : i ≠ ch) : Reg.HK_RES i ≠ Reg.HK_OVR_COUNT ∧ Reg.HK_RES i ≠ Reg.HK_REPEAT_COUNT ∧
    Reg.HK_RES i ≠ Reg.HK_PASS_TIME ∧ Reg.HK_RES i ≠ Reg.HK_RES ch := by
  obtain ⟨hovr, hrep, htime, -⟩ := res_ne_count i
  refine ⟨hovr, hrep, htime, ?_⟩
  unfold Reg.HK_RES
  omega

/-- A neighbour-suspect conversion for the sequence of k. -/
theorem hkRepeated_converted (s : State) {k p : Nat} (ch word : Nat) (y : ConvIn) (hk : k < 2) (hp : p < 2) (hlt : word < 2 ^ 32) :
    let t := (s.hkCounts k p y).hkRepeated k p ch word
    Converted s p ch (convOvr y) true t ∧ t.st (Reg.HK_RES ch) = word ∧ (t.hkRec k).again = true ∧ (t.hkRec k).next = (s.hkRec k).next ∧
      (t.hkRec k).injNext = (s.hkRec k).injNext := by
  intro t
  obtain ⟨hrest, -, hrec, hst, hovr, -⟩ := hkCounts_shows s y hk hp
  obtain ⟨hrest', hrec', hlast, hres, hcount, hst'⟩ := hkRepeated_shows (s.hkCounts k p y) ch word hk hp hlt
  obtain ⟨hnext, hinj, -⟩ := recAfter_seq s k p y
  obtain ⟨hro, -⟩ := res_ne_count ch
  rw [hrec k hk] at hrec'
  refine ⟨⟨hrest'.trans hrest, ?_, ?_, ?_, fun a ha hrep _ hch => (hst' a hrep hch).trans (hst a ha)⟩, hres, ?_, ?_, ?_⟩
  · rw [hlast p hp, hrec p hp, recAfter_ovrLast_same]
  · rw [stF_of_st (hst' _ (by decide) hro.symm), hovr]
  · rw [hcount, stF_of_st (hst _ (by decide))]
    rfl
  · exact congrArg HkRec.again hrec'
  · exact (congrArg HkRec.next hrec').trans hnext
  · exact (congrArg HkRec.injNext hrec').trans hinj

/-- The counts of a conversion leave what its filtered entry shows. -/
theorem filtered_of_counts (s : State) {k p : Nat} (e w : Nat) (code : Nat × Bool) (flagged : Bool) (y : ConvIn) (hk : k < 2) (hp : p < 2) {word : Nat} :
    filtered ((s.hkCounts k p y).hkRec k) p e w code flagged (s.hkCounts k p y).hkTick
      (if flagged then word else (s.hkCounts k p y).st (Reg.HK_RES (bitsAt w 0 6))) =
    filtered (s.hkRec k) p e w code flagged s.hkTick (if flagged then word else s.st (Reg.HK_RES (bitsAt w 0 6))) := by
  obtain ⟨hrest, -, hrec, hst, -⟩ := hkCounts_shows s y hk hp
  obtain ⟨-, -, -, -, -, hfilt, -⟩ := recAfter_seq s k p y
  obtain ⟨hne, -⟩ := res_ne_count (bitsAt w 0 6)
  unfold filtered
  rw [hrec k hk, hfilt, hkTick_of_beyondHk hrest, hst _ hne]

/-- The state of a conversion that is not neighbour-suspect, before its run or pass goes on. -/
def State.hkGiven (s : State) (k p e w word : Nat) (y : ConvIn) (inj : Bool) : State :=
  (s.hkCounts k p y).hkDelivered k p e w word (Signal.hkCode y.v y.vref, convOvr y) inj

theorem hkGiven_shows (s : State) {k p : Nat} (e w word : Nat) (y : ConvIn) (inj : Bool) (hk : k < 2) (hp : p < 2) : let d := s.hkGiven k p e w word y inj
    Converted s p (bitsAt w 0 6) (convOvr y) false d ∧ (d.hkRec k).next = (s.hkRec k).next ∧ (d.hkRec k).due = (s.hkRec k).due ∧
      (d.hkRec k).seq = (s.hkRec k).seq ∧ (d.hkRec k).passOpen = (s.hkRec k).passOpen ∧
      (d.hkRec k).used = if (s.hkRec k).passOpen then (s.hkRec k).used + 1 else (s.hkRec k).used := by
  intro d
  obtain ⟨hrest, -, hrec, hst, hovr, -⟩ := hkCounts_shows s y hk hp
  obtain ⟨hrest', hrec', hst'⟩ := hkDelivered_kept (s.hkCounts k p y) e w word (Signal.hkCode y.v y.vref, convOvr y) inj hk hp
  obtain ⟨hnext, -, hdue, hseq, hopen, -, hused⟩ := recAfter_seq s k p y
  obtain ⟨hro, hrr, -⟩ := res_ne_count (bitsAt w 0 6)
  have hk' := hrec' k hk
  have hp' := hrec' p hp
  rw [hrec k hk] at hk'
  rw [hrec p hp] at hp'
  obtain ⟨hnext', hdue', hseq', hopen', hused', -⟩ := offFilt_parts hk'
  obtain ⟨-, -, -, -, -, hlast⟩ := offFilt_parts hp'
  refine ⟨⟨hrest'.trans hrest, hlast.trans (recAfter_ovrLast_same s k p y), ?_, ?_, fun a ha _ _ hch => (hst' a hch).trans (hst a ha)⟩,
    hnext'.trans hnext, hdue'.trans hdue, hseq'.trans hseq, hopen'.trans hopen, hused'.trans hused⟩
  · exact (stF_of_st (hst' _ hro.symm) (16 * p) 16).trans hovr
  · refine (stF_of_st ((hst' _ hrr.symm).trans (hst _ (by decide))) (16 * p) 16).trans ?_
    exact (satAdd_zero_of_le (Nat.le_of_lt_succ (Nat.mod_lt _ (by decide)))).symm

/-- The run or the pass goes on behind what a conversion gives: no result and no count of it changes. -/
theorem Converted.advance {s d : State} {c p ch : Nat} {ovr ns : Bool} (h : Converted s p ch ovr ns d) (e : Nat) (inj : Bool) (hc : c < 2) (hp : p < 2) :
    Converted s p ch ovr ns (d.hkAdvance c e inj) ∧ (d.hkAdvance c e inj).st (Reg.HK_RES ch) = d.st (Reg.HK_RES ch) := by
  obtain ⟨hrest, hlast, hst⟩ := hkAdvance_kept d e inj hc
  obtain ⟨-, -, htime, -⟩ := res_ne_count ch
  refine ⟨⟨hrest.trans h.rest, (hlast p hp).trans h.ovrLast, ?_, ?_, fun a ha hrep ht hch => (hst a ht).trans (h.st a ha hrep ht hch)⟩, hst _ htime⟩
  · exact (stF_of_st (hst _ (by decide)) (16 * p) 16).trans h.ovrCount
  · exact (stF_of_st (hst _ (by decide)) (16 * p) 16).trans h.repeats

/-- The word of a conversion, from what the inputs say of it. -/
theorem hkWord_sees (s : State) (p ch : Nat) (x : ConvIn) (ns inj : Bool) : s.hkWord p ch (s.hkSees ch x) ns inj =
    resWord (16 * Signal.hkCode (s.hkSees ch x).v (s.hkSees ch x).vref) (convOvr (s.hkSees ch x)) ns
      (!(s.hkRec p).refOk || s.vrefBad p (s.hkSees ch x) || (x.dacMoving && ch = s.dacTarget && bitAt (s.rd Reg.HK_TDAC) 16)) false p inj (s.dacDrives ch)
      s.hkTick := by
  have hmoving : (s.hkSees ch x).dacMoving = x.dacMoving := by
    unfold State.hkSees
    split <;> rfl
  unfold State.hkWord
  dsimp only
  rw [hmoving]

theorem hkBy_lt (s : State) {k : Nat} (hk : k < 2) : s.hkBy k < 2 := by
  unfold State.hkBy
  split <;> omega

end Sys2Proof.Machine

open Sys2Proof Sys2Proof.Machine

/-- Settles O49. Passes, injected runs and references by what they find (R314, R317, R320); a conversion by its entry, neighbour-suspect or not, of the
injected run or of the pass, plain or filtered (R315, R321–R324). -/
theorem hkConversions : Obligations.HkConversions := by
  unfold Obligations.HkConversions
  intro s c k r len seq bad skips
  have hk : k < 2 := convNum_lt c
  refine ⟨fun h => ⟨_, rfl, hkPassStart_of_idle h⟩, fun hon hlen hopen hmode => ⟨_, rfl, ?_⟩, fun hon hlen hopen => ⟨_, rfl, ?_⟩,
    fun h => ⟨_, rfl, hkInjectedRun_of_idle h⟩, fun hon hpend => ⟨_, rfl, ?_⟩, fun settled => ⟨fun h => ⟨_, rfl, hkReferenceSettled_of_idle settled h⟩,
      fun hup href hset => ⟨_, rfl, ?_⟩, fun hup href hset => ⟨_, rfl, ?_⟩⟩, fun x => ?_⟩
  · rw [hkPassStart_of_on hon hlen, if_pos hopen, if_pos hmode]
    exact overrun_shows s hk { r with due := true }
  · rw [hkPassStart_of_on hon hlen, if_neg (Bool.eq_false_iff.mp hopen), passStart_eq]
    obtain ⟨hrec, hskips⟩ := setHk_hkSkip_shows s hk (s.passRec k) (s.hkSeq k)
    exact ⟨congrArg HkRec.seq hrec, (congrArg HkRec.passOpen hrec).trans (validFrom_isSome _), congrArg HkRec.used hrec, congrArg HkRec.next hrec,
      congrArg HkRec.due hrec, hskips⟩
  · rw [hkInjectedRun_of_pending hon hpend]
    obtain ⟨hrec, hskips⟩ := setHk_hkSkip_shows s hk (s.runRec k) (s.injSeq k)
    refine ⟨hrec.trans ?_, hskips⟩
    unfold State.runRec
    rw [validFrom_isSome]
    rfl
  · rw [hkReferenceSettled_of_waiting settled hup href, if_pos hset]
    obtain ⟨-, hframe⟩ := setHk_parts s k { r with refOk := true }
    exact ⟨hframe, hkRec_setHk_same s _, hkRec_setHk_other s _ hk (by omega) (by omega)⟩
  · rw [hkReferenceSettled_of_waiting settled hup href, if_neg (Bool.eq_false_iff.mp hset)]
    exact raise_fenceNow_shows s (some k) k (by unfold chained; omega) (by decide)
  · intro p
    refine ⟨fun h => ⟨_, rfl, hkConversionEnd_of_idle x h⟩, ?_⟩
    intro e w inj hon hdue ch y code ovr ns settling test word filt last flagged base
    refine ⟨_, rfl, ?_⟩
    have hp : p < 2 := hkBy_lt s hk
    have hword : s.hkWord p ch y ns inj = word := hkWord_sees s p ch x ns inj
    obtain ⟨hlt, -, -, -, h18, h22⟩ := hkWord_parts s ch y ns inj hp
    obtain ⟨hres0, -⟩ := res_ne_count ch
    have hend := hkConversionEnd_of_due (x := x) hon hdue
    cases hns : ns with
    | true =>
      obtain ⟨hconv, hres, hagain, hnext, hinj⟩ := hkRepeated_converted s ch (s.hkWord p ch y ns inj) y hk hp hlt
      rw [hend.trans (if_pos hns)]
      refine ⟨fun i _ hi => ?_, hconv.ovrLast, hconv.ovrCount, hconv.repeats, eq_of_beyondHk hconv.rest, fun _ => hres.trans hword,
        fun h => absurd h (by decide), fun _ => ⟨hagain, hnext, hinj⟩, fun h => absurd h (by decide), fun h => absurd h (by decide),
        fun h => absurd h (by decide)⟩
      obtain ⟨ho, hr, ht, hc⟩ := res_ne_res hi
      exact hconv.st _ ho hr ht hc
    | false =>
      obtain ⟨hgiven, hnext, hdue', hseq, hopen, hused⟩ := hkGiven_shows s e w (s.hkWord p ch y ns inj) y inj hk hp
      have hcfg := cfg_of_beyondHk hgiven.rest
      obtain ⟨hconv, hres⟩ := hgiven.advance e inj hk hp
      rw [hend.trans (if_neg (Bool.eq_false_iff.mp hns))]
      refine ⟨fun i _ hi => ?_, hconv.ovrLast, hconv.ovrCount, hconv.repeats, eq_of_beyondHk hconv.rest, fun h => ?_, fun _ hinj hord => ?_,
        fun h => absurd h (by decide), fun _ hinj => ?_, fun _ hinj hmore => ?_, fun _ hinj hlast => ?_⟩
      · obtain ⟨ho, hr, ht, hc⟩ := res_ne_res hi
        exact hconv.st _ ho hr ht hc
      · exact hres.trans ((hkDelivered_direct (s.hkCounts k p y) hlt (h.resolve_left (by decide))).trans hword)
      · subst hinj
        obtain ⟨-, -, -, -, h18, h22⟩ := resWord_parts (16 * code) ovr ns settling false false test hp (hkTick_lt s)
        have hflag : (bitAt (s.hkWord p ch y ns false) 18 || bitAt (s.hkWord p ch y ns false) 22) = flagged := by rw [hword, h18, h22]
        have hshow := hkDelivered_filtered (s.hkCounts k p y) (e := e) (code := (code, ovr)) hk hp hlt hord hflag
        refine hres.trans (hshow.trans ((filtered_of_counts s e w (code, ovr) flagged y hk hp).trans ?_))
        rw [hword]
        rfl
      · subst hinj
        obtain ⟨hinext, hrun, hkeep⟩ := hkAdvance_run (s.hkGiven k p e w (s.hkWord p ch y ns true) y true) k e
        rw [injSeq_of_cfg hcfg] at hrun
        exact ⟨hinext, hrun, hkeep.trans hnext⟩
      · subst hinj
        obtain ⟨hgo, hstay⟩ := hkAdvance_more (s := s.hkGiven k p e w (s.hkWord p ch y ns false) y false) (c := k) (e := e) (by rw [hseq]; exact hmore)
        exact ⟨hgo, hstay.trans (hopen.trans (passOpen_of_due hdue))⟩
      · subst hinj
        obtain ⟨htime, hover⟩ := hkAdvance_last (s := s.hkGiven k p e w (s.hkWord p ch y ns false) y false) hk (by rw [hseq]; exact hlast)
        rw [hused, if_pos (passOpen_of_due hdue)] at htime
        rw [hdue', fld_of_cfg hcfg] at hover
        exact ⟨htime, hover⟩
end
